-- ==== Sys2Proof/Word.lean ====
section
/-! DEFINITION. The words of the part: bytes, beats and addresses of lobby memory (spec/00_scope.md, Conventions), and a table of fixed length, the shape of every table of slots, entries, panes and channels. -/

namespace Sys2Proof

/-- A byte of lobby memory or of a train. -/
abbrev Byte := BitVec 8

/-- A byte address in lobby memory, 32 bits wide (spec/00_scope.md, Addresses and layouts). -/
abbrev Addr := BitVec 32

/-- The data of one beat: 8 bytes, byte j in bits 8j to 8j + 7 (least significant byte at the lowest address). -/
abbrev Beat := BitVec 64

/-- A table of exactly n entries, numbered from 0. -/
structure Table (n : Nat) (α : Type) where
  list : List α
  len : list.length = n
  deriving DecidableEq, Repr

/-- Entry i. -/
def Table.get {n : Nat} {α : Type} (t : Table n α) (i : Fin n) : α :=
  t.list[i.val]'(t.len.symm ▸ i.isLt)

/-- The table with entry i replaced. -/
def Table.set {n : Nat} {α : Type} (t : Table n α) (i : Fin n) (a : α) : Table n α :=
  ⟨t.list.set i.val a, by rw [List.length_set]; exact t.len⟩

/-- The table with entry i changed by f. -/
def Table.modify {n : Nat} {α : Type} (t : Table n α) (i : Fin n) (f : α → α) : Table n α :=
  t.set i (f (t.get i))

/-- Every entry changed by f. -/
def Table.map {n : Nat} {α β : Type} (f : α → β) (t : Table n α) : Table n β :=
  ⟨t.list.map f, by rw [List.length_map]; exact t.len⟩

/-- Every entry changed by f, which also sees its number. -/
def Table.mapFin {n : Nat} {α β : Type} (f : Fin n → α → β) (t : Table n α) : Table n β :=
  ⟨List.ofFn fun i => f i (t.get i), List.length_ofFn⟩

/-- n copies of one entry. -/
def Table.replicate (n : Nat) {α : Type} (a : α) : Table n α :=
  ⟨List.replicate n a, List.length_replicate⟩

/-- The numbers 0 to n - 1. -/
def allFin (n : Nat) : List (Fin n) := List.finRange n

/-- A 16-bit counter that stays at 65,535 once there (R46, R80, R117, R137, R173, R178). -/
def sat16 (n : Nat) : Nat := min (n + 1) 65535

/-- Step i of n in wrapping order. -/
def wrapAdd {n : Nat} [NeZero n] (i : Fin n) (k : Nat) : Fin n := Fin.ofNat n (i.val + k)

end Sys2Proof
end

