-- ==== Sys2Proof/Config.lean ====
section
/-! DEFINITION. What the implementation fixes and the spec leaves open: the free values. -/

namespace Sys2Proof

/-- FREE VALUE (notes/assumptions/4.md): the data of beat j of the response to grant g where the downstream side gives fewer beats than the request asked for. The spec (R151) gives one response with its data for each READ and says nothing of a short one. -/
opaque Config.absentBeat : Nat → Nat → Beat

end Sys2Proof
end

