-- ==== Sys2Proof/Syntax.lean ====
section
/-! DEFINITION. The commands of the part: one constructor for each row of spec/opcode_table.json, in the table's order (READ_ENTRY, the table's last row, is last). A command with no operand acts on what State holds for it: the oldest beat of an intake, the oldest message of an inbox, a boundary that is due (notes/assumptions/1.md). -/

namespace Sys2Proof

/-- One beat of a write: its data and one enable for each byte (R149). -/
structure WriteBeat where
  data : Beat
  enables : BitVec 8
  deriving DecidableEq, Repr

/-- A passing request (R149): direction, byte address, beat count, the beats of a write, and the upstream side's tag. -/
structure PassReq where
  write : Bool
  addr : Addr
  beats : Nat
  data : List WriteBeat
  tag : Nat
  deriving DecidableEq, Repr

inductive Instr where
  /-- PIN_RESET (R164), with the value of the three strap pins. -/
  | pinReset (strap : BitVec 3)
  /-- SOFT_RESET (R163). -/
  | softReset
  /-- MILLISECOND_TICK (R1), with the two raw house lines as sampled at the tick (R71). -/
  | millisecondTick (alert hush : Bool)
  /-- SECOND_ADVANCE (R1). -/
  | secondAdvance
  /-- MINUTE_BOUNDARY (R2). -/
  | minuteBoundary
  /-- DAY_OPEN (R3). -/
  | dayOpen
  /-- CLOCK_SET (R4). -/
  | clockSet
  /-- CONTROL_WORD_BEAT (R9). -/
  | controlWordBeat
  /-- RECORD_FETCH_DONE (R10). -/
  | recordFetchDone
  /-- TITLE_FETCH_DONE (R11). -/
  | titleFetchDone
  /-- DELAY_EFFECT (R19). -/
  | delayEffect
  /-- UNDELAY_EFFECT (R20). -/
  | undelayEffect
  /-- CANCEL_EFFECT (R21). -/
  | cancelEffect
  /-- BIND (R30). -/
  | bind
  /-- RELEASE (R31). -/
  | release
  /-- REMAP (R33). -/
  | remap
  /-- HOLDBACK (R33). -/
  | holdback
  /-- SEAT_DAY_OPEN (R28). -/
  | seatDayOpen
  /-- SEAT_SHOW_CHANGED_NOTE (R34). -/
  | seatShowChangedNote
  /-- SWEEP_READ_ISSUE (R36). -/
  | sweepReadIssue
  /-- SWEEP_READ_DONE (R37). -/
  | sweepReadDone
  /-- SEAT_BEAT (R41). -/
  | seatBeat
  /-- POLICY_WRITE (R50). -/
  | policyWrite
  /-- SEAT_WRITE_ERROR (R160). -/
  | seatWriteError
  /-- PRODUCER_VALUE_TAKEN (R54). -/
  | producerValueTaken
  /-- NOTICE_RECORD_DONE (R55). -/
  | noticeRecordDone
  /-- NOTICE_TEXT_DONE (R55). -/
  | noticeTextDone
  /-- EFFECT_ANSWER (R62). -/
  | effectAnswer
  /-- CONSUMER_WRITEBACK_DONE (R56). -/
  | consumerWritebackDone
  /-- WRITEBACK_RETRY_BOUNDARY (R56). -/
  | writebackRetryBoundary
  /-- MINUTE_NOTE_NOTICE (R67). -/
  | minuteNoteNotice
  /-- NOTICE_SHOW_CHANGED_NOTE (R68). -/
  | noticeShowChangedNote
  /-- NOTICE_SEATS_CHANGED_NOTE (R70). -/
  | noticeSeatsChangedNote
  /-- AUTO_SOLD_OUT_WRITE (R70). -/
  | autoSoldOutWrite
  /-- NOTICE_DAY_OPEN (R69). -/
  | noticeDayOpen
  /-- ALERT_LINE_ASSERTED (R72). -/
  | alertLineAsserted
  /-- ALERT_LINE_DEASSERTED (R72). -/
  | alertLineDeasserted
  /-- HUSH_LINE_CHANGE (R73). -/
  | hushLineChange
  /-- BANNER_DWELL_EXPIRY (R74) of one pane. -/
  | bannerDwellExpiry (screen : Fin 32) (pane : Fin 4)
  /-- BANNER_PANE_REPORT (R74). -/
  | bannerPaneReport
  /-- CUE_PUSH (R83). -/
  | cuePush
  /-- CUE_CUT (R84). -/
  | cueCut
  /-- CHANNEL_STOP (R85). -/
  | channelStop
  /-- CUE_LOAD_DONE (R82). -/
  | cueLoadDone
  /-- FRAME_READ_ISSUE (R86). -/
  | frameReadIssue
  /-- POINTER_READ_DONE (R79). -/
  | pointerReadDone
  /-- FRAME_READ_DONE (R86). -/
  | frameReadDone
  /-- REST_READ_DONE (R97). -/
  | restReadDone
  /-- REEL_PERIOD_BOUNDARY (R88). -/
  | reelPeriodBoundary
  /-- REEL_SHOW_CHANGED_NOTE (R94). -/
  | reelShowChangedNote
  /-- HUSH_ASSERTED (R95). -/
  | hushAsserted
  /-- HUSH_RELEASED (R96). -/
  | hushReleased
  /-- REST_STILL_WRITE (R97). -/
  | restStillWrite
  /-- PANE_WRITE (R100). -/
  | paneWrite
  /-- BOARD_ORDER_NOTE (R103). -/
  | boardOrderNote
  /-- COMPOSITION_SHOW_CHANGED_NOTE (R106). -/
  | compositionShowChangedNote
  /-- COMPOSITION_SEATS_CHANGED_NOTE (R106). -/
  | compositionSeatsChangedNote
  /-- PAGE_DWELL_EXPIRY (R105) of one pane. -/
  | pageDwellExpiry (screen : Fin 32) (pane : Fin 4)
  /-- LIST_NOTE (R111). -/
  | listNote
  /-- BANNER_NOTE (R111). -/
  | bannerNote
  /-- ALERT_NOTE (R114). -/
  | alertNote
  /-- MINUTE_NOTE_COMPOSITION (R111). -/
  | minuteNoteComposition
  /-- CHANNEL_NOTE (R113). -/
  | channelNote
  /-- MODULE_REPORT (R115). -/
  | moduleReport
  /-- ACCEPTANCE_SETTLEMENT (R110). -/
  | acceptanceSettlement
  /-- COMPOSITION_DAY_OPEN (R116). -/
  | compositionDayOpen
  /-- RING_ENABLE_WRITE (R118). -/
  | ringEnableWrite
  /-- LOCK_INDICATION (R119) of one ring's receiver. -/
  | lockIndication (ring : Fin 4)
  /-- LOCK_TIMER_EXPIRY (R119) of one ring. -/
  | lockTimerExpiry (ring : Fin 4)
  /-- RESTART_TIMER_EXPIRY (R122) of one ring. -/
  | restartTimerExpiry (ring : Fin 4)
  /-- AUTO_RESTART_WRITE (R122). -/
  | autoRestartWrite
  /-- RING_RESTART (R123). -/
  | ringRestart
  /-- RING_UNSHIFTED_BOUNDARY (R124) at one ring. -/
  | ringUnshiftedBoundary (ring : Fin 4)
  /-- RING_BOUNDARY (R125) of one ring. -/
  | ringBoundary (ring : Fin 4)
  /-- TRAIN_RETURN (R132): the bytes that arrived at one ring's receiver. -/
  | trainReturn (ring : Fin 4) (bytes : List Byte)
  /-- RETURN_TIMER_EXPIRY (R131) of one ring. -/
  | returnTimerExpiry (ring : Fin 4)
  /-- MODULE_QUERY (R145). -/
  | moduleQuery
  /-- MODULE_SET (R145). -/
  | moduleSet
  /-- PASSING_REQUEST (R149). -/
  | passingRequest (req : PassReq)
  /-- PORT_GRANT (R158). -/
  | portGrant
  /-- DOWNSTREAM_RESPONSE (R151): the data beats of a READ's response (none for a WRITE's completion) and the memory-error mark. -/
  | downstreamResponse (data : List Beat) (err : Bool)
  /-- INDEX_BEAT (R165). -/
  | indexBeat
  /-- PARAMETER_ENTRY (R167). -/
  | parameterEntry
  /-- WINDOW_BASE_WRITE (R168). -/
  | windowBaseWrite
  /-- RESULT_WRITE_DONE (R170). -/
  | resultWriteDone
  /-- EVENT_ENABLE_WRITE (R174). -/
  | eventEnableWrite
  /-- INTERRUPT_POLARITY_WRITE (R175). -/
  | interruptPolarityWrite
  /-- EVENT_ACK (R176). -/
  | eventAck
  /-- EVENT_REPORT (R173). -/
  | eventReport
  /-- EVENT_PERIOD_BOUNDARY (R177). -/
  | eventPeriodBoundary
  /-- STATUS_WRITE_DONE (R178). -/
  | statusWriteDone
  /-- READ_ENTRY (R166). -/
  | readEntry
  deriving DecidableEq, Repr

end Sys2Proof
end

