-- ==== Sys2Proof/WellFormed.lean ====
section
/-! DEFINITION. Well-formed commands: the static checks on operands. Numbers of screens, panes and rings are in range by their types. -/

namespace Sys2Proof

/-- A passing request as R149 describes it: a byte address that is a multiple of 8, 1..8 beats, and for a WRITE the data and enables of each beat. -/
def PassReq.wf (r : PassReq) : Bool :=
  decide (r.addr.toNat % 8 = 0) && decide (1 ≤ r.beats) && decide (r.beats ≤ 8) &&
    (if r.write then decide (r.data.length = r.beats) else decide (r.data = []))

/-- A command whose operands are of the form the spec gives them (R149; a response carries at most the 8 beats a request can ask for, R157). -/
def Instr.wf : Instr → Bool
  | .passingRequest r => r.wf
  | .downstreamResponse data _ => decide (data.length ≤ 8)
  | _ => true

end Sys2Proof
end

