-- ==== Sys2Proof/Decode.lean ====
section
/-! DEFINITION. spec/opcode_table.json gives no row any bits: the part's commands are arrivals at its blocks, not words, so no word spells one (notes/assumptions/11.md). -/

namespace Sys2Proof

/-- The command that a word of the table spells: none, as no row of the table has bits. -/
def decodeTableWord (_nbits _w : Nat) : Option Instr := none

end Sys2Proof
end

