-- ==== Sys2Proof/Machine/State.lean ====
section
/-! DEFINITION. The state of the part, block by block, as plain data, with its reset values (INVENTORY.md, State), the messages the blocks send each other, and the stops of the model. -/

namespace Sys2Proof.Machine

/-! ### Agent requests and their tags (R157) -/

/-- The four agent classes (R157). -/
inductive AgentClass where
  | frame | record | sweep | writeback
  deriving DecidableEq, Repr

/-- What a Reel Player read is for (R81). -/
inductive Purpose where
  | current | next | pointer | frame | rest
  deriving DecidableEq, Repr

/-- Which part of the status block a write carries (R178). -/
inductive StatusPart where
  | lead | body | trail
  deriving DecidableEq, Repr

/-- The requesting block's own tag of an agent request (R157). -/
inductive Tag where
  /-- the record fetch of a show slot (R10), with the fetch number -/
  | record (slot : Fin 192) (no : Nat)
  /-- the title fetch of a show slot (R11), with the fetch number -/
  | title (slot : Fin 192) (no : Nat)
  /-- a SWEEP read (R36): seat slot, binding number at issue, first beat, beat count -/
  | sweep (slot : Fin 64) (binding : BitVec 8) (first count : Nat)
  /-- the record read of the notice in processing (R55) -/
  | noticeRecord
  /-- a text read of the notice in processing (R55) -/
  | noticeText
  /-- a consumer writeback (R56) -/
  | consumer
  /-- a cue load (R82): channel and load number -/
  | cue (channel : Fin 8) (no : Nat)
  /-- a LIST pointer read (R79) -/
  | pointer (channel : Fin 8) (no : Nat)
  /-- a frame read (R86) -/
  | frame (channel : Fin 8) (no : Nat)
  /-- a rest-still read (R97) -/
  | rest (channel : Fin 8) (no : Nat)
  /-- a setup result write (R170) -/
  | result
  /-- a status block write (R178) -/
  | status (part : StatusPart)
  deriving DecidableEq, Repr

/-- An agent request (R157). -/
structure AgentReq where
  cls : AgentClass
  write : Bool
  addr : Addr
  beats : Nat
  data : List WriteBeat
  tag : Tag
  deriving DecidableEq, Repr

/-- A response handed to the block that asked (R151, R161). -/
structure Response where
  tag : Tag
  data : List Beat
  err : Bool
  deriving DecidableEq, Repr

/-! ### Through Path (spec/08) -/

/-- One intake entry (R155): the beat's address, data and enables as the controller wrote them, and the number of the grant that delivered it. -/
structure IntakeBeat where
  addr : Addr
  data : Beat
  enables : BitVec 8
  grant : Nat
  deriving DecidableEq, Repr

/-- The four owner intakes (R155). -/
structure Intakes where
  setup : List IntakeBeat
  shows : List IntakeBeat
  seat : List IntakeBeat
  notice : Option (BitVec 16)
  deriving DecidableEq, Repr

/-- The window table (R152). -/
structure Windows where
  strap : BitVec 3
  setupBase : Addr
  showBase : Addr
  seatBase : Addr
  /-- SEAT size in units of 8 KiB, 1..128 -/
  seatUnits : Nat
  noticeBase : Addr
  statusBase : Addr
  deriving DecidableEq, Repr

/-- Whose request a response-list entry stands for (R151). -/
inductive Source where
  /-- a passing request: upstream tag, and the addresses of the beats it delivered to the seat intake (R160) -/
  | passing (tag : Nat) (seatBeats : List Addr)
  /-- an agent request: the block's tag, and the mark of an entry voided by soft reset (R162) -/
  | agent (tag : Tag) (voided : Bool)
  deriving DecidableEq, Repr

/-- An entry of the response list (R151). -/
structure Granted where
  source : Source
  write : Bool
  beats : Nat
  grant : Nat
  deriving DecidableEq, Repr

/-- What the downstream port sent at a grant. -/
structure DownReq where
  write : Bool
  addr : Addr
  beats : Nat
  data : List WriteBeat
  deriving DecidableEq, Repr

/-- What the upstream port answered. -/
structure UpResp where
  tag : Nat
  data : List Beat
  err : Bool
  deriving DecidableEq, Repr

structure Path where
  /-- the passing queue, head first (R149) -/
  queue : List PassReq
  /-- requests the stalled upstream side holds back (R149; the model's own list, dropped at pin reset, notes/assumptions/30.md) -/
  held : List PassReq
  /-- the response list, oldest first (R151) -/
  responses : List Granted
  /-- responses still to come to requests granted before a pin reset (R151; the model's own, notes/assumptions/12.md) -/
  stale : Nat
  frameQ : List AgentReq
  recordQ : List AgentReq
  sweepQ : List AgentReq
  writebackQ : List AgentReq
  /-- the share count, 0..3 (R158) -/
  share : Nat
  /-- the last class served (R159) -/
  lastClass : AgentClass
  windows : Windows
  /-- grants made so far (the model's own, notes/assumptions/26.md) -/
  grants : Nat
  /-- the last request sent downstream (the model's own, notes/assumptions/3.md) -/
  downPort : Option DownReq
  /-- the last response sent upstream (the model's own, notes/assumptions/3.md) -/
  upPort : Option UpResp
  deriving DecidableEq, Repr

/-! ### Setup Decoder and parameter store (spec/09) -/

/-- Setup outcomes (R181). -/
inductive Outcome where
  | applied | clamped | readOnly | noSuch | refused | busy | nextFull | accepted
  deriving DecidableEq, Repr

/-- A result word (R170, R187). -/
structure Result where
  index : BitVec 10
  value : BitVec 32
  outcome : Outcome
  seq : BitVec 16
  deriving DecidableEq, Repr

/-- A DAY_OPEN whose answer is awaited (R171): the result to write, and the units that have still to take the command. -/
structure DayOpenWait where
  index : BitVec 10
  value : BitVec 32
  outcome : Outcome
  seats : Bool
  notices : Bool
  comp : Bool
  deriving DecidableEq, Repr

structure Setup where
  /-- the latched index (R165) -/
  index : BitVec 10
  /-- the step flag (R165) -/
  step : Bool
  /-- the setup sequence count (R165) -/
  seq : BitVec 16
  /-- result writes issued and not yet completed, 0..4 (R170) -/
  outstanding : Nat
  /-- a result due while the count stands at 4 (R170) -/
  waiting : Option Result
  /-- a DAY_OPEN not yet taken by all four units (R171) -/
  dayOpen : Option DayOpenWait
  deriving DecidableEq, Repr

/-- Check types of a train (R133), in code order (R172). -/
inductive CheckType where
  | marker | crc16 | crc32
  deriving DecidableEq, Repr

/-- The parameters of one ring (R172). -/
structure RingParams where
  enable : Bool
  shift : Nat
  budget : Nat
  check : CheckType
  marker : BitVec 32
  returnLimit : Nat
  faultLimit : Nat
  lossLimit : Nat
  autoRestart : Bool
  restartDelay : Nat
  lockLimit : Nat
  queryTimeout : Nat
  deriving DecidableEq, Repr

/-- A channel's rest-still parameters (R97, R172). -/
structure RestParams where
  addr : Addr
  len : Nat
  deriving DecidableEq, Repr

/-- The parameter store (R172), but for the window table, which the Through Path holds, and the layout table, which the Composition Unit holds. -/
structure Params where
  eventEnable : BitVec 7
  polarity : Bool
  managerKey : Nat
  debounce : Nat
  setValue : BitVec 32
  grace : Nat
  cancelDisplay : Nat
  heldTaken : Bool
  high : Nat
  low : Nat
  hysteresis : Nat
  few : Nat
  reopen : Nat
  exact : Nat
  autoSoldOut : Bool
  autoPriority : Nat
  period : Nat
  rest : Table 8 RestParams
  ring : Table 4 RingParams
  deriving DecidableEq, Repr

/-! ### Timebase (R124) -/

structure Timebase where
  /-- milliseconds to the next unshifted boundary -/
  timer : Nat
  /-- the lobby period as it stood at the last unshifted boundary (R124) -/
  inUse : Nat
  /-- unshifted boundaries not yet taken, by recipient (the model's own, notes/assumptions/9.md) -/
  dueReel : Nat
  dueEvent : Nat
  dueNotice : Nat
  dueRing : Table 4 Nat
  deriving DecidableEq, Repr

/-! ### Schedule Tracker (spec/01) -/

/-- Show states, in code order (R181). -/
inductive ShowState where
  | free | fetching | onSale | closing | started | cancelled | retired | rejected
  deriving DecidableEq, Repr

/-- Reject reasons, in code order (R12, R181). -/
inductive RejectReason where
  | none | memory | badId | badAuditorium | badStart | duplicate | badMap | mapOverlap
  deriving DecidableEq, Repr

/-- Fetch states (R6). -/
inductive Fetch where
  | none | record | title
  deriving DecidableEq, Repr

/-- Seat status, in code order (R29, R181). -/
inductive SeatStatus where
  | none | waiting | sweeping | counting
  deriving DecidableEq, Repr

/-- The fields of a show record as validated and clamped (R5). -/
structure ShowFields where
  id : Nat
  auditorium : Nat
  seatsTracked : Bool
  hideSeats : Bool
  marks : BitVec 4
  start : Nat
  run : Nat
  closeOffset : Nat
  holdback : Nat
  rating : Byte
  titleLen : Nat
  titleAddr : Addr
  seatCount : Nat
  mapAddr : Addr
  deriving DecidableEq, Repr

/-- A show entry (R6). -/
structure ShowEntry where
  state : ShowState
  prior : ShowState
  fields : ShowFields
  generation : Byte
  reason : RejectReason
  delay : Nat
  effStart : Nat
  cancelMinute : Option Nat
  title : List Byte
  fetch : Fetch
  /-- number of the fetch in flight (the model's own, notes/assumptions/15.md) -/
  fetchNo : Nat
  refetch : Bool
  seatStatus : SeatStatus
  boundSlot : Option (Fin 64)
  deriving DecidableEq, Repr

structure Tracker where
  seconds : Nat
  millis : Nat
  run : Bool
  held : Bool
  /-- a minute boundary has occurred and is not yet taken (the model's own, notes/assumptions/6.md) -/
  minuteDue : Bool
  entries : Table 192 ShowEntry
  board : List (Fin 192)
  /-- fetches issued so far (the model's own, notes/assumptions/15.md) -/
  fetchCount : Nat
  deriving DecidableEq, Repr

/-- The change set of a show-changed note (R24). -/
structure ChangeSet where
  state : Bool
  start : Bool
  title : Bool
  display : Bool
  removed : Bool
  deriving DecidableEq, Repr

/-- A show-changed note (R24). -/
structure ShowNote where
  slot : Fin 192
  id : Nat
  old : ShowState
  new : ShowState
  change : ChangeSet
  deriving DecidableEq, Repr

/-- What the tracker sends the Seat Tally Unit, in one order (R22, R24, R28). -/
inductive SeatMsg where
  | bind (show_ : Fin 192) (map : Addr) (count holdback effStart : Nat)
  | release (show_ : Fin 192)
  | remap (show_ : Fin 192) (map : Addr) (count : Nat)
  | holdback (show_ : Fin 192) (holdback : Nat)
  | dayOpen
  | note (n : ShowNote)
  deriving DecidableEq, Repr

/-- The tracker's answer to an effect (R19 to R21). -/
inductive Answer where
  | done (added : Nat)
  | noShow
  | tooLate
  | notApplied
  deriving DecidableEq, Repr

/-- What the tracker sends the Notice Unit, in one order. -/
inductive NoticeMsg where
  | answer (a : Answer)
  | note (n : ShowNote)
  | minute (m : Nat)
  deriving DecidableEq, Repr

/-- What the tracker sends the Composition Unit, in one order. -/
inductive CompMsg where
  | note (n : ShowNote)
  | board (position : Nat)
  | minute (m : Nat)
  deriving DecidableEq, Repr

/-- An effect the Notice Unit sends the tracker (R19 to R21). -/
inductive Effect where
  | delay (id minutes : Nat)
  | undelay (id minutes : Nat)
  | cancel (id : Nat)
  deriving DecidableEq, Repr

/-! ### Seat Tally Unit (spec/02) -/

/-- Bands, in code order (R181). -/
inductive Band where
  | none | soldOut | few | filling | plenty
  deriving DecidableEq, Repr

/-- States of a seat slot (R27). -/
inductive SlotState where
  | unbound | sweeping | counting
  deriving DecidableEq, Repr

/-- One beat of a slot's shadow, with its flags (R27). -/
structure SeatBeat where
  data : Beat
  reading : Bool
  reread : Bool
  deriving DecidableEq, Repr

/-- The four tallies (R27). -/
structure Tallies where
  free : Nat
  held : Nat
  sold : Nat
  off : Nat
  deriving DecidableEq, Repr

/-- The availability results of a slot (R27). -/
structure Figure where
  band : Band
  shown : Nat
  plus : Bool
  deriving DecidableEq, Repr

/-- A seat slot (R27). -/
structure SeatSlot where
  state : SlotState
  bound : Option (Fin 192)
  binding : BitVec 8
  map : Addr
  count : Nat
  beats : Nat
  holdback : Nat
  shadow : Table 20 SeatBeat
  issue : Nat
  fill : Nat
  tallies : Tallies
  retries : Nat
  figure : Figure
  short : Bool
  deriving DecidableEq, Repr

/-- An entry of the seat wait list (R34). -/
structure WaitEntry where
  show_ : Fin 192
  effStart : Nat
  map : Addr
  count : Nat
  holdback : Nat
  deriving DecidableEq, Repr

/-- A pending reissue (R37, R39): the beats of a slot to read again. -/
structure Reissue where
  slot : Fin 64
  first : Nat
  count : Nat
  deriving DecidableEq, Repr

structure Seats where
  slots : Table 64 SeatSlot
  waiting : List WaitEntry
  shortCount : Nat
  reissues : List Reissue
  burst : Fin 64
  /-- SWEEP reads issued and not yet answered, 0..4 (R36) -/
  inFlight : Nat
  deriving DecidableEq, Repr

/-- A seats-changed note (R51). -/
structure SeatsNote where
  show_ : Fin 192
  id : Nat
  old : Band
  new : Band
  shown : Nat
  plus : Bool
  status : SeatStatus
  deriving DecidableEq, Repr

/-! ### Notice Unit (spec/03) -/

/-- Notice kinds, in code order (R181). -/
inductive NoticeKind where
  | info | delay | cancel | alert | withdraw
  deriving DecidableEq, Repr

/-- Templates, in code order (R181). -/
inductive Template where
  | none | soldOut | house
  deriving DecidableEq, Repr

/-- A notice's identity: desk and notice id (R59). -/
structure NoticeId where
  desk : Nat
  id : Nat
  deriving DecidableEq, Repr

/-- An entry of the notice list (R59). -/
structure Notice where
  ident : NoticeId
  kind : NoticeKind
  priority : Nat
  key : Nat
  mask : BitVec 32
  show_ : Nat
  expiry : Option Nat
  dwell : Nat
  template : Template
  text : List Byte
  applied : Nat
  deriving DecidableEq, Repr

/-- A notice record as read and clamped (R57). -/
structure NoticeRec where
  kind : NoticeKind
  priority : Nat
  ident : NoticeId
  key : Nat
  mask : BitVec 32
  show_ : Nat
  minutes : Nat
  expiry : Option Nat
  dwell : Nat
  textLen : Nat
  textAddr : Addr
  deriving DecidableEq, Repr

/-- Reader states (R52). -/
inductive Reader where
  | idle | record | text | effect | discard
  deriving DecidableEq, Repr

/-- An answer the reader waits for, in the order the effects were sent (R62, R63, R65, R66). -/
inductive Awaited where
  | undelay | delay | cancel
  deriving DecidableEq, Repr

/-- The rotation of one pane (R74): the unit's view of the pane (its minimum priority while it is BANNER), the current notice and the dwell timer in milliseconds. -/
structure Rotation where
  banner : Option Nat
  current : Option NoticeId
  timer : Nat
  deriving DecidableEq, Repr

/-- A line debouncer (R71), with the mark that the run has reached 2^k and the change is not yet taken (the model's own, notes/assumptions/8.md). -/
structure Debouncer where
  level : Bool
  runCount : Nat
  due : Bool
  deriving DecidableEq, Repr

structure Notices where
  produced : BitVec 16
  consumed : BitVec 16
  reader : Reader
  number : BitVec 16
  record : Option NoticeRec
  textBytes : List Byte
  outstanding : Nat
  textErr : Bool
  awaiting : List Awaited
  replacing : Bool
  writebackPending : Bool
  list : List Notice
  rotations : Table 128 Rotation
  alerts : Table 32 (Option NoticeId)
  alertLine : Debouncer
  hushLine : Debouncer
  lastMinute : Nat
  deriving DecidableEq, Repr

/-- What the Notice Unit sends the Composition Unit (R76). -/
inductive NoticeNote where
  | list (mask : BitVec 32)
  | banner (screen : Fin 32) (pane : Fin 4)
  | alert (screen : Fin 32) (selected : Bool)
  deriving DecidableEq, Repr

/-- A pane report of the Composition Unit (R74, R100): the pane, and its minimum priority while it is BANNER. -/
structure BannerReport where
  screen : Fin 32
  pane : Fin 4
  banner : Option Nat
  deriving DecidableEq, Repr

/-! ### Reel Player (spec/04) -/

/-- Cue modes, in code order (R181). -/
inductive CueMode where
  | step | list | still
  deriving DecidableEq, Repr

/-- A loaded cue (R77). -/
structure Cue where
  mode : CueMode
  multiple : Nat
  repeats : Nat
  skipIfStale : Bool
  loop : Bool
  length : Nat
  count : Nat
  show_ : Nat
  base : Nat
  stride : Nat
  next : Addr
  deriving DecidableEq, Repr

/-- A rank (R81). `ready` is READY of the current rank and FULL of the next. -/
inductive Rank where
  | empty
  | loading (addr : Addr)
  | ready (addr : Addr) (cue : Cue)
  deriving DecidableEq, Repr

/-- Channel states, in code order (R80, R181). -/
inductive ChanState where
  | idle | starting | running | held
  deriving DecidableEq, Repr

/-- Filling states (R80). -/
inductive Filling where
  | empty | fetching | complete | failed
  deriving DecidableEq, Repr

/-- What the filling buffer is filled for (R80): nothing, a frame of the current cue, the predicted follower (of the next cue, or of the current one by LOOP), or the rest still. -/
inductive FillFor where
  | none
  | frame (k : Nat)
  | follower (ofNext : Bool)
  | rest
  deriving DecidableEq, Repr

/-- Shown kinds, in code order (R181). -/
inductive ShownKind where
  | blank | frame | rest
  deriving DecidableEq, Repr

/-- Cause of a pending cut (R80). -/
inductive Cut where
  | command | show_
  deriving DecidableEq, Repr

/-- Progress of a fetch into the filling buffer (R79, R86, R97): the LIST pointer's address until the pointer has arrived, the frame address once known, the beats to read, issued and received (the pointer's one beat while it is awaited), and the length in bytes. -/
structure FetchPlan where
  pointer : Option Nat
  addr : Option Nat
  total : Nat
  issued : Nat
  received : Nat
  length : Nat
  deriving DecidableEq, Repr

/-- The number kept for each purpose (R81). -/
structure LoadNos where
  current : Nat
  next : Nat
  pointer : Nat
  frame : Nat
  rest : Nat
  deriving DecidableEq, Repr

/-- A trailer channel (R80). -/
structure Channel where
  state : ChanState
  shownMark : Bool
  current : Rank
  next : Rank
  shownBuf : List Byte
  fillBuf : List Byte
  filling : Filling
  fillFor : FillFor
  plan : FetchPlan
  awaited : Bool
  /-- the awaited frame begins a segment (the model's own, notes/assumptions/24.md) -/
  begins : Bool
  /-- hush was released while a slot ran, and the frame due next is taken as awaited (R96; the model's own, notes/assumptions/24.md) -/
  resume : Bool
  position : Nat
  periodsLeft : Nat
  repeatsLeft : Nat
  shownKind : ShownKind
  serial : BitVec 16
  shownLen : Nat
  late : Nat
  skips : Nat
  cut : Option Cut
  loads : Nat
  nos : LoadNos
  deriving DecidableEq, Repr

structure Reel where
  channels : Table 8 Channel
  /-- FRAME reads issued and not yet answered, 0..8 (R86) -/
  inFlight : Nat
  lastServed : Fin 8
  hush : Bool
  deriving DecidableEq, Repr

/-- A channel note (R98). -/
structure ChannelNote where
  channel : Fin 8
  serial : BitVec 16
  kind : ShownKind
  len : Nat
  deriving DecidableEq, Repr

/-! ### Composition Unit (spec/05) -/

/-- Pane kinds, in code order (R172). -/
inductive PaneKind where
  | none | board | reel | banner | clock
  deriving DecidableEq, Repr

/-- Fitness, in code order (R181). -/
inductive Fitness where
  | unjudged | fit | unfit
  deriving DecidableEq, Repr

/-- An item's delivery flags (R107). -/
structure Item where
  dirty : Bool
  flight : Bool
  deriving DecidableEq, Repr

/-- A pane of the layout table with its board, item and fitness state (R99 to R107). -/
structure Pane where
  kind : PaneKind
  channel : Fin 8
  minPriority : Nat
  rows : Nat
  lo : Nat
  hi : Nat
  includeStarted : Bool
  includeCancelled : Bool
  dwell : Nat
  layout : BitVec 8
  fitness : Fitness
  list : List (Fin 192)
  page : Nat
  timer : Nat
  rowItems : Table 16 Item
  /-- the banner item of a BANNER pane, the clock item of a CLOCK pane -/
  item : Item
  deriving DecidableEq, Repr

/-- What the unit keeps for a screen (R112, R114). -/
structure Screen where
  underAlert : Bool
  alert : Item
  serials : Table 8 (Option (BitVec 16))
  deriving DecidableEq, Repr

structure Comp where
  panes : Table 128 Pane
  screens : Table 32 Screen
  minute : Nat
  deriving DecidableEq, Repr

/-! ### Ring Engines and module slots (spec/06, spec/07) -/

/-- Car kinds (R126), in code order from 1 (R181). -/
inductive CarKind where
  | alert | query | set | probe | frame | banner | row | clock | enum
  deriving DecidableEq, Repr

/-- A car as sent (R126): kind, destination mask, pane and row or channel, layout number and payload. The accept mask and the claimed mark are sent clear. -/
structure Car where
  kind : CarKind
  dest : BitVec 8
  pane : Fin 4
  row : Fin 16
  channel : Fin 8
  layout : BitVec 8
  payload : List Byte
  deriving DecidableEq, Repr

/-- The train in flight (R117, R126): what it was sent with. -/
structure Flight where
  seq : BitVec 16
  cars : List Car
  check : CheckType
  marker : BitVec 32
  deriving DecidableEq, Repr

/-- Ring states, in code order (R181). -/
inductive RingState where
  | off | locking | enumerating | running | fault
  deriving DecidableEq, Repr

/-- Last outcomes, in code order (R181). -/
inductive TrainOutcome where
  | none | good | missing | checkFail
  deriving DecidableEq, Repr

/-- Module slot states, in code order (R181). -/
inductive ModState where
  | absent | ready | live | lost
  deriving DecidableEq, Repr

/-- A module slot (R137). -/
structure ModSlot where
  state : ModState
  type : Byte
  regions : Nat
  maxFrame : Nat
  firmware : BitVec 16
  missed : Nat
  frameSkips : Nat
  lossPeriod : BitVec 16
  probePending : Bool
  deriving DecidableEq, Repr

/-- States of the query slot (R145). -/
inductive QueryState where
  | empty | waiting | inFlight
  deriving DecidableEq, Repr

/-- The query slot (R145). -/
structure Query where
  state : QueryState
  isSet : Bool
  position : Fin 8
  item : BitVec 4
  value : BitVec 32
  start : BitVec 16
  trains : Nat
  deriving DecidableEq, Repr

/-- Query outcomes, in code order (R181). -/
inductive QueryOutcome where
  | none | answered | timeout | lost
  deriving DecidableEq, Repr

/-- The last query result of a ring (R148). -/
structure QueryResult where
  outcome : QueryOutcome
  isSet : Bool
  screen : Nat
  item : BitVec 4
  value : BitVec 32
  answer : BitVec 32
  trains : Nat
  count : BitVec 16
  deriving DecidableEq, Repr

/-- A ring's state (R117). Timers are none while stopped. -/
structure Ring where
  state : RingState
  seq : BitVec 16
  flight : Option Flight
  returnTimer : Option Nat
  lockTimer : Option Nat
  restartTimer : Option Nat
  shift : Option Nat
  errors : Nat
  skipped : Nat
  last : TrainOutcome
  period : BitVec 16
  chanPtr : Fin 8
  screenPtr : Fin 8
  slots : Table 8 ModSlot
  query : Query
  result : QueryResult
  deriving DecidableEq, Repr

/-- The module information of a slot (R137). -/
structure ModuleInfo where
  type : Byte
  regions : Nat
  maxFrame : Nat
  firmware : BitVec 16
  deriving DecidableEq, Repr

/-- A report of a module slot's new state, with the module information where that state is READY (R115, R137). -/
structure ModuleReport where
  ring : Fin 4
  position : Fin 8
  state : ModState
  info : Option ModuleInfo
  deriving DecidableEq, Repr

/-- A train handed to the Composition Unit for settlement (R110, R134, R135): its content cars as sent, each with the accept mask it came back with. -/
structure Settlement where
  ring : Fin 4
  cars : List (Car × BitVec 8)
  deriving DecidableEq, Repr

/-! ### Event Unit (spec/10) -/

/-- The seven event groups, in bit order (R173). -/
inductive EventGroup where
  | path | schedule | seats | notices | reels | rings | memory
  deriving DecidableEq, Repr

/-- The 26 event kinds, in the order of R173's table. -/
inductive EventKind where
  | guardHit | setupRefused
  | recordRejected | clockHeld | tooLate
  | slotsExhausted | soldOutReached
  | keyMismatch | listFull | noticeEvicted | ringOverrun | notFound | noShow | badNotice
  | nextFull | badCue | staleChain | lateFrame
  | checkFail | trainMissing | moduleLost | ringFault | excessModules | queryDone | paneUnfit
  | memError
  deriving DecidableEq, Repr

/-- Writeback states (R177). -/
inductive Writeback where
  | idle | lead | body | trail
  deriving DecidableEq, Repr

structure Events where
  pending : BitVec 7
  counters : Table 26 Nat
  changed : Bool
  generation : BitVec 32
  writeback : Writeback
  snapshot : List Byte
  base : Addr
  /-- lead, body or trail writes issued and not yet completed -/
  outstanding : Nat
  /-- a lead or body write of this writeback has failed -/
  failed : Bool
  errors : Nat
  deriving DecidableEq, Repr

/-! ### Inboxes (notes/assumptions/10.md) -/

/-- Messages sent and not yet taken, and the responses handed to each block. Each kind of message to a recipient has one FIFO; events come from every block, module reports and settlements from the four rings, and each of these three shares one FIFO over its senders (notes/assumptions/47.md). -/
structure Mail where
  toSeats : List SeatMsg
  toNotices : List NoticeMsg
  toReel : List ShowNote
  toComp : List CompMsg
  seatsToComp : List SeatsNote
  seatsToNotices : List SeatsNote
  effects : List Effect
  noticesToComp : List NoticeNote
  hush : List Bool
  bannerReports : List BannerReport
  channelNotes : List ChannelNote
  moduleReports : List ModuleReport
  settlements : List Settlement
  events : List EventKind
  dayOpenNotices : Bool
  dayOpenComp : Bool
  trackerResp : List Response
  seatResp : List Response
  noticeResp : List Response
  reelResp : List Response
  setupResp : List Response
  eventResp : List Response
  /-- error completions of passing writes into the SEAT window (R160): the grant number and the beat addresses -/
  seatErrors : List (Nat × List Addr)
  deriving DecidableEq, Repr

/-! ### The whole state -/

structure State where
  /-- the commands that are waiting, first in, first out (the model's own) -/
  pending : List Instr
  path : Path
  intakes : Intakes
  setup : Setup
  params : Params
  time : Timebase
  tracker : Tracker
  seats : Seats
  notices : Notices
  reel : Reel
  comp : Comp
  rings : Table 4 Ring
  events : Events
  mail : Mail
  deriving DecidableEq, Repr

/-- The stops of the model. -/
inductive Fault where
  /-- Raised by PASSING_REQUEST alone, for an operand that is no passing request by R149 (an address that is no multiple of 8, a beat count outside 1..8, a write without the data of each beat). Safe: the model stops where no request exists (notes/assumptions/5.md). -/
  | malformedRequest
  deriving DecidableEq, Repr

/-- Commands without a meaning: none is left. -/
inductive Refusal where
  /-- No meaning yet. Safe. No arm answers with it. -/
  | notModelled (mnemonic : String)
  deriving DecidableEq, Repr

/-! ### Reset values -/

/-- The SETUP base a strap gives (R152). -/
def strapBase (strap : BitVec 3) : Addr := BitVec.ofNat 32 (0x00FF0000 + strap.toNat * 0x01000000)

/-- The window table after pin reset with a strap (R152). -/
def Windows.reset (strap : BitVec 3) : Windows :=
  { strap := strap, setupBase := strapBase strap, showBase := 0, seatBase := 0, seatUnits := 8,
    noticeBase := 0, statusBase := 0 }

def Path.reset (strap : BitVec 3) : Path :=
  { queue := [], held := [], responses := [], stale := 0, frameQ := [], recordQ := [], sweepQ := [],
    writebackQ := [], share := 0, lastClass := .writeback, windows := Windows.reset strap, grants := 0,
    downPort := none, upPort := none }

def Intakes.reset : Intakes := { setup := [], shows := [], seat := [], notice := none }

def Setup.reset : Setup :=
  { index := 0, step := false, seq := 0, outstanding := 0, waiting := none, dayOpen := none }

def RingParams.reset : RingParams :=
  { enable := false, shift := 0, budget := 24576, check := .crc16, marker := 0, returnLimit := 20,
    faultLimit := 8, lossLimit := 16, autoRestart := false, restartDelay := 5, lockLimit := 50,
    queryTimeout := 8 }

def RestParams.reset : RestParams := { addr := 0, len := 0 }

/-- The last column of R172. -/
def Params.reset : Params :=
  { eventEnable := 0x40, polarity := false, managerKey := 0, debounce := 4, setValue := 0, grace := 10,
    cancelDisplay := 15, heldTaken := true, high := 40, low := 15, hysteresis := 5, few := 10, reopen := 2,
    exact := 99, autoSoldOut := false, autoPriority := 2, period := 40,
    rest := Table.replicate 8 RestParams.reset, ring := Table.replicate 4 RingParams.reset }

def Timebase.reset : Timebase :=
  { timer := 40, inUse := 40, dueReel := 0, dueEvent := 0, dueNotice := 0, dueRing := Table.replicate 4 0 }

def ShowFields.zero : ShowFields :=
  { id := 0, auditorium := 0, seatsTracked := false, hideSeats := false, marks := 0, start := 0, run := 0,
    closeOffset := 0, holdback := 0, rating := 0, titleLen := 0, titleAddr := 0, seatCount := 0, mapAddr := 0 }

/-- A show entry after reset (R6). -/
def ShowEntry.reset : ShowEntry :=
  { state := .free, prior := .free, fields := ShowFields.zero, generation := 0, reason := .none, delay := 0,
    effStart := 0, cancelMinute := none, title := [], fetch := .none, fetchNo := 0, refetch := false,
    seatStatus := .none, boundSlot := none }

def Tracker.reset : Tracker :=
  { seconds := 0, millis := 0, run := false, held := false, minuteDue := false,
    entries := Table.replicate 192 ShowEntry.reset, board := [], fetchCount := 0 }

def Tallies.zero : Tallies := { free := 0, held := 0, sold := 0, off := 0 }

def Figure.none : Figure := { band := .none, shown := 0, plus := false }

def SeatBeat.zero : SeatBeat := { data := 0, reading := false, reread := false }

/-- A seat slot after reset (R27). -/
def SeatSlot.reset : SeatSlot :=
  { state := .unbound, bound := none, binding := 0, map := 0, count := 0, beats := 0, holdback := 0,
    shadow := Table.replicate 20 SeatBeat.zero, issue := 0, fill := 0, tallies := Tallies.zero, retries := 0,
    figure := Figure.none, short := false }

def Seats.reset : Seats :=
  { slots := Table.replicate 64 SeatSlot.reset, waiting := [], shortCount := 0, reissues := [],
    burst := 63, inFlight := 0 }

def Rotation.reset : Rotation := { banner := none, current := none, timer := 0 }

def Debouncer.reset : Debouncer := { level := false, runCount := 0, due := false }

def Notices.reset : Notices :=
  { produced := 0, consumed := 0, reader := .idle, number := 0, record := none, textBytes := [], outstanding := 0,
    textErr := false, awaiting := [], replacing := false, writebackPending := false, list := [],
    rotations := Table.replicate 128 Rotation.reset, alerts := Table.replicate 32 none,
    alertLine := Debouncer.reset, hushLine := Debouncer.reset, lastMinute := 0 }

def FetchPlan.none : FetchPlan :=
  { pointer := Option.none, addr := Option.none, total := 0, issued := 0, received := 0, length := 0 }

def LoadNos.zero : LoadNos := { current := 0, next := 0, pointer := 0, frame := 0, rest := 0 }

/-- A channel after reset (R80). -/
def Channel.reset : Channel :=
  { state := .idle, shownMark := false, current := .empty, next := .empty, shownBuf := [], fillBuf := [],
    filling := .empty, fillFor := .none, plan := FetchPlan.none, awaited := false, begins := false,
    resume := false, position := 0, periodsLeft := 0, repeatsLeft := 0, shownKind := .blank, serial := 0,
    shownLen := 0, late := 0, skips := 0, cut := none, loads := 0, nos := LoadNos.zero }

def Reel.reset : Reel :=
  { channels := Table.replicate 8 Channel.reset, inFlight := 0, lastServed := 7, hush := false }

def Item.clear : Item := { dirty := false, flight := false }

/-- A pane after reset (R99, R101, R102). -/
def Pane.reset : Pane :=
  { kind := .none, channel := 0, minPriority := 0, rows := 0, lo := 0, hi := 0, includeStarted := false,
    includeCancelled := false, dwell := 0, layout := 0, fitness := .unjudged, list := [], page := 0, timer := 0,
    rowItems := Table.replicate 16 Item.clear, item := Item.clear }

def Screen.reset : Screen :=
  { underAlert := false, alert := Item.clear, serials := Table.replicate 8 none }

def Comp.reset : Comp :=
  { panes := Table.replicate 128 Pane.reset, screens := Table.replicate 32 Screen.reset, minute := 0 }

/-- A module slot after reset (R137). -/
def ModSlot.reset : ModSlot :=
  { state := .absent, type := 0, regions := 0, maxFrame := 0, firmware := 0, missed := 0, frameSkips := 0,
    lossPeriod := 0, probePending := false }

def Query.reset : Query :=
  { state := .empty, isSet := false, position := 0, item := 0, value := 0, start := 0, trains := 0 }

def QueryResult.reset : QueryResult :=
  { outcome := .none, isSet := false, screen := 0, item := 0, value := 0, answer := 0, trains := 0, count := 0 }

/-- A ring after reset (R117). -/
def Ring.reset : Ring :=
  { state := .off, seq := 0, flight := none, returnTimer := none, lockTimer := none, restartTimer := none,
    shift := none, errors := 0, skipped := 0, last := .none, period := 0, chanPtr := 7, screenPtr := 7,
    slots := Table.replicate 8 ModSlot.reset, query := Query.reset, result := QueryResult.reset }

def Events.reset : Events :=
  { pending := 0, counters := Table.replicate 26 0, changed := false, generation := 0, writeback := .idle,
    snapshot := [], base := 0, outstanding := 0, failed := false, errors := 0 }

def Mail.empty : Mail :=
  { toSeats := [], toNotices := [], toReel := [], toComp := [], seatsToComp := [], seatsToNotices := [],
    effects := [], noticesToComp := [], hush := [], bannerReports := [], channelNotes := [],
    moduleReports := [], settlements := [], events := [], dayOpenNotices := false, dayOpenComp := false,
    trackerResp := [], seatResp := [], noticeResp := [], reelResp := [], setupResp := [], eventResp := [],
    seatErrors := [] }

/-- The part after pin reset with a strap (R164). -/
def State.pinReset (strap : BitVec 3) : State :=
  { pending := [], path := Path.reset strap, intakes := Intakes.reset, setup := Setup.reset,
    params := Params.reset, time := Timebase.reset, tracker := Tracker.reset, seats := Seats.reset,
    notices := Notices.reset, reel := Reel.reset, comp := Comp.reset, rings := Table.replicate 4 Ring.reset,
    events := Events.reset, mail := Mail.empty }

/-- The machine right after reset: pin reset (R164) with all three strap pins low (notes/assumptions/23.md). -/
def State.reset : State := State.pinReset 0

/-! ### Updates of one field -/

/-- The state with its pending replaced. -/
def State.withPending (s : State) (x : List Instr) : State := { s with pending := x }

/-- The state with its path replaced. -/
def State.withPath (s : State) (x : Path) : State := { s with path := x }

/-- The state with its intakes replaced. -/
def State.withIntakes (s : State) (x : Intakes) : State := { s with intakes := x }

/-- The state with its setup replaced. -/
def State.withSetup (s : State) (x : Setup) : State := { s with setup := x }

/-- The state with its params replaced. -/
def State.withParams (s : State) (x : Params) : State := { s with params := x }

/-- The state with its time replaced. -/
def State.withTime (s : State) (x : Timebase) : State := { s with time := x }

/-- The state with its tracker replaced. -/
def State.withTracker (s : State) (x : Tracker) : State := { s with tracker := x }

/-- The state with its seats replaced. -/
def State.withSeats (s : State) (x : Seats) : State := { s with seats := x }

/-- The state with its notices replaced. -/
def State.withNotices (s : State) (x : Notices) : State := { s with notices := x }

/-- The state with its reel replaced. -/
def State.withReel (s : State) (x : Reel) : State := { s with reel := x }

/-- The state with its comp replaced. -/
def State.withComp (s : State) (x : Comp) : State := { s with comp := x }

/-- The state with its rings replaced. -/
def State.withRings (s : State) (x : Table 4 Ring) : State := { s with rings := x }

/-- The state with its events replaced. -/
def State.withEvents (s : State) (x : Events) : State := { s with events := x }

/-- The state with its mail replaced. -/
def State.withMail (s : State) (x : Mail) : State := { s with mail := x }

end Sys2Proof.Machine
end

