-- ==== Sys2Proof/Machine/Ops.lean ====
section
/-! DEFINITION. Operations shared by the blocks: bytes and beats, agent requests, sending messages, and the reads one block makes of another's state. -/

namespace Sys2Proof.Machine

/-! ### Bytes and beats (spec/00_scope.md, Addresses and layouts; R180) -/

/-- Byte j of a beat. -/
def byteOf (b : Beat) (j : Nat) : Byte := b.extractLsb' (8 * j) 8

/-- The eight bytes of a beat, lowest address first. -/
def beatBytes (b : Beat) : List Byte := (List.range 8).map (byteOf b)

/-- The bytes of consecutive beats. -/
def beatsBytes (bs : List Beat) : List Byte := bs.flatMap beatBytes

/-- Byte i of a record, as a number. -/
def byteAt (bs : List Byte) (i : Nat) : Nat := (bs.getD i 0).toNat

/-- The two-byte field at offset i, least significant byte first. -/
def le16At (bs : List Byte) (i : Nat) : Nat := byteAt bs i + 256 * byteAt bs (i + 1)

/-- The four-byte field at offset i, least significant byte first. -/
def le32At (bs : List Byte) (i : Nat) : Nat := le16At bs i + 65536 * le16At bs (i + 2)

/-- A number as k bytes, least significant byte first. -/
def leBytes (k v : Nat) : List Byte := (List.range k).map fun i => BitVec.ofNat 8 (v / 256 ^ i)

/-- The number k bytes spell, least significant byte first. -/
def leNat : List Byte → Nat
  | [] => 0
  | b :: bs => b.toNat + 256 * leNat bs

/-- The beat that eight bytes make. -/
def beatOfBytes (bs : List Byte) : Beat := BitVec.ofNat 64 (leNat bs)

/-- Bytes cut into beats. -/
def toBeats (count : Nat) (bs : List Byte) : List Beat :=
  (List.range count).map fun i => beatOfBytes ((bs.drop (8 * i)).take 8)

/-- A list of bytes filled with zero bytes up to n. -/
def padTo (n : Nat) (bs : List Byte) : List Byte := bs ++ List.replicate (n - bs.length) 0

/-- The bits of a beat whose bytes are enabled. -/
def byteMask (enables : BitVec 8) : Beat :=
  (List.range 8).foldl (fun m j => if enables.getLsbD j then m ||| (0xFF#64 <<< (8 * j)) else m) 0

/-- A beat with its enabled bytes replaced. -/
def mergeBeat (old new : Beat) (enables : BitVec 8) : Beat :=
  (old &&& ~~~ byteMask enables) ||| (new &&& byteMask enables)

/-- The address of beat j of a request, modulo 2^32 (R149). -/
def beatAddr (addr : Addr) (j : Nat) : Addr := addr + BitVec.ofNat 32 (8 * j)

/-- Beats of a map of N seats (R26). -/
def mapBeats (n : Nat) : Nat := (n + 31) / 32

/-! ### Windows (R152) -/

def showSize : Nat := 12288
def noticeSize : Nat := 4160
def statusSize : Nat := 4096

/-- SEAT size in bytes (R152). -/
def Windows.seatSize (w : Windows) : Nat := w.seatUnits * 8192

/-- Does a window of this base and size, disabled at base 0, cover the address? -/
def covers (base : Addr) (size : Nat) (a : Addr) : Bool :=
  decide (base ≠ 0) && decide (base.toNat ≤ a.toNat) && decide (a.toNat < base.toNat + size)

/-- A map lies wholly inside the enabled SEAT window (R12, R26). -/
def Windows.holdsMap (w : Windows) (map : Addr) (count : Nat) : Bool :=
  decide (w.seatBase ≠ 0) && decide (w.seatBase.toNat ≤ map.toNat) &&
    decide (map.toNat + 8 * mapBeats count ≤ w.seatBase.toNat + w.seatSize)

/-! ### Sending (R24, R51, R76, R98, R157, R173) -/

/-- What a block sends during one arrival: an event, a message to another block, an agent request, or a write of an entry's seat status, with its bound slot or alone (R6, R29, R30, R33, R35, R38). -/
inductive Out where
  | event (k : EventKind)
  | seats (m : SeatMsg)
  | notices (m : NoticeMsg)
  | reel (n : ShowNote)
  | comp (m : CompMsg)
  | seatsNote (n : SeatsNote)
  | effect (e : Effect)
  | noticeNote (n : NoticeNote)
  | hush (level : Bool)
  | bannerReport (r : BannerReport)
  | channelNote (n : ChannelNote)
  | moduleReport (r : ModuleReport)
  | settlement (t : Settlement)
  | agent (r : AgentReq)
  | entrySeat (show_ : Fin 192) (status : SeatStatus) (slot : Option (Fin 64))
  | entryStatus (show_ : Fin 192) (status : SeatStatus)
  deriving DecidableEq, Repr

/-- A message joins the tail of its recipient's inbox; an event joins the Event Unit's. A seats-changed note goes to the Composition Unit and the Notice Unit (R51). Events of all blocks share one inbox, and so do the module reports and the settlements of the four rings, the model's choice of an order between senders (notes/assumptions/47.md). -/
def Mail.post (m : Mail) : Out → Mail
  | .event k => { m with events := m.events ++ [k] }
  | .seats x => { m with toSeats := m.toSeats ++ [x] }
  | .notices x => { m with toNotices := m.toNotices ++ [x] }
  | .reel n => { m with toReel := m.toReel ++ [n] }
  | .comp x => { m with toComp := m.toComp ++ [x] }
  | .seatsNote n => { m with seatsToComp := m.seatsToComp ++ [n], seatsToNotices := m.seatsToNotices ++ [n] }
  | .effect e => { m with effects := m.effects ++ [e] }
  | .noticeNote n => { m with noticesToComp := m.noticesToComp ++ [n] }
  | .hush b => { m with hush := m.hush ++ [b] }
  | .bannerReport r => { m with bannerReports := m.bannerReports ++ [r] }
  | .channelNote n => { m with channelNotes := m.channelNotes ++ [n] }
  | .moduleReport r => { m with moduleReports := m.moduleReports ++ [r] }
  | .settlement t => { m with settlements := m.settlements ++ [t] }
  | .agent _ => m
  | .entrySeat _ _ _ => m
  | .entryStatus _ _ => m

/-- An agent request joins the tail of its class queue (R157). -/
def Path.enqueue (p : Path) (r : AgentReq) : Path :=
  match r.cls with
  | .frame => { p with frameQ := p.frameQ ++ [r] }
  | .record => { p with recordQ := p.recordQ ++ [r] }
  | .sweep => { p with sweepQ := p.sweepQ ++ [r] }
  | .writeback => { p with writebackQ := p.writebackQ ++ [r] }

/-- The Through Path after one thing sent: an agent request joins its queue. -/
def Path.post (p : Path) : Out → Path
  | .agent r => p.enqueue r
  | _ => p

/-- The tracker after one thing sent: the seat status and bound slot of an entry are written by the Seat Tally Unit (R6, R29). -/
def Tracker.post (t : Tracker) : Out → Tracker
  | .entrySeat i status slot =>
    { t with entries := t.entries.modify i fun e => { e with seatStatus := status, boundSlot := slot } }
  | .entryStatus i status => { t with entries := t.entries.modify i fun e => { e with seatStatus := status } }
  | _ => t

/-- One thing sent. -/
def State.send (s : State) (o : Out) : State :=
  { s with mail := s.mail.post o, path := s.path.post o, tracker := s.tracker.post o }

/-- Everything an arrival sends, in the order it sends it. -/
def State.emit (s : State) (outs : List Out) : State := outs.foldl State.send s

/-- A show-changed note goes to the Seat Tally Unit, the Notice Unit, the Reel Player and the Composition Unit (R24). -/
def noteOuts (n : ShowNote) : List Out :=
  [.seats (.note n), .notices (.note n), .reel n, .comp (.note n)]

/-- A minute note goes to the Notice Unit and the Composition Unit (R2). -/
def minuteOuts (m : Nat) : List Out := [.notices (.minute m), .comp (.minute m)]

/-- An agent read. -/
def agentRead (cls : AgentClass) (addr : Addr) (beats : Nat) (tag : Tag) : Out :=
  .agent { cls := cls, write := false, addr := addr, beats := beats, data := [], tag := tag }

/-- A WRITEBACK write (R157). -/
def agentWrite (addr : Addr) (data : List WriteBeat) (tag : Tag) : Out :=
  .agent { cls := .writeback, write := true, addr := addr, beats := data.length, data := data, tag := tag }

/-- A block's new state together with what it sends; the second step sees the first's state. -/
def andThen {σ : Type} (p : σ × List Out) (f : σ → σ × List Out) : σ × List Out :=
  let q := f p.1
  (q.1, p.2 ++ q.2)

/-- A step taken for each member of a list in turn. -/
def forAll {σ α : Type} (xs : List α) (f : α → σ → σ × List Out) (x : σ) : σ × List Out :=
  xs.foldl (fun p a => andThen p (f a)) (x, [])

/-! ### Show entries as other blocks read them (R6, the table of states) -/

/-- FETCHING, ON_SALE, CLOSING, STARTED and CANCELLED are live (R6). -/
def ShowState.live : ShowState → Bool
  | .fetching | .onSale | .closing | .started | .cancelled => true
  | .free | .retired | .rejected => false

/-- The visible states (R6). -/
def ShowState.visible : ShowState → Bool
  | .onSale | .closing | .started | .cancelled => true
  | .free | .fetching | .retired | .rejected => false

/-- The states in which a show with seats tracked wants seats (R22). -/
def ShowState.selling : ShowState → Bool
  | .onSale | .closing | .started => true
  | .free | .fetching | .cancelled | .retired | .rejected => false

/-- The show id an entry holds; 0 where it holds none (R6). -/
def ShowEntry.id (e : ShowEntry) : Nat :=
  match e.state with
  | .onSale | .closing | .started | .cancelled | .retired => e.fields.id
  | .free | .fetching | .rejected => 0

/-- A show wants seats (R22). -/
def ShowEntry.wants (e : ShowEntry) : Bool := e.fields.seatsTracked && e.state.selling

/-- The slot of the visible show with this id, if any (R19). -/
def Tracker.findShow (t : Tracker) (id : Nat) : Option (Fin 192) :=
  (allFin 192).find? fun i => (t.entries.get i).state.visible && decide ((t.entries.get i).fields.id = id)

/-- The clock minute (R1). -/
def Tracker.minute (t : Tracker) : Nat := t.seconds / 60

/-! ### Seat fields as other blocks read them (R29) -/

/-- The band, displayed figure and plus mark of a show: its bound slot's, or none (R29). -/
def State.showFigure (s : State) (i : Fin 192) : Figure :=
  match (s.tracker.entries.get i).boundSlot with
  | some k => (s.seats.slots.get k).figure
  | none => Figure.none

/-- The answer to a band query (R29). -/
def State.bandQuery (s : State) (i : Fin 192) : Band :=
  match (s.tracker.entries.get i).boundSlot with
  | some k => if (s.seats.slots.get k).state = .counting then (s.seats.slots.get k).figure.band else .none
  | none => .none

/-! ### Screens, panes and module slots -/

/-- Pane p of a screen, in the table of 128 panes. -/
def paneIx (screen : Fin 32) (pane : Fin 4) : Fin 128 :=
  ⟨4 * screen.val + pane.val, by have := screen.isLt; have := pane.isLt; omega⟩

/-- The screen and pane of a place in the table of 128 panes. -/
def paneScreen (i : Fin 128) : Fin 32 := ⟨i.val / 4, by have := i.isLt; omega⟩

/-- The pane number of a place in the table of 128 panes. -/
def paneNo (i : Fin 128) : Fin 4 := ⟨i.val % 4, by omega⟩

/-- The ring of a screen (spec/05, 5.1). -/
def screenRing (screen : Fin 32) : Fin 4 := ⟨screen.val / 8, by have := screen.isLt; omega⟩

/-- The chain position of a screen (spec/05, 5.1). -/
def screenPos (screen : Fin 32) : Fin 8 := ⟨screen.val % 8, by omega⟩

/-- The screen at a ring's chain position (spec/07). -/
def ringScreen (ring : Fin 4) (pos : Fin 8) : Fin 32 :=
  ⟨8 * ring.val + pos.val, by have := ring.isLt; have := pos.isLt; omega⟩

/-- The module slot of a screen. -/
def State.slotOf (s : State) (screen : Fin 32) : ModSlot :=
  (s.rings.get (screenRing screen)).slots.get (screenPos screen)

/-- The four fields of module information that a slot holds (R137). -/
def ModSlot.fields (m : ModSlot) : ModuleInfo :=
  { type := m.type, regions := m.regions, maxFrame := m.maxFrame, firmware := m.firmware }

/-- A slot's module information: absent while the slot is ABSENT (R137). -/
def ModSlot.information (m : ModSlot) : Option ModuleInfo := if m.state = .absent then none else some m.fields

/-- A slot that takes content: READY or LIVE (R107, R112). -/
def ModSlot.taking (m : ModSlot) : Bool :=
  match m.state with
  | .ready | .live => true
  | .absent | .lost => false

end Sys2Proof.Machine
end

