-- ==== Sys2Proof/Machine/Operands.lean ====
section
/-! DEFINITION. What the commands take their operands from: the codes of R181, the records of lobby memory (R180 to R186), and the setup entries with their indices, fields and clamps (R165 to R172, R187, R188). -/

namespace Sys2Proof.Machine

/-! ### Codes (R181, R172) -/

def ShowState.code : ShowState → Nat
  | .free => 0 | .fetching => 1 | .onSale => 2 | .closing => 3 | .started => 4 | .cancelled => 5
  | .retired => 6 | .rejected => 7

def RejectReason.code : RejectReason → Nat
  | .none => 0 | .memory => 1 | .badId => 2 | .badAuditorium => 3 | .badStart => 4 | .duplicate => 5
  | .badMap => 6 | .mapOverlap => 7

def Band.code : Band → Nat
  | .none => 0 | .soldOut => 1 | .few => 2 | .filling => 3 | .plenty => 4

def SeatStatus.code : SeatStatus → Nat
  | .none => 0 | .waiting => 1 | .sweeping => 2 | .counting => 3

def NoticeKind.code : NoticeKind → Nat
  | .info => 0 | .delay => 1 | .cancel => 2 | .alert => 3 | .withdraw => 4

def Template.code : Template → Nat
  | .none => 0 | .soldOut => 1 | .house => 2

def ShownKind.code : ShownKind → Nat
  | .blank => 0 | .frame => 1 | .rest => 2

def Outcome.code : Outcome → Nat
  | .applied => 0 | .clamped => 1 | .readOnly => 2 | .noSuch => 3 | .refused => 4 | .busy => 5
  | .nextFull => 6 | .accepted => 7

def CarKind.code : CarKind → Nat
  | .alert => 1 | .query => 2 | .set => 3 | .probe => 4 | .frame => 5 | .banner => 6 | .row => 7
  | .clock => 8 | .enum => 9

def ChanState.code : ChanState → Nat
  | .idle => 0 | .starting => 1 | .running => 2 | .held => 3

/-- EMPTY, LOADING, READY for the current rank; EMPTY, LOADING, FULL for the next. -/
def Rank.code : Rank → Nat
  | .empty => 0 | .loading _ => 1 | .ready _ _ => 2

/-- The cue address a rank holds, as the status block mirrors it. The spec gives an EMPTY rank none; 0 is the model's choice (notes/assumptions/50.md). -/
def Rank.addr : Rank → Addr
  | .empty => 0 | .loading a => a | .ready a _ => a

def RingState.code : RingState → Nat
  | .off => 0 | .locking => 1 | .enumerating => 2 | .running => 3 | .fault => 4

def TrainOutcome.code : TrainOutcome → Nat
  | .none => 0 | .good => 1 | .missing => 2 | .checkFail => 3

def ModState.code : ModState → Nat
  | .absent => 0 | .ready => 1 | .live => 2 | .lost => 3

def Fitness.code : Fitness → Nat
  | .unjudged => 0 | .fit => 1 | .unfit => 2

def QueryOutcome.code : QueryOutcome → Nat
  | .none => 0 | .answered => 1 | .timeout => 2 | .lost => 3

def CheckType.code : CheckType → Nat
  | .marker => 0 | .crc16 => 1 | .crc32 => 2

/-- An enumerated field stored as its last code where its code lies beyond it (R167, R181). -/
def CheckType.ofCode (c : Nat) : CheckType :=
  match c with
  | 0 => .marker
  | 1 => .crc16
  | _ => .crc32

def PaneKind.code : PaneKind → Nat
  | .none => 0 | .board => 1 | .reel => 2 | .banner => 3 | .clock => 4

/-- An enumerated field stored as its last code where its code lies beyond it (R167, R172). -/
def PaneKind.ofCode (c : Nat) : PaneKind :=
  match c with
  | 0 => .none
  | 1 => .board
  | 2 => .reel
  | 3 => .banner
  | _ => .clock

/-- 1 for a set flag. -/
def bit (b : Bool) : Nat := if b then 1 else 0

/-- A field stored at the nearest end of its range (R167). -/
def clampTo (lo hi v : Nat) : Nat := max lo (min hi v)

/-! ### Show records (R5, R182) -/

/-- Show actions (R5, R181). -/
inductive ShowAction where
  | none | publish | unlist | cancel | reinstate
  deriving DecidableEq, Repr

/-- Any code beyond the five is NONE (R5, R180). -/
def ShowAction.ofCode (c : Nat) : ShowAction :=
  match c with
  | 1 => .publish
  | 2 => .unlist
  | 3 => .cancel
  | 4 => .reinstate
  | _ => .none

/-- The action of a show record (R182). -/
def showAction (bs : List Byte) : ShowAction := ShowAction.ofCode (byteAt bs 0)

/-- The generation of a show record (R182). -/
def showGeneration (bs : List Byte) : Byte := bs.getD 1 0

/-- The fields of a show record, with the silent clamps of R5. The id, auditorium, start minute, seat count and map address are as read. -/
def showFields (bs : List Byte) : ShowFields :=
  let flags := BitVec.ofNat 8 (byteAt bs 5)
  { id := le16At bs 2
    auditorium := byteAt bs 4
    seatsTracked := flags.getLsbD 0
    hideSeats := flags.getLsbD 1
    marks := flags.extractLsb' 2 4
    start := le16At bs 6
    run := clampTo 1 300 (le16At bs 8)
    closeOffset := min 60 (byteAt bs 10)
    holdback := min 63 (byteAt bs 11)
    rating := bs.getD 12 0
    titleLen := min 48 (byteAt bs 13)
    titleAddr := BitVec.ofNat 32 (le32At bs 16)
    seatCount := le16At bs 14
    mapAddr := BitVec.ofNat 32 (le32At bs 20) }

/-! ### Texts and titles in lobby memory (R11, R55) -/

/-- Bytes that would run past the end of the address space are taken as empty (R11, R55). -/
def textFits (addr : Addr) (len : Nat) : Bool :=
  decide (0 < len) && decide (addr.toNat + len ≤ 2 ^ 32)

/-- The first aligned beat that covers a text. -/
def textBase (addr : Addr) : Addr := BitVec.ofNat 32 (addr.toNat / 8 * 8)

/-- How many aligned beats cover a text. -/
def textBeats (addr : Addr) (len : Nat) : Nat := (addr.toNat + len - 1) / 8 + 1 - addr.toNat / 8

/-- The text's own bytes among those of the beats that cover it. -/
def textOf (addr : Addr) (len : Nat) (bs : List Byte) : List Byte := (bs.drop (addr.toNat % 8)).take len

/-! ### Notice records (R57, R58, R185) -/

def NoticeKind.ofCode? (c : Nat) : Option NoticeKind :=
  match c with
  | 0 => some .info
  | 1 => some .delay
  | 2 => some .cancel
  | 3 => some .alert
  | 4 => some .withdraw
  | _ => none

/-- The checks of R58 on a record's kind, desk, notice id and minutes as read. -/
def noticePasses (kind : NoticeKind) (desk id minutes : Nat) : Bool :=
  (if kind = .withdraw then decide (desk ≤ 8) else decide (1 ≤ desk) && decide (desk ≤ 8)) &&
  (if kind = .withdraw ∧ desk = 0 then true else decide (1 ≤ id) && decide (id ≤ 65534)) &&
  (if kind = .delay then decide (minutes ≠ 0) else true)

/-- A notice record as the unit reads and clamps it (R57, R185); none where it fails with BAD_NOTICE (R58). -/
def noticeRecord (bs : List Byte) : Option NoticeRec :=
  match NoticeKind.ofCode? (byteAt bs 0) with
  | none => none
  | some kind =>
    let desk := byteAt bs 2
    let id := le16At bs 4
    let minutes := le16At bs 14
    if noticePasses kind desk id minutes then
      let expiry := le16At bs 16
      some
        { kind := kind
          priority := byteAt bs 1 % 8
          ident := { desk := desk, id := id }
          key := le16At bs 6
          mask := BitVec.ofNat 32 (le32At bs 8)
          show_ := le16At bs 12
          minutes := min 240 minutes
          expiry := if expiry > 1799 then none else some expiry
          dwell := clampTo 2 30 (byteAt bs 3)
          textLen := min 240 (le16At bs 18)
          textAddr := BitVec.ofNat 32 (le32At bs 20) }
    else none

/-! ### Cue records (R77, R78, R186) -/

def CueMode.ofCode? (c : Nat) : Option CueMode :=
  match c with
  | 0 => some .step
  | 1 => some .list
  | 2 => some .still
  | _ => none

/-- The conditions of R78 on the fields of a cue of known mode. The sums are exact. -/
def Cue.valid (q : Cue) : Bool :=
  decide (1 ≤ q.length) && decide (q.length ≤ 16384) && decide (q.count ≠ 0) &&
  match q.mode with
  | .step => decide (q.base % 8 = 0) && decide (q.base + (q.count - 1) * q.stride + q.length ≤ 2 ^ 32)
  | .still => decide (q.base % 8 = 0) && decide (q.base + q.length ≤ 2 ^ 32)
  | .list => decide (q.base % 4 = 0) && decide (q.base + 4 * q.count ≤ 2 ^ 32)

/-- A cue record as read and clamped (R77); none where it is invalid (R78). The stride's lowest three bits are taken as 0. -/
def cueRecord (bs : List Byte) : Option Cue :=
  match CueMode.ofCode? (byteAt bs 0) with
  | none => none
  | some mode =>
    let q : Cue :=
      { mode := mode
        multiple := clampTo 1 8 (byteAt bs 1)
        repeats := byteAt bs 2
        skipIfStale := (BitVec.ofNat 8 (byteAt bs 3)).getLsbD 0
        loop := (BitVec.ofNat 8 (byteAt bs 3)).getLsbD 1
        length := le32At bs 8
        count := le16At bs 4
        show_ := le16At bs 6
        base := le32At bs 12
        stride := le32At bs 16 / 8 * 8
        next := BitVec.ofNat 32 (le32At bs 20) }
    if q.valid then some q else none

/-- A cue address that can be loaded: not 0 and a multiple of 8 (R78). -/
def cueAddrOk (a : Addr) : Bool := decide (a ≠ 0) && decide (a.toNat % 8 = 0)

/-! ### Setup entries (R165, R166, R172, R187, R188) -/

/-- The fields of a ring's parameters, by k (R172). -/
inductive RingField where
  | enable | shift | budget | check | marker | returnLimit | faultLimit | lossLimit | autoRestart
  | restartDelay | lockLimit | queryTimeout
  deriving DecidableEq, Repr

def RingField.ofNat? (k : Nat) : Option RingField :=
  match k with
  | 0 => some .enable
  | 1 => some .shift
  | 2 => some .budget
  | 3 => some .check
  | 4 => some .marker
  | 5 => some .returnLimit
  | 6 => some .faultLimit
  | 7 => some .lossLimit
  | 8 => some .autoRestart
  | 9 => some .restartDelay
  | 10 => some .lockLimit
  | 11 => some .queryTimeout
  | _ => none

/-- The module-information fields, by k (R172). -/
inductive InfoField where
  | state | type | regions | maxFrame | firmware
  deriving DecidableEq, Repr

def InfoField.ofNat? (k : Nat) : Option InfoField :=
  match k with
  | 0 => some .state
  | 1 => some .type
  | 2 => some .regions
  | 3 => some .maxFrame
  | 4 => some .firmware
  | _ => none

/-- The parameters that are one number and have no row of their own, and those the Event Unit, Seat Tally Unit and Notice Unit act on at the write (R172). -/
inductive Simple where
  | eventEnable | polarity | managerKey | debounce | setValue
  | grace | cancelDisplay | heldTaken | high | low | hysteresis | few | reopen | exact
  | autoSoldOut | autoPriority | period
  deriving DecidableEq, Repr

/-- The five window parameters (R172). -/
inductive WindowParam where
  | showBase | seatBase | seatSize | noticeBase | statusBase
  deriving DecidableEq, Repr

/-- What a setup index names (R172). -/
inductive Index where
  | unused
  | control
  | dayOpen
  | clockSet
  | lobbyClock
  | eventAck
  | ringRestart
  | moduleQuery
  | moduleSet
  | simple (p : Simple)
  | window (p : WindowParam)
  | setupBase
  | cuePush (c : Fin 8)
  | cueCut (c : Fin 8)
  | channelStop (c : Fin 8)
  | restAddr (c : Fin 8)
  | restLen (c : Fin 8)
  | ring (n : Fin 4) (f : RingField)
  | pane (screen : Fin 32) (pane : Fin 4) (second : Bool)
  | info (screen : Fin 32) (f : InfoField)
  deriving DecidableEq, Repr

/-- A channel's index k (R172). -/
def channelIndex (c : Fin 8) (k : Nat) : Index :=
  match k with
  | 0 => .cuePush c
  | 1 => .cueCut c
  | 2 => .channelStop c
  | 3 => .restAddr c
  | 4 => .restLen c
  | _ => .unused

/-- The low indices, 0x000..0x07F (R172). -/
def lowIndex (i : Nat) : Index :=
  match i with
  | 0x000 => .control
  | 0x001 => .dayOpen
  | 0x002 => .clockSet
  | 0x003 => .lobbyClock
  | 0x004 => .eventAck
  | 0x005 => .simple .eventEnable
  | 0x006 => .simple .polarity
  | 0x007 => .simple .managerKey
  | 0x008 => .simple .debounce
  | 0x009 => .ringRestart
  | 0x00A => .moduleQuery
  | 0x00B => .simple .setValue
  | 0x00C => .moduleSet
  | 0x020 => .window .showBase
  | 0x021 => .window .seatBase
  | 0x022 => .window .seatSize
  | 0x023 => .window .noticeBase
  | 0x024 => .window .statusBase
  | 0x025 => .setupBase
  | 0x040 => .simple .grace
  | 0x041 => .simple .cancelDisplay
  | 0x042 => .simple .heldTaken
  | 0x043 => .simple .high
  | 0x044 => .simple .low
  | 0x045 => .simple .hysteresis
  | 0x046 => .simple .few
  | 0x047 => .simple .reopen
  | 0x048 => .simple .exact
  | 0x049 => .simple .autoSoldOut
  | 0x04A => .simple .autoPriority
  | 0x04B => .simple .period
  | _ => .unused

/-- What an index names (R172). -/
def Index.of (index : BitVec 10) : Index :=
  let i := index.toNat
  if i < 0x080 then lowIndex i
  else if i < 0x0C0 then channelIndex (Fin.ofNat 8 ((i - 0x080) / 8)) ((i - 0x080) % 8)
  else if i < 0x100 then
    match RingField.ofNat? ((i - 0x0C0) % 16) with
    | some f => .ring (Fin.ofNat 4 ((i - 0x0C0) / 16)) f
    | none => .unused
  else if i < 0x200 then
    .pane (Fin.ofNat 32 ((i - 0x100) / 8)) (Fin.ofNat 4 ((i - 0x100) % 8 / 2)) (decide ((i - 0x100) % 2 = 1))
  else if i < 0x300 then
    match InfoField.ofNat? ((i - 0x200) % 8) with
    | some f => .info (Fin.ofNat 32 ((i - 0x200) / 8)) f
    | none => .unused
  else .unused

/-- An entry (R165): the index it is applied to, and the value and mask, bytes not enabled read as 0. -/
structure Entry where
  index : BitVec 10
  value : BitVec 32
  mask : BitVec 32
  deriving DecidableEq, Repr

/-- The entry's value with every bit outside the mask taken as 0 (R171). A command's result reports it whole, with the bits that name no field, the model's choice (notes/assumptions/51.md). -/
def Entry.argument (e : Entry) : BitVec 32 := e.value &&& e.mask

/-- Masked application (R167). -/
def Entry.applyTo (e : Entry) (old : BitVec 32) : BitVec 32 := (old &&& ~~~ e.mask) ||| (e.value &&& e.mask)

/-- The beat at the head of the setup intake, while the decoder is free to take one: no result waits for room (R170) and no DAY_OPEN answer is awaited (R171). -/
def State.setupBeat (s : State) : Option IntakeBeat :=
  if s.setup.waiting.isNone && s.setup.dayOpen.isNone then s.intakes.setup.head? else none

/-- The head beat as an index beat (R165). -/
def State.indexBeat (s : State) : Option IntakeBeat :=
  s.setupBeat.filter fun b => decide (b.addr = s.path.windows.setupBase)

/-- The head beat as a data beat (R165). -/
def State.dataBeat (s : State) : Option IntakeBeat :=
  s.setupBeat.filter fun b => decide (b.addr ≠ s.path.windows.setupBase)

/-- The entry a data beat forms against the latched index (R165, R187). -/
def entryOf (index : BitVec 10) (b : IntakeBeat) : Entry :=
  let d := mergeBeat 0 b.data b.enables
  { index := index, value := d.extractLsb' 0 32, mask := d.extractLsb' 32 32 }

/-- The entry at the head of the setup intake; a data beat with no enabled byte forms none (R165). -/
def State.entry (s : State) : Option Entry :=
  match s.dataBeat with
  | some b => if b.enables = 0 then none else some (entryOf s.setup.index b)
  | none => none

/-- Which row of the command table takes an entry (R166; notes/assumptions/32.md). -/
inductive EntryRow where
  | read
  | softReset
  | dayOpen
  | clockSet
  | eventAck
  | ringRestart
  | moduleQuery
  | moduleSet
  | cuePush (c : Fin 8)
  | cueCut (c : Fin 8)
  | channelStop (c : Fin 8)
  | window (p : WindowParam)
  | eventEnable
  | polarity
  | policy (p : Simple)
  | autoSoldOut
  | restStill (c : Fin 8) (len : Bool)
  | ringEnable (n : Fin 4)
  | autoRestart (n : Fin 4)
  | pane (screen : Fin 32) (pane : Fin 4) (second : Bool)
  | plain (p : Simple)
  | plainRing (n : Fin 4) (f : RingField)
  | controlNoReset
  deriving DecidableEq, Repr

/-- The row of an entry with a nonzero mask to a parameter of one number. -/
def simpleRow : Simple → EntryRow
  | .eventEnable => .eventEnable
  | .polarity => .polarity
  | .heldTaken => .policy .heldTaken
  | .high => .policy .high
  | .low => .policy .low
  | .hysteresis => .policy .hysteresis
  | .few => .policy .few
  | .reopen => .policy .reopen
  | .exact => .policy .exact
  | .autoSoldOut => .autoSoldOut
  | .managerKey => .plain .managerKey
  | .debounce => .plain .debounce
  | .setValue => .plain .setValue
  | .grace => .plain .grace
  | .cancelDisplay => .plain .cancelDisplay
  | .autoPriority => .plain .autoPriority
  | .period => .plain .period

/-- The row that takes an entry, by the order of cases of R166. -/
def Entry.row (e : Entry) : EntryRow :=
  let idx := Index.of e.index
  match idx with
  | .unused => .read
  | .lobbyClock => .read
  | .setupBase => .read
  | .info _ _ => .read
  | _ =>
    if e.mask = 0 then .read
    else
      match idx with
      | .control => if e.argument.getLsbD 0 then .softReset else .controlNoReset
      | .dayOpen => .dayOpen
      | .clockSet => .clockSet
      | .eventAck => .eventAck
      | .ringRestart => .ringRestart
      | .moduleQuery => .moduleQuery
      | .moduleSet => .moduleSet
      | .cuePush c => .cuePush c
      | .cueCut c => .cueCut c
      | .channelStop c => .channelStop c
      | .simple p => simpleRow p
      | .window p => .window p
      | .restAddr c => .restStill c false
      | .restLen c => .restStill c true
      | .ring n .enable => .ringEnable n
      | .ring n .autoRestart => .autoRestart n
      | .ring n f => .plainRing n f
      | .pane sc p w => .pane sc p w
      | _ => .read

/-! ### Parameters as words (R167, R169, R172) -/

/-- The stored value of a parameter of one number. -/
def Params.simple (p : Params) : Simple → Nat
  | .eventEnable => p.eventEnable.toNat
  | .polarity => bit p.polarity
  | .managerKey => p.managerKey
  | .debounce => p.debounce
  | .setValue => p.setValue.toNat
  | .grace => p.grace
  | .cancelDisplay => p.cancelDisplay
  | .heldTaken => bit p.heldTaken
  | .high => p.high
  | .low => p.low
  | .hysteresis => p.hysteresis
  | .few => p.few
  | .reopen => p.reopen
  | .exact => p.exact
  | .autoSoldOut => bit p.autoSoldOut
  | .autoPriority => p.autoPriority
  | .period => p.period

/-- A masked value clamped to what the parameter stores (R167, R172, R174). -/
def Params.clampSimple (p : Params) (which : Simple) (v : Nat) : Nat :=
  match which with
  | .eventEnable => ((BitVec.ofNat 7 v) ||| 0x40#7).toNat
  | .polarity => min 1 v
  | .managerKey => min 65535 v
  | .debounce => min 10 v
  | .setValue => v
  | .grace => min 30 v
  | .cancelDisplay => min 60 v
  | .heldTaken => min 1 v
  | .high => clampTo 1 100 v
  | .low => if min 99 v ≥ p.high then p.high - 1 else min 99 v
  | .hysteresis => min 20 v
  | .few => min 63 v
  | .reopen => clampTo 1 16 v
  | .exact => clampTo 9 999 v
  | .autoSoldOut => min 1 v
  | .autoPriority => min 7 v
  | .period => clampTo 20 200 v

/-- The store with a parameter of one number set to a value in its range. -/
def Params.setSimple (p : Params) (which : Simple) (v : Nat) : Params :=
  match which with
  | .eventEnable => { p with eventEnable := BitVec.ofNat 7 v }
  | .polarity => { p with polarity := decide (v = 1) }
  | .managerKey => { p with managerKey := v }
  | .debounce => { p with debounce := v }
  | .setValue => { p with setValue := BitVec.ofNat 32 v }
  | .grace => { p with grace := v }
  | .cancelDisplay => { p with cancelDisplay := v }
  | .heldTaken => { p with heldTaken := decide (v = 1) }
  | .high => { p with high := v }
  | .low => { p with low := v }
  | .hysteresis => { p with hysteresis := v }
  | .few => { p with few := v }
  | .reopen => { p with reopen := v }
  | .exact => { p with exact := v }
  | .autoSoldOut => { p with autoSoldOut := decide (v = 1) }
  | .autoPriority => { p with autoPriority := v }
  | .period => { p with period := v }

/-- The stored value of a ring parameter. -/
def RingParams.field (r : RingParams) : RingField → Nat
  | .enable => bit r.enable
  | .shift => r.shift
  | .budget => r.budget
  | .check => r.check.code
  | .marker => r.marker.toNat
  | .returnLimit => r.returnLimit
  | .faultLimit => r.faultLimit
  | .lossLimit => r.lossLimit
  | .autoRestart => bit r.autoRestart
  | .restartDelay => r.restartDelay
  | .lockLimit => r.lockLimit
  | .queryTimeout => r.queryTimeout

/-- A masked value clamped to what the ring parameter stores (R167, R172). -/
def RingField.clamp (f : RingField) (v : Nat) : Nat :=
  match f with
  | .enable => min 1 v
  | .shift => min 199 v
  | .budget => clampTo 1024 65536 v
  | .check => min 2 v
  | .marker => v
  | .returnLimit => clampTo 1 100 v
  | .faultLimit => clampTo 1 255 v
  | .lossLimit => clampTo 1 255 v
  | .autoRestart => min 1 v
  | .restartDelay => clampTo 1 60 v
  | .lockLimit => clampTo 1 255 v
  | .queryTimeout => clampTo 1 64 v

/-- A ring's parameters with one field set to a value in its range. -/
def RingParams.setField (r : RingParams) (f : RingField) (v : Nat) : RingParams :=
  match f with
  | .enable => { r with enable := decide (v = 1) }
  | .shift => { r with shift := v }
  | .budget => { r with budget := v }
  | .check => { r with check := CheckType.ofCode v }
  | .marker => { r with marker := BitVec.ofNat 32 v }
  | .returnLimit => { r with returnLimit := v }
  | .faultLimit => { r with faultLimit := v }
  | .lossLimit => { r with lossLimit := v }
  | .autoRestart => { r with autoRestart := decide (v = 1) }
  | .restartDelay => { r with restartDelay := v }
  | .lockLimit => { r with lockLimit := v }
  | .queryTimeout => { r with queryTimeout := v }

/-- Pane word 0: kind, channel, minimum priority (R188). -/
def Pane.word0 (p : Pane) : Nat := p.kind.code + 256 * p.channel.val + 65536 * p.minPriority

/-- Pane word 1: the BOARD fields (R188). -/
def Pane.word1 (p : Pane) : Nat :=
  p.rows + 32 * p.lo + 1024 * p.hi + 32768 * bit p.includeStarted + 65536 * bit p.includeCancelled +
    16777216 * p.dwell

/-- Pane word 0 as stored from a masked value (R167, R172). -/
def Pane.setWord0 (p : Pane) (v : BitVec 32) : Pane :=
  { p with
    kind := PaneKind.ofCode (v.extractLsb' 0 3).toNat
    channel := Fin.ofNat 8 (v.extractLsb' 8 3).toNat
    minPriority := (v.extractLsb' 16 3).toNat }

/-- The BOARD fields brought up to their lower limits (R172). -/
def Pane.raiseBoard (p : Pane) : Pane :=
  { p with rows := max 1 p.rows, lo := max 1 p.lo, hi := max 1 p.hi, dwell := max 4 p.dwell }

/-- Pane word 1 as stored from a masked value (R167, R172). -/
def Pane.setWord1 (p : Pane) (v : BitVec 32) : Pane :=
  { p with
    rows := clampTo 1 16 (v.extractLsb' 0 5).toNat
    lo := clampTo 1 24 (v.extractLsb' 5 5).toNat
    hi := clampTo 1 24 (v.extractLsb' 10 5).toNat
    includeStarted := v.getLsbD 15
    includeCancelled := v.getLsbD 16
    dwell := clampTo 4 60 (v.extractLsb' 24 6).toNat }

/-- The bits of pane word 0 that a field names (R188). -/
def paneMask0 : BitVec 32 := 0x00070707

/-- The bits of pane word 1 that a field names (R188). -/
def paneMask1 : BitVec 32 := 0x3F01FFFF

/-- A window parameter's stored value. -/
def Windows.param (w : Windows) : WindowParam → Nat
  | .showBase => w.showBase.toNat
  | .seatBase => w.seatBase.toNat
  | .seatSize => w.seatUnits
  | .noticeBase => w.noticeBase.toNat
  | .statusBase => w.statusBase.toNat

/-- A masked value clamped for a window parameter: a base's low six bits are 0, the SEAT size is 1..128 (R167, R172). -/
def WindowParam.clamp (p : WindowParam) (v : BitVec 32) : BitVec 32 :=
  match p with
  | .seatSize => BitVec.ofNat 32 (clampTo 1 128 v.toNat)
  | _ => v &&& ~~~ 0x3F#32

/-- The window table as it would stand with a value (R153). -/
def Windows.setParam (w : Windows) (p : WindowParam) (v : BitVec 32) : Windows :=
  match p with
  | .showBase => { w with showBase := v }
  | .seatBase => { w with seatBase := v }
  | .seatSize => { w with seatUnits := v.toNat }
  | .noticeBase => { w with noticeBase := v }
  | .statusBase => { w with statusBase := v }

/-- A module-information parameter as its slot supplies it (R137, R169). -/
def ModSlot.info (m : ModSlot) : InfoField → Nat
  | .state => m.state.code
  | .type => m.type.toNat
  | .regions => m.regions
  | .maxFrame => m.maxFrame
  | .firmware => m.firmware.toNat

/-- The stored word of a parameter or read-only index; 0 for a command and for the control parameter (R167, R169, R188). -/
def State.storedWord (s : State) : Index → Nat
  | .lobbyClock => s.tracker.seconds + 2 ^ 30 * bit s.tracker.held + 2 ^ 31 * bit s.tracker.run
  | .simple p => s.params.simple p
  | .window p => s.path.windows.param p
  | .setupBase => s.path.windows.setupBase.toNat + s.path.windows.strap.toNat
  | .restAddr c => (s.params.rest.get c).addr.toNat
  | .restLen c => (s.params.rest.get c).len
  | .ring n f => (s.params.ring.get n).field f
  | .pane sc p false => (s.comp.panes.get (paneIx sc p)).word0
  | .pane sc p true => (s.comp.panes.get (paneIx sc p)).word1
  | .info sc f => (s.slotOf sc).info f
  | _ => 0

/-- The value a result reports for a parameter's current value: the stored word, but 0 for the manager key (R169). -/
def State.reportedWord (s : State) (i : Index) : BitVec 32 :=
  match i with
  | .simple .managerKey => 0
  | _ => BitVec.ofNat 32 (s.storedWord i)

end Sys2Proof.Machine
end

