-- ==== Sys2Proof/Machine/Flags.lean ====
section
/-! DEFINITION. The part's flags: event groups and counters (R173), the interrupt line (R175), and the mirrored values of the status block, whose every change sets the changed mark (R177, R179, R189). -/

namespace Sys2Proof.Machine

/-! ### Events and the interrupt line -/

/-- The bit of a group (R173). -/
def EventGroup.bit : EventGroup → Fin 7
  | .path => 0 | .schedule => 1 | .seats => 2 | .notices => 3 | .reels => 4 | .rings => 5 | .memory => 6

/-- The group of a kind (R173). -/
def EventKind.group : EventKind → EventGroup
  | .guardHit | .setupRefused => .path
  | .recordRejected | .clockHeld | .tooLate => .schedule
  | .slotsExhausted | .soldOutReached => .seats
  | .keyMismatch | .listFull | .noticeEvicted | .ringOverrun | .notFound | .noShow | .badNotice => .notices
  | .nextFull | .badCue | .staleChain | .lateFrame => .reels
  | .checkFail | .trainMissing | .moduleLost | .ringFault | .excessModules | .queryDone | .paneUnfit => .rings
  | .memError => .memory

/-- The place of a kind's counter, in the order of R173's table (R189). -/
def EventKind.index : EventKind → Fin 26
  | .guardHit => 0 | .setupRefused => 1
  | .recordRejected => 2 | .clockHeld => 3 | .tooLate => 4
  | .slotsExhausted => 5 | .soldOutReached => 6
  | .keyMismatch => 7 | .listFull => 8 | .noticeEvicted => 9 | .ringOverrun => 10 | .notFound => 11
  | .noShow => 12 | .badNotice => 13
  | .nextFull => 14 | .badCue => 15 | .staleChain => 16 | .lateFrame => 17
  | .checkFail => 18 | .trainMissing => 19 | .moduleLost => 20 | .ringFault => 21 | .excessModules => 22
  | .queryDone => 23 | .paneUnfit => 24
  | .memError => 25

/-- The kinds in counter order. -/
def allKinds : List EventKind :=
  [.guardHit, .setupRefused, .recordRejected, .clockHeld, .tooLate, .slotsExhausted, .soldOutReached,
   .keyMismatch, .listFull, .noticeEvicted, .ringOverrun, .notFound, .noShow, .badNotice, .nextFull, .badCue,
   .staleChain, .lateFrame, .checkFail, .trainMissing, .moduleLost, .ringFault, .excessModules, .queryDone,
   .paneUnfit, .memError]

/-- The interrupt line is active: some pending group is enabled (R175). -/
def State.lineActive (s : State) : Bool := decide (s.events.pending &&& s.params.eventEnable ≠ 0)

/-- The level of the interrupt line, true for high (R175): polarity 0 is active low, polarity 1 active high. -/
def State.lineHigh (s : State) : Bool := s.lineActive == s.params.polarity

/-! ### The areas of the status block (R179, R189) -/

/-- Bytes 0x008 to 0x047: the event area. -/
def State.eventArea (s : State) : List Byte :=
  padTo 8 (leBytes 1 s.events.pending.toNat ++ leBytes 1 s.params.eventEnable.toNat ++
    leBytes 2 (bit s.lineActive) ++ leBytes 2 s.events.errors) ++
  padTo 56 (s.events.counters.list.flatMap (leBytes 2))

/-- Bytes 0x048 to 0x04F: the clock area. -/
def State.clockArea (s : State) : List Byte :=
  padTo 8 (leBytes 4 s.tracker.seconds ++ leBytes 1 (bit s.tracker.run + 2 * bit s.tracker.held))

/-- Bytes 0x050 to 0x067: the path area. -/
def State.pathArea (s : State) : List Byte :=
  let w := s.path.windows
  leBytes 2 w.strap.toNat ++ leBytes 2 w.seatUnits ++ leBytes 4 w.setupBase.toNat ++
    leBytes 4 w.showBase.toNat ++ leBytes 4 w.seatBase.toNat ++ leBytes 4 w.noticeBase.toNat ++
    leBytes 4 w.statusBase.toNat

/-- Bytes 0x068 to 0x06F: the seat area. -/
def State.seatArea (s : State) : List Byte := padTo 8 (leBytes 2 s.seats.shortCount)

/-- A notice mirror position (R76, R189); R180 gives 0xFFFF for an expiry of none. An automatic notice's expiry above 1,799 is mirrored as it is (the model's choice, notes/assumptions/61.md). -/
def Notice.mirror (n : Notice) : List Byte :=
  leBytes 1 n.ident.desk ++ leBytes 1 n.kind.code ++ leBytes 1 n.priority ++ leBytes 1 n.template.code ++
    leBytes 2 n.ident.id ++ leBytes 2 n.show_ ++ leBytes 4 n.mask.toNat ++
    leBytes 2 (n.expiry.getD 0xFFFF) ++ leBytes 1 n.dwell ++ leBytes 1 n.applied

/-- An empty notice mirror position holds kind 0xFF and 0 in its other bytes (R189). -/
def emptyNotice : List Byte := padTo 16 [0, 0xFF]

/-- Bytes 0x070 to 0x1FF: the notice area. -/
def State.noticeArea (s : State) : List Byte :=
  padTo 0x90 (leBytes 2 s.notices.produced.toNat ++ leBytes 2 s.notices.consumed.toNat ++
    leBytes 1 (bit s.notices.alertLine.level + 2 * bit s.notices.hushLine.level)) ++
  (List.range 16).flatMap fun i =>
    match s.notices.list[i]? with
    | some n => n.mirror
    | none => emptyNotice

/-- A channel's 32 bytes (R98, R189). -/
def Channel.mirror (c : Channel) : List Byte :=
  padTo 32 (leBytes 1 c.state.code ++ leBytes 1 c.current.code ++ leBytes 1 c.next.code ++
    leBytes 1 c.skips ++ leBytes 1 (bit c.cut.isSome) ++ leBytes 1 c.shownKind.code ++
    leBytes 2 c.serial.toNat ++ leBytes 4 c.current.addr.toNat ++ leBytes 4 c.next.addr.toNat ++
    leBytes 2 c.position ++ leBytes 2 c.repeatsLeft ++ leBytes 2 c.late)

/-- Bytes 0x200 to 0x2FF: the channel area. -/
def State.channelArea (s : State) : List Byte := s.reel.channels.list.flatMap Channel.mirror

/-- A module slot's 16 bytes (R137, R189). -/
def ModSlot.mirror (m : ModSlot) : List Byte :=
  padTo 16 (leBytes 1 m.state.code ++ leBytes 1 m.type.toNat ++ leBytes 2 m.regions ++ leBytes 2 m.maxFrame ++
    leBytes 2 m.firmware.toNat ++ leBytes 2 m.missed ++ leBytes 2 m.frameSkips)

/-- A screen's two bytes: the fitness of its four panes and whether it is under alert (R101, R189). -/
def State.screenMirror (s : State) (sc : Fin 32) : List Byte :=
  let fit (p : Fin 4) : Nat := (s.comp.panes.get (paneIx sc p)).fitness.code
  leBytes 2 (fit 0 + 4 * fit 1 + 16 * fit 2 + 64 * fit 3 + 256 * bit (s.comp.screens.get sc).underAlert)

/-- A ring's 160 bytes (R117, R189). -/
def State.ringMirror (s : State) (n : Fin 4) : List Byte :=
  let r := s.rings.get n
  padTo 8 (leBytes 1 r.state.code ++ leBytes 1 r.errors ++ leBytes 2 r.skipped ++ leBytes 1 r.last.code) ++
    r.slots.list.flatMap ModSlot.mirror ++
    padTo 24 ((allFin 8).flatMap fun k => s.screenMirror (ringScreen n k))

/-- Bytes 0x300 to 0x57F: the ring area. -/
def State.ringArea (s : State) : List Byte := (allFin 4).flatMap s.ringMirror

/-- A query result's 16 bytes (R148, R189). -/
def QueryResult.mirror (q : QueryResult) : List Byte :=
  leBytes 1 q.outcome.code ++ leBytes 1 (bit q.isSet) ++ leBytes 1 q.screen ++ leBytes 1 q.item.toNat ++
    leBytes 4 q.value.toNat ++ leBytes 4 q.answer.toNat ++ leBytes 2 q.trains ++ leBytes 2 q.count.toNat

/-- Bytes 0x580 to 0x5FF: the query area. -/
def State.queryArea (s : State) : List Byte := padTo 128 (s.rings.list.flatMap fun r => r.result.mirror)

/-- A show mirror entry's 8 bytes (R6, R29, R189). -/
def State.showMirror (s : State) (i : Fin 192) : List Byte :=
  let e := s.tracker.entries.get i
  let f := s.showFigure i
  leBytes 1 e.state.code ++ leBytes 1 e.reason.code ++ leBytes 1 e.generation.toNat ++ leBytes 1 f.band.code ++
    leBytes 2 f.shown ++ leBytes 1 (bit f.plus) ++ leBytes 1 e.seatStatus.code

/-- Bytes 0x600 to 0xFF7: the show mirror and the zeros after it. -/
def State.showArea (s : State) : List Byte := padTo 2552 ((allFin 192).flatMap s.showMirror)

/-- Every mirrored value: the status block less its lead and trail words (R179, R189). -/
def State.mirror (s : State) : List Byte :=
  s.eventArea ++ s.clockArea ++ s.pathArea ++ s.seatArea ++ s.noticeArea ++ s.channelArea ++ s.ringArea ++
    s.queryArea ++ s.showArea

/-- A generation word: lead and trail words carry it in bytes 0 to 3 and 0 in bytes 4 to 7 (R189). -/
def generationBytes (g : BitVec 32) : List Byte := leBytes 8 g.toNat

/-- The 4,096 bytes of a status block with a generation (R189). -/
def State.statusBlock (s : State) (g : BitVec 32) : List Byte :=
  generationBytes g ++ s.mirror ++ generationBytes g

/-! ### The changed mark (R177) -/

/-- The state with the changed mark set. -/
def State.markChanged (s : State) : State := s.withEvents { s.events with changed := true }

/-- An arrival that takes the part from s to t: each change of a mirrored value sets the changed mark (R177; notes/assumptions/31.md). -/
def commit (s t : State) : State := if s.mirror = t.mirror then t else t.markChanged

/-- A command's next state. -/
def goOn (s t : State) : Host.Outcome State Fault Refusal := .next (commit s t)

end Sys2Proof.Machine
end

