-- ==== Sys2Proof/Machine/Results.lean ====
section
/-! DEFINITION. Taking setup entries and writing their results (R165, R166, R170, R171), shared by every command that takes a data beat. -/

namespace Sys2Proof.Machine

/-- The four fields of a result word in its eight bytes (R187). -/
def Result.beat (r : Result) : Beat :=
  beatOfBytes (leBytes 2 (r.index.toNat + 1024 * r.outcome.code) ++ leBytes 2 r.seq.toNat ++ leBytes 4 r.value.toNat)

/-- The result write: one beat at SETUP base + 16, all bytes enabled (R170). -/
def State.resultWrite (s : State) (r : Result) : Out :=
  agentWrite (beatAddr s.path.windows.setupBase 2) [{ data := r.beat, enables := 0xFF }] .result

/-- Issue a result, or hold it while four are outstanding (R170). -/
def State.issueResult (s : State) (r : Result) : State :=
  if s.setup.outstanding < 4 then
    (s.withSetup { s.setup with outstanding := s.setup.outstanding + 1 }).emit [s.resultWrite r]
  else s.withSetup { s.setup with waiting := some r }

/-- Write the result of an entry: the sequence count advances by one, and the result is issued (R170). -/
def State.result (s : State) (index : BitVec 10) (value : BitVec 32) (outcome : Outcome) : State :=
  (s.withSetup { s.setup with seq := s.setup.seq + 1 }).issueResult
    { index := index, value := value, outcome := outcome, seq := s.setup.seq + 1 }

/-- The head beat leaves the setup intake, which frees its place (R165). -/
def State.popSetup (s : State) : State := s.withIntakes { s.intakes with setup := s.intakes.setup.tail }

/-- The latched index after an entry: advanced by one, wrapping, while the step flag is set (R165). -/
def Setup.stepped (u : Setup) : Setup := { u with index := if u.step then u.index + 1 else u.index }

/-- The entry's beat is taken and the latched index steps (R165). -/
def State.takeEntry (s : State) : State := (s.popSetup).withSetup s.setup.stepped

/-- The outcome of a stored value: CLAMPED when it differs from the masked value (R167). -/
def clampOutcome (masked stored : Nat) : Outcome := if stored = masked then .applied else .clamped

/-- The value an entry's mask gives its parameter: masked application to the stored word (R167). -/
def State.masked (s : State) (e : Entry) : BitVec 32 := e.applyTo (BitVec.ofNat 32 (s.storedWord (Index.of e.index)))

/-- The result of a parameter entry, once its value is stored: the value reported, and APPLIED or CLAMPED (R166, R167, R169). -/
def State.paramResult (s : State) (e : Entry) (masked : BitVec 32) : State :=
  s.result e.index (s.reportedWord (Index.of e.index))
    (clampOutcome masked.toNat (s.storedWord (Index.of e.index)))

end Sys2Proof.Machine
end

