-- ==== Sys2Proof/Machine/Shows.lean ====
section
/-! DEFINITION. The Schedule Tracker's show table (spec/01, R5 to R24): evaluation, board order, record and title fetches, applying records, and the effects from desks. -/

namespace Sys2Proof.Machine

/-! ### Target and evaluation (R7, R8) -/

/-- The target state of a show (R7): clock minute, effective start, close offset, grace. -/
def targetOf (c e o g : Nat) : ShowState :=
  if c + o < e then .onSale
  else if c < e then .closing
  else if c < e + g then .started
  else .retired

/-- The target of a CANCELLED show (R7): clock minute, cancel minute, cancel display time. -/
def cancelTarget (c k d : Nat) : ShowState := if c ≥ k + d then .retired else .cancelled

/-- The state evaluation moves a show to (R8). -/
def evalState (c g d : Nat) (e : ShowEntry) : ShowState :=
  let t := targetOf c e.effStart e.fields.closeOffset g
  match e.state with
  | .onSale => t
  | .closing => t
  | .started => if t = .retired then .retired else .started
  | .cancelled => cancelTarget c (e.cancelMinute.getD 0) d
  | st => st

/-- An entry moved to a state; the cancel minute is present only while CANCELLED (R6). -/
def ShowEntry.moveTo (e : ShowEntry) (st : ShowState) : ShowEntry :=
  { e with state := st, cancelMinute := if st = .cancelled then e.cancelMinute else none }

/-- Evaluating one show (R8). Shows in FETCHING and entries that are not live are not evaluated (R2). -/
def ShowEntry.evaluate (c g d : Nat) (e : ShowEntry) : ShowEntry :=
  if e.state.visible then e.moveTo (evalState c g d e) else e

/-! ### Notes and seat requests of one show (R22, R24) -/

/-- What differs between a show before and after an event (R14, R24). -/
def changesOf (a b : ShowEntry) : ChangeSet :=
  { state := decide (a.state ≠ b.state)
    start := decide (a.effStart ≠ b.effStart)
    title := decide (a.title ≠ b.title)
    display := decide (a.fields.auditorium ≠ b.fields.auditorium ∨ a.fields.seatsTracked ≠ b.fields.seatsTracked ∨
      a.fields.hideSeats ≠ b.fields.hideSeats ∨ a.fields.marks ≠ b.fields.marks ∨ a.fields.run ≠ b.fields.run ∨
      a.fields.rating ≠ b.fields.rating ∨ a.fields.closeOffset ≠ b.fields.closeOffset)
    removed := false }

/-- A change set that names nothing. -/
def ChangeSet.nothing (x : ChangeSet) : Bool := !(x.state || x.start || x.title || x.display || x.removed)

/-- A change set of STATE alone. A new show's note names it alone whatever the slot held, and so does the note of an entry that is rejected or unlisted while no show of it is live: in FETCHING, or RETIRED by evaluation while its record was read (read from the spec by inference, notes/assumptions/59.md). -/
def stateOnly : ChangeSet := { state := true, start := false, title := false, display := false, removed := false }

/-- A change set marked REMOVED, which names no other aspect (the model's choice, notes/assumptions/58.md). -/
def removedSet : ChangeSet := { state := false, start := false, title := false, display := false, removed := true }

/-- The one note for a show that differs, and none for a show that does not (R24). -/
def diffNote (slot : Fin 192) (a b : ShowEntry) : List Out :=
  if (changesOf a b).nothing then []
  else noteOuts { slot := slot, id := b.id, old := a.state, new := b.state, change := changesOf a b }

/-- The BIND request of a show (R22). -/
def bindOut (slot : Fin 192) (e : ShowEntry) : Out :=
  .seats (.bind slot e.fields.mapAddr e.fields.seatCount e.fields.holdback e.effStart)

/-- The seat requests a change of one show calls for (R14, R22). Where both change, the REMAP goes before the HOLDBACK, the model's choice (notes/assumptions/56.md); seats tracked cleared by an update sends RELEASE for a CANCELLED show too, as R14 words it and R22 does not (notes/assumptions/16.md). -/
def seatOuts (slot : Fin 192) (a b : ShowEntry) : List Out :=
  if b.wants then
    if a.wants then
      (if a.fields.mapAddr ≠ b.fields.mapAddr ∨ a.fields.seatCount ≠ b.fields.seatCount then
        [.seats (.remap slot b.fields.mapAddr b.fields.seatCount)] else []) ++
      (if a.fields.holdback ≠ b.fields.holdback then [.seats (.holdback slot b.fields.holdback)] else [])
    else [bindOut slot b]
  else if a.wants || (a.fields.seatsTracked && !b.fields.seatsTracked) then [.seats (.release slot)]
  else []

/-! ### The board order (R23) -/

/-- The order of two visible shows: by effective start, then auditorium, then slot (R23). -/
def boardBefore (entries : Table 192 ShowEntry) (i j : Fin 192) : Bool :=
  let a := entries.get i
  let b := entries.get j
  decide (a.effStart < b.effStart ∨ (a.effStart = b.effStart ∧
    (a.fields.auditorium < b.fields.auditorium ∨ (a.fields.auditorium = b.fields.auditorium ∧ i.val ≤ j.val))))

/-- A member placed before the first one it does not follow. -/
def insertBy {α : Type} (before : α → α → Bool) (x : α) : List α → List α
  | [] => [x]
  | y :: ys => if before x y then x :: y :: ys else y :: insertBy before x ys

/-- The board order: every visible show once, sorted (R23). -/
def boardOf (entries : Table 192 ShowEntry) : List (Fin 192) :=
  ((allFin 192).filter fun i => (entries.get i).state.visible).foldr (insertBy (boardBefore entries)) []

/-- The lowest position at which two lists differ, a position held in one alone counting as differing (R23, R103). -/
def firstDiff {α : Type} [DecidableEq α] : List α → List α → Option Nat
  | [], [] => none
  | x :: xs, y :: ys => if x = y then (firstDiff xs ys).map (· + 1) else some 0
  | [], _ :: _ => some 0
  | _ :: _, [] => some 0

/-- The one board-order note of an event that leaves the order different (R23). -/
def boardOuts (old new : List (Fin 192)) : List Out :=
  match firstDiff old new with
  | some q => [.comp (.board q)]
  | none => []

/-- The tracker's event brought to its end: the board order is brought up to date, and its note follows the shows' requests and notes (R23, R24). -/
def Tracker.settle (p : Tracker × List Out) : Tracker × List Out :=
  let board := boardOf p.1.entries
  ({ p.1 with board := board }, p.2 ++ boardOuts p.1.board board)

/-- Evaluation of every live show other than those in FETCHING, with the requests and notes it produces, show by show in slot order (R2, R8, R24). -/
def Tracker.evaluateAll (t : Tracker) (g d : Nat) : Tracker × List Out :=
  let entries := t.entries.map (ShowEntry.evaluate t.minute g d)
  Tracker.settle
    ({ t with entries := entries },
      (allFin 192).flatMap fun i =>
        seatOuts i (t.entries.get i) (entries.get i) ++ diffNote i (t.entries.get i) (entries.get i))

/-! ### Record and title fetches (R9 to R11) -/

/-- A record fetch is issued for a slot, from the SHOW base as it stands (R10). -/
def Tracker.issueRecord (w : Windows) (slot : Fin 192) (t : Tracker) : Tracker × List Out :=
  let no := t.fetchCount + 1
  ({ t with
      fetchCount := no
      entries := t.entries.modify slot fun e => { e with fetch := .record, fetchNo := no } },
    [agentRead .record (w.showBase + BitVec.ofNat 32 (64 * slot.val)) 8 (.record slot no)])

/-- An entry in FREE, REJECTED or RETIRED remembers that state and enters FETCHING; any other keeps its state (R9). -/
def ShowEntry.enterFetching (e : ShowEntry) : ShowEntry :=
  match e.state with
  | .free | .rejected | .retired => { e with prior := e.state, state := .fetching }
  | _ => e

/-- A fetch begun by a beat or a refetch: the entry enters FETCHING where R9 says so, and the read is issued. -/
def Tracker.startFetch (w : Windows) (slot : Fin 192) (t : Tracker) : Tracker × List Out :=
  Tracker.issueRecord w slot { t with entries := t.entries.modify slot ShowEntry.enterFetching }

/-- A title fetch of the aligned beats that cover the title (R11). -/
def Tracker.issueTitle (slot : Fin 192) (t : Tracker) : Tracker × List Out :=
  let no := t.fetchCount + 1
  let f := (t.entries.get slot).fields
  ({ t with
      fetchCount := no
      entries := t.entries.modify slot fun e => { e with fetch := .title, fetchNo := no } },
    [agentRead .record (textBase f.titleAddr) (textBeats f.titleAddr f.titleLen) (.title slot no)])

/-- A due refetch: the flag is cleared, and a record fetch starts unless the SHOW base is 0 (R10). -/
def Tracker.refetch (w : Windows) (slot : Fin 192) (t : Tracker) : Tracker × List Out :=
  if (t.entries.get slot).refetch then
    let t' := { t with entries := t.entries.modify slot fun e => { e with refetch := false } }
    if w.showBase = 0 then (t', []) else Tracker.startFetch w slot t'
  else (t, [])

/-- The slot a control-word beat names, by the SHOW window as it stands; none where the beat is dropped (R9). -/
def Windows.showSlot (w : Windows) (a : Addr) : Option (Fin 192) :=
  if covers w.showBase showSize a then some (Fin.ofNat 192 ((a.toNat - w.showBase.toNat) / 64)) else none

/-- A control-word beat acts on its slot's entry (R9). -/
def Tracker.controlBeat (w : Windows) (slot : Fin 192) (t : Tracker) : Tracker × List Out :=
  match (t.entries.get slot).fetch with
  | .none => Tracker.startFetch w slot t
  | _ => ({ t with entries := t.entries.modify slot fun e => { e with refetch := true } }, [])

/-! ### Applying records (R12 to R18) -/

/-- Two maps share a byte (R12). -/
def mapsOverlap (a : Addr) (n : Nat) (b : Addr) (m : Nat) : Bool :=
  decide (a.toNat < b.toNat + 8 * mapBeats m) && decide (b.toNat < a.toNat + 8 * mapBeats n)

/-- Some other slot's live entry holds this show id (R12, DUPLICATE). -/
def Tracker.duplicate (t : Tracker) (slot : Fin 192) (id : Nat) : Bool :=
  (allFin 192).any fun i =>
    decide (i ≠ slot) && (t.entries.get i).state.live && decide ((t.entries.get i).id = id)

/-- The map shares a byte with the map of another slot's live entry that has seats tracked set (R12, MAP_OVERLAP). -/
def Tracker.overlaps (t : Tracker) (slot : Fin 192) (f : ShowFields) : Bool :=
  (allFin 192).any fun i =>
    let e := t.entries.get i
    decide (i ≠ slot) && e.state.live && e.fields.seatsTracked &&
      mapsOverlap f.mapAddr f.seatCount e.fields.mapAddr e.fields.seatCount

/-- The reject reason of a PUBLISH, NONE where it passes: the first check that fails, in the order of R12. -/
def Tracker.validate (t : Tracker) (w : Windows) (slot : Fin 192) (f : ShowFields) (err : Bool) : RejectReason :=
  if err then .memory
  else if f.id = 0 ∨ f.id = 65535 then .badId
  else if f.auditorium = 0 ∨ 24 < f.auditorium then .badAuditorium
  else if 1799 < f.start then .badStart
  else if t.duplicate slot f.id then .duplicate
  else if f.seatsTracked ∧ (f.seatCount = 0 ∨ 640 < f.seatCount ∨ f.mapAddr.toNat % 8 ≠ 0 ∨
      w.holdsMap f.mapAddr f.seatCount = false) then .badMap
  else if f.seatsTracked ∧ t.overlaps slot f then .mapOverlap
  else .none

/-- What applying a record does: the entry afterwards, what is sent, and whether a title fetch follows. -/
structure Applied where
  entry : ShowEntry
  outs : List Out
  title : Bool
  deriving DecidableEq, Repr

/-- The removal of a live show: its RELEASE if seats tracked was set, and its note marked REMOVED with its old id and state (R13, R15, R16, R24). -/
def removalOuts (slot : Fin 192) (e : ShowEntry) (new : ShowState) : List Out :=
  (if e.fields.seatsTracked then [.seats (.release slot)] else []) ++
    noteOuts { slot := slot, id := e.fields.id, old := e.state, new := new, change := removedSet }

/-- The clock minute and the policies evaluation uses (R7). -/
structure EvalAt where
  minute : Nat
  grace : Nat
  display : Nat
  deriving DecidableEq, Repr

/-- Does the entry's title call for a fetch (R11)? -/
def ShowFields.wantsTitle (f : ShowFields) : Bool := textFits f.titleAddr f.titleLen

/-- A PUBLISH applied as a new show (R13). -/
def publishNew (at_ : EvalAt) (slot : Fin 192) (e : ShowEntry) (f : ShowFields) : Applied :=
  let fresh : ShowEntry :=
    { e with state := .onSale, fields := f, reason := .none, delay := 0, effStart := f.start,
             cancelMinute := none, title := [] }
  let e' := fresh.evaluate at_.minute at_.grace at_.display
  let old := if e.state.visible then ShowState.free else e.state
  { entry := e'
    outs := (if e.state.visible then removalOuts slot e .free else []) ++
      (if e'.wants then [bindOut slot e'] else []) ++
      noteOuts { slot := slot, id := f.id, old := old, new := e'.state, change := stateOnly }
    title := f.wantsTitle }

/-- A PUBLISH applied as an update of a live show of the same id (R14). -/
def publishUpdate (at_ : EvalAt) (slot : Fin 192) (e : ShowEntry) (f : ShowFields) : Applied :=
  let retitled := decide (e.fields.titleLen ≠ f.titleLen ∨ e.fields.titleAddr ≠ f.titleAddr)
  let updated : ShowEntry :=
    { e with fields := f, reason := .none, effStart := f.start + e.delay,
             title := if retitled then [] else e.title }
  let e' := updated.evaluate at_.minute at_.grace at_.display
  { entry := e'
    outs := seatOuts slot e e' ++ diffNote slot e e'
    title := retitled && f.wantsTitle }

/-- A PUBLISH that fails validation (R15). An entry RETIRED by evaluation while its record was read is treated as one in FETCHING is (read from the spec by inference, notes/assumptions/59.md). -/
def publishReject (slot : Fin 192) (e : ShowEntry) (reason : RejectReason) : Applied :=
  let e' : ShowEntry :=
    { e with state := .rejected, reason := reason, delay := 0, effStart := e.fields.start, cancelMinute := none }
  { entry := e'
    outs := .event .recordRejected ::
      (if e.state.visible then removalOuts slot e .rejected
       else noteOuts { slot := slot, id := 0, old := e.state, new := .rejected, change := stateOnly })
    title := false }

/-- An UNLIST action (R16). An entry RETIRED by evaluation while its record was read is treated as one in FETCHING is (read from the spec by inference, notes/assumptions/59.md). -/
def applyUnlist (slot : Fin 192) (e : ShowEntry) : Applied :=
  let e' : ShowEntry :=
    { e with state := .free, reason := .none, title := [], delay := 0, effStart := e.fields.start,
             cancelMinute := none }
  { entry := e'
    outs := if e.state.visible then removalOuts slot e .free
            else noteOuts { slot := slot, id := 0, old := e.state, new := .free, change := stateOnly }
    title := false }

/-- A selling or started show becomes CANCELLED (R17, R21): its cancel minute is the clock minute, a RELEASE goes out if seats tracked is set, and a note with STATE. -/
def cancelShow (minute : Nat) (slot : Fin 192) (e : ShowEntry) : ShowEntry × List Out :=
  let e' : ShowEntry := { e with state := .cancelled, cancelMinute := some minute }
  (e', (if e.fields.seatsTracked then [.seats (.release slot)] else []) ++ diffNote slot e e')

/-- An entry in FETCHING returns to its prior state (R17, R18). -/
def ShowEntry.leaveFetching (e : ShowEntry) : ShowEntry :=
  if e.state = .fetching then { e with state := e.prior } else e

/-- A CANCEL action read from a record (R17). -/
def applyCancel (minute : Nat) (slot : Fin 192) (e : ShowEntry) : Applied :=
  if e.state.selling then
    let p := cancelShow minute slot e
    { entry := p.1, outs := p.2, title := false }
  else { entry := e.leaveFetching, outs := [.event .tooLate], title := false }

/-- A REINSTATE action (R18). -/
def applyReinstate (at_ : EvalAt) (slot : Fin 192) (e : ShowEntry) : Applied :=
  if e.state = .cancelled then
    let e' := ({ e with state := .onSale, cancelMinute := none } : ShowEntry).evaluate at_.minute at_.grace at_.display
    { entry := e', outs := seatOuts slot e e' ++ diffNote slot e e', title := false }
  else { entry := e.leaveFetching, outs := [], title := false }

/-- A record applied to its slot's entry (R10, R12 to R18). The generation is copied first, whatever the action, unless the response carried a memory error. -/
def Tracker.applyRecord (t : Tracker) (w : Windows) (at_ : EvalAt) (slot : Fin 192) (bs : List Byte) (err : Bool) :
    Applied :=
  let e0 := t.entries.get slot
  if err then publishReject slot e0 .memory
  else
    let e := { e0 with generation := showGeneration bs }
    match showAction bs with
    | .none => { entry := e.leaveFetching, outs := [], title := false }
    | .publish =>
      let f := showFields bs
      let reason := t.validate w slot f false
      if reason ≠ .none then publishReject slot e reason
      else if e.state.visible && decide (e.fields.id = f.id) then publishUpdate at_ slot e f
      else publishNew at_ slot e f
    | .unlist => applyUnlist slot e
    | .cancel => applyCancel at_.minute slot e
    | .reinstate => applyReinstate at_ slot e

/-- After a record is applied: the title fetch where one is called for, else a pending refetch (R10, R11). -/
def Tracker.afterRecord (w : Windows) (slot : Fin 192) (title : Bool) (t : Tracker) : Tracker × List Out :=
  if title then Tracker.issueTitle slot t else Tracker.refetch w slot t

/-- A record fetch's response is taken (R10): the fetch state is cleared, the record applied, the board order settled, and the slot's fetching continued. The note is that of the record as applied: where a pending refetch takes the entry back to FETCHING in the same event, it carries the state and id from before that, the model's choice (notes/assumptions/53.md). -/
def Tracker.recordDone (t : Tracker) (w : Windows) (at_ : EvalAt) (slot : Fin 192) (bs : List Byte) (err : Bool) :
    Tracker × List Out :=
  let t0 := { t with entries := t.entries.modify slot fun e => { e with fetch := .none } }
  let a := t0.applyRecord w at_ slot bs err
  andThen (Tracker.settle ({ t0 with entries := t0.entries.set slot a.entry }, a.outs))
    (Tracker.afterRecord w slot a.title)

/-- A title response is taken (R11): stored with a TITLE note unless it carried a memory error, and then a pending refetch. The note carries the state from before that refetch, the model's choice (notes/assumptions/53.md). -/
def Tracker.titleDone (t : Tracker) (w : Windows) (slot : Fin 192) (bs : List Byte) (err : Bool) : Tracker × List Out :=
  let e := t.entries.get slot
  let e' : ShowEntry :=
    { e with
      fetch := .none
      title := if err then e.title else textOf e.fields.titleAddr e.fields.titleLen bs }
  let note : List Out :=
    if err then []
    else noteOuts
      { slot := slot, id := e'.id, old := e.state, new := e'.state,
        change := { state := false, start := false, title := true, display := false, removed := false } }
  andThen ({ t with entries := t.entries.set slot e' }, note) (Tracker.refetch w slot)

/-! ### Effects from desks (R19 to R21) -/

/-- A show's delay changed: the effective start is recomputed and the show evaluated (R19, R20). -/
def ShowEntry.withDelay (at_ : EvalAt) (e : ShowEntry) (delay : Nat) : ShowEntry :=
  ({ e with delay := delay, effStart := e.fields.start + delay } : ShowEntry).evaluate at_.minute at_.grace at_.display

/-- One show of the table changed, with its seat requests and note, and the board order settled. -/
def Tracker.changeShow (t : Tracker) (slot : Fin 192) (e' : ShowEntry) : Tracker × List Out :=
  let e := t.entries.get slot
  Tracker.settle ({ t with entries := t.entries.set slot e' }, seatOuts slot e e' ++ diffNote slot e e')

/-- ON_SALE or CLOSING: the states in which a delay can change (R19, R20). -/
def ShowState.sellingNow : ShowState → Bool
  | .onSale | .closing => true
  | _ => false

/-- A DELAY effect (R19). -/
def Tracker.delayEffect (t : Tracker) (at_ : EvalAt) (id minutes : Nat) : Tracker × List Out :=
  match t.findShow id with
  | none => (t, [.notices (.answer .noShow)])
  | some slot =>
    let e := t.entries.get slot
    if e.state.sellingNow then
      let delay := min 240 (e.delay + minutes)
      if delay = e.delay then (t, [.notices (.answer (.done 0))])
      else
        let p := t.changeShow slot (e.withDelay at_ delay)
        (p.1, .notices (.answer (.done (delay - e.delay))) :: p.2)
    else (t, [.event .tooLate, .notices (.answer .tooLate)])

/-- An UNDELAY effect (R20). -/
def Tracker.undelayEffect (t : Tracker) (at_ : EvalAt) (id minutes : Nat) : Tracker × List Out :=
  match t.findShow id with
  | none => (t, [.notices (.answer .noShow)])
  | some slot =>
    let e := t.entries.get slot
    if e.state.sellingNow then
      let delay := e.delay - minutes
      let p := t.changeShow slot (e.withDelay at_ delay)
      (p.1, .notices (.answer (.done (e.delay - delay))) :: p.2)
    else (t, [.notices (.answer .notApplied)])

/-- A CANCEL effect (R21). The DONE answer goes to the Notice Unit before the show's CANCELLED note, the model's choice (notes/assumptions/40.md). -/
def Tracker.cancelEffect (t : Tracker) (id : Nat) : Tracker × List Out :=
  match t.findShow id with
  | none => (t, [.notices (.answer .noShow)])
  | some slot =>
    let e := t.entries.get slot
    if e.state.selling then
      let p := cancelShow t.minute slot e
      let q := Tracker.settle ({ t with entries := t.entries.set slot p.1 }, p.2)
      (q.1, .notices (.answer (.done 0)) :: q.2)
    else (t, [.event .tooLate, .notices (.answer .tooLate)])

/-! ### The commands -/

/-- The clock minute and policies as they stand. -/
def State.evalAt (s : State) : EvalAt :=
  { minute := s.tracker.minute, grace := s.params.grace, display := s.params.cancelDisplay }

/-- The tracker's new state put in place and what it sends sent. -/
def State.trackerDo (s : State) (p : Tracker × List Out) : State := (s.withTracker p.1).emit p.2

/-- The oldest response handed to the tracker leaves its inbox. -/
def State.popTracker (s : State) : State :=
  s.withMail { s.mail with trackerResp := s.mail.trackerResp.tail }

/-- The oldest effect leaves its inbox. -/
def State.popEffect (s : State) : State := s.withMail { s.mail with effects := s.mail.effects.tail }

/-- CONTROL_WORD_BEAT (R9). -/
def controlWordBeat (s : State) : State :=
  match s.intakes.shows with
  | [] => s
  | b :: rest =>
    let s' := s.withIntakes { s.intakes with shows := rest }
    match s.path.windows.showSlot b.addr with
    | none => s'
    | some slot => s'.trackerDo (s.tracker.controlBeat s.path.windows slot)

/-- RECORD_FETCH_DONE (R10). A response whose fetch was abandoned is discarded (R3). -/
def recordFetchDone (s : State) : State :=
  match s.mail.trackerResp with
  | { tag := .record slot no, data := data, err := err } :: _ =>
    let e := s.tracker.entries.get slot
    if e.fetch = .record ∧ e.fetchNo = no then
      s.popTracker.trackerDo (s.tracker.recordDone s.path.windows s.evalAt slot (beatsBytes data) err)
    else s.popTracker
  | _ => s

/-- TITLE_FETCH_DONE (R11). A response whose fetch was abandoned is discarded (R3). -/
def titleFetchDone (s : State) : State :=
  match s.mail.trackerResp with
  | { tag := .title slot no, data := data, err := err } :: _ =>
    let e := s.tracker.entries.get slot
    if e.fetch = .title ∧ e.fetchNo = no then
      s.popTracker.trackerDo (s.tracker.titleDone s.path.windows slot (beatsBytes data) err)
    else s.popTracker
  | _ => s

/-- DELAY_EFFECT (R19). -/
def delayEffect (s : State) : State :=
  match s.mail.effects with
  | .delay id minutes :: _ => s.popEffect.trackerDo (s.tracker.delayEffect s.evalAt id minutes)
  | _ => s

/-- UNDELAY_EFFECT (R20). -/
def undelayEffect (s : State) : State :=
  match s.mail.effects with
  | .undelay id minutes :: _ => s.popEffect.trackerDo (s.tracker.undelayEffect s.evalAt id minutes)
  | _ => s

/-- CANCEL_EFFECT (R21). -/
def cancelEffect (s : State) : State :=
  match s.mail.effects with
  | .cancel id :: _ => s.popEffect.trackerDo (s.tracker.cancelEffect id)
  | _ => s

def execControlWordBeat (s : State) : Host.Outcome State Fault Refusal := goOn s (controlWordBeat s)
def execRecordFetchDone (s : State) : Host.Outcome State Fault Refusal := goOn s (recordFetchDone s)
def execTitleFetchDone (s : State) : Host.Outcome State Fault Refusal := goOn s (titleFetchDone s)
def execDelayEffect (s : State) : Host.Outcome State Fault Refusal := goOn s (delayEffect s)
def execUndelayEffect (s : State) : Host.Outcome State Fault Refusal := goOn s (undelayEffect s)
def execCancelEffect (s : State) : Host.Outcome State Fault Refusal := goOn s (cancelEffect s)

end Sys2Proof.Machine
end

