-- ==== Sys2Proof/Machine/Clock.lean ====
section
/-! DEFINITION. The lobby clock (spec/01, R1 to R4): second advance, minute boundary, DAY_OPEN and CLOCK_SET at the tracker. -/

namespace Sys2Proof.Machine

/-- The last second of the business day (R1). -/
def lastSecond : Nat := 107999

/-- One tick of a running clock below its last second (R1). -/
def Tracker.tick (t : Tracker) : Tracker :=
  if t.run && decide (t.seconds < lastSecond) then { t with millis := t.millis + 1 } else t

/-- The seconds count advances (R1): the millisecond count returns to 0, CLOCK_HELD is raised on reaching 107,999, and a multiple of 60 makes a minute boundary due (R2). -/
def Tracker.advance (t : Tracker) : Tracker × List Out :=
  let sec := t.seconds + 1
  ({ t with
      seconds := sec
      millis := 0
      held := t.held || decide (sec = lastSecond)
      minuteDue := t.minuteDue || decide (sec % 60 = 0) },
    if sec = lastSecond then [.event .clockHeld] else [])

/-- A seconds count set by DAY_OPEN or CLOCK_SET (R3, R4): clamped to 107,999, the millisecond count 0, the held mark as the value says. A boundary still due is overtaken, and so is a second that a tick has completed and whose SECOND_ADVANCE is not yet taken: it is dropped with no advance and no CLOCK_HELD of its own (the model's choice, notes/assumptions/6.md). -/
def Tracker.setClock (t : Tracker) (value : Nat) : Tracker :=
  { t with
    seconds := min value lastSecond
    millis := 0
    held := decide (min value lastSecond = lastSecond)
    minuteDue := false }

/-- CLOCK_HELD where a set value is the last second (R3, R4). -/
def heldOuts (value : Nat) : List Out := if min value lastSecond = lastSecond then [.event .clockHeld] else []

/-- The tracker's part of DAY_OPEN (R3): REMOVED notes for every live entry, all entries FREE, the board order emptied, the clock set and started. -/
def Tracker.dayOpen (t : Tracker) (value : Nat) : Tracker × List Out :=
  let removed := (allFin 192).flatMap fun i =>
    let e := t.entries.get i
    if e.state.live then noteOuts { slot := i, id := e.id, old := e.state, new := .free, change := removedSet } else []
  let t' := { t.setClock value with entries := Table.replicate 192 ShowEntry.reset, board := [], run := true }
  (t', removed ++ boardOuts t.board [] ++ heldOuts value ++ minuteOuts t'.minute)

/-- The tracker's part of CLOCK_SET (R4): the clock set, every live show evaluated, a minute note. -/
def Tracker.clockSet (t : Tracker) (g d value : Nat) : Tracker × List Out :=
  let p := (t.setClock value).evaluateAll g d
  (p.1, p.2 ++ heldOuts value ++ minuteOuts p.1.minute)

/-- A minute boundary at the tracker (R2). -/
def Tracker.boundary (t : Tracker) (g d : Nat) : Tracker × List Out :=
  let p := ({ t with minuteDue := false } : Tracker).evaluateAll g d
  (p.1, p.2 ++ minuteOuts p.1.minute)

/-- The outcome of DAY_OPEN and CLOCK_SET (R171). -/
def clockOutcome (value : Nat) : Outcome := if value > lastSecond then .clamped else .applied

/-- SECOND_ADVANCE (R1): taken when a tick has brought the millisecond count to 1,000. -/
def secondAdvance (s : State) : State :=
  if 1000 ≤ s.tracker.millis ∧ s.tracker.seconds < lastSecond then s.trackerDo s.tracker.advance else s

/-- MINUTE_BOUNDARY (R2). -/
def minuteBoundary (s : State) : State :=
  if s.tracker.minuteDue then s.trackerDo (s.tracker.boundary s.params.grace s.params.cancelDisplay) else s

/-- DAY_OPEN (R3, R171): the tracker takes the command at once. It stands in the tracker's stream to the Seat Tally Unit (R28) and waits at the Notice Unit and the Composition Unit. The result follows when all four have taken it. -/
def dayOpen (s : State) : State :=
  match s.entry with
  | some e =>
    match e.row with
    | .dayOpen =>
      let s1 := s.takeEntry
      let s2 := s1.withSetup
        { s1.setup with
          dayOpen := some
            { index := e.index, value := e.argument, outcome := clockOutcome e.argument.toNat,
              seats := true, notices := true, comp := true } }
      let s3 := (s2.withMail { s2.mail with dayOpenNotices := true, dayOpenComp := true }).emit [.seats .dayOpen]
      s3.trackerDo (s3.tracker.dayOpen e.argument.toNat)
    | _ => s
  | none => s

/-- DAY_OPEN's answer: once no unit has still to take the command, the result is written (R171). -/
def State.dayOpenAnswer (s : State) (w : DayOpenWait) : State :=
  if w.seats || w.notices || w.comp then s.withSetup { s.setup with dayOpen := some w }
  else (s.withSetup { s.setup with dayOpen := none }).result w.index w.value w.outcome

/-- The Seat Tally Unit has taken DAY_OPEN. -/
def State.dayOpenSeats (s : State) : State :=
  match s.setup.dayOpen with
  | some w => s.dayOpenAnswer { w with seats := false }
  | none => s

/-- The Notice Unit has taken DAY_OPEN. -/
def State.dayOpenNotices (s : State) : State :=
  match s.setup.dayOpen with
  | some w => s.dayOpenAnswer { w with notices := false }
  | none => s

/-- The Composition Unit has taken DAY_OPEN. -/
def State.dayOpenComp (s : State) : State :=
  match s.setup.dayOpen with
  | some w => s.dayOpenAnswer { w with comp := false }
  | none => s

/-- CLOCK_SET (R4, R171). -/
def clockSet (s : State) : State :=
  match s.entry with
  | some e =>
    match e.row with
    | .clockSet =>
      let v := e.argument.toNat
      (s.takeEntry.trackerDo (s.tracker.clockSet s.params.grace s.params.cancelDisplay v)).result
        e.index e.argument (clockOutcome v)
    | _ => s
  | none => s

def execSecondAdvance (s : State) : Host.Outcome State Fault Refusal := goOn s (secondAdvance s)
def execMinuteBoundary (s : State) : Host.Outcome State Fault Refusal := goOn s (minuteBoundary s)
def execDayOpen (s : State) : Host.Outcome State Fault Refusal := goOn s (dayOpen s)
def execClockSet (s : State) : Host.Outcome State Fault Refusal := goOn s (clockSet s)

end Sys2Proof.Machine
end

