-- ==== Sys2Proof/Machine/Seats.lean ====
section
/-! DEFINITION. The Seat Tally Unit (spec/02, R25 to R51, and R160): binding and the wait list, sweeps, beats against the cursors, and availability. -/

namespace Sys2Proof.Machine

/-! ### Seats of a beat (R25, R42, R183) -/

/-- The code of seat j of a beat, j = 0..31 (R25): bits 2j and 2j + 1, which are bits 2 (j mod 4) and 2 (j mod 4) + 1 of byte j / 4. -/
def seatCode (b : Beat) (j : Nat) : BitVec 2 := b.extractLsb' (2 * j) 2

/-- One more seat of a code (R25). -/
def Tallies.inc (t : Tallies) (code : BitVec 2) : Tallies :=
  match code.toNat with
  | 0 => { t with free := t.free + 1 }
  | 1 => { t with held := t.held + 1 }
  | 2 => { t with sold := t.sold + 1 }
  | _ => { t with off := t.off + 1 }

/-- One seat of a code less (R42). -/
def Tallies.dec (t : Tallies) (code : BitVec 2) : Tallies :=
  match code.toNat with
  | 0 => { t with free := t.free - 1 }
  | 1 => { t with held := t.held - 1 }
  | 2 => { t with sold := t.sold - 1 }
  | _ => { t with off := t.off - 1 }

/-- How many of a beat's seats lie below N (R26). -/
def seatsInBeat (count beat : Nat) : Nat := min 32 (count - 32 * beat)

/-- A beat's seats below N counted into the tallies (R37). -/
def Tallies.countBeat (t : Tallies) (count beat : Nat) (d : Beat) : Tallies :=
  (List.range (seatsInBeat count beat)).foldl (fun t j => t.inc (seatCode d j)) t

/-- A write's enabled seats below N compared with the shadow, seat by seat (R42). -/
def Tallies.delta (t : Tallies) (count beat : Nat) (old new : Beat) (enables : BitVec 8) : Tallies :=
  (List.range (seatsInBeat count beat)).foldl
    (fun t j =>
      if enables.getLsbD (j / 4) ∧ seatCode old j ≠ seatCode new j then
        (t.dec (seatCode old j)).inc (seatCode new j)
      else t) t

/-! ### Availability (R45 to R49) -/

/-- The low threshold in use (R45). -/
def Params.lowInUse (p : Params) : Nat := if p.low ≥ p.high then p.high - 1 else p.low

/-- Available A (R46). -/
def Params.available (p : Params) (t : Tallies) : Nat := if p.heldTaken then t.free else t.free + t.held

/-- Percent P (R46): 0 where C is 0, else remaining × 100 / C rounded down. -/
def percentOf (remaining sellable : Nat) : Nat := if sellable = 0 then 0 else remaining * 100 / sellable

/-- The raw band (R47). -/
def Params.rawBand (p : Params) (sellable remaining percent : Nat) : Band :=
  if sellable = 0 then .soldOut
  else if remaining = 0 then .soldOut
  else if remaining ≤ p.few ∨ percent < p.lowInUse then .few
  else if percent < p.high then .filling
  else .plenty

/-- The entry test of a band (R48). -/
def Params.entryTest (p : Params) (percent : Nat) : Band → Bool
  | .filling => decide (percent ≥ p.lowInUse + p.hysteresis)
  | .plenty => decide (percent ≥ p.high + p.hysteresis)
  | _ => true

/-- The new band (R48): down at once, up only past the margin, and out of SOLD_OUT only with Z seats. Bands rank by their codes (R47). -/
def Params.newBand (p : Params) (raw previous : Band) (remaining percent : Nat) : Band :=
  if previous = .none then raw
  else if raw.code ≤ previous.code then raw
  else if previous = .soldOut ∧ remaining < p.reopen then .soldOut
  else
    (([Band.plenty, .filling, .few].filter fun b => decide (b.code ≤ raw.code ∧ previous.code < b.code)).find?
      (p.entryTest percent)).getD previous

/-- The displayed figure and plus mark (R49). -/
def Params.figure (p : Params) (band : Band) (remaining : Nat) : Figure :=
  if band = .soldOut then { band := band, shown := 0, plus := false }
  else if remaining ≤ p.exact then { band := band, shown := remaining, plus := false }
  else { band := band, shown := remaining / 10 * 10, plus := true }

/-- The availability of a slot's tallies with a previous band (R46 to R49). -/
def Params.availability (p : Params) (t : Tallies) (count holdback : Nat) (previous : Band) : Figure :=
  let remaining := p.available t - holdback
  let sellable := count - t.off - holdback
  let percent := percentOf remaining sellable
  p.figure (p.newBand (p.rawBand sellable remaining percent) previous remaining percent) remaining

/-- The slot holds back more seats than remain (R46). -/
def Params.isShort (p : Params) (t : Tallies) (holdback : Nat) : Bool := decide (p.available t < holdback)

/-! ### Slots (R27, R35) -/

/-- A slot returned to UNBOUND, its binding number advanced (R28, R31, R40). -/
def SeatSlot.unbind (sl : SeatSlot) : SeatSlot := { SeatSlot.reset with binding := sl.binding + 1 }

/-- A sweep's start (R35). -/
def SeatSlot.startSweep (sl : SeatSlot) : SeatSlot :=
  { sl with
    state := .sweeping
    binding := sl.binding + 1
    issue := 0
    fill := 0
    tallies := Tallies.zero
    retries := 0
    shadow := sl.shadow.map fun b => { b with reading := false, reread := false }
    figure := Figure.none
    short := false }

/-- SWEEPING or COUNTING (R41). -/
def SeatSlot.active (sl : SeatSlot) : Bool := decide (sl.state ≠ .unbound)

/-- The slot's map contains the address (R41). -/
def SeatSlot.holds (sl : SeatSlot) (a : Addr) : Bool :=
  sl.active && decide (sl.map.toNat ≤ a.toNat) && decide (a.toNat < sl.map.toNat + 8 * sl.beats)

/-- Beat k of the shadow. -/
def SeatSlot.beat (sl : SeatSlot) (k : Nat) : SeatBeat := sl.shadow.get (Fin.ofNat 20 k)

/-- Beat k of the shadow changed. -/
def SeatSlot.setBeat (sl : SeatSlot) (k : Nat) (b : SeatBeat) : SeatSlot :=
  { sl with shadow := sl.shadow.set (Fin.ofNat 20 k) b }

/-- The slot that follows a show. -/
def Seats.slotOf (q : Seats) (show_ : Fin 192) : Option (Fin 64) :=
  (allFin 64).find? fun i => (q.slots.get i).active && decide ((q.slots.get i).bound = some show_)

/-- The show waits for a slot. -/
def Seats.isWaiting (q : Seats) (show_ : Fin 192) : Bool := q.waiting.any fun w => decide (w.show_ = show_)

/-- The lowest-numbered UNBOUND slot (R30). -/
def Seats.freeSlot (q : Seats) : Option (Fin 64) :=
  (allFin 64).find? fun i => decide ((q.slots.get i).state = .unbound)

/-- The slot whose map contains an address (R41). -/
def Seats.slotAt (q : Seats) (a : Addr) : Option (Fin 64) := (allFin 64).find? fun i => (q.slots.get i).holds a

/-- A slot replaced by one whose binding number has advanced: every pending reissue of the slot is removed (R36). -/
def Seats.rebind (q : Seats) (i : Fin 64) (sl : SeatSlot) : Seats :=
  { q with slots := q.slots.set i sl, reissues := q.reissues.filter fun r => decide (r.slot ≠ i) }

/-- The seats-changed note of a slot whose band, figure or plus mark differ, and SOLD_OUT_REACHED on a new SOLD_OUT (R51). The note carries the show id that the entry then holds, the model's choice where the entry has meanwhile lost or replaced its show (notes/assumptions/42.md). -/
def figureOuts (s : State) (show_ : Fin 192) (old new : Figure) (status : SeatStatus) : List Out :=
  if old = new then []
  else
    .seatsNote
      { show_ := show_, id := (s.tracker.entries.get show_).id, old := old.band, new := new.band,
        shown := new.shown, plus := new.plus, status := status } ::
      (if new.band = .soldOut ∧ old.band ≠ .soldOut then [.event .soldOutReached] else [])

/-- The note of a slot, which names no show while the slot has none. -/
def SeatSlot.noteOuts (s : State) (sl : SeatSlot) (new : Figure) (status : SeatStatus) : List Out :=
  match sl.bound with
  | some show_ => figureOuts s show_ sl.figure new status
  | none => []

/-- A write of the bound show's seat status and bound slot number (R31, R40). -/
def SeatSlot.statusOuts (sl : SeatSlot) (status : SeatStatus) (slot : Option (Fin 64)) : List Out :=
  match sl.bound with
  | some show_ => [.entrySeat show_ status slot]
  | none => []

/-- A write of the bound show's seat status alone (R33, R35, R38). -/
def SeatSlot.statusAlone (sl : SeatSlot) (status : SeatStatus) : List Out :=
  match sl.bound with
  | some show_ => [.entryStatus show_ status]
  | none => []

/-- The availability of slot i computed with a previous band (R45), its results stored, and the note sent (R51). -/
def Seats.compute (s : State) (i : Fin 64) (previous : Band) (q : Seats) : Seats × List Out :=
  let sl := q.slots.get i
  let short := s.params.isShort sl.tallies sl.holdback
  let fig := s.params.availability sl.tallies sl.count sl.holdback previous
  ({ q with
      slots := q.slots.set i { sl with figure := fig, short := short }
      shortCount := if short && !sl.short then sat16 q.shortCount else q.shortCount },
    sl.noteOuts s fig .counting)

/-! ### Binding, release and the wait list (R30 to R34) -/

/-- A show bound to a slot, and the slot's sweep started (R30, R32). -/
def Seats.bindSlot (i : Fin 64) (w : WaitEntry) (q : Seats) : Seats × List Out :=
  let sl := q.slots.get i
  (q.rebind i
      ({ sl with bound := some w.show_, map := w.map, count := w.count, beats := mapBeats w.count,
                 holdback := w.holdback } : SeatSlot).startSweep,
    [.entrySeat w.show_ .sweeping (some i)])

/-- The place of two wait-list entries: by effective start, then show slot (R34). -/
def waitBefore (a b : WaitEntry) : Bool :=
  decide (a.effStart < b.effStart ∨ (a.effStart = b.effStart ∧ a.show_.val ≤ b.show_.val))

/-- A show that is neither bound nor waiting is bound to the lowest UNBOUND slot, or joins the wait list (R30). -/
def Seats.place (w : WaitEntry) (q : Seats) : Seats × List Out :=
  match q.freeSlot with
  | some i => q.bindSlot i w
  | none =>
    ({ q with waiting := insertBy waitBefore w q.waiting },
      [.entrySeat w.show_ .waiting none, .event .slotsExhausted])

/-- A freed slot is offered to the wait list (R32). -/
def Seats.offer (q : Seats) : Seats × List Out :=
  match q.waiting with
  | [] => (q, [])
  | w :: rest =>
    match q.freeSlot with
    | some i => ({ q with waiting := rest } : Seats).bindSlot i w
    | none => (q, [])

/-- A wait-list entry changed in place. -/
def Seats.mapWaiting (show_ : Fin 192) (f : WaitEntry → WaitEntry) (q : Seats) : Seats :=
  { q with waiting := q.waiting.map fun w => if w.show_ = show_ then f w else w }

/-- A bound slot's sweep restarted, with the previous band forgotten (R33, R35, R160): seat status SWEEPING is written, the bound slot number left as it is, and a note goes out if the band was not NONE. -/
def Seats.restart (s : State) (i : Fin 64) (sl : SeatSlot) (q : Seats) : Seats × List Out :=
  (q.rebind i sl.startSweep,
    sl.statusAlone .sweeping ++ sl.noteOuts s Figure.none .sweeping)

/-- A REMAP (R33). A show that is neither bound nor waiting is placed with the holdback that its entry holds when the REMAP is taken, and with the effective start that the entry then holds, which the request does not carry (the model's choice, notes/assumptions/60.md). -/
def Seats.remap (s : State) (show_ : Fin 192) (map : Addr) (count : Nat) (q : Seats) : Seats × List Out :=
  match q.slotOf show_ with
  | some i => q.restart s i { q.slots.get i with map := map, count := count, beats := mapBeats count }
  | none =>
    if q.isWaiting show_ then (q.mapWaiting show_ fun w => { w with map := map, count := count }, [])
    else
      let e := s.tracker.entries.get show_
      q.place { show_ := show_, effStart := e.effStart, map := map, count := count, holdback := e.fields.holdback }

/-- A HOLDBACK (R33). -/
def Seats.setHoldback (s : State) (show_ : Fin 192) (k : Nat) (q : Seats) : Seats × List Out :=
  match q.slotOf show_ with
  | some i =>
    let sl := q.slots.get i
    let q' := { q with slots := q.slots.set i { sl with holdback := k } }
    if sl.state = .counting then q'.compute s i sl.figure.band else (q', [])
  | none => (q.mapWaiting show_ fun w => { w with holdback := k }, [])

/-- A BIND (R30). -/
def Seats.bind (s : State) (w : WaitEntry) (q : Seats) : Seats × List Out :=
  if (q.slotOf w.show_).isSome || q.isWaiting w.show_ then
    andThen (q.remap s w.show_ w.map w.count) (Seats.setHoldback s w.show_ w.holdback)
  else q.place w

/-- A slot freed: it returns to UNBOUND, NONE is written, a note goes out if the band was not NONE, and the slot is offered to the wait list (R26, R31, R32, R40). -/
def Seats.free (s : State) (i : Fin 64) (q : Seats) : Seats × List Out :=
  let sl := q.slots.get i
  andThen
    (q.rebind i sl.unbind, sl.statusOuts .none none ++ sl.noteOuts s Figure.none .none)
    Seats.offer

/-- A RELEASE (R31). -/
def Seats.release (s : State) (show_ : Fin 192) (q : Seats) : Seats × List Out :=
  match q.slotOf show_ with
  | some i => q.free s i
  | none =>
    if q.isWaiting show_ then
      ({ q with waiting := q.waiting.filter fun w => decide (w.show_ ≠ show_) }, [.entrySeat show_ .none none])
    else (q, [])

/-- A waiting show takes the effective start its entry now holds and moves to its new place (R34). -/
def Seats.replace (s : State) (show_ : Fin 192) (q : Seats) : Seats :=
  match q.waiting.find? fun w => decide (w.show_ = show_) with
  | some w =>
    { q with
      waiting := insertBy waitBefore { w with effStart := (s.tracker.entries.get show_).effStart }
        (q.waiting.filter fun x => decide (x.show_ ≠ show_)) }
  | none => q

/-- DAY_OPEN at the unit (R28): every slot UNBOUND with its binding number advanced, the wait list and the reissues emptied; the short count and the burst pointer kept. -/
def Seats.dayOpen (q : Seats) : Seats :=
  { q with slots := q.slots.map SeatSlot.unbind, waiting := [], reissues := [] }

/-- Maps that no longer lie wholly inside the enabled SEAT window (R26): waiting shows leave the list first, then each slot returns to UNBOUND and is offered. The slots are taken in slot order, each offered before the next is freed, the model's choice (notes/assumptions/41.md). -/
def Seats.mapsLeft (s : State) (w : Windows) (q : Seats) : Seats × List Out :=
  let gone := q.waiting.filter fun x => !w.holdsMap x.map x.count
  andThen
    ({ q with waiting := q.waiting.filter fun x => w.holdsMap x.map x.count },
      gone.map fun x => .entrySeat x.show_ .none none)
    (forAll (allFin 64) fun i q =>
      let sl := q.slots.get i
      if sl.active && !w.holdsMap sl.map sl.count then q.free s i else (q, []))

/-! ### Sweeps (R36 to R40) -/

/-- The SWEEP read of some beats of a slot (R36). -/
def SeatSlot.readOut (i : Fin 64) (sl : SeatSlot) (first count : Nat) : Out :=
  agentRead .sweep (beatAddr sl.map first) count (.sweep i sl.binding first count)

/-- The slot whose turn it is for a burst: the first after the burst pointer, wrapping, that is SWEEPING with beats to read (R36). -/
def Seats.burstSlot (q : Seats) : Option (Fin 64) :=
  ((allFin 64).map fun k => wrapAdd q.burst (k.val + 1)).find? fun i =>
    decide ((q.slots.get i).state = .sweeping) && decide ((q.slots.get i).issue < (q.slots.get i).beats)

/-- The read-in-flight flags of consecutive beats set (R36). -/
def SeatSlot.markReading (sl : SeatSlot) (first count : Nat) : SeatSlot :=
  (List.range count).foldl (fun sl j => sl.setBeat (first + j) { sl.beat (first + j) with reading := true }) sl

/-- The next SWEEP read issued (R36): the oldest pending reissue, else a burst of up to 8 beats. -/
def Seats.issueRead (q : Seats) : Seats × List Out :=
  if 4 ≤ q.inFlight then (q, [])
  else
    match q.reissues with
    | r :: rest =>
      ({ q with reissues := rest, inFlight := q.inFlight + 1 }, [(q.slots.get r.slot).readOut r.slot r.first r.count])
    | [] =>
      match q.burstSlot with
      | some i =>
        let sl := q.slots.get i
        let count := min 8 (sl.beats - sl.issue)
        ({ q with
            slots := q.slots.set i { sl.markReading sl.issue count with issue := sl.issue + count }
            burst := i
            inFlight := q.inFlight + 1 },
          [sl.readOut i sl.issue count])
      | none => (q, [])

/-- One beat of a response taken (R37): discarded and queued again where its reread flag is set, else stored. -/
def Seats.takeBeat (i : Fin 64) (k : Nat) (d : Beat) (q : Seats) : Seats :=
  let sl := q.slots.get i
  let b := sl.beat k
  if b.reread then
    { q with
      slots := q.slots.set i (sl.setBeat k { b with reread := false })
      reissues := q.reissues ++ [{ slot := i, first := k, count := 1 }] }
  else { q with slots := q.slots.set i (sl.setBeat k { b with data := d, reading := false }) }

/-- A response's beats taken in address order (R37). -/
def Seats.takeBeats (i : Fin 64) (first : Nat) (data : List Beat) (q : Seats) : Seats :=
  (data.zipIdx).foldl (fun q (p : Beat × Nat) => q.takeBeat i (first + p.2) p.1) q

/-- The fill cursor moved past held beats, counting each (R37), for at most n beats. -/
def SeatSlot.advanceFill : Nat → SeatSlot → SeatSlot
  | 0, sl => sl
  | n + 1, sl =>
    if sl.fill < sl.issue ∧ (sl.beat sl.fill).reading = false then
      SeatSlot.advanceFill n
        { sl with
          tallies := sl.tallies.countBeat sl.count sl.fill (sl.beat sl.fill).data
          fill := sl.fill + 1 }
    else sl

/-- A complete sweep enters COUNTING (R38): seat status COUNTING is written, the bound slot number left as it is, the availability computed with no previous band, and the note sent. -/
def Seats.complete (s : State) (i : Fin 64) (q : Seats) : Seats × List Out :=
  let sl := q.slots.get i
  if sl.state = .sweeping ∧ sl.fill = sl.beats then
    andThen
      ({ q with slots := q.slots.set i { sl with state := .counting } }, sl.statusAlone .counting)
      (Seats.compute s i .none)
  else (q, [])

/-- A memory error on a matching SWEEP read (R39): one retry more, and a reissue or the sweep given up (R40). -/
def Seats.sweepError (s : State) (i : Fin 64) (first count : Nat) (q : Seats) : Seats × List Out :=
  let sl := q.slots.get i
  let retries := sl.retries + 1
  if retries < 3 then
    let sl' := (List.range count).foldl
      (fun sl j => sl.setBeat (first + j) { sl.beat (first + j) with reread := false }) { sl with retries := retries }
    ({ q with
        slots := q.slots.set i sl'
        reissues := q.reissues ++ [{ slot := i, first := first, count := count }] }, [])
  else q.free s i

/-- A SWEEP response taken (R37). -/
def Seats.readDone (s : State) (i : Fin 64) (binding : BitVec 8) (first count : Nat) (data : List Beat) (err : Bool)
    (q : Seats) : Seats × List Out :=
  let q0 := { q with inFlight := q.inFlight - 1 }
  if (q.slots.get i).binding ≠ binding then (q0, [])
  else if err then q0.sweepError s i first count
  else
    let q1 := q0.takeBeats i first data
    ({ q1 with slots := q1.slots.modify i (SeatSlot.advanceFill 20) } : Seats).complete s i

/-! ### Write beats (R41 to R44) -/

/-- A beat applied to the slot whose map holds it (R42, R43, R44). -/
def Seats.applyBeat (s : State) (i : Fin 64) (b : IntakeBeat) (q : Seats) : Seats × List Out :=
  let sl := q.slots.get i
  let k := (b.addr.toNat - sl.map.toNat) / 8
  let sb := sl.beat k
  if k < sl.fill then
    let tallies := sl.tallies.delta sl.count k sb.data b.data b.enables
    let q' :=
      { q with
        slots := q.slots.set i
          ({ sl with tallies := tallies }.setBeat k { sb with data := mergeBeat sb.data b.data b.enables }) }
    if tallies ≠ sl.tallies ∧ sl.state = .counting then q'.compute s i sl.figure.band else (q', [])
  else if k < sl.issue then
    if sb.reading then ({ q with slots := q.slots.set i (sl.setBeat k { sb with reread := true }) }, [])
    else
      ({ q with slots := q.slots.set i (sl.setBeat k { sb with data := mergeBeat sb.data b.data b.enables }) }, [])
  else (q, [])

/-- Every COUNTING slot recomputed, in slot order, with its band as the previous band (R50). -/
def Seats.recompute (s : State) (q : Seats) : Seats × List Out :=
  forAll (allFin 64)
    (fun i q =>
      let sl := q.slots.get i
      if sl.state = .counting then q.compute s i sl.figure.band else (q, [])) q

/-- The error completion of a passing write (R160): each slot whose map holds one of its beats restarts its sweep. The slots restart, and send their notes, in slot order, the model's choice (notes/assumptions/54.md). -/
def Seats.writeError (s : State) (beats : List Addr) (q : Seats) : Seats × List Out :=
  forAll (allFin 64)
    (fun i q =>
      let sl := q.slots.get i
      if beats.any sl.holds then q.restart s i sl else (q, [])) q

/-! ### The commands -/

/-- The unit's new state put in place and what it sends sent. -/
def State.seatsDo (s : State) (p : Seats × List Out) : State := (s.withSeats p.1).emit p.2

/-- The oldest message of the tracker leaves the unit's inbox. -/
def State.popSeatMsg (s : State) : State := s.withMail { s.mail with toSeats := s.mail.toSeats.tail }

/-- BIND (R30). -/
def bind (s : State) : State :=
  match s.mail.toSeats with
  | .bind show_ map count holdback effStart :: _ =>
    s.popSeatMsg.seatsDo
      (s.seats.bind s { show_ := show_, effStart := effStart, map := map, count := count, holdback := holdback })
  | _ => s

/-- RELEASE (R31). -/
def release (s : State) : State :=
  match s.mail.toSeats with
  | .release show_ :: _ => s.popSeatMsg.seatsDo (s.seats.release s show_)
  | _ => s

/-- REMAP (R33). -/
def remap (s : State) : State :=
  match s.mail.toSeats with
  | .remap show_ map count :: _ => s.popSeatMsg.seatsDo (s.seats.remap s show_ map count)
  | _ => s

/-- HOLDBACK (R33). -/
def holdback (s : State) : State :=
  match s.mail.toSeats with
  | .holdback show_ k :: _ => s.popSeatMsg.seatsDo (s.seats.setHoldback s show_ k)
  | _ => s

/-- SEAT_DAY_OPEN (R28). -/
def seatDayOpen (s : State) : State :=
  match s.mail.toSeats with
  | .dayOpen :: _ => (s.popSeatMsg.withSeats s.seats.dayOpen).dayOpenSeats
  | _ => s

/-- SEAT_SHOW_CHANGED_NOTE (R34). -/
def seatShowChangedNote (s : State) : State :=
  match s.mail.toSeats with
  | .note n :: _ =>
    if n.change.start then s.popSeatMsg.withSeats (s.seats.replace s n.slot) else s.popSeatMsg
  | _ => s

/-- SWEEP_READ_ISSUE (R36). -/
def sweepReadIssue (s : State) : State := s.seatsDo s.seats.issueRead

/-- SWEEP_READ_DONE (R37). -/
def sweepReadDone (s : State) : State :=
  match s.mail.seatResp with
  | { tag := .sweep i binding first count, data := data, err := err } :: rest =>
    (s.withMail { s.mail with seatResp := rest }).seatsDo (s.seats.readDone s i binding first count data err)
  | _ => s

/-- SEAT_BEAT (R41). -/
def seatBeat (s : State) : State :=
  match s.intakes.seat with
  | b :: rest =>
    let s' := s.withIntakes { s.intakes with seat := rest }
    match s.seats.slotAt b.addr with
    | some i => s'.seatsDo (s.seats.applyBeat s i b)
    | none => s'
  | [] => s

/-- SEAT_WRITE_ERROR (R160): taken after every beat of that write. -/
def seatWriteError (s : State) : State :=
  match s.mail.seatErrors with
  | (grant, beats) :: rest =>
    if s.intakes.seat.any fun b => decide (b.grant = grant) then s
    else (s.withMail { s.mail with seatErrors := rest }).seatsDo (s.seats.writeError s beats)
  | [] => s

def execBind (s : State) : Host.Outcome State Fault Refusal := goOn s (bind s)
def execRelease (s : State) : Host.Outcome State Fault Refusal := goOn s (release s)
def execRemap (s : State) : Host.Outcome State Fault Refusal := goOn s (remap s)
def execHoldback (s : State) : Host.Outcome State Fault Refusal := goOn s (holdback s)
def execSeatDayOpen (s : State) : Host.Outcome State Fault Refusal := goOn s (seatDayOpen s)
def execSeatShowChangedNote (s : State) : Host.Outcome State Fault Refusal := goOn s (seatShowChangedNote s)
def execSweepReadIssue (s : State) : Host.Outcome State Fault Refusal := goOn s (sweepReadIssue s)
def execSweepReadDone (s : State) : Host.Outcome State Fault Refusal := goOn s (sweepReadDone s)
def execSeatBeat (s : State) : Host.Outcome State Fault Refusal := goOn s (seatBeat s)
def execSeatWriteError (s : State) : Host.Outcome State Fault Refusal := goOn s (seatWriteError s)

end Sys2Proof.Machine
end

