-- ==== Sys2Proof/Machine/Notices.lean ====
section
/-! DEFINITION. The Notice Unit (spec/03, R52 to R76): the ring reader, the notice list, keys, effects and answers, the automatic notice, the house lines, banner rotations and alert selections. -/

namespace Sys2Proof.Machine

/-! ### Screens and eligibility (R74, R75) -/

/-- The target mask is 0 or has the screen's bit set (R74, R75). -/
def maskHits (mask : BitVec 32) (screen : Fin 32) : Bool := decide (mask = 0) || mask.getLsbD screen.val

/-- Eligible for a banner pane of a screen with a minimum priority (R74). -/
def Notice.eligible (n : Notice) (screen : Fin 32) (minPriority : Nat) : Bool :=
  decide (n.kind ≠ .alert) && maskHits n.mask screen && decide (minPriority ≤ n.priority)

/-- The house alert's identity (R72). -/
def houseId : NoticeId := { desk := 0, id := 65535 }

/-- The house alert (R72). -/
def houseAlert : Notice :=
  { ident := houseId, kind := .alert, priority := 7, key := 0, mask := 0, show_ := 0, expiry := none, dwell := 10,
    template := .house, text := [], applied := 0 }

/-- The listed notice of an identity. -/
def Notices.find (q : Notices) (x : NoticeId) : Option Notice := q.list.find? fun n => decide (n.ident = x)

/-- A notice placed after every listed notice of equal or higher priority (R59). -/
def placeNotice (n : Notice) (l : List Notice) : List Notice :=
  insertBy (fun a b => decide (b.priority < a.priority)) n l

/-- At or below the last minute (R60, R67). -/
def expiredAt (minute : Nat) (expiry : Option Nat) : Bool :=
  match expiry with
  | some e => decide (e ≤ minute)
  | none => false

/-! ### Settling banners and alerts after a change of the list (R75, R76) -/

/-- A rotation with a notice made current and its dwell loaded in milliseconds, or with none (R74). -/
def Rotation.load (r : Rotation) (n : Option Notice) : Rotation :=
  match n with
  | some n => { r with current := some n.ident, timer := n.dwell * 1000 }
  | none => { r with current := none, timer := 0 }

/-- The first eligible notice of a list. -/
def firstEligible (l : List Notice) (screen : Fin 32) (minPriority : Nat) : Option Notice :=
  l.find? fun n => n.eligible screen minPriority

/-- The notices that stand after an identity in a list. -/
def standAfter (l : List Notice) (x : NoticeId) : List Notice := (l.dropWhile fun n => decide (n.ident ≠ x)).drop 1

/-- The first eligible notice of the new list that stood after the current one in the old list, wrapping to the first eligible (R75). -/
def followOn (old new : List Notice) (x : NoticeId) (screen : Fin 32) (minPriority : Nat) : Option Notice :=
  ((standAfter old x).findSome? fun o =>
      new.find? fun n => decide (n.ident = o.ident) && n.eligible screen minPriority).or
    (firstEligible new screen minPriority)

/-- A rotation settled after a change of the list (R75); a pane that is not BANNER has none. -/
def Rotation.settle (old new : List Notice) (screen : Fin 32) (r : Rotation) : Rotation :=
  match r.banner with
  | none => r
  | some minPriority =>
    match r.current with
    | some x =>
      if new.any fun n => decide (n.ident = x) && n.eligible screen minPriority then r
      else r.load (followOn old new x screen minPriority)
    | none =>
      match firstEligible new screen minPriority with
      | some n => r.load (some n)
      | none => r

/-- A screen's alert selection (R75): the first ALERT in list order that targets it. -/
def selectAlert (l : List Notice) (screen : Fin 32) : Option NoticeId :=
  (l.find? fun n => decide (n.kind = .alert) && maskHits n.mask screen).map fun n => n.ident

/-- The union of target masks, 0 if any of them targets every screen (R76). -/
def unionMask (masks : List (BitVec 32)) : BitVec 32 :=
  if masks.any fun m => decide (m = 0) then 0 else masks.foldl (fun a m => a ||| m) 0

/-- The BANNER notes of the panes whose current notice differs, in screen and pane order (R76). -/
def bannerOuts (old new : Table 128 Rotation) : List Out :=
  (allFin 128).flatMap fun i =>
    if (old.get i).current = (new.get i).current then []
    else [.noticeNote (.banner (paneScreen i) (paneNo i))]

/-- The ALERT notes of the screens whose selection differs, in screen order (R76). -/
def alertOuts (old new : Table 32 (Option NoticeId)) : List Out :=
  (allFin 32).flatMap fun i =>
    if old.get i = new.get i then [] else [.noticeNote (.alert i (new.get i).isSome)]

/-- One change of the list (R75, R76): the list is replaced, every banner pane and alert selection settled, and the LIST, BANNER and ALERT notes sent. `masks` are the target masks of the notices that entered, left or were replaced. -/
def Notices.change (new : List Notice) (masks : List (BitVec 32)) (q : Notices) : Notices × List Out :=
  let rotations := q.rotations.mapFin fun i r => r.settle q.list new (paneScreen i)
  let alerts := q.alerts.mapFin fun i _ => selectAlert new i
  ({ q with list := new, rotations := rotations, alerts := alerts },
    .noticeNote (.list (unionMask masks)) :: (bannerOuts q.rotations rotations ++ alertOuts q.alerts alerts))

/-- Every notice that meets a test leaves, in one change of the list; no change where none does. -/
def Notices.remove (p : Notice → Bool) (q : Notices) : Notices × List Out :=
  if q.list.any p then q.change (q.list.filter fun n => !p n) ((q.list.filter p).map fun n => n.mask)
  else (q, [])

/-- A notice enters on a full list: the last entry leaves with NOTICE_EVICTED (R60, R72). -/
def Notices.evictFor (n : Notice) (q : Notices) : Notices × List Out :=
  andThen (q, [.event .noticeEvicted]) fun q =>
    q.change (placeNotice n q.list.dropLast) (n.mask :: (q.list.getLast?.map fun x => x.mask).toList)

/-- The last entry's priority. -/
def Notices.lastPriority (q : Notices) : Nat := (q.list.getLast?.map fun x => x.priority).getD 0

/-- A notice processed to the point of entering (R60). -/
def Notices.enter (n : Notice) (q : Notices) : Notices × List Out :=
  if expiredAt q.lastMinute n.expiry then (q, [])
  else if q.list.length < 16 then q.change (placeNotice n q.list) [n.mask]
  else if q.lastPriority < n.priority then q.evictFor n
  else (q, [.event .listFull])

/-- The house alert enters (R72). -/
def Notices.enterHouse (q : Notices) : Notices × List Out :=
  if q.list.length < 16 then q.change (placeNotice houseAlert q.list) [houseAlert.mask] else q.evictFor houseAlert

/-- A notice replaced: the listed one leaves and the new one is placed, in one change of the list; a new one expired on arrival is not (R66). -/
def Notices.substitute (old n : Notice) (q : Notices) : Notices × List Out :=
  let rest := q.list.filter fun x => decide (x.ident ≠ n.ident)
  if expiredAt q.lastMinute n.expiry then q.change rest [old.mask]
  else q.change (placeNotice n rest) [old.mask, n.mask]

/-! ### The ring reader (R52 to R56) -/

/-- A consumer writeback of C as it stands (R56), its beat written whole, with 0 in the bytes that no field names (R180; notes/assumptions/39.md); while the NOTICE window is disabled it is left pending (notes/assumptions/19.md). -/
def Notices.writeback (w : Windows) (q : Notices) : Notices × List Out :=
  if w.noticeBase = 0 then ({ q with writebackPending := true }, [])
  else
    ({ q with writebackPending := false },
      [agentWrite (beatAddr w.noticeBase 1) [{ data := q.consumed.setWidth 64, enables := 0xFF }] .consumer])

/-- An IDLE reader with notices waiting and the NOTICE window enabled begins notice C (R52, R55). -/
def Notices.begin (w : Windows) (q : Notices) : Notices × List Out :=
  if q.reader = .idle ∧ q.produced ≠ q.consumed ∧ w.noticeBase ≠ 0 then
    ({ q with reader := .record, number := q.consumed, consumed := q.consumed + 1, outstanding := 1 },
      [agentRead .record (w.noticeBase + BitVec.ofNat 32 (64 + 64 * (q.consumed.toNat % 64))) 8 .noticeRecord])
  else (q, [])

/-- The reader returns to IDLE with no notice in processing. -/
def Notices.toIdle (q : Notices) : Notices :=
  { q with reader := .idle, record := none, textBytes := [], outstanding := 0, textErr := false, awaiting := [],
           replacing := false }

/-- Processing ends, skipped or not: a consumer writeback, the reader IDLE, and the next notice begun (R52, R55). -/
def Notices.finish (w : Windows) (q : Notices) : Notices × List Out :=
  andThen (andThen (q.writeback w) fun q => (q.toIdle, [])) (Notices.begin w)

/-- A producer value taken (R54). -/
def Notices.produce (w : Windows) (value : BitVec 16) (q : Notices) : Notices × List Out :=
  let q := { q with produced := value }
  if (value - q.consumed).toNat ≤ 64 then q.begin w
  else
    let reader :=
      match q.reader with
      | .record => Reader.discard
      | .text => Reader.discard
      | r => r
    andThen
      (andThen ({ q with consumed := value - 64, reader := reader }, [.event .ringOverrun]) (Notices.writeback w))
      (Notices.begin w)

/-- A response of an abandoned notice discarded; the reader returns to IDLE with the last of them (R54). -/
def Notices.discardOne (w : Windows) (q : Notices) : Notices × List Out :=
  if q.outstanding ≤ 1 then q.toIdle.begin w else ({ q with outstanding := q.outstanding - 1 }, [])

/-! ### Keys and processing (R61 to R66) -/

/-- A presented key matches a listed notice (R64). -/
def keyMatches (manager : Nat) (n : Notice) (key : Nat) : Bool :=
  (decide (1 ≤ n.ident.desk ∧ n.ident.desk ≤ 8) && decide (key = n.key)) ||
    (decide (key = manager) && decide (manager ≠ 0))

/-- The notice a record makes, with its text and applied minutes (R57, R59, R61). -/
def NoticeRec.notice (r : NoticeRec) (text : List Byte) (applied : Nat) : Notice :=
  { ident := r.ident, kind := r.kind, priority := r.priority, key := r.key, mask := r.mask, show_ := r.show_,
    expiry := r.expiry, dwell := r.dwell, template := .none, text := text, applied := applied }

/-- The UNDELAY that takes a listed DELAY's minutes off again, if it applied any (R65, R66). -/
def Notice.undelayOuts (n : Notice) : List Out :=
  if n.kind = .delay ∧ 0 < n.applied then [.effect (.undelay n.show_ n.applied)] else []

/-- The answers an UNDELAY calls for. -/
def Notice.undelayAwaited (n : Notice) : List Awaited :=
  if n.kind = .delay ∧ 0 < n.applied then [.undelay] else []

/-- A record's own effect on its show (R62, R63). -/
def NoticeRec.effectOuts (r : NoticeRec) : List Out :=
  match r.kind with
  | .delay => [.effect (.delay r.show_ r.minutes)]
  | .cancel => [.effect (.cancel r.show_)]
  | _ => []

/-- The answer a record's own effect calls for. -/
def NoticeRec.effectAwaited (r : NoticeRec) : List Awaited :=
  match r.kind with
  | .delay => [.delay]
  | .cancel => [.cancel]
  | _ => []

/-- A processed notice enters: in place of the listed one where it replaces and that one is still listed, else by R60 (R62, R63, R66). -/
def Notices.takeIn (n : Notice) (q : Notices) : Notices × List Out :=
  if q.replacing then
    match q.find n.ident with
    | some old => q.substitute old n
    | none => q.enter n
  else q.enter n

/-- A notice whose effect was answered NO_SHOW or TOO_LATE: the event of R62 and R63, and a listed notice it was to replace leaves (R66). -/
def Notices.fail (x : NoticeId) (a : Answer) (q : Notices) : Notices × List Out :=
  andThen (q, if a = .noShow then [.event .noShow] else [])
    fun q => if q.replacing then q.remove (fun n => decide (n.ident = x)) else (q, [])

/-- The last answer is in, or none was needed: the notice enters, fails or was a withdrawal, and processing ends (R62, R63, R65, R66). `answer` is the answer to the record's own effect. -/
def Notices.conclude (w : Windows) (r : NoticeRec) (answer : Option Answer) (q : Notices) : Notices × List Out :=
  let entered (applied : Nat) : Notices × List Out :=
    q.takeIn (r.notice (textOf r.textAddr r.textLen q.textBytes) applied)
  let p :=
    match r.kind with
    | .withdraw => (q, [])
    | _ =>
      match answer with
      | none => entered 0
      | some (.done added) => entered (if r.kind = .delay then added else 0)
      | some a => q.fail r.ident a
  andThen p (Notices.finish w)

/-- Effects sent: the reader waits for every answer, or goes on at once where there is none to wait for (R62 to R66). -/
def Notices.await (w : Windows) (r : NoticeRec) (outs : List Out) (awaiting : List Awaited) (q : Notices) :
    Notices × List Out :=
  andThen (q, outs) fun q =>
    if awaiting = [] then q.conclude w r none
    else ({ q with reader := .effect, awaiting := awaiting }, [])

/-- A WITHDRAW record (R65). -/
def Notices.withdraw (w : Windows) (manager : Nat) (r : NoticeRec) (q : Notices) : Notices × List Out :=
  match q.find r.ident with
  | none => andThen (q, [.event .notFound]) (Notices.finish w)
  | some n =>
    if r.ident = houseId ∨ keyMatches manager n r.key = false then
      andThen (q, [.event .keyMismatch]) (Notices.finish w)
    else
      andThen (q.remove fun x => decide (x.ident = r.ident)) (Notices.await w r n.undelayOuts n.undelayAwaited)

/-- A checked record, its text in, processed by its kind (R60 to R66). -/
def Notices.process (w : Windows) (manager : Nat) (r : NoticeRec) (q : Notices) : Notices × List Out :=
  let q := { q with record := some r }
  match r.kind with
  | .withdraw => q.withdraw w manager r
  | _ =>
    match q.find r.ident with
    | none => ({ q with replacing := false } : Notices).await w r r.effectOuts r.effectAwaited
    | some n =>
      if keyMatches manager n r.key then
        ({ q with replacing := true } : Notices).await w r (n.undelayOuts ++ r.effectOuts)
          (n.undelayAwaited ++ r.effectAwaited)
      else andThen (q, [.event .keyMismatch]) (Notices.finish w)

/-- An answer taken (R62, R63, R65, R66). -/
def Notices.answer (w : Windows) (a : Answer) (q : Notices) : Notices × List Out :=
  match q.record, q.awaiting with
  | some r, x :: rest =>
    let q := { q with awaiting := rest }
    if rest ≠ [] then (q, [])
    else if x = .undelay then q.conclude w r none
    else q.conclude w r (some a)
  | _, _ => (q, [])

/-- The text reads of a record: the aligned beats that cover the text, in reads of up to 8 beats (R55). -/
def textReads (addr : Addr) (len : Nat) : List Out :=
  let total := textBeats addr len
  (List.range ((total + 7) / 8)).map fun i =>
    agentRead .record (beatAddr (textBase addr) (8 * i)) (min 8 (total - 8 * i)) .noticeText

/-- A record of a kind that carries text has text to read (R55). -/
def NoticeRec.needsText (r : NoticeRec) : Bool := decide (r.kind ≠ .withdraw) && textFits r.textAddr r.textLen

/-- The record read's response taken (R55, R58). -/
def Notices.recordDone (w : Windows) (manager : Nat) (bs : List Byte) (err : Bool) (q : Notices) : Notices × List Out :=
  if err then q.finish w
  else
    match noticeRecord bs with
    | none => andThen (q, [.event .badNotice]) (Notices.finish w)
    | some r =>
      if r.needsText then
        ({ q with reader := .text, record := some r, textBytes := [], textErr := false,
                  outstanding := (textReads r.textAddr r.textLen).length },
          textReads r.textAddr r.textLen)
      else ({ q with outstanding := 0, textBytes := [] } : Notices).process w manager r

/-- A text read's response taken; with the last one the notice is processed, or skipped where any carried an error (R55). -/
def Notices.textDone (w : Windows) (manager : Nat) (bs : List Byte) (err : Bool) (q : Notices) : Notices × List Out :=
  let q := { q with textBytes := q.textBytes ++ bs, textErr := q.textErr || err, outstanding := q.outstanding - 1 }
  if q.outstanding = 0 then
    if q.textErr then q.finish w
    else
      match q.record with
      | some r => q.process w manager r
      | none => q.finish w
  else (q, [])

/-! ### Leaving by time and by show, the automatic notice (R67 to R70) -/

/-- The part's own notice about a show (R70). -/
def Notice.automatic (n : Notice) : Bool := decide (n.ident.desk = 0 ∧ n.ident ≠ houseId)

/-- A notice leaves when a note for its show shows this state, or the show is removed (R68). -/
def Notice.leavesBy (n : Notice) (note : ShowNote) : Bool :=
  decide (note.id ≠ 0) && decide (n.show_ = note.id) &&
    (if n.automatic then note.change.removed || !note.new.sellingNow
     else
      match n.kind with
      | .delay =>
        note.change.removed || (match note.new with
          | .started | .cancelled | .retired => true
          | _ => false)
      | .cancel => note.change.removed || decide (note.new ≠ .cancelled)
      | _ => false)

/-- A show-changed note taken (R68): a note with START first sets the automatic notice's expiry to the show's effective start, as it is where that is above 1,799 (the model's choice, notes/assumptions/61.md). -/
def Notices.showNote (effStart : Nat) (note : ShowNote) (q : Notices) : Notices × List Out :=
  let dated (n : Notice) : Bool :=
    note.change.start && decide (note.id ≠ 0) && n.automatic && decide (n.show_ = note.id)
  let list := q.list.map fun n => if dated n then { n with expiry := some effStart } else n
  ({ q with list := list } : Notices).remove fun n => n.leavesBy note || (dated n && expiredAt q.lastMinute n.expiry)

/-- A minute note taken (R67). -/
def Notices.minuteNote (m : Nat) (q : Notices) : Notices × List Out :=
  ({ q with lastMinute := m } : Notices).remove fun n => expiredAt m n.expiry

/-- The automatic sold-out notice of a show (R70). Its expiry is the effective start as it is, above 1,799 too (the model's choice, notes/assumptions/61.md). -/
def soldOutNotice (priority id effStart : Nat) : Notice :=
  { ident := { desk := 0, id := id }, kind := .info, priority := priority, key := 0, mask := 0, show_ := id,
    expiry := some effStart, dwell := 10, template := .soldOut, text := [], applied := 0 }

/-- A seats-changed note taken (R70). The state and the effective start are those of the show that the note's slot now holds, the model's choice where that is another show than the note's (notes/assumptions/43.md). -/
def Notices.seatsNote (p : Params) (e : ShowEntry) (note : SeatsNote) (q : Notices) : Notices × List Out :=
  if note.new = .soldOut ∧ note.old ≠ .soldOut then
    if p.autoSoldOut ∧ e.state.sellingNow ∧ (q.find { desk := 0, id := note.id }).isNone ∧ note.id ≠ 0 then
      q.enter (soldOutNotice p.autoPriority note.id e.effStart)
    else (q, [])
  else if note.old = .soldOut ∧ note.new ≠ .soldOut then
    q.remove fun n => n.automatic && decide (n.show_ = note.id)
  else (q, [])

/-! ### House lines (R71 to R73) -/

/-- A sample of a raw line (R71). -/
def Debouncer.sample (k : Nat) (raw : Bool) (d : Debouncer) : Debouncer :=
  if raw = d.level then { d with runCount := 0 }
  else { d with runCount := d.runCount + 1, due := decide (2 ^ k ≤ d.runCount + 1) }

/-- The debounced level takes the sampled value and the run count returns to 0 (R71). -/
def Debouncer.flip (d : Debouncer) : Debouncer := { level := !d.level, runCount := 0, due := false }

/-- The alert line's debounced level becomes asserted (R72). -/
def Notices.alertOn (q : Notices) : Notices × List Out :=
  ({ q with alertLine := q.alertLine.flip } : Notices).enterHouse

/-- The alert line's debounced level becomes deasserted (R72). -/
def Notices.alertOff (q : Notices) : Notices × List Out :=
  ({ q with alertLine := q.alertLine.flip } : Notices).remove fun n => decide (n.ident = houseId)

/-- The hush line's debounced level changes, and the new level goes to the Reel Player (R73). -/
def Notices.hushChange (q : Notices) : Notices × List Out :=
  ({ q with hushLine := q.hushLine.flip }, [.hush q.hushLine.flip.level])

/-! ### Rotations (R74) -/

/-- One millisecond of a pane's dwell timer: it counts while the pane has a current notice and its screen no alert (R74, R75). -/
def Rotation.tick (alerted : Bool) (r : Rotation) : Rotation :=
  if r.current.isSome && !alerted then { r with timer := r.timer - 1 } else r

/-- A pane's dwell timer has reached 0: on to the next eligible notice in list order, wrapping (R74). -/
def Notices.dwellExpiry (i : Fin 128) (q : Notices) : Notices × List Out :=
  let r := q.rotations.get i
  match r.banner, r.current with
  | some minPriority, some x =>
    if r.timer = 0 then
      let rotations := q.rotations.set i (r.load (followOn q.list q.list x (paneScreen i) minPriority))
      ({ q with rotations := rotations }, bannerOuts q.rotations rotations)
    else (q, [])
  | _, _ => (q, [])

/-- A pane report (R74): the rotation restarts at the first eligible notice, or is cleared. -/
def Notices.paneReport (r : BannerReport) (q : Notices) : Notices × List Out :=
  let rot : Rotation :=
    match r.banner with
    | some minPriority =>
      ({ banner := some minPriority, current := none, timer := 0 } : Rotation).load
        (firstEligible q.list r.screen minPriority)
    | none => Rotation.reset
  let rotations := q.rotations.set (paneIx r.screen r.pane) rot
  ({ q with rotations := rotations }, bannerOuts q.rotations rotations)

/-! ### The commands -/

/-- The unit's new state put in place and what it sends sent. -/
def State.noticesDo (s : State) (p : Notices × List Out) : State := (s.withNotices p.1).emit p.2

/-- The oldest response handed to the unit leaves its inbox. -/
def State.popNoticeResp (s : State) : State := s.withMail { s.mail with noticeResp := s.mail.noticeResp.tail }

/-- The oldest message of the tracker leaves the unit's inbox. -/
def State.popNoticeMsg (s : State) : State := s.withMail { s.mail with toNotices := s.mail.toNotices.tail }

/-- PRODUCER_VALUE_TAKEN (R54). -/
def producerValueTaken (s : State) : State :=
  match s.intakes.notice with
  | some v => (s.withIntakes { s.intakes with notice := none }).noticesDo (s.notices.produce s.path.windows v)
  | none => s

/-- NOTICE_RECORD_DONE (R55). -/
def noticeRecordDone (s : State) : State :=
  match s.mail.noticeResp with
  | { tag := .noticeRecord, data := data, err := err } :: _ =>
    match s.notices.reader with
    | .record =>
      s.popNoticeResp.noticesDo (s.notices.recordDone s.path.windows s.params.managerKey (beatsBytes data) err)
    | .discard => s.popNoticeResp.noticesDo (s.notices.discardOne s.path.windows)
    | _ => s.popNoticeResp
  | _ => s

/-- NOTICE_TEXT_DONE (R55). -/
def noticeTextDone (s : State) : State :=
  match s.mail.noticeResp with
  | { tag := .noticeText, data := data, err := err } :: _ =>
    match s.notices.reader with
    | .text =>
      s.popNoticeResp.noticesDo (s.notices.textDone s.path.windows s.params.managerKey (beatsBytes data) err)
    | .discard => s.popNoticeResp.noticesDo (s.notices.discardOne s.path.windows)
    | _ => s.popNoticeResp
  | _ => s

/-- EFFECT_ANSWER (R62, R63, R65, R66). -/
def effectAnswer (s : State) : State :=
  match s.mail.toNotices with
  | .answer a :: _ => s.popNoticeMsg.noticesDo (s.notices.answer s.path.windows a)
  | _ => s

/-- CONSUMER_WRITEBACK_DONE (R56). -/
def consumerWritebackDone (s : State) : State :=
  match s.mail.noticeResp with
  | { tag := .consumer, data := _, err := err } :: _ =>
    if err then s.popNoticeResp.withNotices { s.notices with writebackPending := true } else s.popNoticeResp
  | _ => s

/-- WRITEBACK_RETRY_BOUNDARY (R56). -/
def writebackRetryBoundary (s : State) : State :=
  if 0 < s.time.dueNotice then
    let s' := s.withTime { s.time with dueNotice := s.time.dueNotice - 1 }
    if s.notices.writebackPending ∧ s.path.windows.noticeBase ≠ 0 then
      s'.noticesDo (s.notices.writeback s.path.windows)
    else s'
  else s

/-- MINUTE_NOTE_NOTICE (R67). -/
def minuteNoteNotice (s : State) : State :=
  match s.mail.toNotices with
  | .minute m :: _ => s.popNoticeMsg.noticesDo (s.notices.minuteNote m)
  | _ => s

/-- NOTICE_SHOW_CHANGED_NOTE (R68). The effective start is that of the note's slot as it stands, without comparing the show it now holds with the note's (the model's choice, notes/assumptions/43.md). -/
def noticeShowChangedNote (s : State) : State :=
  match s.mail.toNotices with
  | .note n :: _ =>
    s.popNoticeMsg.noticesDo (s.notices.showNote (s.tracker.entries.get n.slot).effStart n)
  | _ => s

/-- NOTICE_SEATS_CHANGED_NOTE (R70). -/
def noticeSeatsChangedNote (s : State) : State :=
  match s.mail.seatsToNotices with
  | n :: rest =>
    (s.withMail { s.mail with seatsToNotices := rest }).noticesDo
      (s.notices.seatsNote s.params (s.tracker.entries.get n.show_) n)
  | [] => s

/-- NOTICE_DAY_OPEN (R69). -/
def noticeDayOpen (s : State) : State :=
  if s.mail.dayOpenNotices then
    ((s.withMail { s.mail with dayOpenNotices := false }).noticesDo
      (s.notices.remove fun n => decide (n.ident ≠ houseId))).dayOpenNotices
  else s

/-- ALERT_LINE_ASSERTED (R72). -/
def alertLineAsserted (s : State) : State :=
  if s.notices.alertLine.due && !s.notices.alertLine.level then s.noticesDo s.notices.alertOn else s

/-- ALERT_LINE_DEASSERTED (R72). -/
def alertLineDeasserted (s : State) : State :=
  if s.notices.alertLine.due && s.notices.alertLine.level then s.noticesDo s.notices.alertOff else s

/-- HUSH_LINE_CHANGE (R73). -/
def hushLineChange (s : State) : State :=
  if s.notices.hushLine.due then s.noticesDo s.notices.hushChange else s

/-- BANNER_DWELL_EXPIRY (R74). -/
def bannerDwellExpiry (screen : Fin 32) (pane : Fin 4) (s : State) : State :=
  s.noticesDo (s.notices.dwellExpiry (paneIx screen pane))

/-- BANNER_PANE_REPORT (R74). -/
def bannerPaneReport (s : State) : State :=
  match s.mail.bannerReports with
  | r :: rest => (s.withMail { s.mail with bannerReports := rest }).noticesDo (s.notices.paneReport r)
  | [] => s

def execProducerValueTaken (s : State) : Host.Outcome State Fault Refusal := goOn s (producerValueTaken s)
def execNoticeRecordDone (s : State) : Host.Outcome State Fault Refusal := goOn s (noticeRecordDone s)
def execNoticeTextDone (s : State) : Host.Outcome State Fault Refusal := goOn s (noticeTextDone s)
def execEffectAnswer (s : State) : Host.Outcome State Fault Refusal := goOn s (effectAnswer s)
def execConsumerWritebackDone (s : State) : Host.Outcome State Fault Refusal := goOn s (consumerWritebackDone s)
def execWritebackRetryBoundary (s : State) : Host.Outcome State Fault Refusal := goOn s (writebackRetryBoundary s)
def execMinuteNoteNotice (s : State) : Host.Outcome State Fault Refusal := goOn s (minuteNoteNotice s)
def execNoticeShowChangedNote (s : State) : Host.Outcome State Fault Refusal := goOn s (noticeShowChangedNote s)
def execNoticeSeatsChangedNote (s : State) : Host.Outcome State Fault Refusal := goOn s (noticeSeatsChangedNote s)
def execNoticeDayOpen (s : State) : Host.Outcome State Fault Refusal := goOn s (noticeDayOpen s)
def execAlertLineAsserted (s : State) : Host.Outcome State Fault Refusal := goOn s (alertLineAsserted s)
def execAlertLineDeasserted (s : State) : Host.Outcome State Fault Refusal := goOn s (alertLineDeasserted s)
def execHushLineChange (s : State) : Host.Outcome State Fault Refusal := goOn s (hushLineChange s)
def execBannerDwellExpiry (screen : Fin 32) (pane : Fin 4) (s : State) : Host.Outcome State Fault Refusal :=
  goOn s (bannerDwellExpiry screen pane s)
def execBannerPaneReport (s : State) : Host.Outcome State Fault Refusal := goOn s (bannerPaneReport s)

end Sys2Proof.Machine
end

