-- ==== Sys2Proof/Machine/Reel.lean ====
section
/-! DEFINITION. The Reel Player (spec/04, R77 to R98): cue loads, frame fetches, segments and slots, stale cues, hush, rest stills. -/

namespace Sys2Proof.Machine

/-! ### Load numbers and fetches (R79, R81, R86) -/

/-- The number kept for one purpose replaced (R81). -/
def LoadNos.set (n : LoadNos) (p : Purpose) (v : Nat) : LoadNos :=
  match p with
  | .current => { n with current := v }
  | .next => { n with next := v }
  | .pointer => { n with pointer := v }
  | .frame => { n with frame := v }
  | .rest => { n with rest := v }

/-- A load of a purpose started or abandoned: the load count advances and the purpose keeps its number (R81). -/
def Channel.number (p : Purpose) (c : Channel) : Channel :=
  { c with loads := c.loads + 1, nos := c.nos.set p (c.loads + 1) }

/-- The purpose of the load that the filling buffer's fetch stands at: REST, POINTER until a LIST cue's pointer has come, else FRAME (R79, R81, R97). -/
def Channel.fillPurpose (c : Channel) : Purpose :=
  match c.fillFor, c.plan.pointer with
  | .rest, _ => .rest
  | _, some _ => .pointer
  | _, none => .frame

/-- The filling buffer EMPTY, with nothing awaited. -/
def Channel.clearFill (c : Channel) : Channel :=
  { c with filling := .empty, fillFor := .none, plan := FetchPlan.none, awaited := false, begins := false }

/-- The filling buffer abandoned: EMPTY, and no response in flight belongs to it any more (R81, R86). The load count advances once, for the purpose the fetch stands at; a COMPLETE or FAILED buffer is abandoned as a FETCHING one is (read from the spec by inference, notes/assumptions/64.md). -/
def Channel.abandonFill (c : Channel) : Channel :=
  (if c.filling = .empty then c else c.number c.fillPurpose).clearFill

/-- Beats that cover a length in bytes from an aligned address (R79, R97). -/
def beatsFor (length : Nat) : Nat := (length + 7) / 8

/-- The address of frame k of a STEP or STILL cue (R79). -/
def Cue.frameAddr (q : Cue) (k : Nat) : Nat :=
  match q.mode with
  | .step => q.base + k * q.stride
  | _ => q.base

/-- The fetch of frame k of a cue begun; a LIST cue's pointer is read first (R79, R86). -/
def Channel.fetch (q : Cue) (k : Nat) (what : FillFor) (c : Channel) : Channel :=
  match q.mode with
  | .list =>
    { c.number .pointer with
      filling := .fetching, fillFor := what, fillBuf := []
      plan := { pointer := some (q.base + 4 * k), addr := none, total := 1, issued := 0, received := 0,
                length := q.length } }
  | _ =>
    { c.number .frame with
      filling := .fetching, fillFor := what, fillBuf := []
      plan := { pointer := none, addr := some (q.frameAddr k), total := beatsFor q.length, issued := 0,
                received := 0, length := q.length } }

/-- The buffers exchange roles: the shown serial advances by one and its channel note goes out (R87, R88, R97, R98). -/
def Channel.exchange (ch : Fin 8) (kind : ShownKind) (c : Channel) : Channel × List Out :=
  ({ c with
      shownBuf := c.fillBuf, fillBuf := c.shownBuf, filling := .empty, fillFor := .none, plan := FetchPlan.none
      awaited := false, begins := false, shownKind := kind, serial := c.serial + 1, shownLen := c.plan.length },
    [.channelNote { channel := ch, serial := c.serial + 1, kind := kind, len := c.plan.length }])

/-! ### Rest stills and becoming IDLE (R97) -/

/-- The rest length used: 0 where the rest still is none or its address cannot be read, else at most 16,384 (R97). -/
def RestParams.usedLen (r : RestParams) : Nat :=
  if r.len = 0 ∨ r.addr = 0 ∨ r.addr.toNat % 8 ≠ 0 then 0 else min r.len 16384

/-- BLANK is shown: the serial advances (R97). -/
def Channel.blank (ch : Fin 8) (c : Channel) : Channel × List Out :=
  ({ c with shownKind := .blank, serial := c.serial + 1, shownLen := 0 },
    [.channelNote { channel := ch, serial := c.serial + 1, kind := .blank, len := 0 }])

/-- The showing of the rest still begins: BLANK at once, or a rest fetch (R97). -/
def Channel.showRest (ch : Fin 8) (rest : RestParams) (c : Channel) : Channel × List Out :=
  if rest.usedLen = 0 then c.blank ch
  else
    ({ c.number .rest with
        filling := .fetching, fillFor := .rest, fillBuf := []
        plan := { pointer := none, addr := some rest.addr.toNat, total := beatsFor rest.usedLen, issued := 0,
                  received := 0, length := rest.usedLen } }, [])

/-- A rank's load in flight abandoned (R81, R85). -/
def Channel.dropLoad (p : Purpose) (r : Rank) (c : Channel) : Channel :=
  match r with
  | .loading _ => c.number p
  | _ => c

/-- The channel becomes IDLE (R97). -/
def Channel.goIdle (ch : Fin 8) (rest : RestParams) (c : Channel) : Channel × List Out :=
  let n := ((c.abandonFill.dropLoad .current c.current).dropLoad .next c.next)
  ({ n with
      state := .idle, shownMark := false, current := .empty, next := .empty, resume := false, position := 0
      periodsLeft := 0, repeatsLeft := 0, skips := 0, cut := none } : Channel).showRest ch rest

/-! ### Cue loads (R78, R82, R91) -/

/-- The RECORD read of a cue (R82). -/
def cueRead (ch : Fin 8) (addr : Addr) (no : Nat) : Out := agentRead .record addr 4 (.cue ch no)

/-- The current rank given a cue address while the next rank is EMPTY: its load is issued, or it ends at once with BAD_CUE and the channel is IDLE (R78, R82). An address that cannot be loaded starts no load, so the load count stands (the model's choice, notes/assumptions/63.md). -/
def Channel.loadCurrent (ch : Fin 8) (rest : RestParams) (addr : Addr) (c : Channel) : Channel × List Out :=
  if cueAddrOk addr then
    ({ c.number .current with current := .loading addr }, [cueRead ch addr (c.loads + 1)])
  else andThen (c, [.event .badCue]) (Channel.goIdle ch rest)

/-- The EMPTY next rank given a cue address: its load is issued, or it ends at once with BAD_CUE (R78, R82), with no load started (the model's choice, notes/assumptions/63.md). -/
def Channel.loadNext (ch : Fin 8) (addr : Addr) (c : Channel) : Channel × List Out :=
  if cueAddrOk addr then ({ c.number .next with next := .loading addr }, [cueRead ch addr (c.loads + 1)])
  else (c, [.event .badCue])

/-- A next-rank load carried into the current rank (R81, R91). -/
def Channel.carry (c : Channel) : Channel :=
  let n := c.abandonFill
  ({ n with
      current := n.next, next := .empty, periodsLeft := 0
      nos := { n.nos with current := n.nos.next } } : Channel).number .next

/-! ### Stale cues (R92, R93) -/

/-- A cue is stale (R92): its show is in neither ON_SALE nor CLOSING, or its band is SOLD_OUT. -/
def State.stale (s : State) (q : Cue) : Bool :=
  decide (q.show_ ≠ 0) &&
    match (allFin 192).find? fun i =>
        (s.tracker.entries.get i).state.sellingNow && decide ((s.tracker.entries.get i).fields.id = q.show_) with
    | none => true
    | some i => decide (s.bandQuery i = .soldOut)

/-- The current cue begins a segment with no frame of it at hand: frame 0 is fetched and awaited (R87). -/
def Channel.beginFresh (q : Cue) (c : Channel) : Channel × List Out :=
  ({ c.abandonFill.fetch q 0 (.frame 0) with awaited := true, begins := true, periodsLeft := 0 }, [])

/-- A stale cue skipped (R93). `promoted` is what follows when a FULL next rank takes its place. A cue that came by promotion has left the next rank EMPTY, so the table's first case is the case of an EMPTY next rank. -/
def Channel.skip (ch : Fin 8) (rest : RestParams) (q : Cue) (promoted : Channel → Channel × List Out) (c : Channel) :
    Channel × List Out :=
  if 4 ≤ c.skips + 1 then andThen (c.goIdle ch rest) fun c => (c, [.event .staleChain])
  else
    let n := { c.abandonFill with skips := c.skips + 1 }
    match n.next with
    | .loading _ => (n.carry, [])
    | .ready a q' => promoted { n with current := .ready a q', next := .empty }
    | .empty => if q.next ≠ 0 then n.loadCurrent ch rest q.next else n.goIdle ch rest

/-- The READY current cue judged (R92): skipped, or it begins its segment with the skip count 0. -/
def Channel.judgeWith (s : State) (ch : Fin 8) (rest : RestParams) (promoted : Channel → Channel × List Out)
    (begin_ : Cue → Channel → Channel × List Out) (c : Channel) : Channel × List Out :=
  match c.current with
  | .ready _ q =>
    if s.stale q && q.skipIfStale then c.skip ch rest q promoted
    else begin_ q { c with skips := 0 }
  | _ => (c, [])

/-- The READY current cue judged; a FULL next that takes a skipped cue's place is judged at once, the next rank then EMPTY (R92, R93). -/
def Channel.judge (s : State) (ch : Fin 8) (rest : RestParams) (begin_ : Cue → Channel → Channel × List Out)
    (c : Channel) : Channel × List Out :=
  c.judgeWith s ch rest (Channel.judgeWith s ch rest (fun c => (c, [])) Channel.beginFresh) begin_

/-- A cue load ended in the current rank with BAD_CUE (R82): it has ended and is not abandoned, so with the next rank EMPTY the CURRENT number stands (R81). -/
def Channel.badCurrent (s : State) (ch : Fin 8) (rest : RestParams) (c : Channel) : Channel × List Out :=
  andThen (c, [.event .badCue]) fun c =>
    match c.next with
    | .empty => ({ c with current := .empty } : Channel).goIdle ch rest
    | .loading _ => (c.carry, [])
    | .ready a q => Channel.judge s ch rest Channel.beginFresh { c with current := .ready a q, next := .empty }

/-- A cue load's response applied to the rank that issued it; a number that is no longer kept is discarded (R81, R82). -/
def Channel.loadDone (s : State) (ch : Fin 8) (rest : RestParams) (no : Nat) (bs : List Byte) (err : Bool)
    (c : Channel) : Channel × List Out :=
  let cue := if err then none else cueRecord bs
  match decide (c.nos.current = no), c.current, decide (c.nos.next = no), c.next with
  | true, .loading a, _, _ =>
    match cue with
    | some q => Channel.judge s ch rest Channel.beginFresh { c with current := .ready a q }
    | none => c.badCurrent s ch rest
  | _, _, true, .loading a =>
    match cue with
    | some q => ({ c with next := .ready a q }, [])
    | none => ({ c with next := .empty }, [.event .badCue])
  | _, _, _, _ => (c, [])

/-! ### Slots and segments (R87 to R90) -/

/-- At a segment start repeats left takes the cue's repeat count, and the chained cue is loaded into an EMPTY next rank (R87). -/
def Channel.segmentStart (ch : Fin 8) (q : Cue) (c : Channel) : Channel × List Out :=
  let n := { c with repeatsLeft := q.repeats }
  match n.next with
  | .empty => if q.next ≠ 0 then n.loadNext ch q.next else (n, [])
  | _ => (n, [])

/-- A slot has begun: the frame for the slot after it is fetched, or the predicted follower (R89). -/
def Channel.prefetch (q : Cue) (c : Channel) : Channel :=
  let n := c.abandonFill
  if n.position + 1 < q.count then n.fetch q (n.position + 1) (.frame (n.position + 1))
  else if 0 < n.repeatsLeft then n.fetch q 0 (.frame 0)
  else
    match n.next with
    | .ready _ q' => n.fetch q' 0 (.follower true)
    | _ => if q.loop then n.fetch q 0 (.follower false) else n

/-- The frame in the filling buffer shown if COMPLETE, else dropped and counted late (R87, R88). -/
def Channel.showOrDrop (ch : Fin 8) (c : Channel) : Channel × List Out :=
  if c.filling = .complete then c.exchange ch .frame
  else ({ c.abandonFill with late := sat16 c.late }, [.event .lateFrame])

/-- The slot of frame k of the current cue begins with the frame in the filling buffer; `starts` marks a segment start (R87, R88). -/
def Channel.slot (ch : Fin 8) (q : Cue) (k : Nat) (starts : Bool) (c : Channel) : Channel × List Out :=
  andThen (c.showOrDrop ch) fun c =>
    let n :=
      { c with position := k, periodsLeft := q.multiple, state := if c.state = .starting then .running else c.state }
    andThen (if starts then n.segmentStart ch q else (n, [])) fun c => (c.prefetch q, [])

/-- The frame index an awaited frame of the current cue has. -/
def FillFor.index : FillFor → Nat
  | .frame k => k
  | _ => 0

/-- An awaited frame at an unshifted boundary (R87): shown if COMPLETE, dropped if FAILED, left awaited while FETCHING. -/
def Channel.awaitedBoundary (ch : Fin 8) (q : Cue) (c : Channel) : Channel × List Out :=
  if c.filling = .fetching then (c, []) else c.slot ch q c.fillFor.index c.begins

/-- The follower chosen at a segment end begins its segment (R90): its prefetched frame is due now, is kept as awaited while HELD, or is taken as awaited after hush (R96); without a match frame 0 is fetched and awaited. -/
def Channel.follow (ch : Fin 8) (ofNext resume : Bool) (q : Cue) (c : Channel) : Channel × List Out :=
  if c.fillFor = .follower ofNext then
    let kept := { c with fillFor := .frame 0, awaited := true, begins := true }
    if c.state = .held then (kept, [])
    else if resume then kept.awaitedBoundary ch q
    else c.slot ch q 0 true
  else c.beginFresh q

/-- A segment end (R90): a FULL next is promoted, a LOOP replayed (but not on a COMMAND cut), a LOADING next carried, or the channel becomes IDLE. -/
def Channel.segmentEnd (s : State) (ch : Fin 8) (rest : RestParams) (command : Bool) (c : Channel) :
    Channel × List Out :=
  let n := { c with periodsLeft := 0, resume := false }
  let last : Channel × List Out :=
    match n.next with
    | .loading _ => (n.carry, [])
    | _ => n.goIdle ch rest
  match n.next with
  | .ready a q =>
    Channel.judge s ch rest (Channel.follow ch true c.resume) { n with current := .ready a q, next := .empty }
  | _ =>
    match n.current with
    | .ready _ q => if q.loop && !command then n.judge s ch rest (Channel.follow ch false c.resume) else last
    | _ => last

/-- A frame of the current cue is due (R88), or is taken as awaited where hush was released during the slot before it (R96). -/
def Channel.due (ch : Fin 8) (q : Cue) (k : Nat) (c : Channel) : Channel × List Out :=
  if c.resume then ({ c with resume := false, awaited := true, begins := false } : Channel).awaitedBoundary ch q
  else c.slot ch q k false

/-- The running slot has run out (R88). -/
def Channel.runOut (s : State) (ch : Fin 8) (rest : RestParams) (q : Cue) (c : Channel) : Channel × List Out :=
  if c.position + 1 < q.count then c.due ch q (c.position + 1)
  else if 0 < c.repeatsLeft then ({ c with repeatsLeft := c.repeatsLeft - 1 } : Channel).due ch q 0
  else c.segmentEnd s ch rest false

/-- A cut pending at a boundary: the flag is cleared, a LOADING current rank is abandoned, and the segment ends (R84, R88). -/
def Channel.takeCut (s : State) (ch : Fin 8) (rest : RestParams) (cause : Cut) (c : Channel) : Channel × List Out :=
  let n :=
    match c.current with
    | .loading _ => { c.number .current with cut := none, current := .empty }
    | _ => { c with cut := none }
  n.segmentEnd s ch rest (decide (cause = .command))

/-- An unshifted period boundary at one channel (R88). -/
def Channel.boundary (s : State) (ch : Fin 8) (rest : RestParams) (c : Channel) : Channel × List Out :=
  if c.state = .idle then (c, [])
  else
    match c.cut with
    | some cause => c.takeCut s ch rest cause
    | none =>
      if c.state = .held then (c, [])
      else
        match c.current with
        | .ready _ q =>
          if c.awaited then c.awaitedBoundary ch q
          else if c.state = .running ∧ 0 < c.periodsLeft then
            let n := { c with periodsLeft := c.periodsLeft - 1 }
            if n.periodsLeft = 0 then n.runOut s ch rest q else (n, [])
          else (c, [])
        | _ => (c, [])

/-! ### Commands, hush and notes at a channel (R83 to R85, R94 to R96) -/

/-- The outcome of a CUE_PUSH (R83). -/
def Channel.pushOutcome (c : Channel) : Outcome :=
  if c.state = .idle ∨ c.next = .empty then .accepted else .nextFull

/-- A CUE_PUSH (R83). -/
def Channel.push (ch : Fin 8) (rest : RestParams) (hush : Bool) (addr : Addr) (c : Channel) : Channel × List Out :=
  if c.state = .idle then
    ({ c.abandonFill with state := if hush then .held else .starting, shownMark := false } : Channel).loadCurrent
      ch rest addr
  else
    match c.next with
    | .empty => c.loadNext ch addr
    | _ => (c, [.event .nextFull])

/-- A CUE_CUT (R84). -/
def Channel.cutNow (c : Channel) : Channel := if c.state = .idle then c else { c with cut := some .command }

/-- The outcome of a CUE_CUT (R84). -/
def Channel.cutOutcome (c : Channel) : Outcome := if c.state = .idle then .applied else .accepted

/-- A CHANNEL_STOP (R85). -/
def Channel.stop (ch : Fin 8) (rest : RestParams) (c : Channel) : Channel × List Out :=
  if c.state = .idle then (c, []) else c.goIdle ch rest

/-- A show-changed note (R94). -/
def Channel.showNote (n : ShowNote) (c : Channel) : Channel :=
  match c.current with
  | .ready _ q =>
    if q.show_ ≠ 0 ∧ q.show_ = n.id ∧ (n.change.removed = true ∨ n.new = .cancelled) ∧ c.cut ≠ some .command then
      { c with cut := some .show_ }
    else c
  | _ => c

/-- Hush asserted (R95). -/
def Channel.hold (c : Channel) : Channel :=
  match c.state with
  | .running => { c with state := .held, shownMark := true }
  | .starting => { c with state := .held, shownMark := false }
  | _ => c

/-- A slot is running: the current cue is READY, its frame is not awaited, and periods are left (R87, R88). -/
def Channel.slotRuns (c : Channel) : Bool :=
  !c.awaited && decide (0 < c.periodsLeft) &&
    match c.current with
    | .ready _ _ => true
    | _ => false

/-- Hush deasserted (R96). -/
def Channel.unhold (c : Channel) : Channel :=
  match c.state with
  | .held =>
    if c.shownMark then
      if c.slotRuns then { c with state := .running, shownMark := false, periodsLeft := 1, resume := true }
      else { c with state := .running, shownMark := false }
    else { c with state := .starting }
  | _ => c

/-- The frame length a channel supplies for pane fitness (R98; notes/assumptions/25.md). -/
def Channel.frameLength (rest : RestParams) (c : Channel) : Nat :=
  match c.state, c.current with
  | .idle, _ => rest.usedLen
  | _, .ready _ q => q.length
  | _, _ => c.shownLen

/-! ### Reads (R79, R86, R97) -/

/-- The channel has a FRAME read to issue (R86). -/
def Channel.wantsRead (c : Channel) : Bool := decide (c.filling = .fetching) && decide (c.plan.issued < c.plan.total)

/-- The channel's next FRAME read: the LIST pointer's beat, or up to 8 beats in address order (R79, R86). A rest still that runs past the last address is read on from address 0, the model's choice (notes/assumptions/45.md). -/
def Channel.readOut (ch : Fin 8) (c : Channel) : Channel × List Out :=
  match c.plan.pointer with
  | some p =>
    ({ c with plan := { c.plan with issued := 1 } },
      [agentRead .frame (BitVec.ofNat 32 (p / 8 * 8)) 1 (.pointer ch c.nos.pointer)])
  | none =>
    let count := min 8 (c.plan.total - c.plan.issued)
    let addr := BitVec.ofNat 32 (c.plan.addr.getD 0 + 8 * c.plan.issued)
    ({ c with plan := { c.plan with issued := c.plan.issued + count } },
      [agentRead .frame addr count
        (match c.fillFor with
         | .rest => .rest ch c.nos.rest
         | _ => .frame ch c.nos.frame)])

/-- A fetch failed (R79, R86). -/
def Channel.failFetch (c : Channel) : Channel := { c with filling := .failed }

/-- A LIST pointer arrived (R79). -/
def Channel.pointerDone (no : Nat) (bs : List Byte) (err : Bool) (c : Channel) : Channel :=
  match c.plan.pointer with
  | some p =>
    if c.nos.pointer = no ∧ c.filling = .fetching then
      let a := le32At bs (p % 8)
      if err ∨ a % 8 ≠ 0 ∨ 2 ^ 32 < a + c.plan.length then c.failFetch
      else
        { c.number .frame with
          plan := { c.plan with pointer := none, addr := some a, total := beatsFor c.plan.length, issued := 0,
                                received := 0 } }
    else c
  | none => c

/-- A read's beats join the filling buffer; with the last of them the fetch is COMPLETE (R86). -/
def Channel.store (data : List Beat) (c : Channel) : Channel :=
  let received := c.plan.received + data.length
  let bytes := c.fillBuf ++ beatsBytes data
  if c.plan.total ≤ received then
    { c with filling := .complete, fillBuf := bytes.take c.plan.length, plan := { c.plan with received := received } }
  else { c with fillBuf := bytes, plan := { c.plan with received := received } }

/-- A frame read's response (R86). -/
def Channel.frameDone (no : Nat) (data : List Beat) (err : Bool) (c : Channel) : Channel :=
  if c.nos.frame = no ∧ c.filling = .fetching then (if err then c.failFetch else c.store data) else c

/-- A rest read's response (R97). After a memory error the filling state is EMPTY and the fetch's other responses are discarded, the model's choice (notes/assumptions/62.md). -/
def Channel.restDone (ch : Fin 8) (no : Nat) (data : List Beat) (err : Bool) (c : Channel) : Channel × List Out :=
  if c.nos.rest = no ∧ c.filling = .fetching ∧ c.fillFor = .rest then
    if err then c.clearFill.blank ch
    else
      let n := c.store data
      if n.filling = .complete then n.exchange ch .rest else (n, [])
  else (c, [])

/-! ### The player -/

/-- One channel changed. -/
def Reel.onChannel (ch : Fin 8) (f : Channel → Channel × List Out) (q : Reel) : Reel × List Out :=
  let p := f (q.channels.get ch)
  ({ q with channels := q.channels.set ch p.1 }, p.2)

/-- The channel served next: the first after the one last served, wrapping, with a read to issue (R86). -/
def Reel.nextServed (q : Reel) : Option (Fin 8) :=
  ((allFin 8).map fun k => wrapAdd q.lastServed (k.val + 1)).find? fun ch => (q.channels.get ch).wantsRead

/-- The next FRAME read issued (R86). -/
def Reel.issueRead (q : Reel) : Reel × List Out :=
  if 8 ≤ q.inFlight then (q, [])
  else
    match q.nextServed with
    | some ch =>
      ({ q with inFlight := q.inFlight + 1, lastServed := ch } : Reel).onChannel ch fun c => c.readOut ch
    | none => (q, [])

/-- A FRAME read less in flight (R86). -/
def Reel.landed (q : Reel) : Reel := { q with inFlight := q.inFlight - 1 }

/-- An unshifted period boundary acts on every channel (R88), from channel 0 to channel 7, the model's choice (notes/assumptions/44.md). -/
def Reel.boundary (s : State) (q : Reel) : Reel × List Out :=
  forAll (allFin 8) (fun ch q => q.onChannel ch fun c => c.boundary s ch (s.params.rest.get ch)) q

/-- Every channel changed alone, nothing sent. -/
def Reel.mapChannels (f : Channel → Channel) (q : Reel) : Reel := { q with channels := q.channels.map f }

/-! ### The commands -/

/-- The player's new state put in place and what it sends sent. -/
def State.reelDo (s : State) (p : Reel × List Out) : State := (s.withReel p.1).emit p.2

/-- The rest parameters of a channel. -/
def State.restOf (s : State) (ch : Fin 8) : RestParams := s.params.rest.get ch

/-- The oldest response handed to the player leaves its inbox. -/
def State.popReelResp (s : State) : State := s.withMail { s.mail with reelResp := s.mail.reelResp.tail }

/-- CUE_PUSH (R83, R171). -/
def cuePush (s : State) : State :=
  match s.entry with
  | some e =>
    match e.row with
    | .cuePush ch =>
      (s.takeEntry.reelDo (s.reel.onChannel ch (Channel.push ch (s.restOf ch) s.reel.hush e.argument))).result
        e.index e.argument (s.reel.channels.get ch).pushOutcome
    | _ => s
  | none => s

/-- CUE_CUT (R84, R171). The result reports the argument whole (notes/assumptions/51.md). -/
def cueCut (s : State) : State :=
  match s.entry with
  | some e =>
    match e.row with
    | .cueCut ch =>
      (s.takeEntry.reelDo (s.reel.onChannel ch fun c => (c.cutNow, []))).result
        e.index e.argument (s.reel.channels.get ch).cutOutcome
    | _ => s
  | none => s

/-- CHANNEL_STOP (R85, R171). The result reports the argument whole (notes/assumptions/51.md). -/
def channelStop (s : State) : State :=
  match s.entry with
  | some e =>
    match e.row with
    | .channelStop ch =>
      (s.takeEntry.reelDo (s.reel.onChannel ch (Channel.stop ch (s.restOf ch)))).result e.index e.argument .applied
    | _ => s
  | none => s

/-- CUE_LOAD_DONE (R82). -/
def cueLoadDone (s : State) : State :=
  match s.mail.reelResp with
  | { tag := .cue ch no, data := data, err := err } :: _ =>
    s.popReelResp.reelDo
      (s.reel.onChannel ch (Channel.loadDone s ch (s.restOf ch) no (beatsBytes data) err))
  | _ => s

/-- FRAME_READ_ISSUE (R86). -/
def frameReadIssue (s : State) : State := s.reelDo s.reel.issueRead

/-- POINTER_READ_DONE (R79). -/
def pointerReadDone (s : State) : State :=
  match s.mail.reelResp with
  | { tag := .pointer ch no, data := data, err := err } :: _ =>
    s.popReelResp.reelDo
      (s.reel.landed.onChannel ch fun c => (c.pointerDone no (beatsBytes data) err, []))
  | _ => s

/-- FRAME_READ_DONE (R86). -/
def frameReadDone (s : State) : State :=
  match s.mail.reelResp with
  | { tag := .frame ch no, data := data, err := err } :: _ =>
    s.popReelResp.reelDo (s.reel.landed.onChannel ch fun c => (c.frameDone no data err, []))
  | _ => s

/-- REST_READ_DONE (R97). -/
def restReadDone (s : State) : State :=
  match s.mail.reelResp with
  | { tag := .rest ch no, data := data, err := err } :: _ =>
    s.popReelResp.reelDo (s.reel.landed.onChannel ch (Channel.restDone ch no data err))
  | _ => s

/-- REEL_PERIOD_BOUNDARY (R88). -/
def reelPeriodBoundary (s : State) : State :=
  if 0 < s.time.dueReel then
    (s.withTime { s.time with dueReel := s.time.dueReel - 1 }).reelDo (s.reel.boundary s)
  else s

/-- REEL_SHOW_CHANGED_NOTE (R94). -/
def reelShowChangedNote (s : State) : State :=
  match s.mail.toReel with
  | n :: rest => (s.withMail { s.mail with toReel := rest }).withReel (s.reel.mapChannels (Channel.showNote n))
  | [] => s

/-- HUSH_ASSERTED (R95). -/
def hushAsserted (s : State) : State :=
  match s.mail.hush with
  | true :: rest =>
    (s.withMail { s.mail with hush := rest }).withReel { s.reel.mapChannels Channel.hold with hush := true }
  | _ => s

/-- HUSH_RELEASED (R96). -/
def hushReleased (s : State) : State :=
  match s.mail.hush with
  | false :: rest =>
    (s.withMail { s.mail with hush := rest }).withReel { s.reel.mapChannels Channel.unhold with hush := false }
  | _ => s

/-- A rest-still parameter stored: the address as given, the length at most 65,535 (R172). -/
def RestParams.store (r : RestParams) (len : Bool) (v : BitVec 32) : RestParams :=
  if len then { r with len := min 65535 v.toNat } else { r with addr := v }

/-- REST_STILL_WRITE (R97): stored at once, and the showing started afresh while the channel is IDLE. -/
def restStillWrite (s : State) : State :=
  match s.entry with
  | some e =>
    match e.row with
    | .restStill ch len =>
      let rest := (s.restOf ch).store len (s.masked e)
      let s' := s.takeEntry.withParams { s.params with rest := s.params.rest.set ch rest }
      (s'.reelDo
        (s.reel.onChannel ch fun c => if c.state = .idle then c.abandonFill.showRest ch rest else (c, []))).paramResult
        e (s.masked e)
    | _ => s
  | none => s

def execCuePush (s : State) : Host.Outcome State Fault Refusal := goOn s (cuePush s)
def execCueCut (s : State) : Host.Outcome State Fault Refusal := goOn s (cueCut s)
def execChannelStop (s : State) : Host.Outcome State Fault Refusal := goOn s (channelStop s)
def execCueLoadDone (s : State) : Host.Outcome State Fault Refusal := goOn s (cueLoadDone s)
def execFrameReadIssue (s : State) : Host.Outcome State Fault Refusal := goOn s (frameReadIssue s)
def execPointerReadDone (s : State) : Host.Outcome State Fault Refusal := goOn s (pointerReadDone s)
def execFrameReadDone (s : State) : Host.Outcome State Fault Refusal := goOn s (frameReadDone s)
def execRestReadDone (s : State) : Host.Outcome State Fault Refusal := goOn s (restReadDone s)
def execReelPeriodBoundary (s : State) : Host.Outcome State Fault Refusal := goOn s (reelPeriodBoundary s)
def execReelShowChangedNote (s : State) : Host.Outcome State Fault Refusal := goOn s (reelShowChangedNote s)
def execHushAsserted (s : State) : Host.Outcome State Fault Refusal := goOn s (hushAsserted s)
def execHushReleased (s : State) : Host.Outcome State Fault Refusal := goOn s (hushReleased s)
def execRestStillWrite (s : State) : Host.Outcome State Fault Refusal := goOn s (restStillWrite s)

end Sys2Proof.Machine
end

