-- ==== Sys2Proof/Machine/Compose.lean ====
section
/-! DEFINITION. The Composition Unit (spec/05, R99 to R116): panes, fitness, board pages, delivery flags, car contents (R108, R190, R191), alerts and module reports. -/

namespace Sys2Proof.Machine

/-! ### Items of a pane (R107, R109) -/

/-- An item marked dirty, its in-flight flag left (R109). -/
def Item.mark (x : Item) : Item := { x with dirty := true }

/-- An item dirty and not in flight (R115). -/
def Item.afresh (_ : Item) : Item := { dirty := true, flight := false }

/-- An item built into a car (R108). -/
def Item.built (_ : Item) : Item := { dirty := false, flight := true }

/-- An item settled by its car's return (R110). -/
def Item.settle (accepted : Bool) (x : Item) : Item := { dirty := x.dirty || !accepted, flight := false }

/-- The item is dirty and not in flight (R107). -/
def Item.waits (x : Item) : Bool := x.dirty && !x.flight

/-- Every item of the pane's kind changed: 16 rows, the banner, or the clock (R100, R107). -/
def Pane.mapItems (f : Item → Item) (p : Pane) : Pane :=
  match p.kind with
  | .board => { p with rowItems := p.rowItems.map f }
  | .banner => { p with item := f p.item }
  | .clock => { p with item := f p.item }
  | .none => p
  | .reel => p

/-- Every item flag of the pane cleared (R100). -/
def Pane.clearItems (p : Pane) : Pane := { p with rowItems := Table.replicate 16 Item.clear, item := Item.clear }

/-- The rows of the current page that meet a test marked dirty. -/
def Pane.markRows (test : Nat → Bool) (p : Pane) : Pane :=
  { p with rowItems := p.rowItems.mapFin fun r x => if decide (r.val < p.rows) && test r.val then x.mark else x }

/-! ### Board panes and pages (R102 to R106) -/

/-- A show passes a BOARD pane's filter (R102). -/
def Pane.admits (p : Pane) (e : ShowEntry) : Bool :=
  decide (p.lo ≤ e.fields.auditorium) && decide (e.fields.auditorium ≤ p.hi) &&
    match e.state with
    | .onSale => true
    | .closing => true
    | .started => p.includeStarted
    | .cancelled => p.includeCancelled
    | _ => false

/-- The filtered list of a BOARD pane (R102). -/
def Pane.filtered (t : Tracker) (p : Pane) : List (Fin 192) := t.board.filter fun i => p.admits (t.entries.get i)

/-- The page count (R102). -/
def Pane.pageCount (p : Pane) : Nat := max 1 ((p.list.length + p.rows - 1) / p.rows)

/-- The filtered position that row r shows (R102). -/
def Pane.position (p : Pane) (r : Nat) : Nat := p.page * p.rows + r

/-- The show slot a row shows; none where it shows BLANK (R102). -/
def Pane.shows (p : Pane) (r : Nat) : Option (Fin 192) := p.list[p.position r]?

/-- The dwell timer loaded with the page dwell in milliseconds (R100, R105). -/
def Pane.loadTimer (p : Pane) : Pane := { p with timer := p.dwell * 1000 }

/-- The page index brought below a new page count (R104). -/
def Pane.fixPage (p : Pane) : Pane :=
  if p.page < p.pageCount then p
  else ({ p with page := p.pageCount - 1 } : Pane).markRows fun _ => true

/-- The filtered list computed afresh, with the rows from the first difference on marked (R103), and the page count found afresh (R104). -/
def Pane.recompute (t : Tracker) (p : Pane) : Pane :=
  match p.kind with
  | .board =>
    let new := p.filtered t
    match firstDiff p.list new with
    | none => p.fixPage
    | some f0 =>
      ({ p.markRows (fun r => decide (f0 ≤ p.position r)) with list := new } : Pane).fixPage
  | _ => p

/-- The rows of the current page that show a slot marked dirty, in a BOARD pane (R106). -/
def Pane.markShow (slot : Fin 192) (p : Pane) : Pane :=
  match p.kind with
  | .board => p.markRows fun r => decide (p.shows r = some slot)
  | _ => p

/-- The dwell timer has reached 0 (R105). -/
def Pane.dwellExpiry (p : Pane) : Pane :=
  match p.kind with
  | .board =>
    if p.timer = 0 then
      if 1 < p.pageCount then
        (({ p with page := if p.page + 1 < p.pageCount then p.page + 1 else 0 } : Pane).markRows fun _ => true).loadTimer
      else { p.loadTimer with page := 0 }
    else p
  | _ => p

/-- Active: the kind is not NONE and the pane is FIT (R101). -/
def Pane.active (p : Pane) : Bool := decide (p.kind ≠ .none) && decide (p.fitness = .fit)

/-- One millisecond of the dwell timer: it counts while the pane is active and its screen not under alert (R105). -/
def Pane.tick (alerted : Bool) (p : Pane) : Pane :=
  match p.kind with
  | .board => if p.active && !alerted then { p with timer := p.timer - 1 } else p
  | _ => p

/-! ### Panes, screens and serials of the unit -/

/-- One pane changed. -/
def Comp.onPane (i : Fin 128) (f : Pane → Pane) (q : Comp) : Comp := { q with panes := q.panes.modify i f }

/-- One screen changed. -/
def Comp.onScreen (sc : Fin 32) (f : Screen → Screen) (q : Comp) : Comp := { q with screens := q.screens.modify sc f }

/-- The four panes of a screen changed. -/
def Comp.onPanesOf (sc : Fin 32) (f : Pane → Pane) (q : Comp) : Comp :=
  { q with panes := q.panes.mapFin fun i p => if paneScreen i = sc then f p else p }

/-- The last-accepted serial of a screen's module and a channel forgotten (R112). -/
def Comp.forget (sc : Fin 32) (ch : Fin 8) (q : Comp) : Comp :=
  q.onScreen sc fun x => { x with serials := x.serials.set ch none }

/-- Every last-accepted serial of a screen's module forgotten (R112). -/
def Comp.forgetAll (sc : Fin 32) (q : Comp) : Comp :=
  q.onScreen sc fun x => { x with serials := Table.replicate 8 none }

/-! ### Fitness (R101) -/

/-- The fitness of a pane by its kind and module information. -/
def State.fitnessBy (s : State) (info : Option ModuleInfo) (i : Fin 128) (p : Pane) : Fitness :=
  match info with
  | none => .unjudged
  | some m =>
    if p.kind = .none then .unjudged
    else if m.regions ≤ (paneNo i).val then .unfit
    else if p.kind = .reel ∧
        m.maxFrame < (s.reel.channels.get p.channel).frameLength (s.params.rest.get p.channel) then .unfit
    else .fit

/-- The fitness of a pane by its kind and the information in its screen's module slot. -/
def State.fitnessOf (s : State) (i : Fin 128) (p : Pane) : Fitness :=
  s.fitnessBy (s.slotOf (paneScreen i)).information i p

/-- A pane judged as `fit` says, with the effects of a change of fitness (R101). -/
def Comp.judge (fit : Fin 128 → Pane → Fitness) (i : Fin 128) (q : Comp) : Comp × List Out :=
  let p := q.panes.get i
  let f := fit i p
  if f = p.fitness then (q, [])
  else
    let q1 := q.onPane i fun p => { p with fitness := f }
    match f with
    | .unfit => (q1, [.event .paneUnfit])
    | .fit =>
      let q2 := q1.onPane i (Pane.mapItems Item.mark)
      (if p.kind = .reel then q2.forget (paneScreen i) p.channel else q2, [])
    | .unjudged => (q1, [])

/-- Every pane that meets a test judged, in screen and pane order. -/
def Comp.judgeSome (fit : Fin 128 → Pane → Fitness) (test : Fin 128 → Pane → Bool) (q : Comp) : Comp × List Out :=
  forAll (allFin 128) (fun i q => if test i (q.panes.get i) then q.judge fit i else (q, [])) q

/-- The four panes of a screen judged by the module information a report brings (notes/assumptions/52.md). -/
def Comp.judgeScreen (s : State) (info : Option ModuleInfo) (sc : Fin 32) (q : Comp) : Comp × List Out :=
  q.judgeSome (s.fitnessBy info) fun i _ => decide (paneScreen i = sc)

/-- The screen has at least one active pane (R101, R140). -/
def Comp.hasActive (sc : Fin 32) (q : Comp) : Bool := (allFin 4).any fun p => (q.panes.get (paneIx sc p)).active

/-! ### Pane writes (R100) -/

/-- A pane's board state after a write (R100). -/
def Pane.restart (t : Tracker) (p : Pane) : Pane :=
  match p.kind with
  | .board => ({ p with list := p.filtered t, page := 0 } : Pane).loadTimer
  | _ => { p with list := [], page := 0, timer := 0 }

/-- The banner report of a pane write (R100). -/
def bannerReportOuts (i : Fin 128) (old new : Pane) : List Out :=
  let report (b : Option Nat) : List Out :=
    [.bannerReport { screen := paneScreen i, pane := paneNo i, banner := b }]
  if new.kind = .banner then
    (if old.kind = .banner ∧ old.minPriority = new.minPriority then [] else report (some new.minPriority))
  else if old.kind = .banner then report none
  else []

/-- A write of a pane's words, `new` holding the fields stored (R100). -/
def Comp.writePane (s : State) (i : Fin 128) (new : Pane) (q : Comp) : Comp × List Out :=
  let old := q.panes.get i
  let p := (({ new with layout := old.layout + 1 } : Pane).clearItems.mapItems Item.mark).restart s.tracker
  let q1 := q.onPane i fun _ => p
  let q2 := if p.kind = .reel then q1.forget (paneScreen i) p.channel else q1
  andThen (q2.judge s.fitnessOf i) fun q => (q, bannerReportOuts i old new)

/-- The fields of a pane as an entry to one of its words leaves them (R167, R172). -/
def Pane.storeWord (p : Pane) (second : Bool) (v : BitVec 32) : Pane :=
  if second then p.setWord1 v
  else
    let n := p.setWord0 v
    if n.kind = .board then n.raiseBoard else n

/-- The bits of a pane word that a field names (R188). -/
def paneMask (second : Bool) : BitVec 32 := if second then paneMask1 else paneMask0

/-! ### Offered items and car contents (R107, R108, R112, R190, R191) -/

/-- The screen takes pane content: its slot is READY or LIVE and it is not under alert (R107). -/
def State.screenTakes (s : State) (q : Comp) (sc : Fin 32) : Bool :=
  (s.slotOf sc).taking && !(q.screens.get sc).underAlert

/-- Row r of a BOARD pane is offered (R107). -/
def State.rowOffered (s : State) (q : Comp) (i : Fin 128) (r : Fin 16) : Bool :=
  let p := q.panes.get i
  decide (p.kind = .board) && (p.rowItems.get r).waits && p.active && s.screenTakes q (paneScreen i) &&
    decide (r.val < p.rows)

/-- The banner item of a BANNER pane, or the clock item of a CLOCK pane, is offered (R107). -/
def State.itemOffered (s : State) (q : Comp) (kind : PaneKind) (i : Fin 128) : Bool :=
  let p := q.panes.get i
  decide (p.kind = kind) && p.item.waits && p.active && s.screenTakes q (paneScreen i)

/-- The alert item of a screen is offered (R107). -/
def State.alertOffered (s : State) (q : Comp) (sc : Fin 32) : Bool :=
  let x := q.screens.get sc
  x.alert.waits && x.underAlert && (s.slotOf sc).taking

/-- The REEL item of a module and channel is due (R112). -/
def State.reelDue (s : State) (q : Comp) (ch : Fin 8) (sc : Fin 32) : Bool :=
  ((allFin 4).any fun p =>
      let x := q.panes.get (paneIx sc p)
      decide (x.kind = .reel) && decide (x.channel = ch) && x.active) &&
    s.screenTakes q sc &&
    decide ((q.screens.get sc).serials.get ch ≠ some (s.reel.channels.get ch).serial)

/-- The modules of a ring that a frame car for a channel names (R112, R129). -/
def State.dueModules (s : State) (q : Comp) (ring : Fin 4) (ch : Fin 8) : List (Fin 8) :=
  (allFin 8).filter fun k =>
    s.reelDue q ch (ringScreen ring k) &&
      decide ((s.reel.channels.get ch).shownLen ≤ (s.slotOf (ringScreen ring k)).maxFrame)

/-- The payload of a ROW car (R108, R190, R191). -/
def State.rowPayload (s : State) (p : Pane) (r : Fin 16) : List Byte :=
  match p.shows r.val with
  | none => padTo 64 [BitVec.ofNat 8 (r.val + 128)]
  | some slot =>
    let e := s.tracker.entries.get slot
    let g := s.showFigure slot
    let f := if e.fields.hideSeats ∨ g.band = .none then Figure.none else g
    padTo 64
      (leBytes 1 r.val ++ leBytes 1 (bit f.plus + 4 * e.fields.marks.toNat) ++ leBytes 1 slot.val ++
        leBytes 1 (e.state.code + 16 * f.band.code) ++ leBytes 2 e.id ++ leBytes 1 e.fields.auditorium ++
        [e.fields.rating] ++ leBytes 2 f.shown ++ leBytes 2 e.effStart ++ leBytes 2 e.fields.run ++
        leBytes 1 e.delay ++ leBytes 1 e.title.length ++ e.title)

/-- The payload of a BANNER or ALERT car for a notice, or for none (R76, R190, R191). -/
def noticePayload (n : Option Notice) : List Byte :=
  match n with
  | none => padTo 16 [0, 0, 0, 1]
  | some n =>
    leBytes 1 n.kind.code ++ leBytes 1 n.priority ++ leBytes 1 n.template.code ++ [0] ++ leBytes 2 n.show_ ++
      leBytes 2 n.applied ++ leBytes 2 n.ident.desk ++ leBytes 2 n.ident.id ++ leBytes 4 n.text.length ++ n.text

/-- The listed notice of an identity, if any. -/
def Notices.content (q : Notices) (x : Option NoticeId) : Option Notice := x.bind q.find

/-- The payload of a CLOCK car (R190). -/
def clockPayload (minute : Nat) : List Byte := padTo 8 (leBytes 2 minute)

/-- The payload of a FRAME car (R98, R129, R190). -/
def State.framePayload (s : State) (ch : Fin 8) : List Byte :=
  let c := s.reel.channels.get ch
  padTo 8 (leBytes 1 ch.val ++ leBytes 1 c.shownKind.code ++ leBytes 2 c.serial.toNat ++ leBytes 2 c.shownLen) ++
    c.shownBuf.take c.shownLen

/-- The destination mask of one chain position (R126). -/
def onePosition (k : Fin 8) : BitVec 8 := 1#8 <<< k.val

/-- The destination mask of several chain positions. -/
def positions (ks : List (Fin 8)) : BitVec 8 := ks.foldl (fun m k => m ||| onePosition k) 0

/-- A car with the fields its kind does not need left 0 (R180). -/
def plainCar (kind : CarKind) (dest : BitVec 8) (payload : List Byte) : Car :=
  { kind := kind, dest := dest, pane := 0, row := 0, channel := 0, layout := 0, payload := payload }

/-- The ROW car of a board row as it would be built now (R108). -/
def State.rowCar (s : State) (q : Comp) (i : Fin 128) (r : Fin 16) : Car :=
  let p := q.panes.get i
  { plainCar .row (onePosition (screenPos (paneScreen i))) (s.rowPayload p r) with
    pane := paneNo i, row := r, layout := p.layout }

/-- The BANNER car of a pane as it would be built now (R76, R108). -/
def State.bannerCar (s : State) (q : Comp) (i : Fin 128) : Car :=
  { plainCar .banner (onePosition (screenPos (paneScreen i)))
      (noticePayload (s.notices.content (s.notices.rotations.get i).current)) with
    pane := paneNo i, layout := (q.panes.get i).layout }

/-- The CLOCK car of a pane as it would be built now (R108). -/
def clockCar (q : Comp) (i : Fin 128) : Car :=
  { plainCar .clock (onePosition (screenPos (paneScreen i))) (clockPayload q.minute) with
    pane := paneNo i, layout := (q.panes.get i).layout }

/-- The ALERT car of a screen as it would be built now (R76, R108). A screen still under alert for which no alert is selected any more is sent the empty form of R191, the model's choice (notes/assumptions/46.md). -/
def State.alertCar (s : State) (sc : Fin 32) : Car :=
  plainCar .alert (onePosition (screenPos sc)) (noticePayload (s.notices.content (s.notices.alerts.get sc)))

/-- The FRAME car of a channel for the modules named (R112, R129). -/
def State.frameCar (s : State) (ch : Fin 8) (ks : List (Fin 8)) : Car :=
  { plainCar .frame (positions ks) (s.framePayload ch) with channel := ch }

/-- A row item built into a car (R108). -/
def Comp.buildRow (i : Fin 128) (r : Fin 16) (q : Comp) : Comp :=
  q.onPane i fun p => { p with rowItems := p.rowItems.modify r Item.built }

/-- A banner or clock item built into a car (R108). -/
def Comp.buildItem (i : Fin 128) (q : Comp) : Comp := q.onPane i fun p => { p with item := p.item.built }

/-- An alert item built into a car (R108). -/
def Comp.buildAlert (sc : Fin 32) (q : Comp) : Comp := q.onScreen sc fun x => { x with alert := x.alert.built }

/-! ### Settlement (R110, R112) -/

/-- The part of a settlement that one module of a car's destination brings. A frame's serial is stored unless the slot is ABSENT as the settlement is taken: a slot that became ABSENT and READY again before that takes it, the model's choice (notes/assumptions/57.md). -/
def Comp.settleAt (s : State) (ring : Fin 4) (c : Car) (accept : BitVec 8) (k : Fin 8) (q : Comp) : Comp :=
  let sc := ringScreen ring k
  let i := paneIx sc c.pane
  let ok := accept.getLsbD k.val
  let ofPane (f : Pane → Pane) : Comp := if (q.panes.get i).layout = c.layout then q.onPane i f else q
  match c.kind with
  | .row => ofPane fun p => { p with rowItems := p.rowItems.modify c.row (Item.settle ok) }
  | .banner => ofPane fun p => { p with item := p.item.settle ok }
  | .clock => ofPane fun p => { p with item := p.item.settle ok }
  | .alert => q.onScreen sc fun x => { x with alert := x.alert.settle ok }
  | .frame =>
    if ok = true ∧ (s.slotOf sc).state ≠ .absent then
      q.onScreen sc fun x => { x with serials := x.serials.set c.channel (some (BitVec.ofNat 16 (le16At c.payload 2))) }
    else q
  | .query => q
  | .set => q
  | .probe => q
  | .enum => q

/-- One car of a settlement, for each module of its destination mask. -/
def Comp.settleCar (s : State) (ring : Fin 4) (c : Car × BitVec 8) (q : Comp) : Comp :=
  (allFin 8).foldl (fun q k => if c.1.dest.getLsbD k.val then q.settleAt s ring c.1 c.2 k else q) q

/-- A train's returned acceptance settled, car by car (R110). -/
def Comp.settle (s : State) (t : Settlement) (q : Comp) : Comp :=
  t.cars.foldl (fun q c => q.settleCar s t.ring c) q

/-! ### Notes, reports and DAY_OPEN (R103, R106, R111, R113 to R116) -/

/-- Every pane changed. -/
def Comp.mapPanes (f : Pane → Pane) (q : Comp) : Comp := { q with panes := q.panes.map f }

/-- A show-changed note taken (R103, R106). -/
def Comp.showNote (t : Tracker) (n : ShowNote) (q : Comp) : Comp :=
  let q1 := if n.change.state || n.change.display || n.change.removed then q.mapPanes (Pane.recompute t) else q
  if n.change.state || n.change.start || n.change.title || n.change.display then q1.mapPanes (Pane.markShow n.slot)
  else q1

/-- The banner item of a BANNER pane marked (R111). -/
def Pane.markBanner (p : Pane) : Pane :=
  match p.kind with
  | .banner => p.mapItems Item.mark
  | _ => p

/-- The clock item of a CLOCK pane marked (R111). -/
def Pane.markClock (p : Pane) : Pane :=
  match p.kind with
  | .clock => p.mapItems Item.mark
  | _ => p

/-- A LIST note taken (R111). -/
def Comp.listNote (mask : BitVec 32) (q : Comp) : Comp :=
  { q with
    panes := q.panes.mapFin fun i p => if maskHits mask (paneScreen i) then p.markBanner else p
    screens := q.screens.mapFin fun sc x =>
      if x.underAlert && maskHits mask sc then { x with alert := x.alert.mark } else x }

/-- An ALERT note taken (R114). -/
def Comp.alertNote (sc : Fin 32) (selected : Bool) (q : Comp) : Comp :=
  if selected then q.onScreen sc fun x => { x with underAlert := true, alert := x.alert.mark }
  else if (q.screens.get sc).underAlert then
    ((q.onPanesOf sc (Pane.mapItems Item.mark)).forgetAll sc).onScreen sc fun x =>
      { x with underAlert := false, alert := { x.alert with dirty := false } }
  else q

/-- A minute note taken (R111). -/
def Comp.minuteNote (m : Nat) (q : Comp) : Comp := { q.mapPanes Pane.markClock with minute := m }

/-- Every item of a screen changed, its alert item too (R115). -/
def Comp.onItemsOf (sc : Fin 32) (f : Item → Item) (q : Comp) : Comp :=
  (q.onPanesOf sc (Pane.mapItems f)).onScreen sc fun x => { x with alert := f x.alert }

/-- A module report taken (R115): READY judges the screen's panes by the information it brings, ABSENT leaves every pane UNJUDGED. -/
def Comp.report (s : State) (r : ModuleReport) (q : Comp) : Comp × List Out :=
  let sc := ringScreen r.ring r.position
  match r.state with
  | .lost => ((q.onItemsOf sc Item.afresh).forgetAll sc, [])
  | .ready =>
    andThen (q.judgeScreen s r.info sc) fun q => ((q.onItemsOf sc Item.mark).forgetAll sc, [])
  | .live => (q, [])
  | .absent => ((q.onItemsOf sc Item.afresh).forgetAll sc).judgeScreen s none sc

/-- A pane at DAY_OPEN (R116). -/
def Pane.dayOpen (p : Pane) : Pane :=
  match p.kind with
  | .board => { (p.mapItems Item.mark).loadTimer with list := [], page := 0 }
  | _ => p.mapItems Item.mark

/-- DAY_OPEN at the unit (R116). -/
def Comp.dayOpen (q : Comp) : Comp :=
  { q with
    panes := q.panes.map Pane.dayOpen
    screens := q.screens.map fun x => { x with alert := x.alert.mark } }

/-! ### The commands -/

/-- The unit's new state put in place and what it sends sent. -/
def State.compDo (s : State) (p : Comp × List Out) : State := (s.withComp p.1).emit p.2

/-- The oldest message of the tracker leaves the unit's inbox. -/
def State.popCompMsg (s : State) : State := s.withMail { s.mail with toComp := s.mail.toComp.tail }

/-- The oldest note of the Notice Unit leaves the unit's inbox. -/
def State.popNoticeNote (s : State) : State :=
  s.withMail { s.mail with noticesToComp := s.mail.noticesToComp.tail }

/-- PANE_WRITE (R100, R167): a write of one word of a pane. The outcome compares the written word alone, the model's choice where word 0 makes the kind BOARD and so raises fields of word 1 (notes/assumptions/49.md). -/
def paneWrite (s : State) : State :=
  match s.entry with
  | some e =>
    match e.row with
    | .pane sc no second =>
      let v := s.masked e &&& paneMask second
      let i := paneIx sc no
      (s.takeEntry.compDo (s.comp.writePane s i ((s.comp.panes.get i).storeWord second v))).paramResult e v
    | _ => s
  | none => s

/-- BOARD_ORDER_NOTE (R103). -/
def boardOrderNote (s : State) : State :=
  match s.mail.toComp with
  | .board _ :: _ => s.popCompMsg.withComp (s.comp.mapPanes (Pane.recompute s.tracker))
  | _ => s

/-- COMPOSITION_SHOW_CHANGED_NOTE (R106). -/
def compositionShowChangedNote (s : State) : State :=
  match s.mail.toComp with
  | .note n :: _ => s.popCompMsg.withComp (s.comp.showNote s.tracker n)
  | _ => s

/-- COMPOSITION_SEATS_CHANGED_NOTE (R106). -/
def compositionSeatsChangedNote (s : State) : State :=
  match s.mail.seatsToComp with
  | n :: rest =>
    (s.withMail { s.mail with seatsToComp := rest }).withComp (s.comp.mapPanes (Pane.markShow n.show_))
  | [] => s

/-- PAGE_DWELL_EXPIRY (R105). -/
def pageDwellExpiry (screen : Fin 32) (pane : Fin 4) (s : State) : State :=
  s.withComp (s.comp.onPane (paneIx screen pane) Pane.dwellExpiry)

/-- LIST_NOTE (R111). -/
def listNote (s : State) : State :=
  match s.mail.noticesToComp with
  | .list mask :: _ => s.popNoticeNote.withComp (s.comp.listNote mask)
  | _ => s

/-- BANNER_NOTE (R111). -/
def bannerNote (s : State) : State :=
  match s.mail.noticesToComp with
  | .banner sc p :: _ => s.popNoticeNote.withComp (s.comp.onPane (paneIx sc p) Pane.markBanner)
  | _ => s

/-- ALERT_NOTE (R114). -/
def alertNote (s : State) : State :=
  match s.mail.noticesToComp with
  | .alert sc selected :: _ => s.popNoticeNote.withComp (s.comp.alertNote sc selected)
  | _ => s

/-- MINUTE_NOTE_COMPOSITION (R111). -/
def minuteNoteComposition (s : State) : State :=
  match s.mail.toComp with
  | .minute m :: _ => s.popCompMsg.withComp (s.comp.minuteNote m)
  | _ => s

/-- CHANNEL_NOTE (R113). -/
def channelNote (s : State) : State :=
  match s.mail.channelNotes with
  | n :: rest =>
    (s.withMail { s.mail with channelNotes := rest }).compDo
      (s.comp.judgeSome s.fitnessOf fun _ p => decide (p.kind = .reel) && decide (p.channel = n.channel))
  | [] => s

/-- MODULE_REPORT (R115). -/
def moduleReport (s : State) : State :=
  match s.mail.moduleReports with
  | r :: rest => (s.withMail { s.mail with moduleReports := rest }).compDo (s.comp.report s r)
  | [] => s

/-- ACCEPTANCE_SETTLEMENT (R110). -/
def acceptanceSettlement (s : State) : State :=
  match s.mail.settlements with
  | t :: rest => (s.withMail { s.mail with settlements := rest }).withComp (s.comp.settle s t)
  | [] => s

/-- COMPOSITION_DAY_OPEN (R116). -/
def compositionDayOpen (s : State) : State :=
  if s.mail.dayOpenComp then
    ((s.withMail { s.mail with dayOpenComp := false }).withComp s.comp.dayOpen).dayOpenComp
  else s

def execPaneWrite (s : State) : Host.Outcome State Fault Refusal := goOn s (paneWrite s)
def execBoardOrderNote (s : State) : Host.Outcome State Fault Refusal := goOn s (boardOrderNote s)
def execCompositionShowChangedNote (s : State) : Host.Outcome State Fault Refusal := goOn s (compositionShowChangedNote s)
def execCompositionSeatsChangedNote (s : State) : Host.Outcome State Fault Refusal := goOn s (compositionSeatsChangedNote s)
def execPageDwellExpiry (screen : Fin 32) (pane : Fin 4) (s : State) : Host.Outcome State Fault Refusal :=
  goOn s (pageDwellExpiry screen pane s)
def execListNote (s : State) : Host.Outcome State Fault Refusal := goOn s (listNote s)
def execBannerNote (s : State) : Host.Outcome State Fault Refusal := goOn s (bannerNote s)
def execAlertNote (s : State) : Host.Outcome State Fault Refusal := goOn s (alertNote s)
def execMinuteNoteComposition (s : State) : Host.Outcome State Fault Refusal := goOn s (minuteNoteComposition s)
def execChannelNote (s : State) : Host.Outcome State Fault Refusal := goOn s (channelNote s)
def execModuleReport (s : State) : Host.Outcome State Fault Refusal := goOn s (moduleReport s)
def execAcceptanceSettlement (s : State) : Host.Outcome State Fault Refusal := goOn s (acceptanceSettlement s)
def execCompositionDayOpen (s : State) : Host.Outcome State Fault Refusal := goOn s (compositionDayOpen s)

end Sys2Proof.Machine
end

