-- ==== Sys2Proof/Machine/Trains.lean ====
section
/-! DEFINITION. Trains as bytes: sizes, headers, cars and checks (spec/06, R126, R133; spec/11, R190), and what is read of a returned train (R132, R191). -/

namespace Sys2Proof.Machine

/-! ### Checks (R133) -/

/-- One byte fed to the CRC16 register, most significant bit first (R133). -/
def crc16Byte (r : BitVec 16) (b : Byte) : BitVec 16 :=
  (List.range 8).foldl (fun r _ => if r.msb then (r <<< 1) ^^^ 0x1021#16 else r <<< 1) (r ^^^ (b.setWidth 16 <<< 8))

/-- CRC16 (R133). -/
def crc16 (bs : List Byte) : BitVec 16 := bs.foldl crc16Byte 0xFFFF

/-- One byte fed to the CRC32 register, least significant bit first, the register held in reflected bit order (R133): 0xEDB88320 is 0x04C11DB7 reflected. -/
def crc32Byte (r : BitVec 32) (b : Byte) : BitVec 32 :=
  (List.range 8).foldl (fun r _ => if r.getLsbD 0 then (r >>> 1) ^^^ 0xEDB88320#32 else r >>> 1) (r ^^^ b.setWidth 32)

/-- CRC32 (R133). -/
def crc32 (bs : List Byte) : BitVec 32 := ~~~ bs.foldl crc32Byte 0xFFFFFFFF

/-- The four bytes of a train's check field over its header and cars (R133). -/
def checkField (type : CheckType) (marker : BitVec 32) (body : List Byte) : List Byte :=
  match type with
  | .marker => leBytes 4 marker.toNat
  | .crc16 => leBytes 4 (crc16 body).toNat
  | .crc32 => leBytes 4 (crc32 body).toNat

/-! ### Cars and trains as sent (R126, R190) -/

/-- A car's size (R126). -/
def Car.size (c : Car) : Nat := 8 + c.payload.length

/-- The sizes of some cars together. -/
def carsSize (cs : List Car) : Nat := (cs.map Car.size).sum

/-- A train's size (R126). -/
def trainSize (cs : List Car) : Nat := 16 + carsSize cs + 4

/-- Byte 3 of a car header: pane and row, or the channel (R190). -/
def Car.place (c : Car) : Nat :=
  match c.kind with
  | .frame => c.channel.val
  | _ => c.row.val + 16 * c.pane.val

/-- A car's header as sent: accept mask and claimed mark clear (R126, R190). -/
def Car.header (c : Car) : List Byte :=
  leBytes 1 c.kind.code ++ leBytes 1 c.dest.toNat ++ [0] ++ leBytes 1 c.place ++ leBytes 1 c.layout.toNat ++ [0] ++
    leBytes 2 c.payload.length

/-- A car as sent. -/
def Car.bytes (c : Car) : List Byte := c.header ++ c.payload

/-- A train's header as sent: excess mark clear (R126, R190). -/
def Flight.header (ring : Fin 4) (f : Flight) : List Byte :=
  padTo 16 (leBytes 1 ring.val ++ leBytes 1 f.check.code ++ leBytes 2 f.seq.toNat ++ leBytes 4 (trainSize f.cars) ++
    leBytes 2 f.cars.length)

/-- A train's header and cars. -/
def Flight.body (ring : Fin 4) (f : Flight) : List Byte := f.header ring ++ f.cars.flatMap Car.bytes

/-- The train as it leaves the part on a ring (R126). -/
def Flight.bytes (ring : Fin 4) (f : Flight) : List Byte := f.body ring ++ checkField f.check f.marker (f.body ring)

/-- An ENUM car, blank (R120, R126). -/
def enumCar : Car := plainCar .enum 0xFF (padTo 8 [])

/-! ### What is read of a returned train (R132, R191) -/

/-- A returned train's sequence. -/
def returnedSeq (bs : List Byte) : BitVec 16 := BitVec.ofNat 16 (le16At bs 2)

/-- The offset of each car in a train. -/
def carOffsets : Nat → List Car → List Nat
  | _, [] => []
  | o, c :: cs => o :: carOffsets (o + c.size) cs

/-- What is read of one returned car: accept mask, claimed mark, payload (R191). -/
structure ReturnedCar where
  car : Car
  accept : BitVec 8
  claimed : Bool
  payload : List Byte
  deriving DecidableEq, Repr

/-- The returned cars, at the offsets they were sent at. -/
def Flight.returned (f : Flight) (bs : List Byte) : List ReturnedCar :=
  (f.cars.zip (carOffsets 16 f.cars)).map fun (c, o) =>
    { car := c, accept := bs.getD (o + 2) 0, claimed := (bs.getD (o + 5) 0).getLsbD 0,
      payload := (bs.drop (o + 8)).take c.payload.length }

/-- The cars of a train handed over with every accept bit clear (R135). -/
def Flight.notAccepted (f : Flight) : List ReturnedCar :=
  f.cars.map fun c => { car := c, accept := 0, claimed := false, payload := c.payload }

/-- The returned header's excess mark (R190, R191). -/
def returnedExcess (bs : List Byte) : Bool := (bs.getD 10 0).getLsbD 0

/-- The two checks of R132 on a return whose sequence matches. -/
def Flight.good (f : Flight) (bs : List Byte) : Bool :=
  decide (bs.length = trainSize f.cars) && decide (le32At bs 4 = trainSize f.cars) &&
    decide (le16At bs 8 = f.cars.length) &&
    decide (checkField f.check f.marker (bs.take (bs.length - 4)) = bs.drop (bs.length - 4))

end Sys2Proof.Machine
end

