-- ==== Sys2Proof/Machine/Modules.lean ====
section
/-! DEFINITION. What a screen module does to a train that passes it (R130, R138, R146). The modules are outside the part, so no command runs these functions: their answers arrive as the bytes of TRAIN_RETURN (notes/assumptions/3.md). They say which returns a chain of modules gives. -/

namespace Sys2Proof.Machine

/-- What a module tells of itself (R138). -/
structure ModuleFacts where
  type : Byte
  regions : Byte
  maxFrame : BitVec 16
  firmware : BitVec 16
  deriving DecidableEq, Repr

/-- Byte o of a train replaced. -/
def setByte (o : Nat) (b : Byte) (bs : List Byte) : List Byte := bs.set o b

/-- Bytes of a train from o on replaced. -/
def setBytes (o : Nat) (new : List Byte) (bs : List Byte) : List Byte :=
  new.zipIdx.foldl (fun bs (p : Byte × Nat) => setByte (o + p.2) p.1 bs) bs

/-- The check type a train's header names (R190). -/
def headerCheck (bs : List Byte) : CheckType := CheckType.ofCode (byteAt bs 1)

/-- The check recomputed and written in place; a MARKER train's is left as it is (R130). -/
def rewriteCheck (bs : List Byte) : List Byte :=
  match headerCheck bs with
  | .marker => bs
  | t => bs.take (bs.length - 4) ++ checkField t 0 (bs.take (bs.length - 4))

/-- The module at position k takes the car at offset o (R130): its bit of the accept mask is set. -/
def acceptCar (k : Fin 8) (o : Nat) (bs : List Byte) : List Byte :=
  rewriteCheck (setByte (o + 2) (bs.getD (o + 2) 0 ||| onePosition k) bs)

/-- The module at position k takes the QUERY or SET car at offset o and writes its answer into the value field (R146). -/
def answerCar (k : Fin 8) (o : Nat) (answer : BitVec 32) (bs : List Byte) : List Byte :=
  rewriteCheck
    (setBytes (o + 12) (leBytes 4 answer.toNat) (setByte (o + 2) (bs.getD (o + 2) 0 ||| onePosition k) bs))

/-- The offset of ENUM car k (R120). -/
def enumOffset (k : Nat) : Nat := 16 + 16 * k

/-- The first ENUM car whose claimed mark is clear (R138). -/
def firstUnclaimed (bs : List Byte) : Option (Fin 8) :=
  (allFin 8).find? fun k => !(bs.getD (enumOffset k.val + 5) 0).getLsbD 0

/-- An ENUM train passes a module (R138): it claims the first unclaimed car and writes its facts there, or sets the excess mark. -/
def enumerateModule (m : ModuleFacts) (bs : List Byte) : List Byte :=
  match firstUnclaimed bs with
  | some k =>
    let o := enumOffset k.val
    let accepted := setByte (o + 2) (bs.getD (o + 2) 0 ||| onePosition k) bs
    let claimed := setByte (o + 5) (accepted.getD (o + 5) 0 ||| 1) accepted
    rewriteCheck
      (setBytes (o + 8) (m.type :: m.regions :: (leBytes 2 m.maxFrame.toNat ++ leBytes 2 m.firmware.toNat)) claimed)
  | none => rewriteCheck (setByte 10 (bs.getD 10 0 ||| 1) bs)

end Sys2Proof.Machine
end

