-- ==== Sys2Proof/Machine/Rings.lean ====
section
/-! DEFINITION. The Ring Engines (spec/06, R117 to R136) with their module slots and query slots (spec/07, R137 to R148): coming up and down, boundaries, assembly, returns and settlement. -/

namespace Sys2Proof.Machine

/-! ### Module slots and reports (R137) -/

/-- One slot of a ring changed. -/
def Ring.onSlot (k : Fin 8) (f : ModSlot → ModSlot) (r : Ring) : Ring := { r with slots := r.slots.modify k f }

/-- The report of a slot that has become ABSENT, LIVE or LOST (R137). -/
def reportOut (ring : Fin 4) (k : Fin 8) (st : ModState) : Out :=
  .moduleReport { ring := ring, position := k, state := st, info := none }

/-- The report of a slot m that has become READY, with its module information (R137, R139, R144). -/
def readyOut (ring : Fin 4) (k : Fin 8) (m : ModSlot) : Out :=
  .moduleReport { ring := ring, position := k, state := .ready, info := some m.fields }

/-- Every slot that is not ABSENT becomes ABSENT, with an ABSENT report for each (R118, R119, R137), in position order, the model's choice (notes/assumptions/55.md). -/
def Ring.clearSlots (ring : Fin 4) (r : Ring) : Ring × List Out :=
  forAll (allFin 8)
    (fun k r =>
      if (r.slots.get k).state = .absent then (r, [])
      else (r.onSlot k fun _ => ModSlot.reset, [reportOut ring k .absent])) r

/-- Every READY or LIVE slot becomes LOST with the ring's fault, with a LOST report for each (R121, R141), in position order, the model's choice (notes/assumptions/55.md). -/
def Ring.loseSlots (ring : Fin 4) (r : Ring) : Ring × List Out :=
  forAll (allFin 8)
    (fun k r =>
      if (r.slots.get k).taking then (r.onSlot k fun m => { m with state := .lost }, [reportOut ring k .lost])
      else (r, [])) r

/-! ### The query slot (R145, R147, R148) -/

/-- A request ends with an outcome and an answer (R148); an EMPTY slot has none to end. -/
def Ring.endQuery (ring : Fin 4) (outcome : QueryOutcome) (answer : BitVec 32) (r : Ring) : Ring × List Out :=
  if r.query.state = .empty then (r, [])
  else
    ({ r with
        query := Query.reset
        result :=
          { outcome := outcome, isSet := r.query.isSet, screen := (ringScreen ring r.query.position).val,
            item := r.query.item, value := if r.query.isSet then r.query.value else 0, answer := answer,
            trains := r.query.trains, count := r.result.count + 1 } },
      [.event .queryDone])

/-- A car of the query slot. -/
def CarKind.isQuery : CarKind → Bool
  | .query => true
  | .set => true
  | _ => false

/-- The value field of a QUERY or SET car (R190). -/
def valueField (payload : List Byte) : BitVec 32 := BitVec.ofNat 32 (le32At payload 4)

/-- The query slot at the settlement of a train that carried its car (R147). -/
def Ring.settleQuery (ring : Fin 4) (cars : List ReturnedCar) (r : Ring) : Ring × List Out :=
  match r.query.state, cars.find? fun c => c.car.kind.isQuery with
  | .inFlight, some c =>
    if c.accept.getLsbD r.query.position.val then r.endQuery ring .answered (valueField c.payload)
    else ({ r with query := { r.query with state := .waiting } }, [])
  | _, _ => (r, [])

/-- The outcome of a MODULE_QUERY or MODULE_SET (R145). -/
def Ring.requestOutcome (k : Fin 8) (r : Ring) : Outcome :=
  if r.query.state ≠ .empty then .busy else if (r.slots.get k).taking then .accepted else .refused

/-- A MODULE_QUERY or MODULE_SET (R145). -/
def Ring.request (isSet : Bool) (k : Fin 8) (item : BitVec 4) (value : BitVec 32) (r : Ring) : Ring × List Out :=
  match r.requestOutcome k with
  | .accepted =>
    ({ r with
        query := { state := .waiting, isSet := isSet, position := k, item := item, value := value, start := r.period,
                   trains := 0 } }, [])
  | .refused => (r, [.event .setupRefused])
  | _ => (r, [])

/-! ### Coming up and going down (R118 to R123) -/

/-- A train sent: the sequence advances, the train is recorded, and the return timer loaded with the return limit in use (R126, R131). -/
def Ring.send (p : RingParams) (period : Nat) (cars : List Car) (r : Ring) : Ring :=
  { r with
    seq := r.seq + 1
    flight := some { seq := r.seq, cars := cars, check := p.check, marker := p.marker }
    returnTimer := some (if p.returnLimit ≥ period then period - 1 else p.returnLimit) }

/-- An ENUM train sent (R120). -/
def Ring.sendEnum (p : RingParams) (period : Nat) (r : Ring) : Ring := r.send p period (List.replicate 8 enumCar)

/-- LOCKING entered (R119). -/
def Ring.enterLocking (p : RingParams) (ring : Fin 4) (r : Ring) : Ring × List Out :=
  andThen (r.clearSlots ring) fun r =>
    ({ r with
        state := .locking, errors := 0, period := 0, lockTimer := some p.lockLimit, restartTimer := none
        flight := none, returnTimer := none }, [])

/-- FAULT entered (R121). -/
def Ring.fault (p : RingParams) (ring : Fin 4) (r : Ring) : Ring × List Out :=
  andThen
    ({ r with
        state := .fault, shift := none, returnTimer := none, lockTimer := none
        restartTimer := if p.autoRestart then some (p.restartDelay * 1000) else none },
      [.event .ringFault])
    fun r => andThen (r.loseSlots ring) (Ring.endQuery ring .lost 0)

/-- The ring enable cleared (R118). -/
def Ring.goOff (ring : Fin 4) (r : Ring) : Ring × List Out :=
  andThen
    (andThen
      ({ r with
          state := .off, flight := none, returnTimer := none, lockTimer := none, restartTimer := none, shift := none
          errors := 0, last := .none }, [])
      (Ring.clearSlots ring))
    (Ring.endQuery ring .lost 0)

/-- A write of the ring enable (R118): clear to set moves an OFF ring to LOCKING, set to clear moves the ring to OFF. -/
def Ring.enableWrite (p : RingParams) (ring : Fin 4) (old new : Bool) (r : Ring) : Ring × List Out :=
  if new && !old then (if r.state = .off then r.enterLocking p ring else (r, []))
  else if old && !new then r.goOff ring
  else (r, [])

/-- A write of auto-restart (R122). -/
def Ring.autoRestartWrite (p : RingParams) (old new : Bool) (r : Ring) : Ring :=
  if r.state = .fault then
    if new && !old then { r with restartTimer := some (p.restartDelay * 1000) }
    else if old && !new then { r with restartTimer := none }
    else r
  else r

/-- RING_RESTART of an enabled ring (R123). -/
def Ring.restart (p : RingParams) (ring : Fin 4) (r : Ring) : Ring × List Out :=
  andThen (r.enterLocking p ring) (Ring.endQuery ring .lost 0)

/-- The receiver's lock indication (R119, R120). -/
def Ring.locked (p : RingParams) (period : Nat) (r : Ring) : Ring :=
  if r.state = .locking then ({ r with state := .enumerating, lockTimer := none } : Ring).sendEnum p period else r

/-- The lock timer has reached 0 (R119). -/
def Ring.lockExpiry (p : RingParams) (ring : Fin 4) (r : Ring) : Ring × List Out :=
  if r.state = .locking ∧ r.lockTimer = some 0 then r.fault p ring else (r, [])

/-- The restart timer has reached 0 (R122). -/
def Ring.restartExpiry (p : RingParams) (ring : Fin 4) (r : Ring) : Ring × List Out :=
  if r.state = .fault ∧ r.restartTimer = some 0 then r.enterLocking p ring else (r, [])

/-! ### Assembly (R127 to R129, R142, R143, R146) -/

/-- A train in assembly. -/
structure Assembly where
  ring : Ring
  comp : Comp
  cars : List Car
  space : Nat
  deriving DecidableEq, Repr

/-- A candidate taken if it fits in the space left, else passed over (R127). -/
def Assembly.offer (c : Car) (enters passed : Assembly → Assembly) (a : Assembly) : Assembly :=
  if c.size ≤ a.space then
    let b := enters a
    { b with cars := b.cars ++ [c], space := b.space - c.size }
  else passed a

/-- The ring's slots changed during an assembly. -/
def Assembly.onRing (f : Ring → Ring) (a : Assembly) : Assembly := { a with ring := f a.ring }

/-- The flags of items changed during an assembly. -/
def Assembly.onComp (f : Comp → Comp) (a : Assembly) : Assembly := { a with comp := f a.comp }

/-- Group 1: the ALERT cars (R127). -/
def Assembly.alerts (s : State) (ring : Fin 4) (a : Assembly) : Assembly :=
  (allFin 8).foldl
    (fun a k =>
      let sc := ringScreen ring k
      if s.alertOffered a.comp sc then a.offer (s.alertCar sc) (Assembly.onComp (Comp.buildAlert sc)) id else a) a

/-- The query slot's car (R146, R190). -/
def Query.car (q : Query) : Car :=
  plainCar (if q.isSet then .set else .query) (onePosition q.position)
    (padTo 4 (leBytes 1 q.item.toNat) ++ leBytes 4 (if q.isSet then q.value.toNat else 0))

/-- The query slot's car has entered a train (R146). The count of trains stays at 65,535 once there, which is read from the spec by inference (notes/assumptions/38.md): R145 gives its range alone. -/
def Ring.carryQuery (r : Ring) : Ring :=
  { r with query := { r.query with state := .inFlight, trains := min (r.query.trains + 1) 65535 } }

/-- A PROBE car (R143). -/
def probeCar (k : Fin 8) : Car := plainCar .probe (onePosition k) []

/-- Group 2: the query slot's car, then the PROBE cars (R127, R143, R146). -/
def Assembly.controls (a : Assembly) : Assembly :=
  let a :=
    match a.ring.query.state with
    | .waiting => a.offer a.ring.query.car (Assembly.onRing Ring.carryQuery) id
    | _ => a
  (allFin 8).foldl
    (fun a k =>
      let m := a.ring.slots.get k
      if decide (m.state = .lost) && m.probePending then
        a.offer (probeCar k) (Assembly.onRing (Ring.onSlot k fun m => { m with probePending := false })) id
      else a) a

/-- A FRAME car passed over for size: the frame-skip count of each named slot advances (R129, R142). -/
def Ring.skipFrames (ks : List (Fin 8)) (r : Ring) : Ring :=
  ks.foldl (fun r k => r.onSlot k fun m => { m with frameSkips := sat16 m.frameSkips }) r

/-- Group 3: the FRAME cars, in rotating channel order (R128, R129). -/
def Assembly.frames (s : State) (ring : Fin 4) (a : Assembly) : Assembly :=
  ((allFin 8).map fun j => wrapAdd a.ring.chanPtr (j.val + 1)).foldl
    (fun a ch =>
      match s.dueModules a.comp ring ch with
      | [] => a
      | ks =>
        a.offer (s.frameCar ch ks) (Assembly.onRing fun r => { r with chanPtr := ch })
          (Assembly.onRing (Ring.skipFrames ks))) a

/-- Groups 4 and 6: the BANNER or CLOCK cars, in chain-position and pane order (R127). -/
def Assembly.items (s : State) (ring : Fin 4) (kind : PaneKind) (car : Comp → Fin 128 → Car) (a : Assembly) :
    Assembly :=
  (allFin 8).foldl
    (fun a k =>
      (allFin 4).foldl
        (fun a p =>
          let i := paneIx (ringScreen ring k) p
          if s.itemOffered a.comp kind i then a.offer (car a.comp i) (Assembly.onComp (Comp.buildItem i)) id else a)
        a) a

/-- The rows of one pane offered to a train, in row order (R127). -/
def Assembly.rowsOf (s : State) (k : Fin 8) (i : Fin 128) (a : Assembly) : Assembly :=
  (allFin 16).foldl
    (fun a r =>
      if s.rowOffered a.comp i r then
        a.offer (s.rowCar a.comp i r)
          (fun a => (a.onComp (Comp.buildRow i r)).onRing fun g => { g with screenPtr := k }) id
      else a) a

/-- Group 5: the ROW cars, in rotating screen order (R127, R128). -/
def Assembly.rows (s : State) (ring : Fin 4) (a : Assembly) : Assembly :=
  ((allFin 8).map fun j => wrapAdd a.ring.screenPtr (j.val + 1)).foldl
    (fun a k => (allFin 4).foldl (fun a p => a.rowsOf s k (paneIx (ringScreen ring k) p)) a) a

/-- A train assembled against a budget: the six groups in order (R127). -/
def assemble (s : State) (ring : Fin 4) (budget : Nat) (r : Ring) (q : Comp) : Assembly :=
  ((((((({ ring := r, comp := q, cars := [], space := budget - 20 } : Assembly).alerts s ring).controls).frames
    s ring).items s ring .banner s.bannerCar).rows s ring).items s ring .clock clockCar)

/-! ### Boundaries (R125) -/

/-- A RUNNING ring's period count advances, and the LOST slots whose probe is due get their flag (R125, R143). -/
def Ring.countPeriod (r : Ring) : Ring :=
  { r with
    period := r.period + 1
    slots := r.slots.map fun m =>
      if m.state = .lost ∧ (r.period + 1 - m.lossPeriod).toNat % 32 = 0 then { m with probePending := true } else m }

/-- The query slot judged for timeout (R146). -/
def Ring.judgeTimeout (p : RingParams) (ring : Fin 4) (r : Ring) : Ring × List Out :=
  if r.query.state = .waiting ∧ p.queryTimeout < (r.period - r.query.start).toNat then r.endQuery ring .timeout 0
  else (r, [])

/-- The ring's boundary (R125). The Composition Unit's flags change with the cars built. -/
def Ring.boundary (s : State) (p : RingParams) (ring : Fin 4) (x : Ring × Comp) : (Ring × Comp) × List Out :=
  match x.1.state with
  | .running =>
    let r := x.1.countPeriod
    match r.flight with
    | some _ => (({ r with skipped := sat16 r.skipped }, x.2), [])
    | none =>
      let t := r.judgeTimeout p ring
      let a := assemble s ring p.budget t.1 x.2
      ((a.ring.send p s.params.period a.cars, a.comp), t.2)
  | .enumerating =>
    match x.1.flight with
    | some _ => (({ x.1 with skipped := sat16 x.1.skipped }, x.2), [])
    | none => ((x.1.sendEnum p s.params.period, x.2), [])
  | .off => (x, [])
  | .locking => (x, [])
  | .fault => (x, [])

/-- A ring that takes unshifted boundaries (R124). -/
def RingState.takesBoundaries : RingState → Bool
  | .locking | .enumerating | .running => true
  | .off | .fault => false

/-- The shift in use for a period (R124). -/
def RingParams.shiftInUse (p : RingParams) (period : Nat) : Nat := if p.shift ≥ period then period - 1 else p.shift

/-- An unshifted boundary at the ring (R124): with a shift in use of 0 it is the ring's own. -/
def Ring.unshifted (s : State) (p : RingParams) (ring : Fin 4) (x : Ring × Comp) : (Ring × Comp) × List Out :=
  if x.1.state.takesBoundaries then
    if p.shiftInUse s.time.inUse = 0 then Ring.boundary s p ring ({ x.1 with shift := none }, x.2)
    else (({ x.1 with shift := some (p.shiftInUse s.time.inUse) }, x.2), [])
  else (x, [])

/-! ### Settlement of returns (R131, R132, R134, R135, R139 to R144, R147) -/

/-- The content kinds: the cars that the Composition Unit settles (R134), and whose acceptance shows that a module takes content (R140). -/
def CarKind.isContent : CarKind → Bool
  | .row | .banner | .clock | .alert | .frame => true
  | .query | .set | .probe | .enum => false

/-- The returned cars addressed to a position. -/
def addressed (k : Fin 8) (cars : List ReturnedCar) : List ReturnedCar :=
  cars.filter fun c => c.car.dest.getLsbD k.val

/-- READY to LIVE (R140). -/
def Ring.goLive (s : State) (ring : Fin 4) (cars : List ReturnedCar) (k : Fin 8) (r : Ring) : Ring × List Out :=
  if (r.slots.get k).state = .ready ∧
      (addressed k cars).any (fun c => c.car.kind.isContent && c.accept.getLsbD k.val) = true ∧
      s.comp.hasActive (ringScreen ring k) = true then
    (r.onSlot k fun m => { m with state := .live }, [reportOut ring k .live])
  else (r, [])

/-- The cars that count for a slot's loss: all addressed to it but PROBE and ENUM (R141). -/
def counted (k : Fin 8) (cars : List ReturnedCar) : List ReturnedCar :=
  (addressed k cars).filter fun c => decide (c.car.kind ≠ .probe) && decide (c.car.kind ≠ .enum)

/-- A non-acceptance count walked over a train's cars (R141). -/
def walkCount (k : Fin 8) (cars : List ReturnedCar) (n : Nat) : Nat :=
  cars.foldl (fun n c => if c.accept.getLsbD k.val then 0 else min (n + 1) 255) n

/-- The request of a target that has become LOST ends (R148). -/
def Ring.endQueryOf (ring : Fin 4) (k : Fin 8) (r : Ring) : Ring × List Out :=
  if r.query.position = k then r.endQuery ring .lost 0 else (r, [])

/-- A slot's non-acceptance count walked, and the slot LOST at the limit (R141). -/
def Ring.walk (limit : Nat) (ring : Fin 4) (cars : List ReturnedCar) (k : Fin 8) (r : Ring) : Ring × List Out :=
  let m := r.slots.get k
  let own := counted k cars
  if m.taking = false ∨ own = [] then (r, [])
  else
    let n := walkCount k own m.missed
    if n < limit then (r.onSlot k fun m => { m with missed := n }, [])
    else
      andThen
        (r.onSlot k fun m =>
            { m with state := .lost, lossPeriod := r.period, probePending := false, missed := 0 },
          [.event .moduleLost, reportOut ring k .lost])
        (Ring.endQueryOf ring k)

/-- An accepted PROBE takes a LOST slot back, reported with the information it kept (R144). -/
def Ring.rejoin (ring : Fin 4) (cars : List ReturnedCar) (k : Fin 8) (r : Ring) : Ring × List Out :=
  if (r.slots.get k).state = .lost ∧
      (addressed k cars).any (fun c => decide (c.car.kind = .probe) && c.accept.getLsbD k.val) = true then
    (r.onSlot k fun m => { m with state := .ready, missed := 0, lossPeriod := 0, probePending := false },
      [readyOut ring k (r.slots.get k)])
  else (r, [])

/-- The settlement of a train at the Composition Unit: its content cars with their accept masks. A PROBE or control car does not pass to that unit (R134). -/
def settlementOut (ring : Fin 4) (cars : List ReturnedCar) : Out :=
  .settlement { ring := ring, cars := (cars.filter fun c => c.car.kind.isContent).map fun c => (c.car, c.accept) }

/-- A regular train's cars handed over: to the Composition Unit, then to the query slot and the module slots (R134, R135, R141). LIVE is judged before loss, the model's choice (notes/assumptions/48.md), and each judgement takes the slots in position order, with rejoining last (notes/assumptions/55.md). -/
def Ring.handOver (s : State) (p : RingParams) (ring : Fin 4) (cars : List ReturnedCar) (r : Ring) : Ring × List Out :=
  andThen
    (andThen
      (andThen
        (andThen (r, [settlementOut ring cars])
          (Ring.settleQuery ring cars))
        (forAll (allFin 8) (Ring.goLive s ring cars)))
      (forAll (allFin 8) (Ring.walk p.lossLimit ring cars)))
    (forAll (allFin 8) (Ring.rejoin ring cars))

/-- The train in flight is settled with a last outcome, and the return timer stopped (R131). -/
def Ring.landed (o : TrainOutcome) (r : Ring) : Ring := { r with flight := none, returnTimer := none, last := o }

/-- A slot filled from its ENUM car (R139). -/
def ReturnedCar.slot (c : ReturnedCar) : ModSlot :=
  { ModSlot.reset with
    state := .ready
    type := c.payload.getD 0 0
    regions := min 4 (byteAt c.payload 1)
    maxFrame := min 16384 (le16At c.payload 2)
    firmware := BitVec.ofNat 16 (le16At c.payload 4) }

/-- The module slots filled from a GOOD ENUM return, each from its own car and reported with its information (R139). -/
def Ring.fill (ring : Fin 4) (cars : List ReturnedCar) (r : Ring) : Ring × List Out :=
  forAll (allFin 8)
    (fun k r =>
      match cars[k.val]? with
      | some c => if c.claimed then (r.onSlot k fun _ => c.slot, [readyOut ring k c.slot]) else (r, [])
      | none => (r, [])) r

/-- A GOOD return (R120, R134). -/
def Ring.goodReturn (s : State) (p : RingParams) (ring : Fin 4) (f : Flight) (bs : List Byte) (r : Ring) :
    Ring × List Out :=
  let r := { r.landed .good with errors := 0 }
  let cars := f.returned bs
  match r.state with
  | .enumerating =>
    andThen (Ring.fill ring cars { r with state := .running }) fun r =>
      (r, if returnedExcess bs then [.event .excessModules] else [])
  | _ => r.handOver s p ring cars

/-- A failed or missing train (R135): the error counted, a regular train's cars handed over as not accepted, and the fault limit compared. -/
def Ring.badReturn (s : State) (p : RingParams) (ring : Fin 4) (o : TrainOutcome) (kind : EventKind) (f : Flight)
    (r : Ring) : Ring × List Out :=
  andThen
    (andThen ({ r.landed o with errors := min (r.errors + 1) 255 }, [.event kind]) fun r =>
      match r.state with
      | .enumerating => (r, [])
      | _ => r.handOver s p ring f.notAccepted)
    fun r => if p.faultLimit ≤ r.errors then r.fault p ring else (r, [])

/-- The bytes of a returned train taken (R131, R132). A return with no train in flight or with another sequence is discarded, and so is one under four bytes, which has no whole sequence (notes/assumptions/27.md). -/
def Ring.returned (s : State) (p : RingParams) (ring : Fin 4) (bs : List Byte) (r : Ring) : Ring × List Out :=
  match r.flight with
  | some f =>
    if bs.length < 4 ∨ returnedSeq bs ≠ f.seq then (r, [])
    else if f.good bs then r.goodReturn s p ring f bs
    else r.badReturn s p ring .checkFail .checkFail f
  | none => (r, [])

/-- The return timer has reached 0 (R131). -/
def Ring.returnExpiry (s : State) (p : RingParams) (ring : Fin 4) (r : Ring) : Ring × List Out :=
  match r.flight with
  | some f => if r.returnTimer = some 0 then r.badReturn s p ring .missing .trainMissing f else (r, [])
  | none => (r, [])

/-! ### Timers (R119, R122, R124, R131) -/

/-- A running timer counts down by one and waits at 0 (notes/assumptions/7.md). -/
def tickTimer (t : Option Nat) : Option Nat := t.map fun n => n - 1

/-- One millisecond of a ring's timers. -/
def Ring.tick (r : Ring) : Ring :=
  { r with returnTimer := tickTimer r.returnTimer, lockTimer := tickTimer r.lockTimer,
           restartTimer := tickTimer r.restartTimer, shift := tickTimer r.shift }

/-! ### The commands -/

/-- One ring changed, and what it sends sent. -/
def State.ringDo (s : State) (ring : Fin 4) (p : Ring × List Out) : State :=
  (s.withRings (s.rings.set ring p.1)).emit p.2

/-- One ring and the delivery flags changed, and what the ring sends sent. -/
def State.ringCompDo (s : State) (ring : Fin 4) (p : (Ring × Comp) × List Out) : State :=
  ((s.withComp p.1.2).withRings (s.rings.set ring p.1.1)).emit p.2

/-- The parameters of a ring. -/
def State.ringParams (s : State) (ring : Fin 4) : RingParams := s.params.ring.get ring

/-- A ring parameter's masked value clamped and stored (R167). -/
def State.storeRing (s : State) (ring : Fin 4) (f : RingField) (masked : BitVec 32) : State :=
  s.withParams
    { s.params with ring := s.params.ring.modify ring fun r => r.setField f (f.clamp masked.toNat) }

/-- RING_ENABLE_WRITE (R118). -/
def ringEnableWrite (s : State) : State :=
  match s.entry with
  | some e =>
    match e.row with
    | .ringEnable n =>
      let v := s.masked e
      let s' := s.takeEntry.storeRing n .enable v
      (s'.ringDo n
        ((s.rings.get n).enableWrite (s'.ringParams n) n (s.ringParams n).enable (s'.ringParams n).enable)).paramResult
        e v
    | _ => s
  | none => s

/-- LOCK_INDICATION (R119). -/
def lockIndication (ring : Fin 4) (s : State) : State :=
  s.ringDo ring ((s.rings.get ring).locked (s.ringParams ring) s.params.period, [])

/-- LOCK_TIMER_EXPIRY (R119). -/
def lockTimerExpiry (ring : Fin 4) (s : State) : State :=
  s.ringDo ring ((s.rings.get ring).lockExpiry (s.ringParams ring) ring)

/-- RESTART_TIMER_EXPIRY (R122). -/
def restartTimerExpiry (ring : Fin 4) (s : State) : State :=
  s.ringDo ring ((s.rings.get ring).restartExpiry (s.ringParams ring) ring)

/-- AUTO_RESTART_WRITE (R122). -/
def autoRestartWrite (s : State) : State :=
  match s.entry with
  | some e =>
    match e.row with
    | .autoRestart n =>
      let v := s.masked e
      let s' := s.takeEntry.storeRing n .autoRestart v
      (s'.ringDo n
        ((s.rings.get n).autoRestartWrite (s'.ringParams n) (s.ringParams n).autoRestart
          (s'.ringParams n).autoRestart, [])).paramResult e v
    | _ => s
  | none => s

/-- The ring an argument names (R188). -/
def argRing (v : BitVec 32) : Fin 4 := Fin.ofNat 4 (v.extractLsb' 0 2).toNat

/-- The screen an argument names (R188). -/
def argScreen (v : BitVec 32) : Fin 32 := Fin.ofNat 32 (v.extractLsb' 0 5).toNat

/-- The item an argument names (R188). -/
def argItem (v : BitVec 32) : BitVec 4 := v.extractLsb' 8 4

/-- RING_RESTART (R123, R171). The result reports the argument whole (notes/assumptions/51.md). -/
def ringRestart (s : State) : State :=
  match s.entry with
  | some e =>
    match e.row with
    | .ringRestart =>
      let n := argRing e.argument
      (s.takeEntry.ringDo n
        (if (s.ringParams n).enable then (s.rings.get n).restart (s.ringParams n) n
         else (s.rings.get n, []))).result e.index e.argument .applied
    | _ => s
  | none => s

/-- RING_UNSHIFTED_BOUNDARY (R124). -/
def ringUnshiftedBoundary (ring : Fin 4) (s : State) : State :=
  if 0 < s.time.dueRing.get ring then
    (s.withTime { s.time with dueRing := s.time.dueRing.modify ring fun n => n - 1 }).ringCompDo ring
      (Ring.unshifted s (s.ringParams ring) ring (s.rings.get ring, s.comp))
  else s

/-- RING_BOUNDARY (R125): the shift countdown has reached 0. -/
def ringBoundary (ring : Fin 4) (s : State) : State :=
  let r := s.rings.get ring
  if r.shift = some 0 then
    s.ringCompDo ring (Ring.boundary s (s.ringParams ring) ring ({ r with shift := none }, s.comp))
  else s

/-- TRAIN_RETURN (R132). -/
def trainReturn (ring : Fin 4) (bytes : List Byte) (s : State) : State :=
  s.ringDo ring ((s.rings.get ring).returned s (s.ringParams ring) ring bytes)

/-- RETURN_TIMER_EXPIRY (R131). -/
def returnTimerExpiry (ring : Fin 4) (s : State) : State :=
  s.ringDo ring ((s.rings.get ring).returnExpiry s (s.ringParams ring) ring)

/-- A request put to the ring of the screen its argument names, and its result (R145, R171), which reports the argument whole (notes/assumptions/51.md). -/
def State.moduleRequest (s : State) (e : Entry) (isSet : Bool) (value : BitVec 32) : State :=
  let sc := argScreen e.argument
  let n := screenRing sc
  (s.takeEntry.ringDo n
    ((s.rings.get n).request isSet (screenPos sc) (argItem e.argument) value)).result e.index e.argument
    ((s.rings.get n).requestOutcome (screenPos sc))

/-- MODULE_QUERY (R145, R171). -/
def moduleQuery (s : State) : State :=
  match s.entry with
  | some e =>
    match e.row with
    | .moduleQuery => s.moduleRequest e false 0
    | _ => s
  | none => s

/-- MODULE_SET (R145, R171): the value is the set value parameter as stored. -/
def moduleSet (s : State) : State :=
  match s.entry with
  | some e =>
    match e.row with
    | .moduleSet => s.moduleRequest e true s.params.setValue
    | _ => s
  | none => s

def execRingEnableWrite (s : State) : Host.Outcome State Fault Refusal := goOn s (ringEnableWrite s)
def execLockIndication (ring : Fin 4) (s : State) : Host.Outcome State Fault Refusal := goOn s (lockIndication ring s)
def execLockTimerExpiry (ring : Fin 4) (s : State) : Host.Outcome State Fault Refusal :=
  goOn s (lockTimerExpiry ring s)
def execRestartTimerExpiry (ring : Fin 4) (s : State) : Host.Outcome State Fault Refusal :=
  goOn s (restartTimerExpiry ring s)
def execAutoRestartWrite (s : State) : Host.Outcome State Fault Refusal := goOn s (autoRestartWrite s)
def execRingRestart (s : State) : Host.Outcome State Fault Refusal := goOn s (ringRestart s)
def execRingUnshiftedBoundary (ring : Fin 4) (s : State) : Host.Outcome State Fault Refusal :=
  goOn s (ringUnshiftedBoundary ring s)
def execRingBoundary (ring : Fin 4) (s : State) : Host.Outcome State Fault Refusal := goOn s (ringBoundary ring s)
def execTrainReturn (ring : Fin 4) (bytes : List Byte) (s : State) : Host.Outcome State Fault Refusal :=
  goOn s (trainReturn ring bytes s)
def execReturnTimerExpiry (ring : Fin 4) (s : State) : Host.Outcome State Fault Refusal :=
  goOn s (returnTimerExpiry ring s)
def execModuleQuery (s : State) : Host.Outcome State Fault Refusal := goOn s (moduleQuery s)
def execModuleSet (s : State) : Host.Outcome State Fault Refusal := goOn s (moduleSet s)

end Sys2Proof.Machine
end

