-- ==== Sys2Proof/Machine/Path.lean ====
section
/-! DEFINITION. The Through Path (spec/08, R149 to R161): passing requests, watch windows and intakes, the downstream arbiter, and responses. -/

namespace Sys2Proof.Machine

/-! ### Classification (R154) -/

/-- The class of a write beat (R154): plain, guarded, or watched by an owner. -/
inductive BeatClass where
  | plain | guarded | setup | shows | seat | notice
  deriving DecidableEq, Repr

/-- The class of a write beat by its address and enables, against a window table (R154). -/
def Windows.classify (w : Windows) (a : Addr) (enables : BitVec 8) : BeatClass :=
  if a = w.setupBase ∨ a = beatAddr w.setupBase 1 then .setup
  else if a = beatAddr w.setupBase 2 then .guarded
  else if covers w.showBase showSize a then
    if (a.toNat - w.showBase.toNat) % 64 = 0 ∧ (enables.getLsbD 0 ∨ enables.getLsbD 1) then .shows else .plain
  else if covers w.seatBase w.seatSize a then .seat
  else if covers w.noticeBase noticeSize a then
    if a = w.noticeBase then .notice else if a = beatAddr w.noticeBase 1 then .guarded else .plain
  else if covers w.statusBase statusSize a then .guarded
  else .plain

/-- A write beat of a request with its address and class. -/
structure PlacedBeat where
  addr : Addr
  beat : WriteBeat
  cls : BeatClass
  deriving DecidableEq, Repr

/-- The beats of a passing request, classified on their own (R149, R154). A READ has none. -/
def Windows.place (w : Windows) (r : PassReq) : List PlacedBeat :=
  if r.write then
    r.data.zipIdx.map fun (b, j) =>
      { addr := beatAddr r.addr j, beat := b, cls := w.classify (beatAddr r.addr j) b.enables }
  else []

/-! ### Eligibility (R150) -/

/-- Places of the setup, show and seat intakes (R155). -/
def setupPlaces : Nat := 4
def showPlaces : Nat := 8
def seatPlaces : Nat := 8

/-- How many of a request's beats go to an owner. -/
def beatsTo (c : BeatClass) (bs : List PlacedBeat) : Nat := (bs.filter fun b => decide (b.cls = c)).length

/-- Every owner's intake has room for a request's beats; the notice intake always has (R150). -/
def Intakes.hasRoom (x : Intakes) (bs : List PlacedBeat) : Bool :=
  decide (x.setup.length + beatsTo .setup bs ≤ setupPlaces ∨ beatsTo .setup bs = 0) &&
    decide (x.shows.length + beatsTo .shows bs ≤ showPlaces ∨ beatsTo .shows bs = 0) &&
    decide (x.seat.length + beatsTo .seat bs ≤ seatPlaces ∨ beatsTo .seat bs = 0)

/-- The eligible head of the passing queue, if any (R150). -/
def State.eligibleHead (s : State) : Option PassReq :=
  s.path.queue.head?.filter fun r => s.intakes.hasRoom (s.path.windows.place r)

/-! ### Delivery and guards (R53, R155, R156) -/

/-- The producer intake after a beat of the NOTICE window's first word (R53): enabled bytes replace those of the untaken value, or of P. -/
def producerIntake (p : BitVec 16) (old : Option (BitVec 16)) (b : WriteBeat) : Option (BitVec 16) :=
  if b.enables.getLsbD 0 ∨ b.enables.getLsbD 1 then
    some ((mergeBeat ((old.getD p).setWidth 64) b.data b.enables).setWidth 16)
  else old

/-- A beat placed at the tail of its owner's intake (R155). -/
def Intakes.deliver (p : BitVec 16) (grant : Nat) (x : Intakes) (b : PlacedBeat) : Intakes :=
  let e : IntakeBeat := { addr := b.addr, data := b.beat.data, enables := b.beat.enables, grant := grant }
  match b.cls with
  | .setup => { x with setup := x.setup ++ [e] }
  | .shows => { x with shows := x.shows ++ [e] }
  | .seat => { x with seat := x.seat ++ [e] }
  | .notice => { x with notice := producerIntake p x.notice b.beat }
  | .plain => x
  | .guarded => x

/-- A beat as it goes downstream: a guarded one with every enable clear (R156). -/
def PlacedBeat.sent (b : PlacedBeat) : WriteBeat :=
  match b.cls with
  | .guarded => { b.beat with enables := 0 }
  | _ => b.beat

/-- GUARD_HIT, once for each guarded beat with an enabled byte (R156). -/
def guardOuts (bs : List PlacedBeat) : List Out :=
  (bs.filter fun b => decide (b.cls = .guarded) && decide (b.beat.enables ≠ 0)).map fun _ => .event .guardHit

/-! ### Grants (R151, R155, R157 to R159) -/

/-- A request granted the port: it enters the response list and goes downstream (R151). -/
def Path.grant (p : Path) (source : Source) (write : Bool) (addr : Addr) (beats : Nat) (data : List WriteBeat) : Path :=
  { p with
    responses := p.responses ++ [{ source := source, write := write, beats := beats, grant := p.grants }]
    grants := p.grants + 1
    downPort := some { write := write, addr := addr, beats := beats, data := data } }

/-- The head leaves the passing queue, and a request held back by the stall joins the tail (R149). -/
def Path.dequeue (p : Path) : Path := { p with queue := p.queue.tail ++ p.held.take 1, held := p.held.drop 1 }

/-- The passing head granted (R155): its watched beats are delivered, its guarded beats stripped, and it goes downstream. -/
def State.grantPassing (s : State) (r : PassReq) (share : Nat) : State :=
  let bs := s.path.windows.place r
  let seatBeats := (bs.filter fun b => decide (b.cls = .seat)).map fun b => b.addr
  let p := (s.path.dequeue.grant (.passing r.tag seatBeats) r.write r.addr r.beats (bs.map PlacedBeat.sent))
  ((s.withIntakes (bs.foldl (Intakes.deliver s.notices.produced s.path.grants) s.intakes)).withPath
    { p with share := share }).emit (guardOuts bs)

/-- The queue of a class (R157). -/
def Path.classQueue (p : Path) : AgentClass → List AgentReq
  | .frame => p.frameQ
  | .record => p.recordQ
  | .sweep => p.sweepQ
  | .writeback => p.writebackQ

/-- The oldest request of a class leaves its queue. -/
def Path.popClass (p : Path) : AgentClass → Path
  | .frame => { p with frameQ := p.frameQ.tail }
  | .record => { p with recordQ := p.recordQ.tail }
  | .sweep => { p with sweepQ := p.sweepQ.tail }
  | .writeback => { p with writebackQ := p.writebackQ.tail }

/-- The classes in the order they are tried after the last one served (R159). -/
def AgentClass.after : AgentClass → List AgentClass
  | .frame => [.record, .sweep, .writeback, .frame]
  | .record => [.sweep, .writeback, .frame, .record]
  | .sweep => [.writeback, .frame, .record, .sweep]
  | .writeback => [.frame, .record, .sweep, .writeback]

/-- The agent request to be granted next: the oldest of the first class with one (R159). -/
def Path.nextAgent (p : Path) : Option AgentReq := p.lastClass.after.findSome? fun c => (p.classQueue c).head?

/-- An agent request granted (R158, R159). -/
def State.grantAgent (s : State) (r : AgentReq) : State :=
  s.withPath
    { (s.path.popClass r.cls).grant (.agent r.tag false) r.write r.addr r.beats r.data with
      share := 0, lastClass := r.cls }

/-- PORT_GRANT (R158): the downstream port is ready for a request. -/
def portGrant (s : State) : State :=
  if 32 ≤ s.path.responses.length then s
  else
    match s.eligibleHead, s.path.nextAgent with
    | some r, none => s.grantPassing r 0
    | none, some a => s.grantAgent a
    | some r, some a => if s.path.share < 3 then s.grantPassing r (s.path.share + 1) else s.grantAgent a
    | none, none => s

/-! ### Arriving requests (R149) -/

/-- A passing request joins the tail of the queue, or is held back while the queue holds 16 (R149). -/
def passingRequest (r : PassReq) (s : State) : State :=
  s.withPath
    (if s.path.queue.length < 16 then { s.path with queue := s.path.queue ++ [r] }
     else { s.path with held := s.path.held ++ [r] })

/-! ### Responses (R151, R160, R161) -/

/-- The beats of a READ's response, one for each beat asked for; an absent one is a free value (notes/assumptions/4.md). -/
def Granted.beatsOf (g : Granted) (data : List Beat) : List Beat :=
  if g.write then [] else (List.range g.beats).map fun j => data.getD j (Config.absentBeat g.grant j)

/-- A response handed to the block that asked (R151). -/
def Mail.hand (m : Mail) (r : Response) : Mail :=
  match r.tag with
  | .record _ _ => { m with trackerResp := m.trackerResp ++ [r] }
  | .title _ _ => { m with trackerResp := m.trackerResp ++ [r] }
  | .sweep _ _ _ _ => { m with seatResp := m.seatResp ++ [r] }
  | .noticeRecord => { m with noticeResp := m.noticeResp ++ [r] }
  | .noticeText => { m with noticeResp := m.noticeResp ++ [r] }
  | .consumer => { m with noticeResp := m.noticeResp ++ [r] }
  | .cue _ _ => { m with reelResp := m.reelResp ++ [r] }
  | .pointer _ _ => { m with reelResp := m.reelResp ++ [r] }
  | .frame _ _ => { m with reelResp := m.reelResp ++ [r] }
  | .rest _ _ => { m with reelResp := m.reelResp ++ [r] }
  | .result => { m with setupResp := m.setupResp ++ [r] }
  | .status _ => { m with eventResp := m.eventResp ++ [r] }

/-- A response matched to its entry of the list (R151, R160 to R162). -/
def State.respond (s : State) (g : Granted) (data : List Beat) (err : Bool) : State :=
  match g.source with
  | .passing tag seatBeats =>
    let s1 := s.withPath { s.path with upPort := some { tag := tag, data := data, err := err } }
    if err ∧ seatBeats ≠ [] then
      s1.withMail { s1.mail with seatErrors := s1.mail.seatErrors ++ [(g.grant, seatBeats)] }
    else s1
  | .agent _ true => s
  | .agent tag false =>
    let s1 := if err then s.emit [.event .memError] else s
    s1.withMail (s1.mail.hand { tag := tag, data := g.beatsOf data, err := err })

/-- DOWNSTREAM_RESPONSE (R151). A response that finds no entry is discarded. -/
def downstreamResponse (data : List Beat) (err : Bool) (s : State) : State :=
  if 0 < s.path.stale then s.withPath { s.path with stale := s.path.stale - 1 }
  else
    match s.path.responses with
    | g :: rest => (s.withPath { s.path with responses := rest }).respond g data err
    | [] => s

/-- PASSING_REQUEST (R149). An operand that is no passing request faults (notes/assumptions/5.md). -/
def execPassingRequest (r : PassReq) (s : State) : Host.Outcome State Fault Refusal :=
  if r.wf then goOn s (passingRequest r s) else .fault .malformedRequest
def execPortGrant (s : State) : Host.Outcome State Fault Refusal := goOn s (portGrant s)
def execDownstreamResponse (data : List Beat) (err : Bool) (s : State) : Host.Outcome State Fault Refusal :=
  goOn s (downstreamResponse data err s)

end Sys2Proof.Machine
end

