-- ==== Sys2Proof/Machine/Setup.lean ====
section
/-! DEFINITION. The Setup Decoder (spec/09): index beats (R165, R188), reads (R166, R169), parameter entries (R167, R168) with the writes that act on the Seat Tally Unit, the Notice Unit and the Event Unit at once, and result completions (R170). -/

namespace Sys2Proof.Machine

/-! ### Index beats (R165, R188) -/

/-- The latched index and step flag after an index beat: each field from its enabled bytes (R188). -/
def Setup.latch (u : Setup) (b : IntakeBeat) : Setup :=
  let low := if b.enables.getLsbD 0 then b.data.extractLsb' 0 8 else u.index.extractLsb' 0 8
  let high := if b.enables.getLsbD 1 then b.data.extractLsb' 8 2 else u.index.extractLsb' 8 2
  { u with index := high ++ low, step := if b.enables.getLsbD 2 then b.data.getLsbD 16 else u.step }

/-- INDEX_BEAT (R165). -/
def indexBeat (s : State) : State :=
  match s.indexBeat with
  | some b => s.popSetup.withSetup (s.setup.latch b)
  | none => s

/-! ### Reads (R166, R169) -/

/-- The outcome of an entry that changes nothing (R166). -/
def Index.readOutcome : Index → Outcome
  | .unused => .noSuch
  | .lobbyClock => .readOnly
  | .setupBase => .readOnly
  | .info _ _ => .readOnly
  | _ => .applied

/-- READ_ENTRY (R166): an unused or read-only index, or a mask of 0. A data beat with no enabled byte forms no entry and leaves without a result (R165; notes/assumptions/20.md). -/
def readEntry (s : State) : State :=
  match s.entry with
  | some e =>
    match e.row with
    | .read =>
      s.takeEntry.result e.index (s.reportedWord (Index.of e.index)) (Index.of e.index).readOutcome
    | _ => s
  | none =>
    match s.dataBeat with
    | some _ => s.popSetup
    | none => s

/-! ### Parameters (R167) -/

/-- A parameter of one number stored from its masked value, clamped (R167). -/
def State.storeSimple (s : State) (p : Simple) (masked : BitVec 32) : State :=
  s.withParams (s.params.setSimple p (s.params.clampSimple p masked.toNat))

/-- PARAMETER_ENTRY (R167): a parameter with no row of its own, or the control parameter without the soft-reset bit (R171). -/
def parameterEntry (s : State) : State :=
  match s.entry with
  | some e =>
    match e.row with
    | .plain p => (s.takeEntry.storeSimple p (s.masked e)).paramResult e (s.masked e)
    | .plainRing n f => (s.takeEntry.storeRing n f (s.masked e)).paramResult e (s.masked e)
    | .controlNoReset => s.takeEntry.result e.index 0 .applied
    | _ => s
  | none => s

/-! ### Window bases (R153, R168) -/

/-- The enabled windows as bases and sizes (R152). -/
def Windows.enabled (w : Windows) : List (Nat × Nat) :=
  ([(w.setupBase.toNat, 64), (w.showBase.toNat, showSize), (w.seatBase.toNat, w.seatSize),
    (w.noticeBase.toNat, noticeSize), (w.statusBase.toNat, statusSize)]).filter fun x => decide (x.1 ≠ 0)

/-- Two windows share no byte. -/
def disjoint (a b : Nat × Nat) : Bool := decide (a.1 + a.2 ≤ b.1) || decide (b.1 + b.2 ≤ a.1)

/-- No two members of a list share a byte. -/
def allDisjoint : List (Nat × Nat) → Bool
  | [] => true
  | a :: rest => rest.all (disjoint a) && allDisjoint rest

/-- The test of R153: no two enabled windows share a byte, and none reaches beyond the last address. -/
def Windows.passes (w : Windows) : Bool :=
  allDisjoint w.enabled && w.enabled.all fun x => decide (x.1 + x.2 ≤ 2 ^ 32)

/-- What follows a window parameter's new value at once: maps that leave the SEAT window (R26), a notice reader that may begin (R52), the changed mark for the STATUS base (R177). -/
def State.windowMoved (s : State) (p : WindowParam) : State :=
  match p with
  | .showBase => s
  | .seatBase => s.seatsDo (s.seats.mapsLeft s s.path.windows)
  | .seatSize => s.seatsDo (s.seats.mapsLeft s s.path.windows)
  | .noticeBase => s.noticesDo (s.notices.begin s.path.windows)
  | .statusBase => s.markChanged

/-- WINDOW_BASE_WRITE (R168): clamped, tested, then stored or refused. -/
def windowBaseWrite (s : State) : State :=
  match s.entry with
  | some e =>
    match e.row with
    | .window p =>
      let w := s.path.windows.setParam p (p.clamp (s.masked e))
      if w.passes then
        ((s.takeEntry.withPath { s.path with windows := w }).windowMoved p).paramResult e (s.masked e)
      else
        (s.takeEntry.emit [.event .setupRefused]).result e.index (s.reportedWord (Index.of e.index)) .refused
    | _ => s
  | none => s

/-! ### Writes that act on a block at once (R50, R70, R174, R175) -/

/-- POLICY_WRITE (R50): stored, and every COUNTING slot recomputed. -/
def policyWrite (s : State) : State :=
  match s.entry with
  | some e =>
    match e.row with
    | .policy p =>
      let s' := s.takeEntry.storeSimple p (s.masked e)
      (s'.seatsDo (s'.seats.recompute s')).paramResult e (s.masked e)
    | _ => s
  | none => s

/-- AUTO_SOLD_OUT_WRITE (R70): stored; from on to off every automatic notice leaves. -/
def autoSoldOutWrite (s : State) : State :=
  match s.entry with
  | some e =>
    match e.row with
    | .autoSoldOut =>
      let s' := s.takeEntry.storeSimple .autoSoldOut (s.masked e)
      (if s.params.autoSoldOut && !s'.params.autoSoldOut then s'.noticesDo (s'.notices.remove Notice.automatic)
       else s').paramResult e (s.masked e)
    | _ => s
  | none => s

/-- EVENT_ENABLE_WRITE (R174): the interrupt line follows at once, as it is a function of the mask (R175). -/
def eventEnableWrite (s : State) : State :=
  match s.entry with
  | some e =>
    match e.row with
    | .eventEnable => (s.takeEntry.storeSimple .eventEnable (s.masked e)).paramResult e (s.masked e)
    | _ => s
  | none => s

/-- INTERRUPT_POLARITY_WRITE (R175). -/
def interruptPolarityWrite (s : State) : State :=
  match s.entry with
  | some e =>
    match e.row with
    | .polarity => (s.takeEntry.storeSimple .polarity (s.masked e)).paramResult e (s.masked e)
    | _ => s
  | none => s

/-! ### Result completions (R170) -/

/-- A result held back is issued once there is room (R170). -/
def State.issueWaiting (s : State) : State :=
  match s.setup.waiting with
  | some r => (s.withSetup { s.setup with waiting := none }).issueResult r
  | none => s

/-- RESULT_WRITE_DONE (R170). A completion with a memory error counts as a completion. -/
def resultWriteDone (s : State) : State :=
  match s.mail.setupResp with
  | _ :: rest =>
    ((s.withMail { s.mail with setupResp := rest }).withSetup
      { s.setup with outstanding := s.setup.outstanding - 1 }).issueWaiting
  | [] => s

def execIndexBeat (s : State) : Host.Outcome State Fault Refusal := goOn s (indexBeat s)
def execReadEntry (s : State) : Host.Outcome State Fault Refusal := goOn s (readEntry s)
def execParameterEntry (s : State) : Host.Outcome State Fault Refusal := goOn s (parameterEntry s)
def execWindowBaseWrite (s : State) : Host.Outcome State Fault Refusal := goOn s (windowBaseWrite s)
def execPolicyWrite (s : State) : Host.Outcome State Fault Refusal := goOn s (policyWrite s)
def execAutoSoldOutWrite (s : State) : Host.Outcome State Fault Refusal := goOn s (autoSoldOutWrite s)
def execEventEnableWrite (s : State) : Host.Outcome State Fault Refusal := goOn s (eventEnableWrite s)
def execInterruptPolarityWrite (s : State) : Host.Outcome State Fault Refusal := goOn s (interruptPolarityWrite s)
def execResultWriteDone (s : State) : Host.Outcome State Fault Refusal := goOn s (resultWriteDone s)

end Sys2Proof.Machine
end

