-- ==== Sys2Proof/Machine/Events.lean ====
section
/-! DEFINITION. The Event Unit (spec/10, R173 to R178): counting events, acknowledgements, and the status block's writeback. -/

namespace Sys2Proof.Machine

/-! ### Events and acknowledgements (R173, R176) -/

/-- An event taken: its counter advances and its group's pending flag is set (R173). -/
def Events.count (k : EventKind) (v : Events) : Events :=
  { v with
    counters := v.counters.modify k.index sat16
    pending := v.pending ||| (1#7 <<< k.group.bit.val) }

/-- The counters of the named groups' kinds set to 0 (R176). -/
def Events.clearCounters (groups : BitVec 7) (v : Events) : Events :=
  { v with
    counters := allKinds.foldl
      (fun t k => if groups.getLsbD k.group.bit.val then t.set k.index 0 else t) v.counters }

/-- An acknowledgement taken (R176, R188): bits 0 to 6 name groups, bit 8 clears their counters. -/
def Events.ack (argument : BitVec 32) (v : Events) : Events :=
  let groups := argument.extractLsb' 0 7
  let v1 := { v with pending := v.pending &&& ~~~ groups }
  if argument.getLsbD 8 then v1.clearCounters groups else v1

/-! ### The writeback (R177, R178) -/

/-- Beats of the status block. -/
def statusBeats : Nat := 512

/-- Beat j of a snapshot, all bytes enabled. -/
def snapshotBeat (snapshot : List Byte) (j : Nat) : WriteBeat :=
  { data := beatOfBytes ((snapshot.drop (8 * j)).take 8), enables := 0xFF }

/-- One write of consecutive beats of the block. -/
def statusWrite (base : Addr) (snapshot : List Byte) (first count : Nat) (part : StatusPart) : Out :=
  agentWrite (beatAddr base first) ((List.range count).map fun j => snapshotBeat snapshot (first + j)) (.status part)

/-- The 64 body writes: 63 of 8 beats and a last of 6, in address order (R178). -/
def bodyWrites (base : Addr) (snapshot : List Byte) : List Out :=
  (List.range 64).map fun i => statusWrite base snapshot (1 + 8 * i) (min 8 (statusBeats - 2 - 8 * i)) .body

/-- A writeback begins (R177, R178): the mark cleared, the generation advanced, every area and the STATUS base captured, the lead word and the body issued. The unit passes through LEAD to BODY in this one event (notes/assumptions/33.md). -/
def State.beginWriteback (s : State) : State :=
  let generation := s.events.generation + 1
  let snapshot := s.statusBlock generation
  let base := s.path.windows.statusBase
  (s.withEvents
      { s.events with
        changed := false, generation := generation, writeback := .body, snapshot := snapshot, base := base
        outstanding := 65, failed := false }).emit
    (statusWrite base snapshot 0 1 .lead :: bodyWrites base snapshot)

/-- A lead or body completion (R178): with the last of them the trail word is issued, or after a failure the unit returns to IDLE with the changed mark set. -/
def State.bodyDone (s : State) (err : Bool) : State :=
  let v := s.events
  let left := v.outstanding - 1
  let failed := v.failed || err
  if left ≠ 0 then s.withEvents { v with outstanding := left, failed := failed }
  else if failed then
    s.withEvents { v with outstanding := 0, failed := false, writeback := .idle, changed := true }
  else
    (s.withEvents { v with outstanding := 1, writeback := .trail }).emit
      [statusWrite v.base v.snapshot (statusBeats - 1) 1 .trail]

/-- The trail word's completion (R178). -/
def State.trailDone (s : State) (err : Bool) : State :=
  let v := s.events
  s.withEvents { v with outstanding := 0, writeback := .idle, changed := v.changed || err }

/-- A completion with a memory error advances the status-write error count (R178). -/
def Events.countError (err : Bool) (v : Events) : Events := if err then { v with errors := sat16 v.errors } else v

/-! ### The commands -/

/-- EVENT_ACK (R176, R171). The result reports the argument whole (notes/assumptions/51.md). -/
def eventAck (s : State) : State :=
  match s.entry with
  | some e =>
    match e.row with
    | .eventAck => (s.takeEntry.withEvents (s.events.ack e.argument)).result e.index e.argument .applied
    | _ => s
  | none => s

/-- EVENT_REPORT (R173): the oldest event of any block is taken, the model's choice of an order between blocks (notes/assumptions/47.md). -/
def eventReport (s : State) : State :=
  match s.mail.events with
  | k :: rest => (s.withMail { s.mail with events := rest }).withEvents (s.events.count k)
  | [] => s

/-- EVENT_PERIOD_BOUNDARY (R177). -/
def eventPeriodBoundary (s : State) : State :=
  if 0 < s.time.dueEvent then
    let s' := s.withTime { s.time with dueEvent := s.time.dueEvent - 1 }
    if s'.events.writeback = .idle ∧ s'.events.changed = true ∧ s'.path.windows.statusBase ≠ 0 then s'.beginWriteback
    else s'
  else s

/-- STATUS_WRITE_DONE (R178). -/
def statusWriteDone (s : State) : State :=
  match s.mail.eventResp with
  | { tag := .status part, data := _, err := err } :: rest =>
    let s' := (s.withMail { s.mail with eventResp := rest }).withEvents (s.events.countError err)
    match part with
    | .lead => s'.bodyDone err
    | .body => s'.bodyDone err
    | .trail => s'.trailDone err
  | _ => s

def execEventAck (s : State) : Host.Outcome State Fault Refusal := goOn s (eventAck s)
def execEventReport (s : State) : Host.Outcome State Fault Refusal := goOn s (eventReport s)
def execEventPeriodBoundary (s : State) : Host.Outcome State Fault Refusal := goOn s (eventPeriodBoundary s)
def execStatusWriteDone (s : State) : Host.Outcome State Fault Refusal := goOn s (statusWriteDone s)

end Sys2Proof.Machine
end

