-- ==== Sys2Proof/Machine/Timebase.lean ====
section
/-! DEFINITION. The millisecond timebase (R1, R71, R74, R105, R119, R122, R124, R131): one tick of every timer of the part. -/

namespace Sys2Proof.Machine

/-- One millisecond of the lobby period timer (R124): at the end of a period the unshifted boundary is due at each of its recipients, and the next period runs with the period parameter as it stands. -/
def Timebase.tick (period : Nat) (t : Timebase) : Timebase :=
  if t.timer ≤ 1 then
    { timer := period, inUse := period, dueReel := t.dueReel + 1, dueEvent := t.dueEvent + 1,
      dueNotice := t.dueNotice + 1, dueRing := t.dueRing.map fun n => n + 1 }
  else { t with timer := t.timer - 1 }

/-- Both house lines sampled and every pane's banner timer counted (R71, R74, R75). -/
def Notices.tick (k : Nat) (alert hush : Bool) (q : Notices) : Notices :=
  { q with
    alertLine := q.alertLine.sample k alert
    hushLine := q.hushLine.sample k hush
    rotations := q.rotations.mapFin fun i r => r.tick (q.alerts.get (paneScreen i)).isSome }

/-- Every board pane's page timer counted (R105). -/
def Comp.tick (q : Comp) : Comp :=
  { q with panes := q.panes.mapFin fun i p => p.tick (q.screens.get (paneScreen i)).underAlert }

/-- The line changes and the second that an earlier tick brought due and no command has taken yet (notes/assumptions/6.md, notes/assumptions/8.md). -/
def State.takeOutstanding (s : State) : State :=
  hushLineChange (alertLineDeasserted (alertLineAsserted (secondAdvance s)))

/-- One millisecond at every timer. -/
def State.tickAll (s : State) (alert hush : Bool) : State :=
  { s with
    time := s.time.tick s.params.period
    tracker := s.tracker.tick
    notices := s.notices.tick s.params.debounce alert hush
    comp := s.comp.tick
    rings := s.rings.map Ring.tick }

/-- MILLISECOND_TICK (R1, R71). -/
def millisecondTick (alert hush : Bool) (s : State) : State := s.takeOutstanding.tickAll alert hush

def execMillisecondTick (alert hush : Bool) (s : State) : Host.Outcome State Fault Refusal :=
  goOn s (millisecondTick alert hush s)

end Sys2Proof.Machine
end

