-- ==== Sys2Proof/Machine/Reset.lean ====
section
/-! DEFINITION. The two resets (R162 to R164). -/

namespace Sys2Proof.Machine

/-- PIN_RESET (R164): every block at its pin-reset values, with the SETUP base from the strap (R152). The model's queue of commands stands outside the part and is kept. Responses still to come to requests granted before it are counted, to be discarded (R151; notes/assumptions/12.md). Requests that the stalled upstream side still held back are dropped, the model's choice (notes/assumptions/30.md). -/
def pinReset (strap : BitVec 3) (s : State) : State :=
  let t := State.pinReset strap
  { t with
    pending := s.pending
    path := { t.path with stale := s.path.stale + s.path.responses.length } }

/-- The window table after soft reset (R152, R162): the SETUP base as read at the last pin reset. -/
def Windows.softReset (w : Windows) : Windows :=
  { w with showBase := 0, seatBase := 0, seatUnits := 8, noticeBase := 0, statusBase := 0 }

/-- An agent entry of the response list voided (R162). -/
def Granted.void (g : Granted) : Granted :=
  match g.source with
  | .agent tag _ => { g with source := .agent tag true }
  | .passing _ _ => g

/-- The Through Path at soft reset (R162). -/
def Path.softReset (p : Path) : Path :=
  { p with
    responses := p.responses.map Granted.void
    frameQ := [], recordQ := [], sweepQ := [], writebackQ := []
    share := 0, lastClass := .writeback, windows := p.windows.softReset }

/-- The Setup Decoder at soft reset: the sequence count kept (R163, R170). -/
def Setup.softReset (u : Setup) : Setup := { Setup.reset with seq := u.seq }

/-- The Event Unit at soft reset: the generation kept and the changed mark set (R173, R177, R178). -/
def Events.softReset (v : Events) : Events := { Events.reset with changed := true, generation := v.generation }

/-- Every block at its soft-reset values (R163); the lobby period timer runs on (notes/assumptions/9.md). -/
def State.softReset (s : State) : State :=
  { pending := s.pending, path := s.path.softReset, intakes := Intakes.reset, setup := s.setup.softReset,
    params := Params.reset, time := s.time, tracker := Tracker.reset, seats := Seats.reset,
    notices := Notices.reset, reel := Reel.reset, comp := Comp.reset, rings := Table.replicate 4 Ring.reset,
    events := s.events.softReset, mail := Mail.empty }

/-- SOFT_RESET (R163): the entry taken, every block reset, and one result written with index 0 and value 0. -/
def softReset (s : State) : State :=
  match s.entry with
  | some e =>
    match e.row with
    | .softReset => s.softReset.result 0 0 .applied
    | _ => s
  | none => s

def execPinReset (strap : BitVec 3) (s : State) : Host.Outcome State Fault Refusal := .next (pinReset strap s)
def execSoftReset (s : State) : Host.Outcome State Fault Refusal := goOn s (softReset s)

end Sys2Proof.Machine
end

