-- ==== Sys2Proof/Machine/Dispatch.lean ====
section
/-! DEFINITION. One arm per command, each a direct call of its meaning. -/

namespace Sys2Proof.Machine

def exec (i : Instr) (s : State) : Host.Outcome State Fault Refusal :=
  match i with
  | .pinReset strap => Sys2Proof.Machine.execPinReset strap s
  | .softReset => Sys2Proof.Machine.execSoftReset s
  | .millisecondTick alert hush => Sys2Proof.Machine.execMillisecondTick alert hush s
  | .secondAdvance => Sys2Proof.Machine.execSecondAdvance s
  | .minuteBoundary => Sys2Proof.Machine.execMinuteBoundary s
  | .dayOpen => Sys2Proof.Machine.execDayOpen s
  | .clockSet => Sys2Proof.Machine.execClockSet s
  | .controlWordBeat => Sys2Proof.Machine.execControlWordBeat s
  | .recordFetchDone => Sys2Proof.Machine.execRecordFetchDone s
  | .titleFetchDone => Sys2Proof.Machine.execTitleFetchDone s
  | .delayEffect => Sys2Proof.Machine.execDelayEffect s
  | .undelayEffect => Sys2Proof.Machine.execUndelayEffect s
  | .cancelEffect => Sys2Proof.Machine.execCancelEffect s
  | .bind => Sys2Proof.Machine.execBind s
  | .release => Sys2Proof.Machine.execRelease s
  | .remap => Sys2Proof.Machine.execRemap s
  | .holdback => Sys2Proof.Machine.execHoldback s
  | .seatDayOpen => Sys2Proof.Machine.execSeatDayOpen s
  | .seatShowChangedNote => Sys2Proof.Machine.execSeatShowChangedNote s
  | .sweepReadIssue => Sys2Proof.Machine.execSweepReadIssue s
  | .sweepReadDone => Sys2Proof.Machine.execSweepReadDone s
  | .seatBeat => Sys2Proof.Machine.execSeatBeat s
  | .policyWrite => Sys2Proof.Machine.execPolicyWrite s
  | .seatWriteError => Sys2Proof.Machine.execSeatWriteError s
  | .producerValueTaken => Sys2Proof.Machine.execProducerValueTaken s
  | .noticeRecordDone => Sys2Proof.Machine.execNoticeRecordDone s
  | .noticeTextDone => Sys2Proof.Machine.execNoticeTextDone s
  | .effectAnswer => Sys2Proof.Machine.execEffectAnswer s
  | .consumerWritebackDone => Sys2Proof.Machine.execConsumerWritebackDone s
  | .writebackRetryBoundary => Sys2Proof.Machine.execWritebackRetryBoundary s
  | .minuteNoteNotice => Sys2Proof.Machine.execMinuteNoteNotice s
  | .noticeShowChangedNote => Sys2Proof.Machine.execNoticeShowChangedNote s
  | .noticeSeatsChangedNote => Sys2Proof.Machine.execNoticeSeatsChangedNote s
  | .autoSoldOutWrite => Sys2Proof.Machine.execAutoSoldOutWrite s
  | .noticeDayOpen => Sys2Proof.Machine.execNoticeDayOpen s
  | .alertLineAsserted => Sys2Proof.Machine.execAlertLineAsserted s
  | .alertLineDeasserted => Sys2Proof.Machine.execAlertLineDeasserted s
  | .hushLineChange => Sys2Proof.Machine.execHushLineChange s
  | .bannerDwellExpiry screen pane => Sys2Proof.Machine.execBannerDwellExpiry screen pane s
  | .bannerPaneReport => Sys2Proof.Machine.execBannerPaneReport s
  | .cuePush => Sys2Proof.Machine.execCuePush s
  | .cueCut => Sys2Proof.Machine.execCueCut s
  | .channelStop => Sys2Proof.Machine.execChannelStop s
  | .cueLoadDone => Sys2Proof.Machine.execCueLoadDone s
  | .frameReadIssue => Sys2Proof.Machine.execFrameReadIssue s
  | .pointerReadDone => Sys2Proof.Machine.execPointerReadDone s
  | .frameReadDone => Sys2Proof.Machine.execFrameReadDone s
  | .restReadDone => Sys2Proof.Machine.execRestReadDone s
  | .reelPeriodBoundary => Sys2Proof.Machine.execReelPeriodBoundary s
  | .reelShowChangedNote => Sys2Proof.Machine.execReelShowChangedNote s
  | .hushAsserted => Sys2Proof.Machine.execHushAsserted s
  | .hushReleased => Sys2Proof.Machine.execHushReleased s
  | .restStillWrite => Sys2Proof.Machine.execRestStillWrite s
  | .paneWrite => Sys2Proof.Machine.execPaneWrite s
  | .boardOrderNote => Sys2Proof.Machine.execBoardOrderNote s
  | .compositionShowChangedNote => Sys2Proof.Machine.execCompositionShowChangedNote s
  | .compositionSeatsChangedNote => Sys2Proof.Machine.execCompositionSeatsChangedNote s
  | .pageDwellExpiry screen pane => Sys2Proof.Machine.execPageDwellExpiry screen pane s
  | .listNote => Sys2Proof.Machine.execListNote s
  | .bannerNote => Sys2Proof.Machine.execBannerNote s
  | .alertNote => Sys2Proof.Machine.execAlertNote s
  | .minuteNoteComposition => Sys2Proof.Machine.execMinuteNoteComposition s
  | .channelNote => Sys2Proof.Machine.execChannelNote s
  | .moduleReport => Sys2Proof.Machine.execModuleReport s
  | .acceptanceSettlement => Sys2Proof.Machine.execAcceptanceSettlement s
  | .compositionDayOpen => Sys2Proof.Machine.execCompositionDayOpen s
  | .ringEnableWrite => Sys2Proof.Machine.execRingEnableWrite s
  | .lockIndication ring => Sys2Proof.Machine.execLockIndication ring s
  | .lockTimerExpiry ring => Sys2Proof.Machine.execLockTimerExpiry ring s
  | .restartTimerExpiry ring => Sys2Proof.Machine.execRestartTimerExpiry ring s
  | .autoRestartWrite => Sys2Proof.Machine.execAutoRestartWrite s
  | .ringRestart => Sys2Proof.Machine.execRingRestart s
  | .ringUnshiftedBoundary ring => Sys2Proof.Machine.execRingUnshiftedBoundary ring s
  | .ringBoundary ring => Sys2Proof.Machine.execRingBoundary ring s
  | .trainReturn ring bytes => Sys2Proof.Machine.execTrainReturn ring bytes s
  | .returnTimerExpiry ring => Sys2Proof.Machine.execReturnTimerExpiry ring s
  | .moduleQuery => Sys2Proof.Machine.execModuleQuery s
  | .moduleSet => Sys2Proof.Machine.execModuleSet s
  | .passingRequest req => Sys2Proof.Machine.execPassingRequest req s
  | .portGrant => Sys2Proof.Machine.execPortGrant s
  | .downstreamResponse data err => Sys2Proof.Machine.execDownstreamResponse data err s
  | .indexBeat => Sys2Proof.Machine.execIndexBeat s
  | .parameterEntry => Sys2Proof.Machine.execParameterEntry s
  | .windowBaseWrite => Sys2Proof.Machine.execWindowBaseWrite s
  | .resultWriteDone => Sys2Proof.Machine.execResultWriteDone s
  | .eventEnableWrite => Sys2Proof.Machine.execEventEnableWrite s
  | .interruptPolarityWrite => Sys2Proof.Machine.execInterruptPolarityWrite s
  | .eventAck => Sys2Proof.Machine.execEventAck s
  | .eventReport => Sys2Proof.Machine.execEventReport s
  | .eventPeriodBoundary => Sys2Proof.Machine.execEventPeriodBoundary s
  | .statusWriteDone => Sys2Proof.Machine.execStatusWriteDone s
  | .readEntry => Sys2Proof.Machine.execReadEntry s

end Sys2Proof.Machine
end

