-- ==== Sys2Proof/Safety.lean ====
section
/-! DEFINITION. What statements about the part say: which pieces of state a command leaves alone (Block, Frame), and the invariants that every step keeps. -/

namespace Sys2Proof.Machine

/-! ### Frames -/

/-- The pieces of state a frame speaks of. -/
inductive Block where
  /-- the queue of commands (the model's own) -/
  | pending
  /-- the Through Path but for its class queues -/
  | port
  /-- the four class queues -/
  | classQueues
  | intakes
  /-- the Setup Decoder's own state -/
  | setup
  /-- the parameter store -/
  | params
  | time
  /-- the lobby clock, the board order and the fetch count of the Schedule Tracker -/
  | clock
  /-- the show entries but for their seat status and bound slot -/
  | entries
  /-- the seat status and bound slot of the show entries -/
  | seatFields
  | seats
  | notices
  | reel
  | comp
  | rings
  /-- the Event Unit but for the changed mark, which any change of a mirrored value sets (R177) -/
  | events
  /-- the inboxes -/
  | mail
  deriving DecidableEq, Repr

/-- The Through Path without its class queues. -/
def Path.bare (p : Path) : Path := { p with frameQ := [], recordQ := [], sweepQ := [], writebackQ := [] }

/-- The tracker without its show table. -/
def Tracker.bare (t : Tracker) : Tracker := { t with entries := Table.replicate 192 ShowEntry.reset }

/-- An entry without its seat status and bound slot. -/
def ShowEntry.bare (e : ShowEntry) : ShowEntry := { e with seatStatus := .none, boundSlot := none }

/-- The piece stands in t as in s. -/
def Block.same (b : Block) (s t : State) : Prop :=
  match b with
  | .pending => t.pending = s.pending
  | .port => t.path.bare = s.path.bare
  | .classQueues =>
    t.path.frameQ = s.path.frameQ ∧ t.path.recordQ = s.path.recordQ ∧ t.path.sweepQ = s.path.sweepQ ∧
      t.path.writebackQ = s.path.writebackQ
  | .intakes => t.intakes = s.intakes
  | .setup => t.setup = s.setup
  | .params => t.params = s.params
  | .time => t.time = s.time
  | .clock => t.tracker.bare = s.tracker.bare
  | .entries => ∀ i, (t.tracker.entries.get i).bare = (s.tracker.entries.get i).bare
  | .seatFields =>
    ∀ i, (t.tracker.entries.get i).seatStatus = (s.tracker.entries.get i).seatStatus ∧
      (t.tracker.entries.get i).boundSlot = (s.tracker.entries.get i).boundSlot
  | .seats => t.seats = s.seats
  | .notices => t.notices = s.notices
  | .reel => t.reel = s.reel
  | .comp => t.comp = s.comp
  | .rings => t.rings = s.rings
  | .events => { t.events with changed := s.events.changed } = s.events
  | .mail => t.mail = s.mail

/-- Every piece not listed stands in t as in s. -/
def Frame (may : List Block) (s t : State) : Prop := ∀ b, b ∉ may → b.same s t

/-! ### What statements say of a next state -/

/-- The two states agree but for the changed mark, which follows the mirrored values (R177). -/
def Alike (s t : State) : Prop := { s with events := { s.events with changed := t.events.changed } } = t

/-- The board-order notes of an event that takes the tracker from s to t (R23): none where the order stands, else one with the lowest position at which the orders differ. -/
def BoardNoted (s t : State) (notes : List CompMsg) : Prop :=
  (t.tracker.board = s.tracker.board ∧ notes = []) ∨
    ∃ q, notes = [.board q] ∧ s.tracker.board[q]? ≠ t.tracker.board[q]? ∧
      ∀ p < q, s.tracker.board[p]? = t.tracker.board[p]?

/-- The note of a show whose state alone has changed between s and t (R24). -/
def moveNote (s t : State) (i : Fin 192) : ShowNote :=
  { slot := i, id := (s.tracker.entries.get i).fields.id, old := (s.tracker.entries.get i).state
    new := (t.tracker.entries.get i).state, change := stateOnly }

/-- What the evaluation of every show sends between s and t (R2, R22 to R24): for each show that moved, in slot order, a RELEASE where it was selling or started with seats tracked and has retired, and its note; then the board-order note; last the minute note to the Notice Unit and the Composition Unit. -/
def EvaluationSent (s t : State) (minute : Nat) : Prop :=
  ∃ (moved : List (Fin 192)) (order : List CompMsg),
    moved = (allFin 192).filter (fun i => decide ((t.tracker.entries.get i).state ≠ (s.tracker.entries.get i).state)) ∧
    BoardNoted s t order ∧
    t.mail = { s.mail with
      events := t.mail.events
      toSeats := s.mail.toSeats ++ moved.flatMap fun i =>
        (if (s.tracker.entries.get i).fields.seatsTracked = true ∧ (s.tracker.entries.get i).state.selling = true ∧
            (t.tracker.entries.get i).state = .retired then [.release i] else []) ++ [.note (moveNote s t i)]
      toNotices := s.mail.toNotices ++ moved.map (fun i => .note (moveNote s t i)) ++ [.minute minute]
      toReel := s.mail.toReel ++ moved.map (moveNote s t)
      toComp := s.mail.toComp ++ moved.map (fun i => .note (moveNote s t i)) ++ order ++ [.minute minute] }

/-- The seats-changed notes of a show whose figure went from old to new (R51): one where band, figure or plus mark differ. It carries the id that the entry holds (notes/assumptions/42.md). -/
def seatsNotes (s : State) (show_ : Option (Fin 192)) (old new : Figure) (status : SeatStatus) : List SeatsNote :=
  match show_ with
  | some i =>
    if old = new then []
    else
      [{ show_ := i, id := (s.tracker.entries.get i).id, old := old.band, new := new.band, shown := new.shown
         plus := new.plus, status := status }]
  | none => []

/-- SOLD_OUT_REACHED where a show's band becomes SOLD_OUT (R51). -/
def soldOutEvents (show_ : Option (Fin 192)) (old new : Figure) : List EventKind :=
  if show_.isSome = true ∧ new.band = .soldOut ∧ old.band ≠ .soldOut then [.soldOutReached] else []

/-- The inboxes with seats-changed notes sent to both recipients and events raised (R51). -/
def Mail.noted (m : Mail) (notes : List SeatsNote) (events : List EventKind) : Mail :=
  { m with
    seatsToComp := m.seatsToComp ++ notes
    seatsToNotices := m.seatsToNotices ++ notes
    events := m.events ++ events }

/-- A count that has advanced k times and stays at 65,535 once there. -/
def advanced (n k : Nat) : Nat := if k = 0 then n else min (n + k) 65535

/-- A reader that has returned to IDLE with the NOTICE base given (R52, R55): it begins notice C at once where one waits and the base is not 0, C advancing by one and one RECORD read of 8 beats going out for it. -/
def beginsNext (base : Addr) (q : Notices) : Notices × List Out :=
  if q.produced = q.consumed ∨ base = 0 then (q, [])
  else
    ({ q with reader := .record, number := q.consumed, consumed := q.consumed + 1, outstanding := 1 },
      [.agent { cls := .record, write := false, addr := base + BitVec.ofNat 32 (64 + 64 * (q.consumed.toNat % 64)), beats := 8
                data := [], tag := .noticeRecord }])

/-- Processing of a notice ends in s (R52, R55, R56): the unit's change p is put in place, a consumer writeback carries C, its beat whole (notes/assumptions/39.md), or is left pending while the NOTICE base is 0 (notes/assumptions/19.md), and the reader is IDLE and begins the next notice where one waits. -/
def endsNotice (s : State) (p : Notices × List Out) : State :=
  let base := s.path.windows.noticeBase
  let next := beginsNext base { p.1.toIdle with writebackPending := decide (base = 0) }
  (s.withNotices next.1).emit
    (p.2 ++
      (if base = 0 then []
       else
         [.agent { cls := .writeback, write := true, addr := base + 8, beats := 1,
                   data := [{ data := p.1.consumed.setWidth 64, enables := 0xFF }], tag := .consumer }]) ++ next.2)

/-- A presented key opens a listed notice (R64). -/
def opens (manager : Nat) (n : Notice) (key : Nat) : Prop :=
  (1 ≤ n.ident.desk ∧ n.ident.desk ≤ 8 ∧ key = n.key) ∨ (key = manager ∧ manager ≠ 0)

/-- The effects and awaited answers of a listed notice that leaves (R65, R66): an UNDELAY where it is a DELAY that applied minutes. -/
def leavingEffects (n : Notice) : List (Effect × Awaited) :=
  if n.kind = .delay ∧ 0 < n.applied then [(.undelay n.show_ n.applied, .undelay)] else []

/-- The effect and awaited answer of a record (R62, R63). -/
def ownEffects (r : NoticeRec) : List (Effect × Awaited) :=
  match r.kind with
  | .delay => [(.delay r.show_ r.minutes, .delay)]
  | .cancel => [(.cancel r.show_, .cancel)]
  | .info => []
  | .alert => []
  | .withdraw => []

/-- The filling buffer of a channel begins the fetch of frame k of a cue (R79, R86). -/
def Channel.fetches (c : Channel) (q : Cue) (k : Nat) (what : FillFor) : Prop :=
  c.filling = .fetching ∧ c.fillFor = what ∧ c.fillBuf = [] ∧ c.plan =
    match q.mode with
    | .list =>
      { pointer := some (q.base + 4 * k), addr := none, total := 1, issued := 0, received := 0, length := q.length }
    | .step =>
      { pointer := none, addr := some (q.base + k * q.stride), total := (q.length + 7) / 8, issued := 0, received := 0,
        length := q.length }
    | .still =>
      { pointer := none, addr := some q.base, total := (q.length + 7) / 8, issued := 0, received := 0, length := q.length }

/-- The slot of frame k of a cue begins with the frame in the filling buffer, from c to c' (R87 to R89): the frame is shown if COMPLETE, else dropped and counted late; a segment start sets the repeats, r else, and loads the chained cue into an EMPTY next rank; and the frame of the slot after it, or the predicted follower, is fetched. -/
def Channel.begun (ch : Fin 8) (q : Cue) (k r : Nat) (starts : Bool) (c c' : Channel) (events : List EventKind)
    (reads : List AgentReq) : Prop :=
  (c'.state = .running ∧ c'.position = k ∧ c'.periodsLeft = q.multiple ∧ c'.awaited = false ∧ c'.skips = c.skips ∧
    c'.cut = c.cut ∧ c'.repeatsLeft = if starts then q.repeats else r) ∧
  (c.filling = .complete → c'.shownBuf = c.fillBuf ∧ c'.shownKind = .frame ∧ c'.serial = c.serial + 1 ∧
    c'.shownLen = c.plan.length ∧ c'.late = c.late) ∧
  (c.filling ≠ .complete → c'.shownBuf = c.shownBuf ∧ c'.shownKind = c.shownKind ∧ c'.serial = c.serial ∧
    c'.shownLen = c.shownLen ∧ c'.late = min (c.late + 1) 65535) ∧
  (starts = true → c.next = .empty → q.next ≠ 0 → q.next.toNat % 8 = 0 → c'.next = .loading q.next ∧ reads =
    [{ cls := .record, write := false, addr := q.next, beats := 4, data := [], tag := .cue ch c'.nos.next }]) ∧
  (starts = false ∨ c.next ≠ .empty ∨ q.next = 0 ∨ q.next.toNat % 8 ≠ 0 → c'.next = c.next ∧ reads = []) ∧
  events = (if c.filling = .complete then [] else [.lateFrame]) ++
    (if starts = true ∧ c.next = .empty ∧ q.next ≠ 0 ∧ q.next.toNat % 8 ≠ 0 then [.badCue] else []) ∧
  (k + 1 < q.count → c'.fetches q (k + 1) (.frame (k + 1))) ∧
  (q.count ≤ k + 1 → 0 < c'.repeatsLeft → c'.fetches q 0 (.frame 0)) ∧
  (q.count ≤ k + 1 → c'.repeatsLeft = 0 →
    (∀ b n, c'.next = .ready b n → c'.fetches n 0 (.follower true)) ∧
    ((∀ b n, c'.next ≠ .ready b n) → q.loop = true → c'.fetches q 0 (.follower false)) ∧
    ((∀ b n, c'.next ≠ .ready b n) → q.loop = false → c'.filling = .empty))

/-- The stale cue q, which stood in the current rank of c, is skipped, where the next rank is not FULL (R93): the fourth skip makes the channel IDLE with STALE_CHAIN; below four a LOADING next is carried, else the skipped cue's own next cue is loaded, an address that cannot be ends with BAD_CUE, and with none the channel becomes IDLE. -/
def Channel.passedOver (ch : Fin 8) (q : Cue) (c c' : Channel) (events : List EventKind) (reads : List AgentReq) : Prop :=
  (3 ≤ c.skips → c'.state = .idle ∧ c'.current = .empty ∧ c'.next = .empty ∧ c'.skips = 0 ∧ events = [.staleChain] ∧
    reads = []) ∧
  (∀ b, c.skips < 3 → c.next = .loading b → c'.state = c.state ∧ c'.current = .loading b ∧ c'.next = .empty ∧
    c'.nos.current = c.nos.next ∧ c'.nos.next = c'.loads ∧ c'.skips = c.skips + 1 ∧ c'.filling = .empty ∧
    c'.serial = c.serial ∧ c'.shownBuf = c.shownBuf ∧ events = [] ∧ reads = []) ∧
  (c.skips < 3 → c.next = .empty → q.next ≠ 0 → q.next.toNat % 8 = 0 → c'.state = c.state ∧ c'.current = .loading q.next ∧
    c'.next = .empty ∧ c'.nos.current = c'.loads ∧ c'.skips = c.skips + 1 ∧ c'.filling = .empty ∧ c'.serial = c.serial ∧
    c'.shownBuf = c.shownBuf ∧ events = [] ∧ reads =
      [{ cls := .record, write := false, addr := q.next, beats := 4, data := [], tag := .cue ch c'.loads }]) ∧
  (c.skips < 3 → c.next = .empty → (q.next = 0 ∨ q.next.toNat % 8 ≠ 0) → c'.state = .idle ∧ c'.current = .empty ∧
    c'.next = .empty ∧ c'.skips = 0 ∧ events = (if q.next = 0 then [] else [.badCue]) ∧ reads = [])

/-! ### Trains (R107, R112, R124 to R129, R140 to R148) -/

/-- The module of a screen takes content: READY or LIVE (R107, R112). -/
def moduleTakes (s : State) (sc : Fin 32) : Bool := decide ((s.slotOf sc).state = .ready ∨ (s.slotOf sc).state = .live)

/-- The alert item of a screen is offered (R107). -/
def offersAlert (s : State) (sc : Fin 32) : Bool :=
  decide ((s.comp.screens.get sc).alert = { dirty := true, flight := false }) && (s.comp.screens.get sc).underAlert &&
    moduleTakes s sc

/-- A pane of a kind takes content: it is FIT, its module takes content and its screen is not under alert (R101, R107). -/
def paneTakes (s : State) (i : Fin 128) (kind : PaneKind) : Bool :=
  decide ((s.comp.panes.get i).kind = kind ∧ (s.comp.panes.get i).fitness = .fit) && moduleTakes s (paneScreen i) &&
    !(s.comp.screens.get (paneScreen i)).underAlert

/-- The banner or clock item of a pane is offered (R107). -/
def offersItem (s : State) (i : Fin 128) (kind : PaneKind) : Bool :=
  paneTakes s i kind && decide ((s.comp.panes.get i).item = { dirty := true, flight := false })

/-- A row of a pane is offered (R107). -/
def offersRow (s : State) (i : Fin 128) (r : Fin 16) : Bool :=
  paneTakes s i .board && decide ((s.comp.panes.get i).rowItems.get r = { dirty := true, flight := false }) &&
    decide (r.val < (s.comp.panes.get i).rows)

/-- The positions of a ring that a frame car of a channel names (R112, R129). -/
def framesDue (s : State) (n : Fin 4) (ch : Fin 8) : List (Fin 8) :=
  (allFin 8).filter fun k =>
    ((allFin 4).any fun p =>
        paneTakes s (paneIx (ringScreen n k) p) .reel &&
          decide ((s.comp.panes.get (paneIx (ringScreen n k) p)).channel = ch)) &&
      decide ((s.comp.screens.get (ringScreen n k)).serials.get ch ≠ some (s.reel.channels.get ch).serial) &&
      decide ((s.reel.channels.get ch).shownLen ≤ (s.slotOf (ringScreen n k)).maxFrame)

/-- The payload of a BANNER or ALERT car for a selected notice: its fields and text, or the empty form where none is selected (R76, R190, R191). -/
def CarriesNotice (s : State) (selected : Option NoticeId) (b : List Byte) : Prop :=
  ((∀ v, selected = some v → s.notices.find v = none) → b = [0, 0, 0, 1] ++ List.replicate 12 0) ∧
  ∀ v m, selected = some v → s.notices.find v = some m → b.length = 16 + m.text.length ∧ byteAt b 0 = m.kind.code ∧
    byteAt b 1 = m.priority % 256 ∧ byteAt b 2 = m.template.code ∧ byteAt b 3 = 0 ∧ le16At b 4 = m.show_ % 65536 ∧
    le16At b 6 = m.applied % 65536 ∧ le16At b 8 = m.ident.desk % 65536 ∧ le16At b 10 = m.ident.id % 65536 ∧
    le16At b 12 = m.text.length % 65536 ∧ b.drop 16 = m.text

/-- The eight numbers after k, wrapping past 7 to 0 (R128). -/
def after (k : Fin 8) : List (Fin 8) := (allFin 8).map fun j => wrapAdd k (j.val + 1)

/-- The candidate cars of a train, in the six groups of R127; r is the ring as it stands after the timeout judgement (R146) and the marking of probes (R143). -/
def candidates (s : State) (n : Fin 4) (r : Ring) : List Car :=
  ((allFin 8).filter fun k => offersAlert s (ringScreen n k)).map (fun k => s.alertCar (ringScreen n k)) ++
  (if r.query.state = .waiting then [r.query.car] else []) ++
  ((allFin 8).filter fun k => decide ((r.slots.get k).state = .lost) && (r.slots.get k).probePending).map probeCar ++
  ((after r.chanPtr).filter fun ch => decide (framesDue s n ch ≠ [])).map (fun ch => s.frameCar ch (framesDue s n ch)) ++
  ((allFin 8).flatMap fun k => ((allFin 4).filter fun p => offersItem s (paneIx (ringScreen n k) p) .banner).map fun p =>
    s.bannerCar s.comp (paneIx (ringScreen n k) p)) ++
  ((after r.screenPtr).flatMap fun k => (allFin 4).flatMap fun p =>
    ((allFin 16).filter fun row => offersRow s (paneIx (ringScreen n k) p) row).map fun row =>
      s.rowCar s.comp (paneIx (ringScreen n k) p) row) ++
  ((allFin 8).flatMap fun k => ((allFin 4).filter fun p => offersItem s (paneIx (ringScreen n k) p) .clock).map fun p =>
    clockCar s.comp (paneIx (ringScreen n k) p))

/-- The cars that enter: each candidate in its turn if it fits in the space left, else passed over (R127). -/
def fitting : Nat → List Car → List Car
  | _, [] => []
  | space, c :: cs => if c.size ≤ space then c :: fitting (space - c.size) cs else fitting space cs

/-- The return timer as a train is sent (R131). -/
def returnTimerOf (s : State) (p : RingParams) : Option Nat :=
  some (if s.params.period ≤ p.returnLimit then s.params.period - 1 else p.returnLimit)

/-- The request of the query slot has run out of time at the boundary that follows g (R146). -/
def Ring.outOfTime (p : RingParams) (g : Ring) : Bool :=
  decide (g.query.state = .waiting) && decide (p.queryTimeout < (g.period + 1 - g.query.start).toNat)

/-- The result of a request that ends (R148). -/
def Ring.resultOf (n : Fin 4) (outcome : QueryOutcome) (answer : BitVec 32) (g : Ring) : QueryResult :=
  { outcome := outcome, isSet := g.query.isSet, screen := 8 * n.val + g.query.position.val, item := g.query.item
    value := if g.query.isSet then g.query.value else 0, answer := answer, trains := g.query.trains
    count := g.result.count + 1 }

/-- A RUNNING ring's slots at a boundary: a LOST slot whose loss lies a multiple of 32 periods back gets its probe-pending flag (R143). -/
def Ring.probesMarked (g : Ring) (slots : Table 8 ModSlot) : Prop :=
  ∀ k m, g.slots.get k = m → slots.get k =
    if m.state = .lost ∧ (g.period + 1 - m.lossPeriod).toNat % 32 = 0 then { m with probePending := true } else m

/-- A RUNNING ring g without a train in flight builds and sends one at its boundary, from s to t; `time` is the timebase after the boundary (R125 to R129, R131, R142, R143, R146). That the count of trains a query has ridden stays at 65,535 is read from the spec by inference (notes/assumptions/38.md). -/
def SendsTrain (s t : State) (time : Timebase) (n : Fin 4) (p : RingParams) (g : Ring) : Prop :=
  ∃ (q g' : Ring) (f : Flight),
    q = { g with
      period := g.period + 1, slots := q.slots
      query := if g.outOfTime p then Query.reset else g.query
      result := if g.outOfTime p then g.resultOf n .timeout 0 else g.result } ∧ g.probesMarked q.slots ∧
    f = { seq := g.seq, cars := fitting (p.budget - 20) (candidates s n q), check := p.check, marker := p.marker } ∧
    g' = { q with
      seq := g.seq + 1, flight := some f, returnTimer := returnTimerOf s p
      chanPtr := (((f.cars.filter fun c => decide (c.kind = .frame)).getLast?).map Car.channel).getD g.chanPtr
      screenPtr := g'.screenPtr, slots := g'.slots
      query := if q.query.state = .waiting ∧ q.query.car ∈ f.cars then
        { q.query with state := .inFlight, trains := min (q.query.trains + 1) 65535 } else q.query } ∧
    ((∀ c ∈ f.cars, c.kind ≠ .row) → g'.screenPtr = g.screenPtr) ∧
    (∀ c k, (f.cars.filter fun c => decide (c.kind = .row)).getLast? = some c → c.dest = 1#8 <<< k.val →
      g'.screenPtr = k) ∧
    (∀ k m, q.slots.get k = m → g'.slots.get k = { m with
      probePending := m.probePending && !decide (probeCar k ∈ f.cars)
      frameSkips := advanced m.frameSkips ((candidates s n q).countP fun c =>
        decide (c.kind = .frame ∧ c ∉ f.cars) && c.dest.getLsbD k.val) }) ∧
    Frame [.time, .comp, .rings, .mail] s t ∧ t.time = time ∧ t.rings = s.rings.set n g' ∧
    t.mail = { s.mail with events := s.mail.events ++ if g.outOfTime p then [.queryDone] else [] } ∧
    t.comp.minute = s.comp.minute ∧
    (∀ i x y, s.comp.panes.get i = x → t.comp.panes.get i = y →
      y = { x with
        rowItems := y.rowItems
        item := if screenRing (paneScreen i) = n ∧ (s.bannerCar s.comp i ∈ f.cars ∨ clockCar s.comp i ∈ f.cars) then
          { dirty := false, flight := true } else x.item } ∧
      ∀ row, y.rowItems.get row = if screenRing (paneScreen i) = n ∧ s.rowCar s.comp i row ∈ f.cars then
        { dirty := false, flight := true } else x.rowItems.get row) ∧
    ∀ sc x, s.comp.screens.get sc = x → t.comp.screens.get sc =
      if screenRing sc = n ∧ s.alertCar sc ∈ f.cars then { x with alert := { dirty := false, flight := true } } else x

/-- The boundary of a ring that stands as g, its shift countdown done, takes s to t (R125): nothing while it is OFF, LOCKING or in FAULT, a skipped boundary with a train in flight, an ENUM train while ENUMERATING, a regular train while RUNNING. -/
def AtBoundary (s t base : State) (n : Fin 4) (p : RingParams) (g : Ring) : Prop :=
  (g.state = .off ∨ g.state = .locking ∨ g.state = .fault → t = commit s (base.withRings (s.rings.set n g))) ∧
  (g.state = .enumerating → g.flight ≠ none → t = commit s (base.withRings (s.rings.set n
    { g with skipped := min (g.skipped + 1) 65535 }))) ∧
  (g.state = .enumerating → g.flight = none → t = commit s (base.withRings (s.rings.set n { g with
    seq := g.seq + 1
    flight := some { seq := g.seq, cars := List.replicate 8 enumCar, check := p.check, marker := p.marker }
    returnTimer := returnTimerOf s p }))) ∧
  (g.state = .running → g.flight ≠ none → ∃ slots, g.probesMarked slots ∧ t = commit s (base.withRings (s.rings.set n
    { g with period := g.period + 1, skipped := min (g.skipped + 1) 65535, slots := slots }))) ∧
  (g.state = .running → g.flight = none → SendsTrain s t base.time n p g)

/-- A check register after one more bit (R133): shifted up, and the polynomial added where the bit that leaves differs from the bit that is fed. -/
def crcBit {w : Nat} (poly reg : BitVec w) (bit : Bool) : BitVec w :=
  if reg.msb = bit then reg <<< 1 else (reg <<< 1) ^^^ poly

/-- The bits of some bytes in order, each byte most significant bit first (R133). -/
def bitsMsbFirst (bs : List Byte) : List Bool := bs.flatMap fun b => (List.range 8).map fun i => b.getLsbD (7 - i)

/-- The bits of some bytes in order, each byte least significant bit first (R133). -/
def bitsLsbFirst (bs : List Byte) : List Bool := bs.flatMap fun b => (List.range 8).map fun i => b.getLsbD i

/-- The check value of some bytes, bit by bit in the words of R133's table. -/
def checkValue (type : CheckType) (marker : BitVec 32) (body : List Byte) : Nat :=
  match type with
  | .marker => marker.toNat
  | .crc16 => ((bitsMsbFirst body).foldl (crcBit 0x1021#16) 0xFFFF#16).toNat
  | .crc32 => (~~~ ((bitsLsbFirst body).foldl (crcBit 0x04C11DB7#32) 0xFFFFFFFF#32).reverse).toNat

/-- What of a settled train concerns the module at position k, whose slot is m: the slot afterwards, and whether it became LIVE, was lost, and came back. -/
structure SlotFate where
  slot : ModSlot
  live : Bool
  gone : Bool
  back : Bool
  deriving DecidableEq, Repr

/-- The fate of a slot m at position k of ring n in the settlement of a train (R140, R141, R143, R144): a READY slot whose content was accepted while its screen has an active pane becomes LIVE; the count of cars not accepted is walked over the slot's cars, all but PROBE and ENUM, and compared with the loss limit; an accepted PROBE takes a LOST slot back. LIVE is judged before loss (notes/assumptions/48.md). -/
def slotFate (s : State) (n : Fin 4) (p : RingParams) (cars : List ReturnedCar) (period : BitVec 16) (k : Fin 8)
    (m : ModSlot) : SlotFate :=
  let mine := cars.filter fun c => c.car.dest.getLsbD k.val
  let own := mine.filter fun c => decide (c.car.kind ≠ .probe ∧ c.car.kind ≠ .enum)
  let missed := own.foldl (fun x c => if c.accept.getLsbD k.val then 0 else min (x + 1) 255) m.missed
  let accepted (test : CarKind → Bool) : Bool := mine.any fun c => test c.car.kind && c.accept.getLsbD k.val
  let active : Bool := (allFin 4).any fun x =>
    decide ((s.comp.panes.get (paneIx (ringScreen n k) x)).kind ≠ .none ∧
      (s.comp.panes.get (paneIx (ringScreen n k) x)).fitness = .fit)
  let content (c : CarKind) : Bool := decide (c = .row ∨ c = .banner ∨ c = .clock ∨ c = .alert ∨ c = .frame)
  let live := decide (m.state = .ready) && accepted content && active
  let gone := decide (m.state = .ready ∨ m.state = .live) && decide (own ≠ [] ∧ p.lossLimit ≤ missed)
  let back := (decide (m.state = .lost) || gone) && accepted fun c => decide (c = .probe)
  { live := live, gone := gone, back := back
    slot :=
      if back then { m with state := .ready, missed := 0, lossPeriod := 0, probePending := false }
      else if gone then { m with state := .lost, missed := 0, lossPeriod := period, probePending := false }
      else if m.state = .ready ∨ m.state = .live then
        { m with state := if live then .live else m.state, missed := missed }
      else m }

/-- The car of the query slot in a returned train. -/
def queryCarOf (cars : List ReturnedCar) : Option ReturnedCar :=
  cars.find? fun c => decide (c.car.kind = .query ∨ c.car.kind = .set)

/-- A regular train's cars settled at the ring r, which becomes r' with events and module reports (R134, R135, R140, R141, R144, R147, R148): the query slot is ANSWERED with the returned value field, goes back to WAITING where its car was not accepted, and ends LOST where its target is lost; every slot meets its fate, and one that came back is reported with the information it kept. -/
def Settles (s : State) (n : Fin 4) (p : RingParams) (cars : List ReturnedCar) (r r' : Ring) (events : List EventKind)
    (reports : List ModuleReport) : Prop :=
  ∃ (answer : Option ReturnedCar) (stands lost : Bool),
    answer = (if r.query.state = .inFlight then
      (queryCarOf cars).filter fun c => c.accept.getLsbD r.query.position.val else none) ∧
    stands = (decide (r.query.state ≠ .empty) && answer.isNone) ∧
    lost = (stands && (slotFate s n p cars r.period r.query.position (r.slots.get r.query.position)).gone) ∧
    r' = { r with
      slots := r'.slots
      query := if answer.isSome ∨ lost = true then Query.reset
        else if r.query.state = .inFlight ∧ (queryCarOf cars).isSome then { r.query with state := .waiting } else r.query
      result := match answer with
        | some c => r.resultOf n .answered (BitVec.ofNat 32 (le32At c.payload 4))
        | none => if lost then r.resultOf n .lost 0 else r.result } ∧
    (∀ k, r'.slots.get k = (slotFate s n p cars r.period k (r.slots.get k)).slot) ∧
    events = (if answer.isSome then [.queryDone] else []) ++ (allFin 8).flatMap (fun k =>
      if (slotFate s n p cars r.period k (r.slots.get k)).gone then
        .moduleLost :: (if stands = true ∧ r.query.position = k then [.queryDone] else []) else []) ∧
    reports =
      ((allFin 8).filter fun k => (slotFate s n p cars r.period k (r.slots.get k)).live).map (fun k =>
        { ring := n, position := k, state := .live, info := none }) ++
      ((allFin 8).filter fun k => (slotFate s n p cars r.period k (r.slots.get k)).gone).map (fun k =>
        { ring := n, position := k, state := .lost, info := none }) ++
      ((allFin 8).filter fun k => (slotFate s n p cars r.period k (r.slots.get k)).back).map fun k =>
        { ring := n, position := k, state := .ready
          info := some { type := (r.slots.get k).type, regions := (r.slots.get k).regions
                         maxFrame := (r.slots.get k).maxFrame, firmware := (r.slots.get k).firmware } }

/-- The ring r enters FAULT as r' (R121, R122, R148). -/
def Faults (n : Fin 4) (p : RingParams) (r r' : Ring) (events : List EventKind) (reports : List ModuleReport) : Prop :=
  r' = { r with
    state := .fault, shift := none, returnTimer := none, lockTimer := none, slots := r'.slots
    restartTimer := if p.autoRestart then some (p.restartDelay * 1000) else none
    query := if r.query.state = .empty then r.query else Query.reset
    result := if r.query.state = .empty then r.result else r.resultOf n .lost 0 } ∧
  (∀ k m, r.slots.get k = m → r'.slots.get k = if m.state = .ready ∨ m.state = .live then { m with state := .lost } else m) ∧
  events = .ringFault :: (if r.query.state = .empty then [] else [.queryDone]) ∧
  reports = ((allFin 8).filter fun k => decide ((r.slots.get k).state = .ready ∨ (r.slots.get k).state = .live)).map fun k =>
    { ring := n, position := k, state := .lost, info := none }

/-- An item of the module at position k after the cars of a train that carried it have been settled (R110). -/
def Item.settled (own : List (Car × BitVec 8)) (k : Fin 8) (x : Item) : Item :=
  if own = [] then x else { dirty := x.dirty || own.any fun c => !c.2.getLsbD k.val, flight := false }

/-! ### Parameters, the SEAT window and the status block -/

/-- A number, or the nearest end of the range that it lies outside (R167). -/
def nearest (lo hi x : Nat) : Nat := if x < lo then lo else if hi < x then hi else x

/-- The range of R172 of a parameter of one number; the set value and the event enable mask have none. -/
def simpleRange : Simple → Nat × Nat
  | .eventEnable => (0, 4294967295)
  | .polarity => (0, 1)
  | .managerKey => (0, 65535)
  | .debounce => (0, 10)
  | .setValue => (0, 4294967295)
  | .grace => (0, 30)
  | .cancelDisplay => (0, 60)
  | .heldTaken => (0, 1)
  | .high => (1, 100)
  | .low => (0, 99)
  | .hysteresis => (0, 20)
  | .few => (0, 63)
  | .reopen => (1, 16)
  | .exact => (9, 999)
  | .autoSoldOut => (0, 1)
  | .autoPriority => (0, 7)
  | .period => (20, 200)

/-- The range of R172 of a ring parameter. -/
def ringRange : RingField → Nat × Nat
  | .enable => (0, 1)
  | .shift => (0, 199)
  | .budget => (1024, 65536)
  | .check => (0, 2)
  | .marker => (0, 4294967295)
  | .returnLimit => (1, 100)
  | .faultLimit => (1, 255)
  | .lossLimit => (1, 255)
  | .autoRestart => (0, 1)
  | .restartDelay => (1, 60)
  | .lockLimit => (1, 255)
  | .queryTimeout => (1, 64)

/-- A map of some seats does not lie wholly inside the enabled SEAT window (R26). -/
def outside (w : Windows) (map : Addr) (count : Nat) : Bool :=
  !decide (w.seatBase ≠ 0 ∧ w.seatBase.toNat ≤ map.toNat ∧
    map.toNat + 8 * ((count + 31) / 32) ≤ w.seatBase.toNat + 8192 * w.seatUnits)

/-- What a write of the SEAT base or size does in the Seat Tally Unit, from s to u, w being the table stored (R26, R32, R51): the waiting shows whose maps are outside leave the list, each slot whose map is outside is freed with its note, and the freed slots, in slot order (notes/assumptions/41.md), take the shows still waiting, in list order. -/
def MapsLeave (s u : State) (w : Windows) : Prop :=
  ∃ (kept : List WaitEntry) (freed : List (Fin 64)),
    kept = s.seats.waiting.filter (fun x => !outside w x.map x.count) ∧
    freed = (allFin 64).filter (fun i => decide ((s.seats.slots.get i).state ≠ .unbound) &&
      outside w (s.seats.slots.get i).map (s.seats.slots.get i).count) ∧
    u.seats = { s.seats with
      slots := u.seats.slots, waiting := kept.drop freed.length
      reissues := s.seats.reissues.filter fun r => decide (r.slot ∉ freed) } ∧
    (∀ i, i ∉ freed → u.seats.slots.get i = s.seats.slots.get i) ∧
    (∀ (k : Nat) i sl sl', freed[k]? = some i → s.seats.slots.get i = sl → u.seats.slots.get i = sl' →
      (kept[k]? = none → sl' = { SeatSlot.reset with binding := sl.binding + 1 }) ∧
      ∀ x : WaitEntry, kept[k]? = some x → sl'.state = .sweeping ∧ sl'.bound = some x.show_ ∧ sl'.map = x.map ∧ sl'.count = x.count ∧
        sl'.beats = mapBeats x.count ∧ sl'.holdback = x.holdback ∧ sl'.binding = sl.binding + 2 ∧ sl'.issue = 0 ∧ sl'.fill = 0 ∧
        sl'.retries = 0 ∧ sl'.tallies = Tallies.zero ∧ sl'.figure = Figure.none) ∧
    u.mail = s.mail.noted (freed.flatMap fun i =>
      seatsNotes s (s.seats.slots.get i).bound (s.seats.slots.get i).figure Figure.none .none) [] ∧
    ∀ j e f, s.tracker.entries.get j = e → u.tracker.entries.get j = f →
      f = { e with seatStatus := f.seatStatus, boundSlot := f.boundSlot } ∧
      (∀ (k : Nat) i (x : WaitEntry), freed[k]? = some i → kept[k]? = some x → x.show_ = j → f.seatStatus = .sweeping ∧ f.boundSlot = some i) ∧
      ((∃ x : WaitEntry, x ∈ s.seats.waiting ∧ outside w x.map x.count = true ∧ x.show_ = j) ∨
          (∃ i ∈ freed, (s.seats.slots.get i).bound = some j) → f.seatStatus = .none ∧ f.boundSlot = none) ∧
      (∀ x ∈ kept.drop freed.length, x.show_ = j → f = e) ∧
      ((∀ x ∈ s.seats.waiting, x.show_ ≠ j) → (∀ i ∈ freed, (s.seats.slots.get i).bound ≠ some j) → f = e)

/-- The value at each offset of a status block that s fills (R179, R189). -/
def BlockHolds (s : State) (b : List Byte) : Prop :=
  (byteAt b 0x08 = s.events.pending.toNat ∧ byteAt b 0x09 = s.params.eventEnable.toNat ∧
    byteAt b 0x0A = (if s.lineActive then 1 else 0) ∧ byteAt b 0x0B = 0 ∧ le16At b 0x0C = s.events.errors % 65536 ∧
    ∀ k : EventKind, le16At b (0x10 + 2 * k.index.val) = s.events.counters.get k.index % 65536) ∧
  (le32At b 0x48 = s.tracker.seconds % 4294967296 ∧
    byteAt b 0x4C = (if s.tracker.run then 1 else 0) + (if s.tracker.held then 2 else 0)) ∧
  (byteAt b 0x50 = s.path.windows.strap.toNat ∧ le16At b 0x52 = s.path.windows.seatUnits % 65536 ∧
    le32At b 0x54 = s.path.windows.setupBase.toNat ∧ le32At b 0x58 = s.path.windows.showBase.toNat ∧
    le32At b 0x5C = s.path.windows.seatBase.toNat ∧ le32At b 0x60 = s.path.windows.noticeBase.toNat ∧
    le32At b 0x64 = s.path.windows.statusBase.toNat ∧ le16At b 0x68 = s.seats.shortCount % 65536) ∧
  (le16At b 0x70 = s.notices.produced.toNat ∧ le16At b 0x72 = s.notices.consumed.toNat ∧
    byteAt b 0x74 = (if s.notices.alertLine.level then 1 else 0) + (if s.notices.hushLine.level then 2 else 0)) ∧
  (∀ (i : Nat) (at_ : Nat), i < 16 → at_ = 0x100 + 16 * i →
    (s.notices.list[i]? = none → (b.drop at_).take 16 = 0 :: 0xFF :: List.replicate 14 0) ∧
    ∀ m, s.notices.list[i]? = some m → byteAt b at_ = m.ident.desk % 256 ∧ byteAt b (at_ + 1) = m.kind.code ∧
      byteAt b (at_ + 2) = m.priority % 256 ∧ byteAt b (at_ + 3) = m.template.code ∧ le16At b (at_ + 4) = m.ident.id % 65536 ∧
      le16At b (at_ + 6) = m.show_ % 65536 ∧ le32At b (at_ + 8) = m.mask.toNat ∧
      le16At b (at_ + 12) = (m.expiry.getD 0xFFFF) % 65536 ∧ byteAt b (at_ + 14) = m.dwell % 256 ∧
      byteAt b (at_ + 15) = m.applied % 256) ∧
  (∀ (ch : Fin 8) (c : Channel) (at_ : Nat), s.reel.channels.get ch = c → at_ = 0x200 + 32 * ch.val →
    byteAt b at_ = c.state.code ∧ byteAt b (at_ + 1) = c.current.code ∧ byteAt b (at_ + 2) = c.next.code ∧
    byteAt b (at_ + 3) = c.skips % 256 ∧ byteAt b (at_ + 4) = (if c.cut = none then 0 else 1) ∧
    byteAt b (at_ + 5) = c.shownKind.code ∧ le16At b (at_ + 6) = c.serial.toNat ∧ le32At b (at_ + 8) = c.current.addr.toNat ∧
    le32At b (at_ + 12) = c.next.addr.toNat ∧ le16At b (at_ + 16) = c.position % 65536 ∧
    byteAt b (at_ + 18) = c.repeatsLeft % 256 ∧ le16At b (at_ + 20) = c.late % 65536) ∧
  (∀ (n : Fin 4) (r : Ring) (at_ : Nat), s.rings.get n = r → at_ = 0x300 + 160 * n.val →
    byteAt b at_ = r.state.code ∧ byteAt b (at_ + 1) = r.errors % 256 ∧ le16At b (at_ + 2) = r.skipped % 65536 ∧
    byteAt b (at_ + 4) = r.last.code ∧
    (∀ (k : Fin 8) (m : ModSlot) (o : Nat), r.slots.get k = m → o = at_ + 8 + 16 * k.val → byteAt b o = m.state.code ∧
      byteAt b (o + 1) = m.type.toNat ∧ le16At b (o + 2) = m.regions % 65536 ∧ le16At b (o + 4) = m.maxFrame % 65536 ∧
      le16At b (o + 6) = m.firmware.toNat ∧ byteAt b (o + 8) = m.missed % 256 ∧
      le16At b (o + 10) = m.frameSkips % 65536) ∧
    (∀ (k : Fin 8) (fit : Fin 4 → Nat), (∀ p, fit p = (s.comp.panes.get (paneIx (ringScreen n k) p)).fitness.code) →
      le16At b (at_ + 136 + 2 * k.val) = fit 0 + 4 * fit 1 + 16 * fit 2 + 64 * fit 3 +
        if (s.comp.screens.get (ringScreen n k)).underAlert then 256 else 0) ∧
    ∀ o, o = 0x580 + 16 * n.val → byteAt b o = r.result.outcome.code ∧ byteAt b (o + 1) = (if r.result.isSet then 1 else 0) ∧
      byteAt b (o + 2) = r.result.screen % 256 ∧ byteAt b (o + 3) = r.result.item.toNat ∧
      le32At b (o + 4) = r.result.value.toNat ∧ le32At b (o + 8) = r.result.answer.toNat ∧
      le16At b (o + 12) = r.result.trains % 65536 ∧ le16At b (o + 14) = r.result.count.toNat) ∧
  (∀ (i : Fin 192) (e : ShowEntry) (g : Figure) (at_ : Nat), s.tracker.entries.get i = e → s.showFigure i = g →
    at_ = 0x600 + 8 * i.val → byteAt b at_ = e.state.code ∧ byteAt b (at_ + 1) = e.reason.code ∧
    byteAt b (at_ + 2) = e.generation.toNat ∧ byteAt b (at_ + 3) = g.band.code ∧ le16At b (at_ + 4) = g.shown % 65536 ∧
    byteAt b (at_ + 6) = (if g.plus then 1 else 0) ∧ byteAt b (at_ + 7) = e.seatStatus.code) ∧
  ∀ i, ((14 ≤ i ∧ i < 16) ∨ (68 ≤ i ∧ i < 72) ∨ (77 ≤ i ∧ i < 80) ∨ i = 81 ∨ (106 ≤ i ∧ i < 112) ∨ (117 ≤ i ∧ i < 256) ∨
    (1472 ≤ i ∧ i < 1536) ∨ (3072 ≤ i ∧ i < 4088)) → byteAt b i = 0

/-! ### Invariants -/

/-- The Through Path and the intakes within their bounds (R149, R151, R152, R155, R158): at most 16 requests queued, none held back while there is room, at most 32 unanswered, a share count of 0..3, the intakes within their places, and the SETUP base as the strap gives it. -/
def PathOk (s : State) : Prop :=
  s.path.queue.length ≤ 16 ∧ (s.path.held ≠ [] → s.path.queue.length = 16) ∧ s.path.responses.length ≤ 32 ∧
    s.path.share ≤ 3 ∧ s.intakes.setup.length ≤ 4 ∧ s.intakes.shows.length ≤ 8 ∧ s.intakes.seat.length ≤ 8 ∧
    s.path.windows.setupBase = strapBase s.path.windows.strap

/-- The lobby clock within its day (R1): at most 107,999 seconds, and held exactly there. -/
def ClockOk (s : State) : Prop :=
  s.tracker.seconds ≤ 107999 ∧ (s.tracker.held = true ↔ s.tracker.seconds = 107999)

/-- The board order is the sorted list of the visible shows (R23). -/
def BoardOk (s : State) : Prop := s.tracker.board = boardOf s.tracker.entries

/-- The notice list holds at most 16 notices in falling priority, no two with the same desk and notice id (R59). What keeps them apart goes with it: the house alert is listed only while the alert line is asserted (R72), a record that is no WITHDRAW comes from a desk (R57, R58), answers are awaited only in EFFECT, for a notice that is not listed unless it replaces one (R62, R66), and no entry and no seats-changed note bears the id 65,535 (R12, R51). -/
def NoticesOk (s : State) : Prop :=
  s.notices.list.length ≤ 16 ∧ (s.notices.list.Pairwise fun a b => b.priority ≤ a.priority) ∧
    (s.notices.list.Pairwise fun a b => a.ident ≠ b.ident) ∧
    (s.notices.alertLine.level = false → ∀ n ∈ s.notices.list, n.ident ≠ { desk := 0, id := 65535 }) ∧
    (s.notices.awaiting ≠ [] → s.notices.reader = .effect) ∧
    (∀ r, s.notices.record = some r → r.kind ≠ .withdraw → r.ident.desk ≠ 0 ∧
      (s.notices.awaiting ≠ [] → s.notices.replacing = false → ∀ n ∈ s.notices.list, n.ident ≠ r.ident)) ∧
    (∀ note ∈ s.mail.seatsToNotices, note.id ≠ 65535) ∧ ∀ i, (s.tracker.entries.get i).fields.id ≠ 65535

/-- A ring's state, train, timers and slots fit together (R117 to R121, R131, R137): a train or a return timer only while ENUMERATING or RUNNING and both together, a lock timer only while LOCKING, a restart timer only in FAULT, a shift countdown only while the ring takes boundaries, READY and LIVE slots only while RUNNING, and slots that are not ABSENT only while RUNNING or in FAULT. -/
def Ring.ok (r : Ring) : Prop :=
  (r.flight.isSome = true → r.state = .enumerating ∨ r.state = .running) ∧
    r.returnTimer.isSome = r.flight.isSome ∧
    (r.lockTimer.isSome = true → r.state = .locking) ∧
    (r.restartTimer.isSome = true → r.state = .fault) ∧
    (r.shift.isSome = true → r.state.takesBoundaries = true) ∧
    (∀ k, (r.slots.get k).taking = true → r.state = .running) ∧
    (∀ k, (r.slots.get k).state ≠ .absent → r.state = .running ∨ r.state = .fault)

/-- Every ring fits together, and a ring is OFF exactly while its enable is clear (R117, R118, R123). -/
def RingsOk (s : State) : Prop :=
  ∀ n, (s.rings.get n).ok ∧ ((s.rings.get n).state = .off ↔ (s.params.ring.get n).enable = false)

/-- Every parameter of one number lies in its range, MEMORY is always enabled (R172, R174). -/
def ParamsOk (s : State) : Prop :=
  s.params.eventEnable.getLsbD 6 = true ∧ s.params.managerKey ≤ 65535 ∧ s.params.debounce ≤ 10 ∧
    s.params.grace ≤ 30 ∧ s.params.cancelDisplay ≤ 60 ∧ (1 ≤ s.params.high ∧ s.params.high ≤ 100) ∧
    s.params.low ≤ 99 ∧ s.params.hysteresis ≤ 20 ∧ s.params.few ≤ 63 ∧
    (1 ≤ s.params.reopen ∧ s.params.reopen ≤ 16) ∧ (9 ≤ s.params.exact ∧ s.params.exact ≤ 999) ∧
    s.params.autoPriority ≤ 7 ∧ (20 ≤ s.params.period ∧ s.params.period ≤ 200) ∧
    (∀ c, (s.params.rest.get c).len ≤ 65535) ∧
    (∀ n, (s.params.ring.get n).shift ≤ 199 ∧
      (1024 ≤ (s.params.ring.get n).budget ∧ (s.params.ring.get n).budget ≤ 65536) ∧
      (1 ≤ (s.params.ring.get n).returnLimit ∧ (s.params.ring.get n).returnLimit ≤ 100) ∧
      (1 ≤ (s.params.ring.get n).faultLimit ∧ (s.params.ring.get n).faultLimit ≤ 255) ∧
      (1 ≤ (s.params.ring.get n).lossLimit ∧ (s.params.ring.get n).lossLimit ≤ 255) ∧
      (1 ≤ (s.params.ring.get n).restartDelay ∧ (s.params.ring.get n).restartDelay ≤ 60) ∧
      (1 ≤ (s.params.ring.get n).lockLimit ∧ (s.params.ring.get n).lockLimit ≤ 255) ∧
      (1 ≤ (s.params.ring.get n).queryTimeout ∧ (s.params.ring.get n).queryTimeout ≤ 64))

/-- The Setup Decoder's count of results (R170, R171): at most four outstanding, one held back only at four, and none held back while a DAY_OPEN is awaited. -/
def ResultsOk (s : State) : Prop :=
  s.setup.outstanding ≤ 4 ∧ (s.setup.waiting.isSome = true → s.setup.outstanding = 4) ∧
    (s.setup.dayOpen.isSome = true → s.setup.waiting = none)

/-- The tallies of a slot count the seats of its shadow up to the fill cursor (R37, R42). -/
def SeatSlot.counts (sl : SeatSlot) : Prop :=
  sl.tallies =
    (List.range sl.fill).foldl (fun t b => t.countBeat sl.count b (sl.beat b).data) Tallies.zero

/-- The tallies of every slot are true (R42). -/
def TalliesOk (s : State) : Prop := ∀ i, (s.seats.slots.get i).counts

/-- The window table passes its test, its bases are multiples of 64, and the SEAT size is 1..128 (R152, R153). -/
def WindowsOk (s : State) : Prop :=
  s.path.windows.passes = true ∧ s.path.windows.setupBase.toNat % 64 = 0 ∧ s.path.windows.showBase.toNat % 64 = 0 ∧
    s.path.windows.seatBase.toNat % 64 = 0 ∧ s.path.windows.noticeBase.toNat % 64 = 0 ∧
    s.path.windows.statusBase.toNat % 64 = 0 ∧ 1 ≤ s.path.windows.seatUnits ∧ s.path.windows.seatUnits ≤ 128

/-- A seat slot's cursors, counts and binding fit together (R26, R27, R37 to R39): the fill cursor at or below the issue cursor, that at or below the beats of a map of at most 640 seats, at most two retries, a show exactly while it is not UNBOUND, a complete sweep while COUNTING, and the band NONE, with the figure 0 and the plus mark clear, while UNBOUND or SWEEPING. -/
def SeatSlot.ok (sl : SeatSlot) : Prop :=
  sl.fill ≤ sl.issue ∧ sl.issue ≤ sl.beats ∧ sl.beats = mapBeats sl.count ∧ sl.count ≤ 640 ∧ sl.retries ≤ 2 ∧
    (sl.state = .unbound ↔ sl.bound = none) ∧ (sl.state = .counting → sl.fill = sl.beats) ∧
    (sl.state = .unbound ∨ sl.state = .sweeping → sl.figure = { band := .none, shown := 0, plus := false })

/-- The Seat Tally Unit fits together (R12, R27, R30, R34, R36): every slot does, no show holds two slots, waits twice, or is both bound and waiting, the wait list is sorted and empty while a slot is UNBOUND, at most four reads are in flight, and no map of a show, of a waiting show or of a request still to be taken has more than 640 seats. -/
def SeatsOk (s : State) : Prop :=
  (∀ i, (s.seats.slots.get i).ok) ∧
    (∀ i j sh, (s.seats.slots.get i).bound = some sh → (s.seats.slots.get j).bound = some sh → i = j) ∧
    (∀ i, ∀ w ∈ s.seats.waiting, (s.seats.slots.get i).bound ≠ some w.show_) ∧
    (s.seats.waiting.Pairwise fun a b => waitBefore a b = true ∧ a.show_ ≠ b.show_) ∧
    (s.seats.waiting ≠ [] → ∀ i, (s.seats.slots.get i).state ≠ .unbound) ∧
    s.seats.inFlight ≤ 4 ∧ s.seats.shortCount ≤ 65535 ∧ (∀ w ∈ s.seats.waiting, w.count ≤ 640) ∧
    (∀ sh map n k e, .bind sh map n k e ∈ s.mail.toSeats → n ≤ 640) ∧
    (∀ sh map n, .remap sh map n ∈ s.mail.toSeats → n ≤ 640) ∧
    ∀ i, (s.tracker.entries.get i).fields.seatsTracked = true → (s.tracker.entries.get i).fields.seatCount ≤ 640

/-- A channel's ranks and counts fit together (R80, R81, R88, R93): IDLE exactly while the current rank is EMPTY, the next rank EMPTY then too, every number kept at most the load count, a skip count below 4 and a late count of at most 65,535. -/
def Channel.ok (c : Channel) : Prop :=
  (c.state = .idle ↔ c.current = .empty) ∧ (c.next ≠ .empty → c.current ≠ .empty) ∧
    (c.nos.current ≤ c.loads ∧ c.nos.next ≤ c.loads ∧ c.nos.pointer ≤ c.loads ∧ c.nos.frame ≤ c.loads ∧
      c.nos.rest ≤ c.loads) ∧ c.skips ≤ 3 ∧ c.late ≤ 65535

/-- Every channel fits together, and at most eight FRAME reads are in flight (R86). -/
def ReelOk (s : State) : Prop := (∀ ch, (s.reel.channels.get ch).ok) ∧ s.reel.inFlight ≤ 8

end Sys2Proof.Machine
end

