-- ==== Sys2Proof/Certificates/Slice0/Obligations.lean ====
section
/-! DEFINITION. The statements for the provers. -/

open Sys2Proof Sys2Proof.Machine

/-! ### The part as a whole -/

/-- A step takes the command at the front of the queue and runs it with the queue's rest. With an empty queue the part idles, which is the model's choice (notes/assumptions/2.md). -/
def Obligations.StepRunsTheFrontCommand : Prop :=
  (∀ (c : Instr) (rest : List Instr) (s : State), step (s.withPending (c :: rest)) = exec c (s.withPending rest)) ∧
    ∀ s : State, s.pending = [] → step s = .next s

/-- Every command completes in every state and leaves the queue of commands, which is the model's own, as it is; the one stop is the model's own, for an operand of PASSING_REQUEST that is no request by R149 (notes/assumptions/5.md). -/
def Obligations.OnlyMalformedRequestsStop : Prop :=
  (∀ (c : Instr) (s : State), (∀ r, c = .passingRequest r → r.wf = true) →
    ∃ t, exec c s = .next t ∧ t.pending = s.pending) ∧
    ∀ (r : PassReq) (s : State), r.wf = false → exec (.passingRequest r) s = .fault .malformedRequest

/-- Whatever command changes a mirrored value leaves the changed mark set (R177), but for PIN_RESET, which clears it. The mirrored values are the areas of the status block. -/
def Obligations.MirrorChangesSetTheMark : Prop :=
  ∀ (c : Instr) (s t : State), (∀ strap, c ≠ .pinReset strap) → exec c s = .next t → t.mirror ≠ s.mirror →
    t.events.changed = true

/-! ### Resets -/

/-- What pin reset leaves (R164), from any state: the parameters of R172's last column, the SETUP base from the strap (R152), every other window disabled, the four counts and the Event Unit at 0 with IDLE and an unset mark (R177), the interrupt line high (R175), no show, slot, notice, cue, pane or ring in use. Responses still to come are counted to be discarded, the model's choice (notes/assumptions/12.md), and requests that the stalled upstream side held back are dropped, another (notes/assumptions/30.md). -/
def Obligations.PinResetPlacesEveryBlock : Prop :=
  ∀ (strap : BitVec 3) (s : State), ∃ t, exec (.pinReset strap) s = .next t ∧ Frame [.port, .classQueues, .intakes,
      .setup, .params, .time, .clock, .entries, .seatFields, .seats, .notices, .reel, .comp, .rings, .events, .mail] s t ∧
    t.params =
      { eventEnable := 0x40, polarity := false, managerKey := 0, debounce := 4, setValue := 0, grace := 10,
        cancelDisplay := 15, heldTaken := true, high := 40, low := 15, hysteresis := 5, few := 10, reopen := 2,
        exact := 99, autoSoldOut := false, autoPriority := 2, period := 40,
        rest := Table.replicate 8 { addr := 0, len := 0 },
        ring := Table.replicate 4
          { enable := false, shift := 0, budget := 24576, check := .crc16, marker := 0, returnLimit := 20,
            faultLimit := 8, lossLimit := 16, autoRestart := false, restartDelay := 5, lockLimit := 50,
            queryTimeout := 8 } } ∧
    t.path.windows =
      { strap := strap, setupBase := BitVec.ofNat 32 (0x00FF0000 + strap.toNat * 0x01000000), showBase := 0,
        seatBase := 0, seatUnits := 8, noticeBase := 0, statusBase := 0 } ∧
    t.path.queue = [] ∧ t.path.held = [] ∧ t.path.responses = [] ∧ t.path.share = 0 ∧ t.path.lastClass = .writeback ∧
    t.path.frameQ = [] ∧ t.path.recordQ = [] ∧ t.path.sweepQ = [] ∧ t.path.writebackQ = [] ∧
    t.path.stale = s.path.stale + s.path.responses.length ∧
    t.intakes = { setup := [], shows := [], seat := [], notice := none } ∧
    t.setup = { index := 0, step := false, seq := 0, outstanding := 0, waiting := none, dayOpen := none } ∧
    t.tracker.seconds = 0 ∧ t.tracker.millis = 0 ∧ t.tracker.run = false ∧ t.tracker.held = false ∧
    t.tracker.board = [] ∧ (∀ i, (t.tracker.entries.get i).state = .free ∧ (t.tracker.entries.get i).id = 0) ∧
    (∀ i, (t.seats.slots.get i).state = .unbound ∧ (t.seats.slots.get i).binding = 0) ∧ t.seats.waiting = [] ∧
    t.seats.shortCount = 0 ∧ t.seats.burst = 63 ∧ t.seats.reissues = [] ∧
    t.notices.produced = 0 ∧ t.notices.consumed = 0 ∧ t.notices.reader = .idle ∧ t.notices.list = [] ∧
    (∀ c, (t.reel.channels.get c).state = .idle ∧ (t.reel.channels.get c).shownKind = .blank) ∧ t.reel.lastServed = 7 ∧
    (∀ i, (t.comp.panes.get i).kind = .none ∧ (t.comp.panes.get i).fitness = .unjudged) ∧
    (∀ n, (t.rings.get n).state = .off ∧ (t.rings.get n).query.state = .empty ∧
      ∀ k, ((t.rings.get n).slots.get k).state = .absent) ∧
    t.events.pending = 0 ∧ (∀ k, t.events.counters.get k = 0) ∧ t.events.changed = false ∧ t.events.generation = 0 ∧
    t.events.writeback = .idle ∧ t.events.errors = 0 ∧ t.lineActive = false ∧ t.lineHigh = true

/-- SOFT_RESET (R162, R163): with a control entry whose soft-reset bit is set at the head of the setup intake, taken when any entry is (read from the spec by inference, notes/assumptions/34.md), every block returns to its reset values; the Through Path keeps its passing requests, the SETUP base and its place in the response list, voiding the agent entries and emptying the class queues; the sequence count goes on and one result with index 0, value 0 and APPLIED is issued; the generation is kept and the changed mark set (R177). The lobby period timer is kept (notes/assumptions/9.md), every inbox is emptied (notes/assumptions/10.md), and a register whose reset value the spec does not give takes the one the model names (notes/assumptions/23.md): three choices of the model. -/
def Obligations.SoftResetReturnsEveryBlock : Prop :=
  ∀ (s : State) (e : Entry), s.entry = some e → e.index = 0 → e.argument.getLsbD 0 = true →
    ∃ t, exec .softReset s = .next t ∧
      Frame [.port, .classQueues, .intakes, .setup, .params, .clock, .entries, .seatFields, .seats, .notices, .reel,
        .comp, .rings, .events, .mail] s t ∧
      t.params = State.reset.params ∧ t.tracker = State.reset.tracker ∧ t.seats = State.reset.seats ∧
      t.notices = State.reset.notices ∧ t.reel = State.reset.reel ∧ t.comp = State.reset.comp ∧
      t.rings = State.reset.rings ∧ t.mail = State.reset.mail ∧ t.intakes = State.reset.intakes ∧
      t.path.queue = s.path.queue ∧ t.path.held = s.path.held ∧ t.path.stale = s.path.stale ∧
      t.path.responses = s.path.responses.map (fun g =>
        match g.source with
        | .agent tag _ => { g with source := .agent tag true }
        | .passing _ _ => g) ∧
      t.path.frameQ = [] ∧ t.path.recordQ = [] ∧ t.path.sweepQ = [] ∧ t.path.share = 0 ∧
      t.path.lastClass = .writeback ∧
      t.path.windows =
        { strap := s.path.windows.strap, setupBase := s.path.windows.setupBase, showBase := 0, seatBase := 0,
          seatUnits := 8, noticeBase := 0, statusBase := 0 } ∧
      t.path.writebackQ =
        [{ cls := .writeback, write := true, addr := beatAddr s.path.windows.setupBase 2, beats := 1,
           data := [{ data := ({ index := 0, value := 0, outcome := .applied, seq := s.setup.seq + 1 } : Result).beat,
                      enables := 0xFF }], tag := .result }] ∧
      t.setup = { index := 0, step := false, seq := s.setup.seq + 1, outstanding := 1, waiting := none, dayOpen := none } ∧
      t.events = { State.reset.events with changed := true, generation := s.events.generation }

/-- The invariants of the part hold right after reset. -/
def Obligations.ResetMeetsTheInvariants : Prop :=
  PathOk State.reset ∧ ClockOk State.reset ∧ BoardOk State.reset ∧ NoticesOk State.reset ∧ RingsOk State.reset ∧
    ParamsOk State.reset ∧ ResultsOk State.reset ∧ WindowsOk State.reset ∧ SeatsOk State.reset ∧ TalliesOk State.reset ∧
    ReelOk State.reset

/-- Every step keeps the Through Path and the intakes within their bounds: at most 16 requests queued (R149), none held back while there is room, at most 32 unanswered (R151), 4, 8 and 8 intake places (R155), a share count of 0 to 3 (R158), the SETUP base as the strap gives it (R152). Every step keeps the window table one that passes its test, with bases that are multiples of 64 and a SEAT size of 1 to 128 (R152, R153, R168). -/
def Obligations.EveryStepKeepsThePathBounds : Prop :=
  ∀ s t : State, step s = .next t → (PathOk s → PathOk t) ∧ (WindowsOk s → WindowsOk t)

/-- Every step keeps the lobby clock within its day, held exactly at its last second (R1, R3, R4), and keeps the board order the sorted list of the visible shows (R23): no command changes a show's visibility, effective start or auditorium without bringing the order up to date. -/
def Obligations.EveryStepKeepsTheClockAndTheBoard : Prop :=
  ∀ s t : State, step s = .next t → (ClockOk s → ClockOk t) ∧ (BoardOk s → BoardOk t)

/-- Every step keeps the notice list at no more than 16 notices in falling priority, no two with the same desk and notice id (R59). Every step keeps the Seat Tally Unit together: the cursors in order, no show in two slots or both bound and waiting, the wait list sorted, four reads in flight at most, the band NONE while UNBOUND or SWEEPING (R27, R30, R34, R36). And every step keeps the tallies of every slot true to its shadow (R37, R42), as long as a SWEEP response that is taken under its slot's binding number covers no beat already counted: a binding number has 8 bits, so one taken 256 bindings late could (notes/assumptions/36.md). -/
def Obligations.EveryStepKeepsTheNoticeList : Prop :=
  ∀ s t : State, step s = .next t →
    (NoticesOk s → NoticesOk t) ∧ (SeatsOk s → SeatsOk t) ∧
      (SeatsOk s → TalliesOk s →
        (∀ i first n data err rest,
          s.mail.seatResp = { tag := .sweep i (s.seats.slots.get i).binding first n, data := data, err := err } :: rest →
          (s.seats.slots.get i).fill ≤ first ∧ first + data.length ≤ 20) → TalliesOk t)

/-- Every step keeps each ring's state, train, timers and module slots fitted together, a ring OFF exactly while its enable is clear (R117 to R121, R123, R131, R137), and each channel's ranks, load numbers and counts, with at most eight FRAME reads in flight (R80, R81, R86, R88, R93). -/
def Obligations.EveryStepKeepsTheRings : Prop :=
  ∀ s t : State, step s = .next t → (RingsOk s → RingsOk t) ∧ (ReelOk s → ReelOk t)

/-- Every step keeps every parameter of one number within its range, with MEMORY enabled (R167, R172, R174), and keeps at most four result writes outstanding, a result held back only at four (R170). -/
def Obligations.EveryStepKeepsTheParametersAndTheResults : Prop :=
  ∀ s t : State, step s = .next t → (ParamsOk s → ParamsOk t) ∧ (ResultsOk s → ResultsOk t)

/-! ### Timebase and lobby clock -/

/-- MILLISECOND_TICK when no second and no line change is outstanding: the clock counts a millisecond while it runs below its last second (R1), each line debouncer counts a differing sample and resets on an equal one, with a change due at 2^k (R71), banner and page timers count on screens without an alert (R74, R105), ring timers count down and wait at 0, and the period timer brings a boundary due everywhere at the end of each period (R124). The rest of the Notice Unit stands. With a second or a line change outstanding, the tick counts after those have been taken as by their own commands. That ring timers wait at 0, that a line change is marked due for its command, that boundaries are counted as due at each recipient, and that an outstanding second or line change is taken first are the model's choice (notes/assumptions/7.md, notes/assumptions/8.md, notes/assumptions/9.md, notes/assumptions/6.md). -/
def Obligations.MillisecondTickCountsEveryTimer : Prop :=
  (∀ (a h : Bool) (s : State), s.tracker.millis < 1000 → s.notices.alertLine.due = false →
    s.notices.hushLine.due = false → ∃ t, exec (.millisecondTick a h) s = .next t ∧
      Frame [.clock, .time, .notices, .comp, .rings] s t ∧
      t.tracker = { s.tracker with
        millis := if s.tracker.run = true ∧ s.tracker.seconds < 107999 then s.tracker.millis + 1 else s.tracker.millis } ∧
      t.time = (if s.time.timer ≤ 1 then
          { timer := s.params.period, inUse := s.params.period, dueReel := s.time.dueReel + 1,
            dueEvent := s.time.dueEvent + 1, dueNotice := s.time.dueNotice + 1,
            dueRing := s.time.dueRing.map fun n => n + 1 }
        else { s.time with timer := s.time.timer - 1 }) ∧
      t.notices.alertLine = (if a = s.notices.alertLine.level then { s.notices.alertLine with runCount := 0 }
        else { s.notices.alertLine with
          runCount := s.notices.alertLine.runCount + 1
          due := decide (2 ^ s.params.debounce ≤ s.notices.alertLine.runCount + 1) }) ∧
      t.notices.hushLine = (if h = s.notices.hushLine.level then { s.notices.hushLine with runCount := 0 }
        else { s.notices.hushLine with
          runCount := s.notices.hushLine.runCount + 1
          due := decide (2 ^ s.params.debounce ≤ s.notices.hushLine.runCount + 1) }) ∧
      (∀ sc p r, s.notices.rotations.get (paneIx sc p) = r → t.notices.rotations.get (paneIx sc p) = { r with
        timer := if r.current.isSome = true ∧ s.notices.alerts.get sc = none then r.timer - 1 else r.timer }) ∧
      t.notices = { s.notices with
        alertLine := t.notices.alertLine, hushLine := t.notices.hushLine, rotations := t.notices.rotations } ∧
      (∀ sc p, t.comp.panes.get (paneIx sc p) =
        if (s.comp.panes.get (paneIx sc p)).kind = .board ∧ (s.comp.panes.get (paneIx sc p)).fitness = .fit ∧
            (s.comp.screens.get sc).underAlert = false then
          { s.comp.panes.get (paneIx sc p) with timer := (s.comp.panes.get (paneIx sc p)).timer - 1 }
        else s.comp.panes.get (paneIx sc p)) ∧
      (∀ n, t.rings.get n = { s.rings.get n with
        returnTimer := (s.rings.get n).returnTimer.map fun k => k - 1
        lockTimer := (s.rings.get n).lockTimer.map fun k => k - 1
        restartTimer := (s.rings.get n).restartTimer.map fun k => k - 1
        shift := (s.rings.get n).shift.map fun k => k - 1 })) ∧
  ∀ (a h : Bool) (s s1 s2 s3 s4 t : State), exec .secondAdvance s = .next s1 → exec .alertLineAsserted s1 = .next s2 →
    exec .alertLineDeasserted s2 = .next s3 → exec .hushLineChange s3 = .next s4 →
    exec (.millisecondTick a h) s4 = .next t → ∃ u, exec (.millisecondTick a h) s = .next u ∧ Alike u t

/-- SECOND_ADVANCE (R1, R2): below the last second, a millisecond count of 1,000 returns to 0 and the seconds count advances by one; on reaching 107,999 the held mark is set and CLOCK_HELD raised; on a multiple of 60 a minute boundary is due. At the last second, and below 1,000, nothing changes. That the count waits at 1,000 for this command and that a boundary waits as due, a second one with it as one, are the model's choice (notes/assumptions/6.md). -/
def Obligations.SecondAdvanceMovesTheClock : Prop :=
  ∀ s : State,
    (1000 ≤ s.tracker.millis → s.tracker.seconds < 107999 →
      exec .secondAdvance s = .next (commit s { s with
        tracker := { s.tracker with
          seconds := s.tracker.seconds + 1
          millis := 0
          held := s.tracker.held || decide (s.tracker.seconds = 107998)
          minuteDue := s.tracker.minuteDue || decide (60 ∣ s.tracker.seconds + 1) }
        mail := { s.mail with
          events := s.mail.events ++ if s.tracker.seconds = 107998 then [.clockHeld] else [] } })) ∧
    (s.tracker.millis < 1000 ∨ 107999 ≤ s.tracker.seconds → exec .secondAdvance s = .next s)

/-- MINUTE_BOUNDARY (R2, R7, R8): with a boundary due, every show in ON_SALE or CLOSING moves to its target, every show in STARTED moves to RETIRED alone, every CANCELLED show moves to RETIRED once its cancel display time has run out, every other entry stays; a cancel minute is kept only while CANCELLED; the board order is left sorted; each show that moved has its RELEASE and its note, in slot order, the board-order note carries the lowest changed position, and the minute note comes last to the Notice Unit and to the Composition Unit (R22 to R24). -/
def Obligations.MinuteBoundaryEvaluatesEveryShow : Prop :=
  ∀ s : State, s.tracker.minuteDue = true →
    ∃ t, exec .minuteBoundary s = .next t ∧ Frame [.clock, .entries, .mail] s t ∧ BoardOk t ∧
      t.tracker.minuteDue = false ∧ t.tracker.seconds = s.tracker.seconds ∧ t.tracker.millis = s.tracker.millis ∧
      t.tracker.run = s.tracker.run ∧ t.tracker.held = s.tracker.held ∧
      (∀ i, ∀ e, s.tracker.entries.get i = e →
        ∃ st, t.tracker.entries.get i =
            { e with state := st, cancelMinute := if e.state.visible ∧ st ≠ .cancelled then none else e.cancelMinute } ∧
          (e.state = .onSale ∨ e.state = .closing →
            st = if s.tracker.seconds / 60 + e.fields.closeOffset < e.effStart then .onSale
              else if s.tracker.seconds / 60 < e.effStart then .closing
              else if s.tracker.seconds / 60 < e.effStart + s.params.grace then .started else .retired) ∧
          (e.state = .started → st =
            if e.effStart + s.params.grace ≤ s.tracker.seconds / 60 then .retired else .started) ∧
          (e.state = .cancelled →
            st = if e.cancelMinute.getD 0 + s.params.cancelDisplay ≤ s.tracker.seconds / 60 then .retired
              else .cancelled) ∧
          (e.state.visible = false → st = e.state)) ∧
      EvaluationSent s t (s.tracker.seconds / 60) ∧ t.mail.events = s.mail.events

/-- CLOCK_SET (R4, R171): the value clamped to 107,999 becomes the seconds count, the milliseconds 0, the run flag kept; the held mark follows the value, with CLOCK_HELD raised when it is the last second; every show is evaluated against the new minute; each show that moved has its RELEASE and its note, the board-order note carries the lowest changed position, and the minute note comes last (R22 to R24); the result is CLAMPED above 107,999 and APPLIED otherwise. A minute boundary due, or a second completed and not yet taken, is overtaken, the model's choice (notes/assumptions/6.md). -/
def Obligations.ClockSetMovesTheClock : Prop :=
  ∀ (s : State) (e : Entry), s.entry = some e → e.index = 2 → e.mask ≠ 0 →
    ∃ t u, exec .clockSet s = .next t ∧
      t = commit s (u.result e.index e.argument (if 107999 < e.argument.toNat then .clamped else .applied)) ∧
      Frame [.clock, .entries, .mail] s.takeEntry u ∧ BoardOk u ∧
      u.tracker.seconds = min e.argument.toNat 107999 ∧ u.tracker.millis = 0 ∧ u.tracker.run = s.tracker.run ∧
      u.tracker.minuteDue = false ∧ u.tracker.fetchCount = s.tracker.fetchCount ∧
      u.tracker.held = decide (107999 ≤ e.argument.toNat) ∧
      u.mail.events = s.mail.events ++ (if 107999 ≤ e.argument.toNat then [.clockHeld] else []) ∧
      (∀ i, u.tracker.entries.get i = (s.tracker.entries.get i).evaluate (min e.argument.toNat 107999 / 60)
        s.params.grace s.params.cancelDisplay) ∧
      EvaluationSent s u (min e.argument.toNat 107999 / 60)

/-- DAY_OPEN at the tracker (R3, R171): every entry takes its reset values, the board order is emptied, the clock is set to the clamped value and started, CLOCK_HELD is raised at the last second, each formerly live show's REMOVED note goes to all four recipients (R24), in slot order, the board-order note with the lowest changed position to the Composition Unit (R23), the minute note comes last to the Notice Unit and the Composition Unit; the note of a FETCHING entry carries the id 0 (read from the spec by inference, notes/assumptions/14.md); the latched index steps where the step flag is set (R165); the command then stands before the three other units with its result to come, the argument as its value and CLAMPED above 107,999, APPLIED otherwise, and the decoder takes no further beat until their answers are in (notes/assumptions/22.md). A minute boundary due, or a second completed and not yet taken, is overtaken, the model's choice (notes/assumptions/6.md). That a REMOVED note names REMOVED alone is the model's choice too (notes/assumptions/58.md). -/
def Obligations.DayOpenFreesEveryShow : Prop :=
  ∀ (s : State) (e : Entry), s.entry = some e → e.index = 1 → e.mask ≠ 0 →
    ∃ t, exec .dayOpen s = .next t ∧ Frame [.intakes, .setup, .mail, .clock, .entries, .seatFields] s t ∧
      (∀ i, t.tracker.entries.get i = State.reset.tracker.entries.get i) ∧ t.tracker.board = [] ∧
      t.tracker.seconds = min e.argument.toNat 107999 ∧ t.tracker.millis = 0 ∧ t.tracker.run = true ∧
      t.tracker.held = decide (107999 ≤ e.argument.toNat) ∧ t.tracker.minuteDue = false ∧
      t.tracker.fetchCount = s.tracker.fetchCount ∧
      (∃ (gone : List ShowNote) (order : List CompMsg), BoardNoted s t order ∧
        gone = ((allFin 192).filter fun i => (s.tracker.entries.get i).state.live).map (fun i =>
          { slot := i, id := if (s.tracker.entries.get i).state = .fetching then 0 else (s.tracker.entries.get i).fields.id
            old := (s.tracker.entries.get i).state, new := .free
            change := { state := false, start := false, title := false, display := false, removed := true } }) ∧
        t.mail = { s.mail with
          events := s.mail.events ++ if 107999 ≤ e.argument.toNat then [.clockHeld] else []
          toSeats := s.mail.toSeats ++ .dayOpen :: gone.map .note
          toNotices := s.mail.toNotices ++ gone.map .note ++ [.minute (min e.argument.toNat 107999 / 60)]
          toReel := s.mail.toReel ++ gone
          toComp := s.mail.toComp ++ gone.map .note ++ order ++ [.minute (min e.argument.toNat 107999 / 60)]
          dayOpenNotices := true, dayOpenComp := true }) ∧
      t.setup = { s.setup with
        index := if s.setup.step then 2 else 1
        dayOpen := some
          { index := 1, value := e.argument, outcome := if 107999 < e.argument.toNat then .clamped else .applied
            seats := true, notices := true, comp := true } } ∧ t.setupBeat = none ∧
      t.intakes.setup = s.intakes.setup.tail ∧ t.intakes.shows = s.intakes.shows

/-- The other units take DAY_OPEN: the Seat Tally Unit returns every slot to UNBOUND with its binding number advanced and empties its lists, keeping the short count and burst pointer (R28); the Notice Unit drops every notice but the house alert (R69); the Composition Unit empties every board list, returns to page 0 and marks every item (R116). A change of the notice list settles rotations and alerts and sends its notes (R75, R76). A unit that is not the last clears its mark in the wait; the unit that takes the command last brings the result, with the index, value and outcome that wait (R171; notes/assumptions/22.md). -/
def Obligations.UnitsTakeDayOpen : Prop :=
  ∀ (s : State) (answers : (DayOpenWait → DayOpenWait) → State → State → Prop),
    (∀ f u t, answers f u t ↔ (s.setup.dayOpen = none → t = u) ∧
      ∀ w, s.setup.dayOpen = some w →
        ((f w).seats = true ∨ (f w).notices = true ∨ (f w).comp = true →
          t = u.withSetup { s.setup with dayOpen := some (f w) }) ∧
        ((f w).seats = false → (f w).notices = false → (f w).comp = false →
          t = (u.withSetup { s.setup with dayOpen := none }).result w.index w.value w.outcome)) →
    (∀ rest, s.mail.toSeats = .dayOpen :: rest → ∃ t u, exec .seatDayOpen s = .next (commit s t) ∧
      answers (fun w => { w with seats := false }) u t ∧
      u = { s with
        mail := { s.mail with toSeats := rest }
        seats := { s.seats with
          slots := s.seats.slots.map fun sl => { SeatSlot.reset with binding := sl.binding + 1 }
          waiting := []
          reissues := [] } }) ∧
    (s.mail.dayOpenNotices = true → ∃ t p, exec .noticeDayOpen s = .next (commit s t) ∧
      answers (fun w => { w with notices := false })
        (((s.withMail { s.mail with dayOpenNotices := false }).withNotices p.1).emit p.2) t ∧
      ((∀ n ∈ s.notices.list, n.ident = { desk := 0, id := 65535 }) → p = (s.notices, [])) ∧
      ((∃ n ∈ s.notices.list, n.ident ≠ { desk := 0, id := 65535 }) →
        p = s.notices.change (s.notices.list.filter fun n => decide (n.ident = { desk := 0, id := 65535 }))
          ((s.notices.list.filter fun n => decide (n.ident ≠ { desk := 0, id := 65535 })).map Notice.mask))) ∧
    (s.mail.dayOpenComp = true → ∃ t q, exec .compositionDayOpen s = .next (commit s t) ∧
      answers (fun w => { w with comp := false }) ((s.withMail { s.mail with dayOpenComp := false }).withComp q) t ∧
      (∀ i p, s.comp.panes.get i = p →
        (p.kind = .board → q.panes.get i = { p with
          list := [], page := 0, timer := p.dwell * 1000
          rowItems := p.rowItems.map fun x => { x with dirty := true } }) ∧
        (p.kind = .banner ∨ p.kind = .clock → q.panes.get i = { p with item := { p.item with dirty := true } }) ∧
        (p.kind = .none ∨ p.kind = .reel → q.panes.get i = p)) ∧
      (∀ sc, q.screens.get sc = { s.comp.screens.get sc with
        alert := { (s.comp.screens.get sc).alert with dirty := true } }) ∧ q.minute = s.comp.minute)

/-! ### Shows -/

/-- The checks of a PUBLISH (R12), in their order: the first that fails gives the reject reason, which the entry of a PUBLISH record that the tracker takes then carries. -/
def Obligations.PublishChecksComeInOrder : Prop :=
  (∀ (s : State) (i : Fin 192) (no : Nat) (data : List Beat) (err : Bool) (rest : List Response),
    s.mail.trackerResp = { tag := .record i no, data := data, err := err } :: rest →
    (s.tracker.entries.get i).fetch = .record → (s.tracker.entries.get i).fetchNo = no →
    (s.tracker.entries.get i).refetch = false → showAction (beatsBytes data) = .publish →
    ∀ reason, s.tracker.validate s.path.windows i (showFields (beatsBytes data)) err = reason → reason ≠ .none →
    ∃ t, exec .recordFetchDone s = .next t ∧ (t.tracker.entries.get i).reason = reason) ∧
  ∀ (t : Tracker) (w : Windows) (slot : Fin 192) (f : ShowFields) (err : Bool),
    t.validate w slot f err =
      if err = true then .memory
      else if f.id = 0 ∨ f.id = 65535 then .badId
      else if f.auditorium = 0 ∨ 24 < f.auditorium then .badAuditorium
      else if 1799 < f.start then .badStart
      else if ∃ j, j ≠ slot ∧ (t.entries.get j).state.live = true ∧ (t.entries.get j).id = f.id then .duplicate
      else if f.seatsTracked = true ∧ (f.seatCount = 0 ∨ 640 < f.seatCount ∨ ¬ 8 ∣ f.mapAddr.toNat ∨
          ¬ (w.seatBase.toNat ≤ f.mapAddr.toNat ∧
            f.mapAddr.toNat + 8 * ((f.seatCount + 31) / 32) ≤ w.seatBase.toNat + w.seatUnits * 8192) ∨
          w.seatBase = 0) then .badMap
      else if f.seatsTracked = true ∧ ∃ j, j ≠ slot ∧ (t.entries.get j).state.live = true ∧
          (t.entries.get j).fields.seatsTracked = true ∧
          f.mapAddr.toNat < (t.entries.get j).fields.mapAddr.toNat + 8 * (((t.entries.get j).fields.seatCount + 31) / 32) ∧
          (t.entries.get j).fields.mapAddr.toNat < f.mapAddr.toNat + 8 * ((f.seatCount + 31) / 32) then .mapOverlap
      else .none

/-- CONTROL_WORD_BEAT (R9): the oldest beat leaves the intake; outside the SHOW window, or with the window disabled, it is dropped; else it names the slot of its 64-byte record, and a slot with no fetch in flight gets a record read of 8 beats at its record address, entering FETCHING from FREE, REJECTED or RETIRED with that state remembered, while a slot with a fetch in flight gets its refetch-pending flag set. That no note goes out on entering FETCHING is read from the spec's list of notes (notes/assumptions/13.md). -/
def Obligations.ControlWordStartsAFetch : Prop :=
  ∀ (s : State) (b : IntakeBeat) (rest : List IntakeBeat), s.intakes.shows = b :: rest →
    (s.path.windows.showBase = 0 ∨ b.addr.toNat < s.path.windows.showBase.toNat ∨
        s.path.windows.showBase.toNat + 12288 ≤ b.addr.toNat →
      exec .controlWordBeat s = .next (commit s (s.withIntakes { s.intakes with shows := rest }))) ∧
    ∀ i : Fin 192, s.path.windows.showBase ≠ 0 → s.path.windows.showBase.toNat ≤ b.addr.toNat →
      (b.addr.toNat - s.path.windows.showBase.toNat) / 64 = i.val → ∀ e, s.tracker.entries.get i = e →
      (e.fetch ≠ .none → exec .controlWordBeat s = .next (commit s
        ((s.withIntakes { s.intakes with shows := rest }).withTracker
          { s.tracker with entries := s.tracker.entries.set i { e with refetch := true } }))) ∧
      (e.fetch = .none → exec .controlWordBeat s = .next (commit s
        (((s.withIntakes { s.intakes with shows := rest }).withTracker
          { s.tracker with
            fetchCount := s.tracker.fetchCount + 1
            entries := s.tracker.entries.set i
              (if e.state = .free ∨ e.state = .rejected ∨ e.state = .retired then
                { e with prior := e.state, state := .fetching, fetch := .record, fetchNo := s.tracker.fetchCount + 1 }
              else { e with fetch := .record, fetchNo := s.tracker.fetchCount + 1 }) }).withPath
          { s.path with recordQ := s.path.recordQ ++
            [{ cls := .record, write := false, addr := s.path.windows.showBase + BitVec.ofNat 32 (64 * i.val), beats := 8,
               data := [], tag := .record i (s.tracker.fetchCount + 1) }] })))

/-- RECORD_FETCH_DONE with a memory error, or with a PUBLISH that fails a check (R12, R15): the entry becomes REJECTED with the reason, RECORD_REJECTED is raised, its delay and cancel minute are lost, and it leaves the board order; a visible show's RELEASE (where it had seats tracked) and REMOVED note go out, any other entry's note shows its move; then the board-order note. The id 0 of an entry that holds no show (notes/assumptions/14.md), and the fields kept with the effective start back at the start minute (notes/assumptions/17.md), are read from the spec by inference, and so are the RELEASE of a CANCELLED show (notes/assumptions/16.md) and that the note of an entry that is not visible goes out and names STATE alone, one RETIRED while its record was read included (notes/assumptions/59.md); that a REMOVED note names REMOVED alone is the model's choice (notes/assumptions/58.md). With a refetch pending, the refetch follows (R10; TitlesAndRefetchesFollow). -/
def Obligations.FailedPublishRejectsTheEntry : Prop :=
  ∀ (s : State) (i : Fin 192) (no : Nat) (data : List Beat) (err : Bool) (rest : List Response) (e : ShowEntry)
      (reason : RejectReason), s.mail.trackerResp = { tag := .record i no, data := data, err := err } :: rest →
    s.tracker.entries.get i = e → e.fetch = .record → e.fetchNo = no → e.refetch = false →
    (err = true ∧ reason = .memory ∨ err = false ∧ showAction (beatsBytes data) = .publish ∧ reason ≠ .none ∧
      s.tracker.validate s.path.windows i (showFields (beatsBytes data)) false = reason) →
    ∃ t, exec .recordFetchDone s = .next t ∧ Frame [.clock, .entries, .mail] s t ∧ BoardOk t ∧
      t.tracker = { s.tracker with
        board := t.tracker.board
        entries := s.tracker.entries.set i { e with
          state := .rejected, reason := reason, delay := 0, effStart := e.fields.start, cancelMinute := none
          fetch := .none, generation := if err then e.generation else showGeneration (beatsBytes data) } } ∧
      t.mail.trackerResp = rest ∧ t.mail.events = s.mail.events ++ [.recordRejected] ∧
      ∀ n, n = (if e.state.visible then
            { slot := i, id := e.fields.id, old := e.state, new := .rejected, change := removedSet }
          else { slot := i, id := 0, old := e.state, new := .rejected, change := stateOnly } : ShowNote) →
        t.mail.toReel = s.mail.toReel ++ [n] ∧ t.mail.toNotices = s.mail.toNotices ++ [.note n] ∧
        (∃ order, BoardNoted s t order ∧ t.mail.toComp = s.mail.toComp ++ .note n :: order) ∧
        t.mail.toSeats = s.mail.toSeats ++
          (if e.state.visible ∧ e.fields.seatsTracked then [.release i] else []) ++ [.note n]

/-- RECORD_FETCH_DONE with a valid PUBLISH for a slot that holds no live show of that id (R13): the show takes the validated fields with delay 0, an empty title and the state its target names (R7); an old visible show's RELEASE and REMOVED note come first, then the new show's BIND where it wants seats (the RELEASE of a CANCELLED show, notes/assumptions/16.md, and that the new show's note names STATE alone whatever the slot held, notes/assumptions/59.md, are read from the spec by inference; that the REMOVED note names REMOVED alone is the model's choice, notes/assumptions/58.md), then its note and the board-order note; a title that can be read is fetched (R11). With a refetch pending, the refetch follows (R10; TitlesAndRefetchesFollow). -/
def Obligations.PublishEntersANewShow : Prop :=
  ∀ (s : State) (i : Fin 192) (no : Nat) (data : List Beat) (rest : List Response) (e : ShowEntry) (f : ShowFields)
      (st : ShowState), s.mail.trackerResp = { tag := .record i no, data := data, err := false } :: rest →
    s.tracker.entries.get i = e → e.fetch = .record → e.fetchNo = no → e.refetch = false →
    showAction (beatsBytes data) = .publish → showFields (beatsBytes data) = f →
    s.tracker.validate s.path.windows i f false = .none → ¬ (e.state.visible = true ∧ e.fields.id = f.id) →
    st = (if s.tracker.seconds / 60 + f.closeOffset < f.start then .onSale
      else if s.tracker.seconds / 60 < f.start then .closing
      else if s.tracker.seconds / 60 < f.start + s.params.grace then .started else .retired) →
    ∃ t, exec .recordFetchDone s = .next t ∧ Frame [.clock, .entries, .mail, .classQueues] s t ∧ BoardOk t ∧
      (∀ j, j ≠ i → t.tracker.entries.get j = s.tracker.entries.get j) ∧
      (∀ title, title = (0 < f.titleLen ∧ f.titleAddr.toNat + f.titleLen ≤ 2 ^ 32) →
        (¬ title → t.tracker.entries.get i = { e with
            state := st, fields := f, reason := .none, delay := 0, effStart := f.start, cancelMinute := none, title := []
            fetch := .none, generation := showGeneration (beatsBytes data) } ∧
          t.path = s.path ∧ t.tracker.fetchCount = s.tracker.fetchCount) ∧
        (title → t.tracker.entries.get i = { e with
            state := st, fields := f, reason := .none, delay := 0, effStart := f.start, cancelMinute := none, title := []
            fetch := .title, fetchNo := s.tracker.fetchCount + 1, generation := showGeneration (beatsBytes data) } ∧
          t.tracker.fetchCount = s.tracker.fetchCount + 1 ∧
          t.path = { s.path with recordQ := s.path.recordQ ++
            [{ cls := .record, write := false, addr := textBase f.titleAddr, beats := textBeats f.titleAddr f.titleLen,
               data := [], tag := .title i (s.tracker.fetchCount + 1) }] })) ∧
      t.mail.trackerResp = rest ∧ t.mail.events = s.mail.events ∧
      ∀ gone n, gone = (if e.state.visible then
            [{ slot := i, id := e.fields.id, old := e.state, new := .free, change := removedSet }] else [] : List ShowNote) →
        n = ({ slot := i, id := f.id, old := if e.state.visible then .free else e.state, new := st, change := stateOnly } :
          ShowNote) →
        t.mail.toReel = s.mail.toReel ++ gone ++ [n] ∧
        t.mail.toNotices = s.mail.toNotices ++ (gone ++ [n]).map .note ∧
        (∃ order, BoardNoted s t order ∧ t.mail.toComp = s.mail.toComp ++ (gone ++ [n]).map .note ++ order) ∧
        t.mail.toSeats = s.mail.toSeats ++
          (if e.state.visible ∧ e.fields.seatsTracked then [.release i] else []) ++ gone.map .note ++
          (if f.seatsTracked ∧ st ≠ .retired then [.bind i f.mapAddr f.seatCount f.holdback f.start] else []) ++ [.note n]

/-- RECORD_FETCH_DONE with a valid PUBLISH of the visible show the slot holds (R14): the fields are taken, delay, bound slot and seat status kept, the effective start follows, a title whose place or length changed is emptied and fetched; the show is evaluated (R8), with a CANCELLED show's cancel minute kept while it stays CANCELLED; the seat requests of R22 come before the one note, which names every aspect that differs and is absent where none does; then the board-order note; a title whose place or length changed and that can be read is fetched (R11). The RELEASE where seats tracked is cleared on a CANCELLED show (notes/assumptions/16.md), and TITLE named exactly where the stored title differs (notes/assumptions/18.md), are read from the spec by inference; that the REMAP goes before the HOLDBACK is the model's choice (notes/assumptions/56.md). With a refetch pending, the refetch follows (R10; TitlesAndRefetchesFollow). -/
def Obligations.PublishUpdatesAShow : Prop :=
  ∀ (s : State) (i : Fin 192) (no : Nat) (data : List Beat) (rest : List Response) (e e' : ShowEntry) (f : ShowFields),
    s.mail.trackerResp = { tag := .record i no, data := data, err := false } :: rest →
    s.tracker.entries.get i = e → e.fetch = .record → e.fetchNo = no → e.refetch = false →
    showAction (beatsBytes data) = .publish → showFields (beatsBytes data) = f →
    s.tracker.validate s.path.windows i f false = .none → e.state.visible = true → e.fields.id = f.id →
    ∃ t, exec .recordFetchDone s = .next t ∧ Frame [.clock, .entries, .mail, .classQueues] s t ∧ BoardOk t ∧
      (∀ j, j ≠ i → t.tracker.entries.get j = s.tracker.entries.get j) ∧
      t.mail.trackerResp = rest ∧ t.mail.events = s.mail.events ∧
      (∀ title, title = ((e.fields.titleLen ≠ f.titleLen ∨ e.fields.titleAddr ≠ f.titleAddr) ∧ 0 < f.titleLen ∧
          f.titleAddr.toNat + f.titleLen ≤ 2 ^ 32) →
        (¬ title → t.path = s.path ∧ t.tracker.fetchCount = s.tracker.fetchCount) ∧
        (title → (t.tracker.entries.get i).fetchNo = s.tracker.fetchCount + 1 ∧
          t.tracker.fetchCount = s.tracker.fetchCount + 1 ∧
          t.path = { s.path with recordQ := s.path.recordQ ++
            [{ cls := .record, write := false, addr := textBase f.titleAddr, beats := textBeats f.titleAddr f.titleLen,
               data := [], tag := .title i (s.tracker.fetchCount + 1) }] })) ∧
      (t.tracker.entries.get i = e' →
        e'.fields = f ∧ e'.delay = e.delay ∧ e'.effStart = f.start + e.delay ∧ e'.reason = .none ∧
        e'.generation = showGeneration (beatsBytes data) ∧ e'.boundSlot = e.boundSlot ∧ e'.seatStatus = e.seatStatus ∧
        e'.prior = e.prior ∧
        e'.title = (if e.fields.titleLen ≠ f.titleLen ∨ e.fields.titleAddr ≠ f.titleAddr then [] else e.title) ∧
        e'.fetch = (if (e.fields.titleLen ≠ f.titleLen ∨ e.fields.titleAddr ≠ f.titleAddr) ∧ 0 < f.titleLen ∧
          f.titleAddr.toNat + f.titleLen ≤ 2 ^ 32 then .title else .none) ∧
        (e.state = .cancelled → e'.state = (if e.cancelMinute.getD 0 + s.params.cancelDisplay ≤ s.tracker.seconds / 60
          then .retired else .cancelled)) ∧
        e'.cancelMinute = (if e'.state = .cancelled then e.cancelMinute else none) ∧
        (e.state = .started → e'.state = if f.start + e.delay + s.params.grace ≤ s.tracker.seconds / 60 then .retired
          else .started) ∧
        (e.state = .onSale ∨ e.state = .closing → e'.state =
          if s.tracker.seconds / 60 + f.closeOffset < f.start + e.delay then .onSale
          else if s.tracker.seconds / 60 < f.start + e.delay then .closing
          else if s.tracker.seconds / 60 < f.start + e.delay + s.params.grace then .started else .retired) ∧
        ∃ (reqs : List SeatMsg) (notes : List ShowNote),
          t.mail.toSeats = s.mail.toSeats ++ reqs ++ notes.map .note ∧ t.mail.toReel = s.mail.toReel ++ notes ∧
          t.mail.toNotices = s.mail.toNotices ++ notes.map .note ∧
          (∃ order, BoardNoted s t order ∧ t.mail.toComp = s.mail.toComp ++ notes.map .note ++ order) ∧
          (e'.wants = true → e.wants = true → reqs =
            (if e.fields.mapAddr ≠ f.mapAddr ∨ e.fields.seatCount ≠ f.seatCount then [.remap i f.mapAddr f.seatCount]
              else []) ++ if e.fields.holdback ≠ f.holdback then [.holdback i f.holdback] else []) ∧
          (e'.wants = true → e.wants = false → reqs = [.bind i f.mapAddr f.seatCount f.holdback (f.start + e.delay)]) ∧
          (e'.wants = false → reqs = if e.wants = true ∨ e.fields.seatsTracked = true ∧ f.seatsTracked = false then
            [.release i] else []) ∧
          ((e'.state = e.state ∧ e'.effStart = e.effStart ∧ e'.title = e.title ∧ e.fields.auditorium = f.auditorium ∧
              e.fields.seatsTracked = f.seatsTracked ∧ e.fields.hideSeats = f.hideSeats ∧ e.fields.marks = f.marks ∧
              e.fields.run = f.run ∧ e.fields.rating = f.rating ∧ e.fields.closeOffset = f.closeOffset) ↔ notes = []) ∧
          ∀ n ∈ notes, notes.length = 1 ∧ n.slot = i ∧ n.id = e'.id ∧ n.old = e.state ∧ n.new = e'.state ∧
            n.change.removed = false ∧ (n.change.state = true ↔ e'.state ≠ e.state) ∧
            (n.change.start = true ↔ e'.effStart ≠ e.effStart) ∧ (n.change.title = true ↔ e'.title ≠ e.title) ∧
            (n.change.display = true ↔ e.fields.auditorium ≠ f.auditorium ∨ e.fields.seatsTracked ≠ f.seatsTracked ∨
              e.fields.hideSeats ≠ f.hideSeats ∨ e.fields.marks ≠ f.marks ∨ e.fields.run ≠ f.run ∨
              e.fields.rating ≠ f.rating ∨ e.fields.closeOffset ≠ f.closeOffset))

/-- RECORD_FETCH_DONE with any other action (R16, R17, R18): the generation is copied whatever the action; UNLIST frees the entry with its delay, reason and title cleared; CANCEL of a selling or started show makes it CANCELLED at the clock minute with its RELEASE, and raises TOO_LATE on any other; REINSTATE evaluates a CANCELLED show as ON_SALE, with a BIND where it wants seats; a FETCHING entry that none of these moves returns to its prior state, and NONE changes nothing else; the board-order note comes last. That no note goes out when a FETCHING entry returns to its prior state (notes/assumptions/13.md), that the note of an unlisted entry that is not visible carries the id 0 (notes/assumptions/14.md), that a CANCELLED show that is unlisted sends its RELEASE (notes/assumptions/16.md), that an unlisted entry keeps its fields, with the effective start back at the start minute (notes/assumptions/17.md), and that the note of an unlisted entry that is not visible goes out and names STATE alone, one RETIRED while its record was read included (notes/assumptions/59.md), are read from the spec by inference; that a REMOVED note names REMOVED alone is the model's choice (notes/assumptions/58.md). With a refetch pending, the refetch follows (R10; TitlesAndRefetchesFollow). -/
def Obligations.OtherActionsActOnTheEntry : Prop :=
  ∀ (s : State) (i : Fin 192) (no : Nat) (data : List Beat) (rest : List Response) (e e' : ShowEntry)
      (reqs : List SeatMsg) (notes : List ShowNote) (evs : List EventKind) (st : ShowState),
    s.mail.trackerResp = { tag := .record i no, data := data, err := false } :: rest →
    { s.tracker.entries.get i with fetch := .none, generation := showGeneration (beatsBytes data) } = e →
    (s.tracker.entries.get i).fetch = .record → (s.tracker.entries.get i).fetchNo = no →
    (s.tracker.entries.get i).refetch = false →
    st = (if s.tracker.seconds / 60 + e.fields.closeOffset < e.effStart then .onSale
      else if s.tracker.seconds / 60 < e.effStart then .closing
      else if s.tracker.seconds / 60 < e.effStart + s.params.grace then .started else .retired) →
    (showAction (beatsBytes data) = .unlist ∧
        e' = { e with state := .free, reason := .none, title := [], delay := 0, effStart := e.fields.start,
                      cancelMinute := none } ∧ evs = [] ∧
        (if e.state.visible then
          reqs = (if e.fields.seatsTracked then [.release i] else []) ∧
            notes = [{ slot := i, id := e.fields.id, old := e.state, new := .free, change := removedSet }]
        else reqs = [] ∧ notes = [{ slot := i, id := 0, old := e.state, new := .free, change := stateOnly }]) ∨
      showAction (beatsBytes data) = .cancel ∧ e.state.selling = true ∧
        e' = { e with state := .cancelled, cancelMinute := some (s.tracker.seconds / 60) } ∧ evs = [] ∧
        reqs = (if e.fields.seatsTracked then [.release i] else []) ∧
        notes = [{ slot := i, id := e.fields.id, old := e.state, new := .cancelled, change := stateOnly }] ∨
      showAction (beatsBytes data) = .cancel ∧ e.state.selling = false ∧ evs = [.tooLate] ∧ reqs = [] ∧ notes = [] ∧
        e' = (if e.state = .fetching then { e with state := e.prior } else e) ∨
      showAction (beatsBytes data) = .reinstate ∧ e.state = .cancelled ∧
        e' = { e with state := st, cancelMinute := none } ∧ evs = [] ∧
        reqs = (if e.fields.seatsTracked = true ∧ st ≠ .retired then
          [.bind i e.fields.mapAddr e.fields.seatCount e.fields.holdback e.effStart] else []) ∧
        notes = [{ slot := i, id := e.fields.id, old := .cancelled, new := st, change := stateOnly }] ∨
      (showAction (beatsBytes data) = .reinstate ∧ e.state ≠ .cancelled ∨ showAction (beatsBytes data) = .none) ∧
        evs = [] ∧ reqs = [] ∧ notes = [] ∧ e' = (if e.state = .fetching then { e with state := e.prior } else e)) →
    ∃ t, exec .recordFetchDone s = .next t ∧ Frame [.clock, .entries, .mail] s t ∧ BoardOk t ∧
      t.tracker = { s.tracker with board := t.tracker.board, entries := s.tracker.entries.set i e' } ∧
      t.mail.trackerResp = rest ∧ t.mail.events = s.mail.events ++ evs ∧
      t.mail.toSeats = s.mail.toSeats ++ reqs ++ notes.map .note ∧ t.mail.toReel = s.mail.toReel ++ notes ∧
      t.mail.toNotices = s.mail.toNotices ++ notes.map .note ∧
      ∃ order, BoardNoted s t order ∧ t.mail.toComp = s.mail.toComp ++ notes.map .note ++ order

/-- TITLE_FETCH_DONE (R11), the refetch that follows a record or a title (R10), and responses of fetches abandoned by a DAY_OPEN (R3): a title is stored with a TITLE note to each of the four recipients, or left empty on a memory error, with none; a pending refetch then reads the record again, entering FETCHING from FREE, REJECTED or RETIRED, but only clears its flag while the SHOW window is disabled. After a record response, whatever its action and whether or not it carried a memory error, the entry stands as without the flag, and the flag waits behind a title fetch where the record called for one, else acts likewise. A response whose fetch is no longer the one in flight is discarded. That no note goes out on entering FETCHING is read from the spec's list of notes (notes/assumptions/13.md). A note of an event that re-enters FETCHING carries the state and id from before that, the model's choice (notes/assumptions/53.md). -/
def Obligations.TitlesAndRefetchesFollow : Prop :=
  (∀ (s : State) (i : Fin 192) (no : Nat) (data : List Beat) (err : Bool) (rest : List Response) (e e1 : ShowEntry),
    s.mail.trackerResp = { tag := .title i no, data := data, err := err } :: rest → s.tracker.entries.get i = e →
    e.fetch = .title → e.fetchNo = no →
    e1 = { e with
      fetch := .none, refetch := false
      title := if err then e.title else textOf e.fields.titleAddr e.fields.titleLen (beatsBytes data) } →
    ∃ t, exec .titleFetchDone s = .next t ∧ Frame [.clock, .entries, .mail, .classQueues] s t ∧
      t.tracker.board = s.tracker.board ∧ (∀ j, j ≠ i → t.tracker.entries.get j = s.tracker.entries.get j) ∧
      (∀ notes : List ShowNote, notes = (if err then [] else
          [{ slot := i, id := e.id, old := e.state, new := e.state,
             change := { state := false, start := false, title := true, display := false, removed := false } }]) →
        t.mail = { s.mail with
          trackerResp := rest
          toSeats := s.mail.toSeats ++ notes.map .note
          toNotices := s.mail.toNotices ++ notes.map .note
          toReel := s.mail.toReel ++ notes
          toComp := s.mail.toComp ++ notes.map .note }) ∧
      (e.refetch = false ∨ s.path.windows.showBase = 0 → t.tracker.entries.get i = e1 ∧ t.path = s.path) ∧
      (e.refetch = true → s.path.windows.showBase ≠ 0 →
        t.tracker.entries.get i =
          { (if e.state = .free ∨ e.state = .rejected ∨ e.state = .retired then
              { e1 with prior := e.state, state := .fetching } else e1) with
            fetch := .record, fetchNo := s.tracker.fetchCount + 1 } ∧
        t.path = { s.path with recordQ := s.path.recordQ ++
          [{ cls := .record, write := false, addr := s.path.windows.showBase + BitVec.ofNat 32 (64 * i.val), beats := 8,
             data := [], tag := .record i (s.tracker.fetchCount + 1) }] })) ∧
  (∀ (s : State) (i : Fin 192) (no : Nat) (data : List Beat) (err : Bool) (rest : List Response) (e e1 : ShowEntry) (u : State),
    s.mail.trackerResp = { tag := .record i no, data := data, err := err } :: rest → s.tracker.entries.get i = e →
    e.fetch = .record → e.fetchNo = no → e.refetch = true →
    exec .recordFetchDone (s.withTracker
      { s.tracker with entries := s.tracker.entries.set i { e with refetch := false } }) = .next u →
    u.tracker.entries.get i = e1 →
    ∃ t, exec .recordFetchDone s = .next t ∧
      (e1.fetch = .title → Alike t (u.withTracker
        { u.tracker with entries := u.tracker.entries.set i { e1 with refetch := true } })) ∧
      (e1.fetch ≠ .title → s.path.windows.showBase = 0 → Alike t u) ∧
      (e1.fetch ≠ .title → s.path.windows.showBase ≠ 0 → Alike t
        ((u.withTracker { u.tracker with
            fetchCount := u.tracker.fetchCount + 1
            entries := u.tracker.entries.set i
              { (if e1.state = .free ∨ e1.state = .rejected ∨ e1.state = .retired then
                  { e1 with prior := e1.state, state := .fetching } else e1) with
                fetch := .record, fetchNo := u.tracker.fetchCount + 1 } }).withPath
          { u.path with recordQ := u.path.recordQ ++
            [{ cls := .record, write := false, addr := s.path.windows.showBase + BitVec.ofNat 32 (64 * i.val), beats := 8,
               data := [], tag := .record i (u.tracker.fetchCount + 1) }] }))) ∧
  ∀ (s : State) (i : Fin 192) (no : Nat) (data : List Beat) (err : Bool) (rest : List Response),
    (s.mail.trackerResp = { tag := .record i no, data := data, err := err } :: rest →
      (s.tracker.entries.get i).fetch ≠ .record ∨ (s.tracker.entries.get i).fetchNo ≠ no →
      exec .recordFetchDone s = .next (commit s (s.withMail { s.mail with trackerResp := rest }))) ∧
    (s.mail.trackerResp = { tag := .title i no, data := data, err := err } :: rest →
      (s.tracker.entries.get i).fetch ≠ .title ∨ (s.tracker.entries.get i).fetchNo ≠ no →
      exec .titleFetchDone s = .next (commit s (s.withMail { s.mail with trackerResp := rest })))

/-- The effects of desk notices (R19, R20, R21), each answered first: no visible show of the id gives NO_SHOW; on ON_SALE and CLOSING a DELAY adds minutes up to 240 and an UNDELAY takes them off down to 0, answering the minutes changed, with the effective start recomputed and the show evaluated; a DELAY on another visible show and a CANCEL on a CANCELLED one give TOO_LATE with the event, an UNDELAY on another NOT_APPLIED; a CANCEL makes a selling or started show CANCELLED. The seat requests, the note and the board-order note of the move follow the answer; that a CANCEL's DONE goes before its note is the model's choice (notes/assumptions/40.md). -/
def Obligations.DeskEffectsAreAnswered : Prop :=
  ∀ (s : State) (rest : List Effect) (id m : Nat),
    (s.mail.effects = .delay id m :: rest ∨ s.mail.effects = .undelay id m :: rest ∨ s.mail.effects = .cancel id :: rest →
      (∀ j, (s.tracker.entries.get j).state.visible = true → (s.tracker.entries.get j).fields.id ≠ id) →
      ∀ c, c = (if s.mail.effects = .delay id m :: rest then Instr.delayEffect
        else if s.mail.effects = .undelay id m :: rest then .undelayEffect else .cancelEffect) →
      exec c s = .next (commit s (s.withMail
        { s.mail with effects := rest, toNotices := s.mail.toNotices ++ [.answer .noShow] }))) ∧
    ∀ i e, s.tracker.findShow id = some i → s.tracker.entries.get i = e →
      (s.mail.effects = .delay id m :: rest → e.state.sellingNow = false →
        exec .delayEffect s = .next (commit s (s.withMail
          { s.mail with effects := rest, events := s.mail.events ++ [.tooLate],
                        toNotices := s.mail.toNotices ++ [.answer .tooLate] }))) ∧
      (s.mail.effects = .undelay id m :: rest → e.state.sellingNow = false →
        exec .undelayEffect s = .next (commit s (s.withMail
          { s.mail with effects := rest, toNotices := s.mail.toNotices ++ [.answer .notApplied] }))) ∧
      (s.mail.effects = .cancel id :: rest → e.state = .cancelled →
        exec .cancelEffect s = .next (commit s (s.withMail
          { s.mail with effects := rest, events := s.mail.events ++ [.tooLate],
                        toNotices := s.mail.toNotices ++ [.answer .tooLate] }))) ∧
      (s.mail.effects = .delay id m :: rest → e.state.sellingNow = true → min 240 (e.delay + m) = e.delay →
        exec .delayEffect s = .next (commit s (s.withMail
          { s.mail with effects := rest, toNotices := s.mail.toNotices ++ [.answer (.done 0)] }))) ∧
      (∀ c d k, e.state.sellingNow = true →
        (c = .delayEffect ∧ s.mail.effects = .delay id m :: rest ∧ d = min 240 (e.delay + m) ∧ d ≠ e.delay ∧
            k = d - e.delay ∨
          c = .undelayEffect ∧ s.mail.effects = .undelay id m :: rest ∧ d = e.delay - m ∧ k = e.delay - d) →
        ∃ t st, exec c s = .next t ∧ Frame [.clock, .entries, .mail] s t ∧ BoardOk t ∧
          st = (if s.tracker.seconds / 60 + e.fields.closeOffset < e.fields.start + d then .onSale
            else if s.tracker.seconds / 60 < e.fields.start + d then .closing
            else if s.tracker.seconds / 60 < e.fields.start + d + s.params.grace then .started else .retired) ∧
          t.tracker = { s.tracker with
            board := t.tracker.board
            entries := s.tracker.entries.set i
              { e with delay := d, effStart := e.fields.start + d, state := st, cancelMinute := none } } ∧
          t.mail.effects = rest ∧ t.mail.events = s.mail.events ∧
          ∀ notes, notes = (if st = e.state ∧ e.fields.start + d = e.effStart then [] else
              [{ slot := i, id := e.fields.id, old := e.state, new := st,
                 change := { state := decide (e.state ≠ st), start := decide (e.effStart ≠ e.fields.start + d),
                             title := false, display := false, removed := false } }] : List ShowNote) →
            t.mail.toNotices = s.mail.toNotices ++ .answer (.done k) :: notes.map .note ∧
            t.mail.toReel = s.mail.toReel ++ notes ∧
            (∃ order, BoardNoted s t order ∧ t.mail.toComp = s.mail.toComp ++ notes.map .note ++ order) ∧
            t.mail.toSeats = s.mail.toSeats ++
              (if st = .retired ∧ e.fields.seatsTracked = true then [.release i] else []) ++ notes.map .note) ∧
      (s.mail.effects = .cancel id :: rest → e.state.selling = true →
        ∃ t, exec .cancelEffect s = .next t ∧ Frame [.clock, .entries, .mail] s t ∧ BoardOk t ∧
          t.tracker = { s.tracker with
            board := t.tracker.board
            entries := s.tracker.entries.set i
              { e with state := .cancelled, cancelMinute := some (s.tracker.seconds / 60) } } ∧
          t.mail.effects = rest ∧ t.mail.events = s.mail.events ∧
          ∀ n, n = ({ slot := i, id := e.fields.id, old := e.state, new := .cancelled, change := stateOnly } : ShowNote) →
            t.mail.toNotices = s.mail.toNotices ++ [.answer (.done 0), .note n] ∧ t.mail.toReel = s.mail.toReel ++ [n] ∧
            (∃ order, BoardNoted s t order ∧ t.mail.toComp = s.mail.toComp ++ .note n :: order) ∧
            t.mail.toSeats = s.mail.toSeats ++ (if e.fields.seatsTracked then [.release i] else []) ++ [.note n])

/-! ### Seats -/

/-- BIND (R30, R35): a show that is neither bound nor waiting takes the lowest UNBOUND slot, whose sweep starts from the beginning with the binding number advanced and the slot's reissues removed, or joins the wait list at its place by effective start and slot with SLOTS_EXHAUSTED (R34); a show already bound has its slot's sweep restarted with the new map and holdback as by a REMAP, which writes the seat status alone (R33), with a seats-changed note to the Composition Unit and the Notice Unit where it showed a figure (R51), and one already waiting has its place's values changed. Each note carries the id that the entry holds (notes/assumptions/42.md). That the seat fields are written whatever the entry then holds is read from the spec by inference (notes/assumptions/37.md). -/
def Obligations.BindTakesASlotOrWaits : Prop :=
  ∀ (s : State) (sh : Fin 192) (map : Addr) (n k eff : Nat) (rest : List SeatMsg),
    s.mail.toSeats = .bind sh map n k eff :: rest →
    ((∀ j, (s.seats.slots.get j).bound ≠ some sh) → (∀ w ∈ s.seats.waiting, w.show_ ≠ sh) →
      (∀ i sl, s.seats.slots.get i = sl → sl.state = .unbound → (∀ j < i, (s.seats.slots.get j).state ≠ .unbound) →
        exec .bind s = .next (commit s
          (((s.withMail { s.mail with toSeats := rest }).withSeats { s.seats with
              slots := s.seats.slots.set i
                { state := .sweeping, bound := some sh, binding := sl.binding + 1, map := map, count := n,
                  beats := (n + 31) / 32, holdback := k,
                  shadow := sl.shadow.map fun b => { b with reading := false, reread := false },
                  issue := 0, fill := 0, tallies := { free := 0, held := 0, sold := 0, off := 0 }, retries := 0,
                  figure := { band := .none, shown := 0, plus := false }, short := false }
              reissues := s.seats.reissues.filter fun r => decide (r.slot ≠ i) }).withTracker
            { s.tracker with entries := s.tracker.entries.modify sh fun e =>
              { e with seatStatus := .sweeping, boundSlot := some i } }))) ∧
      ((∀ j, (s.seats.slots.get j).state ≠ .unbound) →
        ∃ t, exec .bind s = .next t ∧ Frame [.seats, .mail, .seatFields] s t ∧
          t.mail = { s.mail with toSeats := rest, events := s.mail.events ++ [.slotsExhausted] } ∧
          t.tracker.entries = s.tracker.entries.modify sh (fun e => { e with seatStatus := .waiting, boundSlot := none }) ∧
          t.seats = { s.seats with waiting := t.seats.waiting } ∧
          t.seats.waiting.Perm ({ show_ := sh, effStart := eff, map := map, count := n, holdback := k } :: s.seats.waiting) ∧
          ((s.seats.waiting.Pairwise fun a b => waitBefore a b = true) →
            t.seats.waiting.Pairwise fun a b => waitBefore a b = true))) ∧
    (∀ i sl, s.seats.slots.get i = sl → sl.state ≠ .unbound → sl.bound = some sh →
      (∀ j < i, (s.seats.slots.get j).bound ≠ some sh) →
      ∃ t, exec .bind s = .next t ∧ Frame [.seats, .mail, .seatFields] s t ∧
        t.seats = { s.seats with
          slots := s.seats.slots.set i
            ({ sl with map := map, count := n, beats := (n + 31) / 32, holdback := k } : SeatSlot).startSweep
          reissues := s.seats.reissues.filter fun r => decide (r.slot ≠ i) } ∧
        t.tracker.entries = s.tracker.entries.modify sh (fun e => { e with seatStatus := .sweeping }) ∧
        t.mail = ({ s.mail with toSeats := rest } : Mail).noted (seatsNotes s (some sh) sl.figure Figure.none .sweeping) []) ∧
    ((∀ j, (s.seats.slots.get j).bound ≠ some sh) → (∃ w ∈ s.seats.waiting, w.show_ = sh) →
      exec .bind s = .next (commit s
        ((s.withMail { s.mail with toSeats := rest }).withSeats { s.seats with
          waiting := s.seats.waiting.map fun w =>
            if w.show_ = sh then { w with map := map, count := n, holdback := k } else w })))

/-- RELEASE (R31, R32): the bound slot returns to UNBOUND with its binding number advanced, NONE is written, a note goes to the Composition Unit and the Notice Unit if it showed a figure (R51), and the first waiting show takes the lowest UNBOUND slot; a waiting show leaves the list; any other show is not changed. Each note carries the id that the entry holds (notes/assumptions/42.md). That the seat fields are written whatever the entry then holds is read from the spec by inference (notes/assumptions/37.md). -/
def Obligations.ReleaseFreesTheSlot : Prop :=
  ∀ (s : State) (sh : Fin 192) (rest : List SeatMsg), s.mail.toSeats = .release sh :: rest →
    (∀ i sl, s.seats.slots.get i = sl → sl.state ≠ .unbound → sl.bound = some sh →
      (∀ j < i, (s.seats.slots.get j).bound ≠ some sh) →
      ∃ t, exec .release s = .next t ∧ Frame [.seats, .mail, .seatFields] s t ∧
        t.mail = ({ s.mail with toSeats := rest } : Mail).noted (seatsNotes s (some sh) sl.figure Figure.none .none) [] ∧
        (s.seats.waiting = [] →
          t.seats = { s.seats with
            slots := s.seats.slots.set i { SeatSlot.reset with binding := sl.binding + 1 }
            reissues := s.seats.reissues.filter fun r => decide (r.slot ≠ i) } ∧
          t.tracker.entries = s.tracker.entries.modify sh (fun e => { e with seatStatus := .none, boundSlot := none })) ∧
        ∀ w ws, s.seats.waiting = w :: ws → ∃ j ≤ i, (∀ k < j, (s.seats.slots.get k).state ≠ .unbound) ∧
          (j = i ∨ (s.seats.slots.get j).state = .unbound) ∧ t.seats.waiting = ws ∧
          (t.seats.slots.get j).state = .sweeping ∧ (t.seats.slots.get j).bound = some w.show_ ∧
          (t.seats.slots.get j).map = w.map ∧ (t.seats.slots.get j).count = w.count ∧
          (t.seats.slots.get j).holdback = w.holdback ∧ (t.seats.slots.get j).fill = 0 ∧ (t.seats.slots.get j).issue = 0 ∧
          (j ≠ i → t.seats.slots.get i = { SeatSlot.reset with binding := sl.binding + 1 }) ∧
          (∀ k, k ≠ i → k ≠ j → t.seats.slots.get k = s.seats.slots.get k) ∧
          (t.tracker.entries.get w.show_).seatStatus = .sweeping ∧ (t.tracker.entries.get w.show_).boundSlot = some j ∧
          (w.show_ ≠ sh → (t.tracker.entries.get sh).seatStatus = .none ∧ (t.tracker.entries.get sh).boundSlot = none)) ∧
    ((∀ j, (s.seats.slots.get j).bound ≠ some sh) → (∃ w ∈ s.seats.waiting, w.show_ = sh) →
      exec .release s = .next (commit s
        (((s.withMail { s.mail with toSeats := rest }).withSeats
            { s.seats with waiting := s.seats.waiting.filter fun w => decide (w.show_ ≠ sh) }).withTracker
          { s.tracker with entries := s.tracker.entries.modify sh fun e =>
            { e with seatStatus := .none, boundSlot := none } }))) ∧
    ((∀ j, (s.seats.slots.get j).bound ≠ some sh) → (∀ w ∈ s.seats.waiting, w.show_ ≠ sh) →
      exec .release s = .next (commit s (s.withMail { s.mail with toSeats := rest })))

/-- REMAP, HOLDBACK and the notes of R34: a REMAP restarts a bound slot's sweep on the new map and writes its show's seat status alone (R33), with a seats-changed note to the Composition Unit and the Notice Unit where it showed a figure (R51), changes a waiting show's map in place, and binds a show that is neither, or puts it on the wait list, with the holdback its entry holds and the effective start it then holds (the latter is the model's choice, notes/assumptions/60.md); a HOLDBACK is stored, with the availability of a COUNTING slot computed from its band, a seats-changed note where its figure moved and SOLD_OUT_REACHED on a new SOLD_OUT (R51; the note carries the id that the entry holds, notes/assumptions/42.md); a note with START moves a waiting show to the place of its new effective start, and any other note changes nothing. That the seat fields are written whatever the entry then holds is read from the spec by inference (notes/assumptions/37.md). -/
def Obligations.RequestsReachABoundShow : Prop :=
  ∀ (s : State) (sh : Fin 192) (map : Addr) (n k : Nat) (rest : List SeatMsg),
    (s.mail.toSeats = .remap sh map n :: rest →
      (∀ i sl, s.seats.slots.get i = sl → sl.state ≠ .unbound → sl.bound = some sh →
        (∀ j < i, (s.seats.slots.get j).bound ≠ some sh) →
        ∃ t, exec .remap s = .next t ∧ Frame [.seats, .mail, .seatFields] s t ∧
          t.seats = { s.seats with
            slots := s.seats.slots.set i ({ sl with map := map, count := n, beats := (n + 31) / 32 } : SeatSlot).startSweep
            reissues := s.seats.reissues.filter fun r => decide (r.slot ≠ i) } ∧
          t.tracker.entries =
            s.tracker.entries.modify sh (fun e => { e with seatStatus := .sweeping }) ∧
          t.mail = ({ s.mail with toSeats := rest } : Mail).noted
            (seatsNotes s (some sh) sl.figure Figure.none .sweeping) []) ∧
      ((∀ j, (s.seats.slots.get j).bound ≠ some sh) → (∃ w ∈ s.seats.waiting, w.show_ = sh) →
        exec .remap s = .next (commit s
          ((s.withMail { s.mail with toSeats := rest }).withSeats { s.seats with
            waiting := s.seats.waiting.map fun w => if w.show_ = sh then { w with map := map, count := n } else w }))) ∧
      ((∀ j, (s.seats.slots.get j).bound ≠ some sh) → (∀ w ∈ s.seats.waiting, w.show_ ≠ sh) →
        ∀ e, s.tracker.entries.get sh = e → ∃ t u, exec .remap s = .next t ∧
          exec .bind (s.withMail { s.mail with toSeats := .bind sh map n e.fields.holdback e.effStart :: rest }) = .next u ∧
          { t with events := s.events } = { u with events := s.events })) ∧
    (s.mail.toSeats = .holdback sh k :: rest →
      (∀ i sl, s.seats.slots.get i = sl → sl.state ≠ .unbound → sl.bound = some sh →
        (∀ j < i, (s.seats.slots.get j).bound ≠ some sh) →
        ∃ t, exec .holdback s = .next t ∧ Frame [.seats, .mail] s t ∧ t.mail.toSeats = rest ∧
          (∀ j, j ≠ i → t.seats.slots.get j = s.seats.slots.get j) ∧ t.seats.waiting = s.seats.waiting ∧
          t.seats.reissues = s.seats.reissues ∧
          (sl.state = .sweeping → t.seats.slots.get i = { sl with holdback := k } ∧
            t.mail = { s.mail with toSeats := rest } ∧ t.seats.shortCount = s.seats.shortCount) ∧
          (sl.state = .counting → t.seats.slots.get i = { sl with
              holdback := k
              figure := s.params.availability sl.tallies sl.count k sl.figure.band
              short := decide ((if s.params.heldTaken then sl.tallies.free else sl.tallies.free + sl.tallies.held) < k) } ∧
            t.seats.shortCount = (if (t.seats.slots.get i).short = true ∧ sl.short = false then
              min (s.seats.shortCount + 1) 65535 else s.seats.shortCount) ∧
            t.mail = ({ s.mail with toSeats := rest } : Mail).noted
              (seatsNotes s (some sh) sl.figure (t.seats.slots.get i).figure .counting)
              (soldOutEvents (some sh) sl.figure (t.seats.slots.get i).figure))) ∧
      ((∀ j, (s.seats.slots.get j).bound ≠ some sh) →
        exec .holdback s = .next (commit s
          ((s.withMail { s.mail with toSeats := rest }).withSeats { s.seats with
            waiting := s.seats.waiting.map fun w => if w.show_ = sh then { w with holdback := k } else w })))) ∧
    ∀ note, s.mail.toSeats = .note note :: rest →
      (note.change.start = false ∨ (∀ w ∈ s.seats.waiting, w.show_ ≠ note.slot) →
        exec .seatShowChangedNote s = .next (commit s (s.withMail { s.mail with toSeats := rest }))) ∧
      ∀ a w b, note.change.start = true → s.seats.waiting = a ++ w :: b → w.show_ = note.slot →
        (∀ x ∈ a ++ b, x.show_ ≠ note.slot) → (s.seats.waiting.Pairwise fun x y => waitBefore x y = true) →
        ∃ t, exec .seatShowChangedNote s = .next t ∧ Frame [.seats, .mail] s t ∧
          t.mail = { s.mail with toSeats := rest } ∧ t.seats = { s.seats with waiting := t.seats.waiting } ∧
          t.seats.waiting.Perm ({ w with effStart := (s.tracker.entries.get note.slot).effStart } :: (a ++ b)) ∧
          t.seats.waiting.Pairwise fun x y => waitBefore x y = true

/-- SWEEP_READ_ISSUE (R36): with four reads in flight, or nothing to read, nothing is issued; else the oldest pending reissue goes first, and after those the first SWEEPING slot after the burst pointer, wrapping, with beats left gets a burst of up to 8 beats from its issue cursor, which marks them in flight and moves the cursor and the pointer. Reads carry the slot's binding number. -/
def Obligations.SweepReadsTakeTurns : Prop :=
  ∀ s : State,
    (4 ≤ s.seats.inFlight → exec .sweepReadIssue s = .next s) ∧
    (∀ r rest sl, s.seats.inFlight < 4 → s.seats.reissues = r :: rest → s.seats.slots.get r.slot = sl →
      exec .sweepReadIssue s = .next (commit s
        ((s.withSeats { s.seats with reissues := rest, inFlight := s.seats.inFlight + 1 }).withPath
          { s.path with sweepQ := s.path.sweepQ ++
            [{ cls := .sweep, write := false, addr := sl.map + BitVec.ofNat 32 (8 * r.first), beats := r.count, data := [],
               tag := .sweep r.slot sl.binding r.first r.count }] }))) ∧
    (s.seats.reissues = [] →
      (∀ i, (s.seats.slots.get i).state = .sweeping → (s.seats.slots.get i).beats ≤ (s.seats.slots.get i).issue) →
      exec .sweepReadIssue s = .next s) ∧
    ∀ d i sl, s.seats.inFlight < 4 → s.seats.reissues = [] → d < 64 → i.val = (s.seats.burst.val + 1 + d) % 64 →
      s.seats.slots.get i = sl → sl.state = .sweeping → sl.issue < sl.beats → sl.beats ≤ 20 →
      (∀ d' < d, ∀ j : Fin 64, j.val = (s.seats.burst.val + 1 + d') % 64 →
        ¬ ((s.seats.slots.get j).state = .sweeping ∧ (s.seats.slots.get j).issue < (s.seats.slots.get j).beats)) →
      ∃ t sl', exec .sweepReadIssue s = .next t ∧ Frame [.seats, .classQueues] s t ∧
        t.path = { s.path with sweepQ := s.path.sweepQ ++
          [{ cls := .sweep, write := false, addr := sl.map + BitVec.ofNat 32 (8 * sl.issue),
             beats := min 8 (sl.beats - sl.issue), data := [],
             tag := .sweep i sl.binding sl.issue (min 8 (sl.beats - sl.issue)) }] } ∧
        t.seats = { s.seats with slots := s.seats.slots.set i sl', burst := i, inFlight := s.seats.inFlight + 1 } ∧
        sl' = { sl with issue := sl.issue + min 8 (sl.beats - sl.issue), shadow := sl'.shadow } ∧
        ∀ k < 20, sl'.beat k = if sl.issue ≤ k ∧ k < sl'.issue then { sl.beat k with reading := true } else sl.beat k

/-- SWEEP_READ_DONE (R37 to R40): a response with another binding number changes nothing but the number of reads in flight; a memory error adds a retry and reads the same beats again, or at the third gives the sweep up, which frees the slot and offers it as a RELEASE would; data are stored beat by beat but where a write came meanwhile, whose beat is read again; the fill cursor then counts every held beat in order up to the first still in flight, and a full count puts the slot in COUNTING with its availability from no previous band, its show's seat status written alone (R38), a seats-changed note and SOLD_OUT_REACHED where the show is sold out (R51). Each note carries the id that the entry holds (notes/assumptions/42.md). That the seat status is written whatever the entry then holds is read from the spec by inference (notes/assumptions/37.md). -/
def Obligations.SweepResponsesFillTheShadow : Prop :=
  ∀ (s : State) (i : Fin 64) (b : BitVec 8) (first count : Nat) (data : List Beat) (err : Bool) (rest : List Response)
      (sl : SeatSlot), s.mail.seatResp = { tag := .sweep i b first count, data := data, err := err } :: rest →
    s.seats.slots.get i = sl →
    (sl.binding ≠ b → exec .sweepReadDone s = .next (commit s
      ((s.withMail { s.mail with seatResp := rest }).withSeats { s.seats with inFlight := s.seats.inFlight - 1 }))) ∧
    (sl.binding = b → err = true → sl.retries < 2 → first + count ≤ 20 →
      ∃ t sl', exec .sweepReadDone s = .next t ∧ Frame [.seats, .mail] s t ∧
        t.mail = { s.mail with seatResp := rest } ∧
        t.seats = { s.seats with
          slots := s.seats.slots.set i sl', inFlight := s.seats.inFlight - 1
          reissues := s.seats.reissues ++ [{ slot := i, first := first, count := count }] } ∧
        sl' = { sl with retries := sl.retries + 1, shadow := sl'.shadow } ∧
        ∀ k < 20, sl'.beat k = if first ≤ k ∧ k < first + count then { sl.beat k with reread := false } else sl.beat k) ∧
    (sl.binding = b → err = true → 2 ≤ sl.retries → s.seats.waiting = [] →
      ∃ t, exec .sweepReadDone s = .next t ∧ Frame [.seats, .mail, .seatFields] s t ∧
        t.mail = ({ s.mail with seatResp := rest } : Mail).noted (seatsNotes s sl.bound sl.figure Figure.none .none) [] ∧
        t.seats = { s.seats with
          slots := s.seats.slots.set i { SeatSlot.reset with binding := sl.binding + 1 }
          inFlight := s.seats.inFlight - 1
          reissues := s.seats.reissues.filter fun r => decide (r.slot ≠ i) } ∧
        ∀ sh, sl.bound = some sh → t.tracker.entries =
          s.tracker.entries.modify sh fun e => { e with seatStatus := .none, boundSlot := none }) ∧
    (∀ sh u, sl.binding = b → err = true → 2 ≤ sl.retries → sl.state ≠ .unbound → sl.bound = some sh →
      (∀ j < i, (s.seats.slots.get j).bound ≠ some sh) →
      exec .release ((s.withMail { s.mail with seatResp := rest, toSeats := .release sh :: s.mail.toSeats }).withSeats
        { s.seats with inFlight := s.seats.inFlight - 1 }) = .next u →
      ∃ t, exec .sweepReadDone s = .next t ∧ Alike t u) ∧
    (sl.binding = b → err = false → sl.state = .sweeping → first + data.length ≤ 20 → sl.fill ≤ sl.issue →
      sl.issue ≤ sl.beats → sl.beats ≤ 20 →
      ∃ t sl', exec .sweepReadDone s = .next t ∧ Frame [.seats, .mail, .seatFields] s t ∧ t.mail.seatResp = rest ∧
        t.seats.slots = s.seats.slots.set i sl' ∧ t.seats.inFlight = s.seats.inFlight - 1 ∧
        t.seats.waiting = s.seats.waiting ∧ t.seats.burst = s.seats.burst ∧
        t.seats.reissues = s.seats.reissues ++ (List.range data.length).filterMap (fun j =>
          if (sl.beat (first + j)).reread then some { slot := i, first := first + j, count := 1 } else none) ∧
        (∀ k < 20, sl'.beat k =
          if first ≤ k ∧ k < first + data.length then
            if (sl.beat k).reread then { sl.beat k with reread := false }
            else { sl.beat k with data := data.getD (k - first) 0, reading := false }
          else sl.beat k) ∧
        sl.fill ≤ sl'.fill ∧ sl'.fill ≤ sl.issue ∧ (∀ k, sl.fill ≤ k → k < sl'.fill → (sl'.beat k).reading = false) ∧
        (sl'.fill = sl.issue ∨ (sl'.beat sl'.fill).reading = true) ∧
        sl'.tallies = (List.range (sl'.fill - sl.fill)).foldl
          (fun x j => x.countBeat sl.count (sl.fill + j) (sl'.beat (sl.fill + j)).data) sl.tallies ∧
        (sl'.fill < sl.beats → sl' = { sl with fill := sl'.fill, tallies := sl'.tallies, shadow := sl'.shadow } ∧
          t.mail = { s.mail with seatResp := rest } ∧ t.tracker = s.tracker) ∧
        (sl'.fill = sl.beats → sl' = { sl with
            state := .counting, fill := sl'.fill, tallies := sl'.tallies, shadow := sl'.shadow
            figure := s.params.availability sl'.tallies sl.count sl.holdback .none
            short := decide ((if s.params.heldTaken then sl'.tallies.free else sl'.tallies.free + sl'.tallies.held) <
              sl.holdback) } ∧
          t.seats.shortCount = (if sl'.short = true ∧ sl.short = false then min (s.seats.shortCount + 1) 65535
            else s.seats.shortCount) ∧
          t.mail = ({ s.mail with seatResp := rest } : Mail).noted (seatsNotes s sl.bound sl.figure sl'.figure .counting)
            (soldOutEvents sl.bound sl.figure sl'.figure) ∧
          ∀ sh, sl.bound = some sh → t.tracker.entries =
            s.tracker.entries.modify sh fun e => { e with seatStatus := .counting }))

/-- SEAT_BEAT (R41 to R44): a beat outside every map is dropped; below the fill cursor its enabled bytes enter the shadow and the tallies still count the shadow's seats, with the availability of a COUNTING slot computed only where a tally changed, and then a seats-changed note where its figure moved and SOLD_OUT_REACHED on a new SOLD_OUT (R51; the note carries the id that the entry holds, notes/assumptions/42.md); from the fill cursor up to the issue cursor a beat in flight is marked to be read again and a held one takes the bytes; from the issue cursor on it is dropped. -/
def Obligations.WriteBeatsKeepTheTalliesTrue : Prop :=
  ∀ (s : State) (b : IntakeBeat) (rest : List IntakeBeat), s.intakes.seat = b :: rest →
    ((∀ i sl, s.seats.slots.get i = sl → sl.state ≠ .unbound →
        ¬ (sl.map.toNat ≤ b.addr.toNat ∧ b.addr.toNat < sl.map.toNat + 8 * sl.beats)) →
      exec .seatBeat s = .next (commit s (s.withIntakes { s.intakes with seat := rest }))) ∧
    ∀ i sl k, s.seats.slotAt b.addr = some i → s.seats.slots.get i = sl → sl.fill ≤ sl.issue → sl.issue ≤ sl.beats →
      sl.beats ≤ 20 → k = (b.addr.toNat - sl.map.toNat) / 8 →
      ∃ t sl', exec .seatBeat s = .next t ∧ Frame [.intakes, .seats, .mail] s t ∧
        t.intakes = { s.intakes with seat := rest } ∧ t.seats.slots = s.seats.slots.set i sl' ∧
        t.seats.waiting = s.seats.waiting ∧ t.seats.reissues = s.seats.reissues ∧
        (∀ m < 20, m ≠ k → sl'.beat m = sl.beat m) ∧
        (k < sl.fill →
          (sl.counts → sl'.counts) ∧
          (∀ j < 8, byteOf (sl'.beat k).data j =
            if b.enables.getLsbD j then byteOf b.data j else byteOf (sl.beat k).data j) ∧
          sl' = { sl with
            shadow := sl'.shadow, tallies := sl'.tallies, figure := sl'.figure, short := sl'.short } ∧
          (sl'.tallies = sl.tallies ∨ sl.state ≠ .counting → sl'.figure = sl.figure ∧ sl'.short = sl.short ∧
            t.mail = s.mail) ∧
          (sl'.tallies ≠ sl.tallies → sl.state = .counting →
            sl'.figure = s.params.availability sl'.tallies sl.count sl.holdback sl.figure.band ∧
            sl'.short = decide ((if s.params.heldTaken then sl'.tallies.free else sl'.tallies.free + sl'.tallies.held) <
              sl.holdback) ∧
            t.mail = s.mail.noted (seatsNotes s sl.bound sl.figure sl'.figure .counting)
              (soldOutEvents sl.bound sl.figure sl'.figure)) ∧
          t.seats.shortCount = (if sl'.short = true ∧ sl.short = false then min (s.seats.shortCount + 1) 65535
            else s.seats.shortCount)) ∧
        (sl.fill ≤ k → k < sl.issue →
          t.mail = s.mail ∧ sl' = { sl with shadow := sl'.shadow } ∧
          ((sl.beat k).reading = true → sl'.beat k = { sl.beat k with reread := true }) ∧
          ((sl.beat k).reading = false → sl'.beat k =
            { sl.beat k with data := mergeBeat (sl.beat k).data b.data b.enables })) ∧
        (sl.issue ≤ k → sl' = sl ∧ t.mail = s.mail)

/-- Availability (R46 to R49) under an exact limit of at least 9: the raw band from what can be sold, remains and its percent; the new band falls at once, leaves SOLD_OUT only with the reopen count and rises only past the margin of the band entered; the figure is 0 exactly at SOLD_OUT, else at least 1 and at most what remains, exact up to the limit and rounded down to tens with the plus mark above it. -/
def Obligations.AvailabilityGradesAShow : Prop :=
  ∀ (p : Params) (t : Tallies) (n k : Nat) (prev : Band) (rem sell pct : Nat) (raw : Band) (fig : Figure),
    9 ≤ p.exact → fig = p.availability t n k prev →
    rem = (if p.heldTaken then t.free else t.free + t.held) - k → sell = n - t.off - k →
    pct = (if sell = 0 then 0 else rem * 100 / sell) →
    raw = (if sell = 0 ∨ rem = 0 then .soldOut
      else if rem ≤ p.few ∨ pct < (if p.low ≥ p.high then p.high - 1 else p.low) then .few
      else if pct < p.high then .filling else .plenty) →
    (prev = .none ∨ raw.code ≤ prev.code → fig.band = raw) ∧
    (prev = .soldOut → rem < p.reopen → fig.band = .soldOut) ∧
    (prev ≠ .none → prev.code < raw.code → ¬ (prev = .soldOut ∧ rem < p.reopen) →
      fig.band =
        if raw = .plenty ∧ p.high + p.hysteresis ≤ pct then .plenty
        else if raw ≠ .few ∧ prev ≠ .filling ∧
          (if p.low ≥ p.high then p.high - 1 else p.low) + p.hysteresis ≤ pct then .filling
        else if prev = .soldOut then .few else prev) ∧
    (fig.shown = 0 ↔ fig.band = .soldOut) ∧ fig.shown ≤ rem ∧
    (fig.plus = true ↔ fig.band ≠ .soldOut ∧ p.exact < rem) ∧
    (fig.band ≠ .soldOut → fig.shown = if p.exact < rem then rem / 10 * 10 else rem)

/-- POLICY_WRITE and SEAT_WRITE_ERROR (R50, R160): a policy written is stored at the nearest end of its range, a low threshold at or above the high one as that less 1 (R167, R172), and answered CLAMPED where the stored value differs from the masked one; every COUNTING slot's availability computed with the new policies from its band, in slot order, each with its seats-changed note where its figure moved and SOLD_OUT_REACHED on a new SOLD_OUT (R51; the note carries the id that the entry holds, notes/assumptions/42.md); the error completion of a write waits until every beat of that write has been taken, and then restarts the sweep of each bound slot whose map holds one of its beats, with its note and its show's seat status written alone (R35; whatever the entry then holds, read from the spec by inference, notes/assumptions/37.md), in slot order (the model's choice, notes/assumptions/54.md). A parameter is clamped as a whole value (read from the spec by inference, notes/assumptions/21.md). -/
def Obligations.PoliciesAndFailedWritesReachEverySlot : Prop :=
  (∀ (s : State) (e : Entry) (p : Simple) (v x y : Nat), s.entry = some e → e.row = .policy p → v = (s.masked e).toNat →
    y = nearest (simpleRange p).1 (simpleRange p).2 v →
    x = (if p = .low ∧ s.params.high ≤ y then s.params.high - 1 else y) →
    ∃ u, exec .policyWrite s = .next (commit s
        (u.result e.index (BitVec.ofNat 32 x) (if x = v then .applied else .clamped))) ∧
      Frame [.intakes, .setup, .params, .seats, .mail] s u ∧ u.intakes = s.takeEntry.intakes ∧
      u.setup = s.takeEntry.setup ∧ u.params = s.params.setSimple p x ∧
      u.seats.waiting = s.seats.waiting ∧ u.seats.reissues = s.seats.reissues ∧
      u.mail = s.mail.noted
        (((allFin 64).filter fun i => decide ((s.seats.slots.get i).state = .counting)).flatMap fun i =>
          seatsNotes s (s.seats.slots.get i).bound (s.seats.slots.get i).figure (u.seats.slots.get i).figure .counting)
        (((allFin 64).filter fun i => decide ((s.seats.slots.get i).state = .counting)).flatMap fun i =>
          soldOutEvents (s.seats.slots.get i).bound (s.seats.slots.get i).figure (u.seats.slots.get i).figure) ∧
      u.seats.shortCount = advanced s.seats.shortCount
        ((allFin 64).countP fun i => (u.seats.slots.get i).short && !(s.seats.slots.get i).short) ∧
      ∀ i sl, s.seats.slots.get i = sl → u.seats.slots.get i =
        if sl.state = .counting then
          { sl with
            figure := u.params.availability sl.tallies sl.count sl.holdback sl.figure.band
            short := decide
              ((if u.params.heldTaken then sl.tallies.free else sl.tallies.free + sl.tallies.held) < sl.holdback) }
        else sl) ∧
  ∀ (s : State) (g : Nat) (beats : List Addr) (rest : List (Nat × List Addr)), s.mail.seatErrors = (g, beats) :: rest →
    ((∃ b ∈ s.intakes.seat, b.grant = g) → exec .seatWriteError s = .next s) ∧
    ((∀ b ∈ s.intakes.seat, b.grant ≠ g) →
      ∃ t, exec .seatWriteError s = .next t ∧ Frame [.seats, .mail, .seatFields] s t ∧
        t.mail = ({ s.mail with seatErrors := rest } : Mail).noted
          (((allFin 64).filter fun i => beats.any (s.seats.slots.get i).holds).flatMap fun i =>
            seatsNotes s (s.seats.slots.get i).bound (s.seats.slots.get i).figure Figure.none .sweeping) [] ∧
        t.seats = { s.seats with
          slots := t.seats.slots
          reissues := s.seats.reissues.filter fun r => !(beats.any (s.seats.slots.get r.slot).holds) } ∧
        ∀ i sl, s.seats.slots.get i = sl →
          (∀ hit, hit = (sl.state ≠ .unbound ∧ ∃ a ∈ beats, sl.map.toNat ≤ a.toNat ∧
              a.toNat < sl.map.toNat + 8 * sl.beats) →
            (¬ hit → t.seats.slots.get i = sl) ∧ (hit → t.seats.slots.get i = sl.startSweep ∧
              ∀ sh, sl.bound = some sh → (∀ j, (s.seats.slots.get j).bound = some sh → j = i) →
                (t.tracker.entries.get sh).seatStatus = .sweeping ∧ (t.tracker.entries.get sh).boundSlot = (s.tracker.entries.get sh).boundSlot)))

/-! ### Notices -/

/-- What a change of the notice list settles (R75, R76): each BANNER pane keeps its current notice while that is listed and eligible, else moves to the first eligible notice that stood after it, wrapping to the first eligible one, or to none; a pane with none takes the first eligible one; each screen's alert is the first ALERT that targets it; one LIST note goes out with the union of the masks, 0 if one of them is 0, then a BANNER note for each pane that changed, in screen and pane order, then an ALERT note for each screen that changed, in screen order, and nothing else. -/
def Obligations.SettlingFollowsTheList : Prop :=
  ∀ (q : Notices) (new : List Notice) (masks : List (BitVec 32)) (q' : Notices) (outs : List Out),
    q.change new masks = (q', outs) →
    q' = { q with list := new, rotations := q'.rotations, alerts := q'.alerts } ∧
    (∀ sc p r r', q.rotations.get (paneIx sc p) = r → q'.rotations.get (paneIx sc p) = r' →
      (r.banner = none → r' = r) ∧
      ∀ m, r.banner = some m →
        ((∀ n ∈ new, n.eligible sc m = false) → r'.current = none) ∧
        (r.current = none → ∀ c n d, new = c ++ n :: d → n.eligible sc m = true → (∀ y ∈ c, y.eligible sc m = false) →
          r' = { banner := some m, current := some n.ident, timer := n.dwell * 1000 }) ∧
        ∀ x, r.current = some x →
          ((∃ n ∈ new, n.ident = x ∧ n.eligible sc m = true) → r' = r) ∧
          ((∀ n ∈ new, n.ident = x → n.eligible sc m = false) →
            ∀ a o b, q.list = a ++ o :: b → o.ident = x → (∀ y ∈ a, y.ident ≠ x) →
              (∀ b1 o' b2 n, b = b1 ++ o' :: b2 → n ∈ new → n.ident = o'.ident → n.eligible sc m = true →
                (∀ n' ∈ new, n'.ident = n.ident → n' = n) →
                (∀ y ∈ b1, ∀ n' ∈ new, n'.ident = y.ident → n'.eligible sc m = false) →
                r' = { banner := some m, current := some n.ident, timer := n.dwell * 1000 }) ∧
              ((∀ y ∈ b, ∀ n' ∈ new, n'.ident = y.ident → n'.eligible sc m = false) →
                ∀ c n d, new = c ++ n :: d → n.eligible sc m = true → (∀ y ∈ c, y.eligible sc m = false) →
                  r' = { banner := some m, current := some n.ident, timer := n.dwell * 1000 }))) ∧
    (∀ sc, ((∀ n ∈ new, ¬ (n.kind = .alert ∧ (n.mask = 0 ∨ n.mask.getLsbD sc.val = true))) → q'.alerts.get sc = none) ∧
      ∀ c n d, new = c ++ n :: d → n.kind = .alert → (n.mask = 0 ∨ n.mask.getLsbD sc.val = true) →
        (∀ y ∈ c, ¬ (y.kind = .alert ∧ (y.mask = 0 ∨ y.mask.getLsbD sc.val = true))) → q'.alerts.get sc = some n.ident) ∧
    ∃ m, (0 ∈ masks → m = 0) ∧ (0 ∉ masks → ∀ i, m.getLsbD i = masks.any fun x => x.getLsbD i) ∧
      outs = .noticeNote (.list m) ::
        (((allFin 32).flatMap fun sc => ((allFin 4).filter fun p => decide
            ((q'.rotations.get (paneIx sc p)).current ≠ (q.rotations.get (paneIx sc p)).current)).map fun p =>
              Out.noticeNote (.banner sc p)) ++
          ((allFin 32).filter fun sc => decide (q'.alerts.get sc ≠ q.alerts.get sc)).map fun sc =>
            Out.noticeNote (.alert sc (q'.alerts.get sc).isSome))

/-- Entering the list (R59, R60): an expired notice does not enter and raises nothing; below 16 it is placed after every notice of equal or higher priority; on a full list it evicts the last entry of a lower priority, with NOTICE_EVICTED, or is not listed, with LIST_FULL. No effect is sent. -/
def Obligations.NoticesEnterByPriority : Prop :=
  ∀ (q : Notices) (n : Notice),
    (∀ e, n.expiry = some e → e ≤ q.lastMinute → q.enter n = (q, [])) ∧
    ((∀ e, n.expiry = some e → q.lastMinute < e) →
      (∀ a b, q.list = a ++ b → q.list.length < 16 → (∀ x ∈ a, n.priority ≤ x.priority) →
        (∀ x ∈ b, x.priority < n.priority) → q.enter n = q.change (a ++ n :: b) [n.mask]) ∧
      (∀ a b z, q.list = a ++ b ++ [z] → 16 ≤ q.list.length → z.priority < n.priority →
        (∀ x ∈ a, n.priority ≤ x.priority) → (∀ x ∈ b, x.priority < n.priority) →
        q.enter n = ((q.change (a ++ n :: b) [n.mask, z.mask]).1,
          .event .noticeEvicted :: (q.change (a ++ n :: b) [n.mask, z.mask]).2)) ∧
      ∀ a z, q.list = a ++ [z] → 16 ≤ q.list.length → n.priority ≤ z.priority → q.enter n = (q, [.event .listFull]))

/-- PRODUCER_VALUE_TAKEN, CONSUMER_WRITEBACK_DONE and WRITEBACK_RETRY_BOUNDARY (R54, R56): the value is taken and judged against C modulo 65,536: up to 64 waiting notices let an IDLE reader begin notice C, more is an overrun, which raises RING_OVERRUN, moves C to 64 below the value, abandons a notice being read and writes C back; a failed writeback is written again at the next boundary with the NOTICE window enabled, carrying C as it then stands. The beat is written whole (R180), the model's reading beside R56 (notes/assumptions/39.md); that a writeback due while the NOTICE window is disabled stays pending is the model's choice (notes/assumptions/19.md). -/
def Obligations.TheRingIsTakenInOrder : Prop :=
  (∀ (s : State) (v : BitVec 16) (q : Notices) (base : Addr), s.intakes.notice = some v → s.notices = q →
    s.path.windows.noticeBase = base →
    ((v - q.consumed).toNat ≤ 64 → (v = q.consumed ∨ q.reader ≠ .idle ∨ base = 0) →
      exec .producerValueTaken s = .next (commit s
        ((s.withIntakes { s.intakes with notice := none }).withNotices { q with produced := v }))) ∧
    ((v - q.consumed).toNat ≤ 64 → v ≠ q.consumed → q.reader = .idle → base ≠ 0 →
      exec .producerValueTaken s = .next (commit s
        (((s.withIntakes { s.intakes with notice := none }).withNotices
          { q with produced := v, reader := .record, number := q.consumed, consumed := q.consumed + 1, outstanding := 1 }).withPath
          { s.path with recordQ := s.path.recordQ ++
            [{ cls := .record, write := false, addr := base + BitVec.ofNat 32 (64 + 64 * (q.consumed.toNat % 64)), beats := 8,
               data := [], tag := .noticeRecord }] }))) ∧
    (65 ≤ (v - q.consumed).toNat → ∃ t, exec .producerValueTaken s = .next t ∧
      Frame [.intakes, .notices, .mail, .classQueues] s t ∧ t.intakes = { s.intakes with notice := none } ∧
      t.mail = { s.mail with events := s.mail.events ++ [.ringOverrun] } ∧ t.notices.produced = v ∧
      t.notices.list = q.list ∧ t.notices.writebackPending = decide (base = 0) ∧
      (base ≠ 0 → t.path.writebackQ = s.path.writebackQ ++
        [{ cls := .writeback, write := true, addr := base + 8, beats := 1,
           data := [{ data := (v - 64).setWidth 64, enables := 0xFF }], tag := .consumer }]) ∧
      (q.reader = .record ∨ q.reader = .text → t.notices.reader = .discard ∧ t.notices.consumed = v - 64 ∧
        t.path.recordQ = s.path.recordQ) ∧
      (q.reader = .effect ∨ q.reader = .discard → t.notices.reader = q.reader ∧ t.notices.consumed = v - 64 ∧
        t.notices.number = q.number ∧ t.notices.record = q.record ∧ t.path.recordQ = s.path.recordQ) ∧
      (q.reader = .idle → base ≠ 0 → t.notices.reader = .record ∧ t.notices.number = v - 64 ∧ t.notices.consumed = v - 63 ∧
        t.path.recordQ = s.path.recordQ ++
          [{ cls := .record, write := false, addr := base + BitVec.ofNat 32 (64 + 64 * ((v - 64).toNat % 64)), beats := 8,
             data := [], tag := .noticeRecord }]))) ∧
  (∀ (s : State) (data : List Beat) (err : Bool) (rest : List Response),
    s.mail.noticeResp = { tag := .consumer, data := data, err := err } :: rest →
    exec .consumerWritebackDone s = .next (commit s
      ((s.withMail { s.mail with noticeResp := rest }).withNotices
        { s.notices with writebackPending := s.notices.writebackPending || err }))) ∧
  ∀ s : State, 0 < s.time.dueNotice →
    (s.notices.writebackPending = true → s.path.windows.noticeBase ≠ 0 →
      exec .writebackRetryBoundary s = .next (commit s
        (((s.withTime { s.time with dueNotice := s.time.dueNotice - 1 }).withNotices
          { s.notices with writebackPending := false }).withPath
          { s.path with writebackQ := s.path.writebackQ ++
            [{ cls := .writeback, write := true, addr := s.path.windows.noticeBase + 8, beats := 1,
               data := [{ data := s.notices.consumed.setWidth 64, enables := 0xFF }], tag := .consumer }] }))) ∧
    (s.notices.writebackPending = false ∨ s.path.windows.noticeBase = 0 →
      exec .writebackRetryBoundary s = .next (commit s (s.withTime { s.time with dueNotice := s.time.dueNotice - 1 })))

/-- NOTICE_RECORD_DONE and NOTICE_TEXT_DONE (R52, R55, R58, R61 to R66): a record read with a memory error is skipped, and one that fails a check is skipped with BAD_NOTICE, each ending its processing with a consumer writeback and an IDLE reader, which begins the next notice at once where one waits; a record with text reads the aligned beats that cover it, up to 8 at a time; the last text response makes an unlisted INFO or ALERT enter the list with its text, or skips the notice where any read failed; responses of an abandoned notice are discarded. A record that needs no text, and one whose last text response is in, is processed by its kind: a WITHDRAW of an unlisted notice raises NOT_FOUND; a WITHDRAW of the house alert, and a WITHDRAW or replacement whose key does not open the listed notice, raises KEY_MISMATCH and leaves it; a WITHDRAW that opens it removes it, with an UNDELAY awaited where it is a DELAY that applied minutes; an unlisted DELAY or CANCEL sends its effect and waits; a replacement that opens the listed notice sends that UNDELAY and then its own effect and waits for every answer, or takes the place of the listed notice at once where there is none to wait for. Consumer writebacks write their beat whole (notes/assumptions/39.md) and are left pending while the NOTICE base is 0 (the model's choice, notes/assumptions/19.md). -/
def Obligations.NoticesAreReadAndChecked : Prop :=
  (∀ (s : State) (data : List Beat) (rest : List Response) (q : Notices) (bs bytes : List Byte) (c : Instr) (r : NoticeRec)
      (n : Notice) (u : State) (waits : Notices × List Out → List (Effect × Awaited) → Bool → State),
    s.notices = q → bs = beatsBytes data →
    (c = .noticeRecordDone ∧ s.mail.noticeResp = { tag := .noticeRecord, data := data, err := false } :: rest ∧
        q.reader = .record ∧ noticeRecord bs = some r ∧
        (r.kind = .withdraw ∨ r.textLen = 0 ∨ 2 ^ 32 < r.textAddr.toNat + r.textLen) ∧ bytes = [] ∨
      c = .noticeTextDone ∧ s.mail.noticeResp = { tag := .noticeText, data := data, err := false } :: rest ∧
        q.reader = .text ∧ q.record = some r ∧ q.outstanding = 1 ∧ q.textErr = false ∧ bytes = q.textBytes ++ bs) →
    u = s.withMail { s.mail with noticeResp := rest } → n = r.notice ((bytes.drop (r.textAddr.toNat % 8)).take r.textLen) 0 →
    (∀ p es rep, waits p es rep = (u.withNotices { p.1 with
        reader := .effect, record := some r, textBytes := bytes, outstanding := 0, awaiting := es.map Prod.snd
        replacing := rep }).emit (p.2 ++ es.map fun x => .effect x.1)) →
    ((∀ o ∈ q.list, o.ident ≠ r.ident) →
      (r.kind = .withdraw → exec c s = .next (commit s (endsNotice u (q, [.event .notFound])))) ∧
      (r.kind = .info ∨ r.kind = .alert → exec c s = .next (commit s (endsNotice u (q.enter n)))) ∧
      (r.kind = .delay ∨ r.kind = .cancel → exec c s = .next (commit s (waits (q, []) (ownEffects r) false)))) ∧
    ∀ a old b, q.list = a ++ old :: b → old.ident = r.ident → (∀ o ∈ a ++ b, o.ident ≠ r.ident) →
      (¬ opens s.params.managerKey old r.key ∨ (r.kind = .withdraw ∧ r.ident = { desk := 0, id := 65535 }) →
        exec c s = .next (commit s (endsNotice u (q, [.event .keyMismatch])))) ∧
      (opens s.params.managerKey old r.key → r.kind = .withdraw → r.ident ≠ { desk := 0, id := 65535 } →
        (leavingEffects old = [] → exec c s = .next (commit s (endsNotice u (q.change (a ++ b) [old.mask])))) ∧
        (leavingEffects old ≠ [] →
          exec c s = .next (commit s (waits (q.change (a ++ b) [old.mask]) (leavingEffects old) q.replacing)))) ∧
      (opens s.params.managerKey old r.key → r.kind ≠ .withdraw →
        (leavingEffects old ++ ownEffects r ≠ [] →
          exec c s = .next (commit s (waits (q, []) (leavingEffects old ++ ownEffects r) true))) ∧
        (leavingEffects old ++ ownEffects r = [] →
          (∀ e, n.expiry = some e → e ≤ q.lastMinute →
            exec c s = .next (commit s (endsNotice u (q.change (a ++ b) [old.mask])))) ∧
          ((∀ e, n.expiry = some e → q.lastMinute < e) → ∀ f g, a ++ b = f ++ g → (∀ o ∈ f, n.priority ≤ o.priority) →
            (∀ o ∈ g, o.priority < n.priority) →
            exec c s = .next (commit s (endsNotice u (q.change (f ++ n :: g) [old.mask, n.mask]))))))) ∧
  ∀ (s : State) (data : List Beat) (err : Bool) (rest : List Response) (q : Notices) (base : Addr) (bs : List Byte),
    s.notices = q → s.path.windows.noticeBase = base → bs = beatsBytes data →
    (s.mail.noticeResp = { tag := .noticeRecord, data := data, err := err } :: rest → q.reader = .record →
      ∀ kind desk id minutes len addr bad, kind = byteAt bs 0 → desk = byteAt bs 2 → id = le16At bs 4 →
        minutes = le16At bs 14 → len = min 240 (le16At bs 18) → addr = BitVec.ofNat 32 (le32At bs 20) →
        bad = (4 < kind ∨ (kind ≤ 3 ∧ (desk = 0 ∨ 8 < desk)) ∨ (kind = 4 ∧ 8 < desk) ∨
          ((id = 0 ∨ id = 65535) ∧ ¬ (kind = 4 ∧ desk = 0)) ∨ (kind = 1 ∧ minutes = 0)) →
        (err = true ∨ bad → exec .noticeRecordDone s = .next (commit s
          (endsNotice (s.withMail { s.mail with
            noticeResp := rest, events := s.mail.events ++ if err then [] else [.badNotice] }) (q, [])))) ∧
        (err = false → ¬ bad → kind ≤ 3 → 0 < len → addr.toNat + len ≤ 2 ^ 32 →
          ∀ beats, beats = (addr.toNat + len - 1) / 8 + 1 - addr.toNat / 8 →
            ∃ t r, exec .noticeRecordDone s = .next t ∧ Frame [.notices, .mail, .classQueues] s t ∧
              noticeRecord bs = some r ∧ r.ident = { desk := desk, id := id } ∧ r.textLen = len ∧ r.textAddr = addr ∧
              r.minutes = min 240 minutes ∧ t.mail = { s.mail with noticeResp := rest } ∧
              t.notices = { q with reader := .text, record := some r, textBytes := [], textErr := false,
                                   outstanding := (beats + 7) / 8 } ∧
              t.path = { s.path with recordQ := s.path.recordQ ++ (List.range ((beats + 7) / 8)).map fun i =>
                { cls := .record, write := false, addr := BitVec.ofNat 32 (addr.toNat / 8 * 8 + 64 * i),
                  beats := min 8 (beats - 8 * i), data := [], tag := .noticeText } })) ∧
    (s.mail.noticeResp = { tag := .noticeText, data := data, err := err } :: rest → q.reader = .text →
      (1 < q.outstanding → exec .noticeTextDone s = .next (commit s
        ((s.withMail { s.mail with noticeResp := rest }).withNotices
          { q with textBytes := q.textBytes ++ bs, textErr := q.textErr || err, outstanding := q.outstanding - 1 }))) ∧
      (q.outstanding = 1 → err = true ∨ q.textErr = true → exec .noticeTextDone s = .next (commit s
        (endsNotice (s.withMail { s.mail with noticeResp := rest }) (q, []))))) ∧
    ∀ tag, tag = .noticeRecord ∨ tag = .noticeText → s.mail.noticeResp = { tag := tag, data := data, err := err } :: rest →
      q.reader = .discard → ∀ next, next = (if q.outstanding ≤ 1 then beginsNext base q.toIdle
        else ({ q with outstanding := q.outstanding - 1 }, [])) →
      exec (if tag = .noticeRecord then .noticeRecordDone else .noticeTextDone) s = .next (commit s
        (((s.withMail { s.mail with noticeResp := rest }).withNotices next.1).emit next.2))

/-- EFFECT_ANSWER (R52, R55, R62, R63, R65, R66): the reader waits for every answer; with the last one a DELAY or CANCEL answered DONE enters the list, the minutes added becoming a DELAY's applied minutes, or takes the place of the listed notice of its identity; an INFO or ALERT that waited for the UNDELAY of the DELAY it replaces does the same, whatever the answer; answered NO_SHOW it raises NO_SHOW and does not enter, and answered TOO_LATE it does not enter, the listed notice it was to replace leaving; the answer to a withdrawal's UNDELAY raises nothing. Processing ends with a consumer writeback, its beat written whole (notes/assumptions/39.md), or left pending while the NOTICE base is 0 (the model's choice, notes/assumptions/19.md), and the reader is IDLE, or begins the next notice at once where one waits. -/
def Obligations.EffectAnswersDecideTheNotice : Prop :=
  ∀ (s : State) (a : Answer) (rest : List NoticeMsg) (q : Notices) (r : NoticeRec) (x : Awaited) (more : List Awaited)
      (ends : Notices × List Out → State) (n : Notice),
    s.mail.toNotices = .answer a :: rest → s.notices = q → q.record = some r → q.awaiting = x :: more →
    (∀ p, ends p = endsNotice (s.withMail { s.mail with toNotices := rest }) p) →
    (more ≠ [] → exec .effectAnswer s = .next (commit s
      ((s.withMail { s.mail with toNotices := rest }).withNotices { q with awaiting := more }))) ∧
    (more = [] → x = .undelay → r.kind = .withdraw → exec .effectAnswer s = .next (commit s (ends (q, [])))) ∧
    (∀ m, more = [] → (x ≠ .undelay ∧ (r.kind = .delay ∨ r.kind = .cancel) ∧ a = .done m ∨
        x = .undelay ∧ (r.kind = .info ∨ r.kind = .alert)) →
      n = r.notice (textOf r.textAddr r.textLen q.textBytes) (if r.kind = .delay then m else 0) →
      ((q.replacing = false ∨ ∀ o ∈ q.list, o.ident ≠ r.ident) →
        exec .effectAnswer s = .next (commit s (ends (q.enter n)))) ∧
      ∀ c old d, q.replacing = true → q.list = c ++ old :: d → old.ident = r.ident → (∀ o ∈ c ++ d, o.ident ≠ r.ident) →
        (∀ e, n.expiry = some e → e ≤ q.lastMinute →
          exec .effectAnswer s = .next (commit s (ends (q.change (c ++ d) [old.mask])))) ∧
        ((∀ e, n.expiry = some e → q.lastMinute < e) → ∀ f g, c ++ d = f ++ g → (∀ o ∈ f, n.priority ≤ o.priority) →
          (∀ o ∈ g, o.priority < n.priority) →
          exec .effectAnswer s = .next (commit s (ends (q.change (f ++ n :: g) [old.mask, n.mask]))))) ∧
    (more = [] → x ≠ .undelay → (r.kind = .delay ∨ r.kind = .cancel) → a = .noShow ∨ a = .tooLate →
      ∀ ev, ev = (if a = .noShow then [Out.event .noShow] else []) →
      ((q.replacing = false ∨ ∀ o ∈ q.list, o.ident ≠ r.ident) →
        exec .effectAnswer s = .next (commit s (ends (q, ev)))) ∧
      ∀ c old d, q.replacing = true → q.list = c ++ old :: d → old.ident = r.ident → (∀ o ∈ c ++ d, o.ident ≠ r.ident) →
        exec .effectAnswer s = .next (commit s
          (ends ((q.change (c ++ d) [old.mask]).1, ev ++ (q.change (c ++ d) [old.mask]).2))))

/-- Notices leave by time, by show and by seats (R67, R68, R70): a minute note sets the last minute and removes every notice whose expiry it has reached; a show-changed note removes the DELAY, CANCEL and automatic notices of its show as the table of R68 says; a seats-changed note enters the automatic sold-out notice of a selling show where the setting is on and none is listed, and removes it when the band leaves SOLD_OUT, judged by the show that the note's slot then holds (notes/assumptions/43.md); the setting written from on to off removes every automatic notice. A note with START first gives its show's automatic notices the effective start as their expiry, that of the show the slot then holds (notes/assumptions/43.md) and as it is where it is above 1,799 (notes/assumptions/61.md), both the model's choice. The notices that leave together leave in one change of the list, with their masks; where none does, nothing changes. A parameter is clamped as a whole value (read from the spec by inference, notes/assumptions/21.md). -/
def Obligations.NoticesLeaveByTimeShowAndSeats : Prop :=
  (∀ (q : Notices) (test : Notice → Bool),
    ((∀ n ∈ q.list, test n = false) → q.remove test = (q, [])) ∧
    ((∃ n ∈ q.list, test n = true) → q.remove test =
      q.change (q.list.filter fun n => !test n) ((q.list.filter test).map Notice.mask))) ∧
  (∀ (s : State) (m : Nat) (rest : List NoticeMsg) (p : Notices × List Out), s.mail.toNotices = .minute m :: rest →
    p = ({ s.notices with lastMinute := m } : Notices).remove (fun n => n.expiry.any fun e => decide (e ≤ m)) →
    exec .minuteNoteNotice s = .next (commit s
      (((s.withMail { s.mail with toNotices := rest }).withNotices p.1).emit p.2))) ∧
  (∀ (s : State) (note : ShowNote) (rest : List NoticeMsg) (eff : Nat) (auto : Notice → Bool) (leaves : Notice → Bool),
    s.mail.toNotices = .note note :: rest → note.id ≠ 0 → eff = (s.tracker.entries.get note.slot).effStart →
    (∀ n, auto n = true ↔ n.ident.desk = 0 ∧ n.ident.id ≠ 65535) →
    (∀ n, leaves n = true ↔ n.show_ = note.id ∧
      ((auto n = true ∧ (note.change.removed = true ∨ (note.new ≠ .onSale ∧ note.new ≠ .closing))) ∨
        (auto n = false ∧ n.kind = .delay ∧
          (note.change.removed = true ∨ note.new = .started ∨ note.new = .cancelled ∨ note.new = .retired)) ∨
        (auto n = false ∧ n.kind = .cancel ∧ (note.change.removed = true ∨ note.new ≠ .cancelled)))) →
    (note.change.start = false → ∀ p, p = s.notices.remove leaves →
      exec .noticeShowChangedNote s = .next (commit s
        (((s.withMail { s.mail with toNotices := rest }).withNotices p.1).emit p.2))) ∧
    (note.change.start = true → ∀ list p, list = (s.notices.list.map fun n =>
        if auto n = true ∧ n.show_ = note.id then { n with expiry := some eff } else n) →
      p = ({ s.notices with list := list } : Notices).remove (fun n =>
        leaves n || (auto n && decide (n.show_ = note.id) && decide (eff ≤ s.notices.lastMinute))) →
      exec .noticeShowChangedNote s = .next (commit s
        (((s.withMail { s.mail with toNotices := rest }).withNotices p.1).emit p.2)))) ∧
  (∀ (s : State) (note : SeatsNote) (rest : List SeatsNote) (e : ShowEntry), s.mail.seatsToNotices = note :: rest →
    e = s.tracker.entries.get note.show_ →
    (note.new = .soldOut → note.old ≠ .soldOut → s.params.autoSoldOut = true → e.state = .onSale ∨ e.state = .closing →
      note.id ≠ 0 → (∀ n ∈ s.notices.list, n.ident ≠ { desk := 0, id := note.id }) →
      ∀ p, p = s.notices.enter
        { ident := { desk := 0, id := note.id }, kind := .info, priority := s.params.autoPriority, key := 0, mask := 0,
          show_ := note.id, expiry := some e.effStart, dwell := 10, template := .soldOut, text := [], applied := 0 } →
      exec .noticeSeatsChangedNote s = .next (commit s
        (((s.withMail { s.mail with seatsToNotices := rest }).withNotices p.1).emit p.2))) ∧
    (note.old = .soldOut → note.new ≠ .soldOut →
      ∀ p, p = s.notices.remove (fun n => decide (n.ident.desk = 0 ∧ n.ident.id ≠ 65535 ∧ n.show_ = note.id)) →
      exec .noticeSeatsChangedNote s = .next (commit s
        (((s.withMail { s.mail with seatsToNotices := rest }).withNotices p.1).emit p.2))) ∧
    ((note.new = .soldOut ∧ (note.old = .soldOut ∨ s.params.autoSoldOut = false ∨ (e.state ≠ .onSale ∧ e.state ≠ .closing) ∨
        ∃ n ∈ s.notices.list, n.ident = { desk := 0, id := note.id })) ∨ (note.new ≠ .soldOut ∧ note.old ≠ .soldOut) →
      exec .noticeSeatsChangedNote s = .next (commit s (s.withMail { s.mail with seatsToNotices := rest })))) ∧
  ∀ (s : State) (e : Entry) (v : Nat), s.entry = some e → e.row = .autoSoldOut → v = (s.masked e).toNat →
    ((s.params.autoSoldOut = false ∨ v ≠ 0) → exec .autoSoldOutWrite s = .next (commit s
      ((s.takeEntry.withParams { s.params with autoSoldOut := decide (v ≠ 0) }).result e.index (if v = 0 then 0 else 1)
        (if v ≤ 1 then .applied else .clamped)))) ∧
    (s.params.autoSoldOut = true → v = 0 →
      ∀ p, p = s.notices.remove (fun n => decide (n.ident.desk = 0 ∧ n.ident.id ≠ 65535)) →
      exec .autoSoldOutWrite s = .next (commit s
        ((((s.takeEntry.withParams { s.params with autoSoldOut := false }).withNotices p.1).emit p.2).result e.index 0
          .applied)))

/-- The house lines and the rotations (R72 to R74): an asserted alert line puts the house alert after every notice of priority 7, evicting the last of a full list, and a deasserted one removes it; a hush change goes to the Reel Player; a dwell timer at 0 moves its pane to the next eligible notice in list order, wrapping, and reloads; a pane report restarts the rotation at the first eligible notice, or clears it. The debounced level flips at the command of its line change and not at the tick, the model's choice (notes/assumptions/8.md). -/
def Obligations.HouseLinesAndRotationsMove : Prop :=
  (∀ (s : State) (house : Notice) (q : Notices), house =
      { ident := { desk := 0, id := 65535 }, kind := .alert, priority := 7, key := 0, mask := 0, show_ := 0, expiry := none,
        dwell := 10, template := .house, text := [], applied := 0 } →
    s.notices.alertLine.due = true →
    q = { s.notices with alertLine := { level := !s.notices.alertLine.level, runCount := 0, due := false } } →
    (s.notices.alertLine.level = false → ∀ a b, (∀ n ∈ a, 7 ≤ n.priority) → (∀ n ∈ b, n.priority < 7) →
      (s.notices.list = a ++ b → s.notices.list.length < 16 → ∀ p, p = q.change (a ++ house :: b) [0] →
        exec .alertLineAsserted s = .next (commit s ((s.withNotices p.1).emit p.2))) ∧
      (∀ z, s.notices.list = a ++ b ++ [z] → 16 ≤ s.notices.list.length → ∀ p, p = q.change (a ++ house :: b) [0, z.mask] →
        exec .alertLineAsserted s = .next (commit s ((s.withNotices p.1).emit (.event .noticeEvicted :: p.2))))) ∧
    (s.notices.alertLine.level = true →
      ∀ p, p = q.remove (fun n => decide (n.ident.desk = 0 ∧ n.ident.id = 65535)) →
      exec .alertLineDeasserted s = .next (commit s ((s.withNotices p.1).emit p.2)))) ∧
  (∀ s : State, s.notices.hushLine.due = true → exec .hushLineChange s = .next (commit s
    ((s.withNotices { s.notices with
        hushLine := { level := !s.notices.hushLine.level, runCount := 0, due := false } }).withMail
      { s.mail with hush := s.mail.hush ++ [!s.notices.hushLine.level] }))) ∧
  (∀ (s : State) (sc : Fin 32) (p : Fin 4) (m : Nat) (x : NoticeId) (a b : List Notice) (o : Notice),
    s.notices.rotations.get (paneIx sc p) = { banner := some m, current := some x, timer := 0 } →
    s.notices.list = a ++ o :: b → o.ident = x → (s.notices.list.Pairwise fun u v => u.ident ≠ v.ident) →
    ∀ c n d, b ++ a ++ [o] = c ++ n :: d → n.eligible sc m = true → (∀ y ∈ c, y.eligible sc m = false) →
      exec (.bannerDwellExpiry sc p) s = .next (commit s
        ((s.withNotices { s.notices with
            rotations := s.notices.rotations.set (paneIx sc p)
              { banner := some m, current := some n.ident, timer := n.dwell * 1000 } }).withMail
          { s.mail with noticesToComp := s.mail.noticesToComp ++ if n.ident = x then [] else [.banner sc p] }))) ∧
  ∀ (s : State) (sc : Fin 32) (p : Fin 4) (b : Option Nat) (rest : List BannerReport) (new : Rotation),
    s.mail.bannerReports = { screen := sc, pane := p, banner := b } :: rest →
    (b = none → new = { banner := none, current := none, timer := 0 }) →
    (∀ m, b = some m → (∀ n ∈ s.notices.list, n.eligible sc m = false) →
      new = { banner := some m, current := none, timer := 0 }) →
    (∀ m c n d, b = some m → s.notices.list = c ++ n :: d → n.eligible sc m = true → (∀ y ∈ c, y.eligible sc m = false) →
      new = { banner := some m, current := some n.ident, timer := n.dwell * 1000 }) →
    exec .bannerPaneReport s = .next (commit s
      ((s.withNotices { s.notices with rotations := s.notices.rotations.set (paneIx sc p) new }).withMail
        { s.mail with
          bannerReports := rest
          noticesToComp := s.mail.noticesToComp ++
            if (s.notices.rotations.get (paneIx sc p)).current = new.current then [] else [.banner sc p] }))

/-! ### Reels -/

/-- CUE_PUSH, CUE_CUT and the result of a CHANNEL_STOP (R78, R83, R84, R171): on an IDLE channel a push abandons a rest-still fetch, loads the cue into the current rank and enters STARTING, or HELD under hush; on any other it loads an EMPTY next rank, or is answered NEXT_FULL with the event and changes nothing; an address that cannot be loaded is accepted and ends with BAD_CUE, with no load started and no load number drawn (the model's choice, notes/assumptions/63.md); a cut marks a channel that is not IDLE with cause COMMAND. Each result reports the argument, that of a CUE_CUT and a CHANNEL_STOP whole although none of its bits names a field, the model's choice (notes/assumptions/51.md). -/
def Obligations.CuesAndCutsReachTheirChannel : Prop :=
  ∀ (s : State) (e : Entry) (ch : Fin 8) (c : Channel), s.entry = some e → s.reel.channels.get ch = c →
    (e.row = .cuePush ch →
      (c.state = .idle → e.argument ≠ 0 → e.argument.toNat % 8 = 0 → ∀ a, a = c.abandonFill →
        exec .cuePush s = .next (commit s
          (((s.takeEntry.withReel { s.reel with
              channels := s.reel.channels.set ch
                { a with
                  state := if s.reel.hush then .held else .starting, shownMark := false, current := .loading e.argument
                  loads := a.loads + 1, nos := { a.nos with current := a.loads + 1 } } }).withPath
            { s.path with recordQ := s.path.recordQ ++
              [{ cls := .record, write := false, addr := e.argument, beats := 4, data := [], tag := .cue ch (a.loads + 1) }] }).result
            e.index e.argument .accepted))) ∧
      (c.state ≠ .idle → c.next = .empty → e.argument ≠ 0 → e.argument.toNat % 8 = 0 →
        exec .cuePush s = .next (commit s
          (((s.takeEntry.withReel { s.reel with
              channels := s.reel.channels.set ch
                { c with next := .loading e.argument, loads := c.loads + 1, nos := { c.nos with next := c.loads + 1 } } }).withPath
            { s.path with recordQ := s.path.recordQ ++
              [{ cls := .record, write := false, addr := e.argument, beats := 4, data := [], tag := .cue ch (c.loads + 1) }] }).result
            e.index e.argument .accepted))) ∧
      (c.state ≠ .idle → c.next = .empty → (e.argument = 0 ∨ e.argument.toNat % 8 ≠ 0) →
        exec .cuePush s = .next (commit s
          ((s.takeEntry.withMail { s.mail with events := s.mail.events ++ [.badCue] }).result e.index e.argument .accepted))) ∧
      (c.state ≠ .idle → c.next ≠ .empty →
        exec .cuePush s = .next (commit s
          ((s.takeEntry.withMail { s.mail with events := s.mail.events ++ [.nextFull] }).result e.index e.argument .nextFull))) ∧
      (c.state = .idle → (e.argument = 0 ∨ e.argument.toNat % 8 ≠ 0) → ∃ u : State,
        exec .cuePush s = .next (commit s (u.result e.index e.argument .accepted)) ∧
        u.mail.events = s.mail.events ++ [.badCue] ∧ u.path = s.path ∧ (u.reel.channels.get ch).state = .idle ∧
        (u.reel.channels.get ch).current = .empty ∧ (c.current = .empty → (u.reel.channels.get ch).nos.current = c.nos.current) ∧ ∀ d, d ≠ ch → u.reel.channels.get d = s.reel.channels.get d)) ∧
    (e.row = .cueCut ch →
      (c.state = .idle → exec .cueCut s = .next (commit s (s.takeEntry.result e.index e.argument .applied))) ∧
      (c.state ≠ .idle → exec .cueCut s = .next (commit s
        ((s.takeEntry.withReel
          { s.reel with channels := s.reel.channels.set ch { c with cut := some .command } }).result
          e.index e.argument .accepted)))) ∧
    (e.row = .channelStop ch → ∃ u : State, exec .channelStop s = .next (commit s (u.result e.index e.argument .applied)) ∧
      u.setup = s.takeEntry.setup ∧ u.path = s.takeEntry.path)

/-- CHANNEL_STOP (R85): APPLIED in every state; a channel that is not IDLE empties both ranks and the filling buffer, abandons every load and fetch in flight by a fresh number for its purpose, one advance of the load count for each load abandoned or started (R81; a COMPLETE or FAILED buffer is abandoned as a FETCHING one is, read from the spec by inference, notes/assumptions/64.md), clears the awaited mark, the cut, the skip count, position, periods and repeats, enters IDLE and begins to show its rest still; an IDLE channel is left as it is. -/
def Obligations.ChannelStopIdlesTheChannel : Prop :=
  ∀ (s : State) (e : Entry) (ch : Fin 8) (c : Channel) (rest : RestParams), s.entry = some e → e.row = .channelStop ch →
    s.reel.channels.get ch = c → s.params.rest.get ch = rest →
    (c.state = .idle → ∃ value, exec .channelStop s = .next (commit s (s.takeEntry.result e.index value .applied))) ∧
    (c.state ≠ .idle → ∃ (u : State) (c' : Channel) (value : BitVec 32),
      exec .channelStop s = .next (commit s (u.result e.index value .applied)) ∧
      Frame [.intakes, .setup, .reel, .mail] s u ∧ u.intakes = s.takeEntry.intakes ∧ u.setup = s.takeEntry.setup ∧
      u.reel = { s.reel with channels := s.reel.channels.set ch c' } ∧
      c'.state = .idle ∧ c'.current = .empty ∧ c'.next = .empty ∧ c'.awaited = false ∧ c'.cut = none ∧ c'.skips = 0 ∧
      c'.position = 0 ∧ c'.periodsLeft = 0 ∧ c'.repeatsLeft = 0 ∧ c'.shownBuf = c.shownBuf ∧ c'.late = c.late ∧
      (∀ a, c.current = .loading a → c.nos.current ≤ c.loads → c.nos.current < c'.nos.current) ∧
      (∀ a, c.next = .loading a → c.nos.next ≤ c.loads → c.nos.next < c'.nos.next) ∧
      (c.filling ≠ .empty → c.fillFor ≠ .rest → c.plan.pointer ≠ none → c.nos.pointer ≤ c.loads →
        c.nos.pointer < c'.nos.pointer) ∧
      (c.filling ≠ .empty → c.fillFor ≠ .rest → c.plan.pointer = none → c.nos.frame ≤ c.loads →
        c.nos.frame < c'.nos.frame) ∧
      ((∀ a, c.current ≠ .loading a) → c'.nos.current = c.nos.current) ∧
      ((∀ a, c.next ≠ .loading a) → c'.nos.next = c.nos.next) ∧
      ((c.filling = .empty ∨ c.fillFor = .rest ∨ c.plan.pointer = none) → c'.nos.pointer = c.nos.pointer) ∧
      ((c.filling = .empty ∨ c.fillFor = .rest ∨ c.plan.pointer ≠ none) → c'.nos.frame = c.nos.frame) ∧
      c'.loads = c.loads + (if c.filling = .empty then 0 else 1) +
        (match c.current with | .loading _ => 1 | .empty | .ready _ _ => 0) +
        (match c.next with | .loading _ => 1 | .empty | .ready _ _ => 0) +
        (if rest.len = 0 ∨ rest.addr = 0 ∨ rest.addr.toNat % 8 ≠ 0 then 0 else 1) ∧
      ((rest.len = 0 ∨ rest.addr = 0 ∨ rest.addr.toNat % 8 ≠ 0) → c'.filling = .empty ∧ c'.shownKind = .blank ∧
        c'.serial = c.serial + 1 ∧ u.mail = { s.mail with
          channelNotes := s.mail.channelNotes ++ [{ channel := ch, serial := c.serial + 1, kind := .blank, len := 0 }] }) ∧
      (rest.len ≠ 0 → rest.addr ≠ 0 → rest.addr.toNat % 8 = 0 → u.mail = s.mail ∧ c'.filling = .fetching ∧
        c'.fillFor = .rest ∧ c'.shownKind = c.shownKind ∧ c'.serial = c.serial ∧
        c'.plan = { pointer := none, addr := some rest.addr.toNat, total := (min rest.len 16384 + 7) / 8, issued := 0,
                    received := 0, length := min rest.len 16384 }))

/-- REST_STILL_WRITE and REST_READ_DONE (R97): a rest still written is stored, the length up to 65,535 and answered CLAMPED above it; on an IDLE channel the showing starts afresh, BLANK at once or a fetch of at most 16,384 bytes; a rest read of the fetch in hand ends it BLANK on a memory error, with the filling state EMPTY and the fetch's other reads not issued or discarded (the model's choice, notes/assumptions/62.md), adds its beats, and with the last of them shows the rest still with the serial advanced; any other rest read is discarded. A fetch in flight is abandoned first, and so is a buffer that is COMPLETE or FAILED (read from the spec by inference, notes/assumptions/64.md). A parameter is clamped as a whole value (read from the spec by inference, notes/assumptions/21.md). -/
def Obligations.RestStillsAreStoredAndShown : Prop :=
  (∀ (s : State) (e : Entry) (ch : Fin 8) (len : Bool) (c : Channel) (rest : RestParams), s.entry = some e →
    e.row = .restStill ch len → s.reel.channels.get ch = c →
    rest = (if len then { s.params.rest.get ch with len := min 65535 (s.masked e).toNat }
      else { s.params.rest.get ch with addr := s.masked e }) →
    ∀ answered : State → State, (∀ u, answered u = u.result e.index (if len then BitVec.ofNat 32 rest.len else rest.addr)
      (if len = true ∧ 65535 < (s.masked e).toNat then .clamped else .applied)) →
    (c.state ≠ .idle → exec .restStillWrite s = .next (commit s
      (answered (s.takeEntry.withParams { s.params with rest := s.params.rest.set ch rest })))) ∧
    (c.state = .idle → (rest.len = 0 ∨ rest.addr = 0 ∨ rest.addr.toNat % 8 ≠ 0) →
      exec .restStillWrite s = .next (commit s (answered
        (((s.takeEntry.withParams { s.params with rest := s.params.rest.set ch rest }).withReel { s.reel with
            channels := s.reel.channels.set ch
              { c.abandonFill with shownKind := .blank, serial := c.serial + 1, shownLen := 0 } }).withMail
          { s.mail with
            channelNotes := s.mail.channelNotes ++
              [{ channel := ch, serial := c.serial + 1, kind := .blank, len := 0 }] })))) ∧
    (c.state = .idle → rest.len ≠ 0 → rest.addr ≠ 0 → rest.addr.toNat % 8 = 0 → ∃ (u : State) (c' : Channel),
      exec .restStillWrite s = .next (commit s (answered u)) ∧
      Frame [.intakes, .setup, .params, .reel] s u ∧
      u.params = { s.params with rest := s.params.rest.set ch rest } ∧
      u.reel = { s.reel with channels := s.reel.channels.set ch c' } ∧
      c' = { c with
        filling := .fetching, fillFor := .rest, fillBuf := [], awaited := c'.awaited, begins := c'.begins
        loads := c'.loads, nos := c'.nos
        plan := { pointer := none, addr := some rest.addr.toNat, total := (min rest.len 16384 + 7) / 8, issued := 0,
                  received := 0, length := min rest.len 16384 } } ∧
      c'.nos.rest = c'.loads ∧ c'.loads = c.loads + (if c.filling = .empty then 1 else 2))) ∧
  ∀ (s : State) (ch : Fin 8) (no : Nat) (data : List Beat) (err : Bool) (more : List Response) (c : Channel) (bytes : List Byte),
    s.mail.reelResp = { tag := .rest ch no, data := data, err := err } :: more → s.reel.channels.get ch = c →
    bytes = c.fillBuf ++ beatsBytes data →
    ((c.nos.rest ≠ no ∨ c.filling ≠ .fetching ∨ c.fillFor ≠ .rest) → exec .restReadDone s = .next (commit s
      ((s.withMail { s.mail with reelResp := more }).withReel { s.reel with inFlight := s.reel.inFlight - 1 }))) ∧
    (c.nos.rest = no → c.filling = .fetching → c.fillFor = .rest →
      (err = true → exec .restReadDone s = .next (commit s
        ((s.withMail { s.mail with
            reelResp := more
            channelNotes := s.mail.channelNotes ++
              [{ channel := ch, serial := c.serial + 1, kind := .blank, len := 0 }] }).withReel { s.reel with
          inFlight := s.reel.inFlight - 1
          channels := s.reel.channels.set ch
            { c with
              filling := .empty, fillFor := .none, plan := FetchPlan.none, awaited := false, begins := false
              shownKind := .blank, serial := c.serial + 1, shownLen := 0 } }))) ∧
      (err = false → c.plan.received + data.length < c.plan.total → exec .restReadDone s = .next (commit s
        ((s.withMail { s.mail with reelResp := more }).withReel { s.reel with
          inFlight := s.reel.inFlight - 1
          channels := s.reel.channels.set ch
            { c with fillBuf := bytes, plan := { c.plan with received := c.plan.received + data.length } } }))) ∧
      (err = false → c.plan.total ≤ c.plan.received + data.length → exec .restReadDone s = .next (commit s
        ((s.withMail { s.mail with
            reelResp := more
            channelNotes := s.mail.channelNotes ++
              [{ channel := ch, serial := c.serial + 1, kind := .rest, len := c.plan.length }] }).withReel { s.reel with
          inFlight := s.reel.inFlight - 1
          channels := s.reel.channels.set ch
            { c with
              shownBuf := bytes.take c.plan.length, fillBuf := c.shownBuf, filling := .empty, fillFor := .none
              plan := FetchPlan.none, awaited := false, begins := false, shownKind := .rest, serial := c.serial + 1
              shownLen := c.plan.length } }))))

/-- CUE_LOAD_DONE (R77, R78, R81, R82, R92, R93): a response whose number its rank no longer keeps is discarded; a valid cue fills the next rank, or begins in the current rank with frame 0 fetched and awaited and the skip count 0 unless it is stale and skipped; an invalid cue raises BAD_CUE and empties the next rank, or brings the next rank into the current one, or leaves the channel IDLE, the CURRENT number as it stands; a skip below four carries a LOADING next, brings a FULL one into the current rank to be judged at once, or loads the skipped cue's own next cue; with none the channel becomes IDLE, and the fourth skip makes it IDLE with STALE_CHAIN. A record is invalid exactly under a condition of R78, its sums exact, and a valid one gives the fields of R77. -/
def Obligations.CueLoadsFillTheirRank : Prop :=
  (∀ (bs : List Byte) (mode count length base stride : Nat) (bad : Prop), mode = byteAt bs 0 → count = le16At bs 4 →
    length = le32At bs 8 → base = le32At bs 12 → stride = le32At bs 16 / 8 * 8 →
    bad = (2 < mode ∨ length = 0 ∨ 16384 < length ∨ count = 0 ∨ (mode = 0 ∧ base % 8 ≠ 0) ∨ (mode = 2 ∧ base % 8 ≠ 0) ∨
      (mode = 1 ∧ base % 4 ≠ 0) ∨ (mode = 0 ∧ 2 ^ 32 < base + (count - 1) * stride + length) ∨
      (mode = 2 ∧ 2 ^ 32 < base + length) ∨ (mode = 1 ∧ 2 ^ 32 < base + 4 * count)) →
    (bad → cueRecord bs = none) ∧
    (¬ bad → cueRecord bs = some
      { mode := if mode = 0 then .step else if mode = 1 then .list else .still, multiple := max 1 (min 8 (byteAt bs 1))
        repeats := byteAt bs 2, skipIfStale := decide (byteAt bs 3 % 2 = 1), loop := decide (byteAt bs 3 / 2 % 2 = 1)
        length := length, count := count, show_ := le16At bs 6, base := base, stride := stride
        next := BitVec.ofNat 32 (le32At bs 20) })) ∧
  ∀ (s : State) (ch : Fin 8) (no : Nat) (data : List Beat) (err : Bool) (more : List Response) (c : Channel)
      (cue : Option Cue) (starts : Addr → Cue → Channel → Prop)
      (moves : State → Channel → List EventKind → List AgentReq → Prop),
    s.mail.reelResp = { tag := .cue ch no, data := data, err := err } :: more → s.reel.channels.get ch = c →
    (∀ t c' events reads, moves t c' events reads ↔ Frame [.reel, .mail, .classQueues] s t ∧
      t.reel = { s.reel with channels := s.reel.channels.set ch c' } ∧
      t.mail = { s.mail with
        reelResp := more, events := s.mail.events ++ events
        channelNotes := s.mail.channelNotes ++ if c'.serial = c.serial then [] else
          [{ channel := ch, serial := c'.serial, kind := c'.shownKind, len := c'.shownLen }] } ∧
      t.path = { s.path with recordQ := s.path.recordQ ++ reads }) →
    cue = (if err then none else cueRecord (beatsBytes data)) →
    (∀ a q c', starts a q c' ↔ c'.state = c.state ∧ c'.current = .ready a q ∧ c'.skips = 0 ∧ c'.filling = .fetching ∧
      c'.fillFor = .frame 0 ∧ c'.awaited = true ∧ c'.begins = true ∧ c'.shownBuf = c.shownBuf ∧ c'.serial = c.serial ∧
      c'.plan.length = q.length ∧ (q.mode = .list → c'.plan.pointer = some q.base ∧ c'.plan.addr = none) ∧
      (q.mode ≠ .list → c'.plan.pointer = none ∧ c'.plan.addr = some q.base ∧ c'.plan.total = (q.length + 7) / 8)) →
    ((c.nos.current ≠ no ∨ ∀ a, c.current ≠ .loading a) → (c.nos.next ≠ no ∨ ∀ a, c.next ≠ .loading a) →
      exec .cueLoadDone s = .next (commit s (s.withMail { s.mail with reelResp := more }))) ∧
    (∀ a, (c.nos.current ≠ no ∨ ∀ b, c.current ≠ .loading b) → c.nos.next = no → c.next = .loading a →
      (∀ q, cue = some q → exec .cueLoadDone s = .next (commit s
        ((s.withMail { s.mail with reelResp := more }).withReel
          { s.reel with channels := s.reel.channels.set ch { c with next := .ready a q } }))) ∧
      (cue = none → exec .cueLoadDone s = .next (commit s
        ((s.withMail { s.mail with reelResp := more, events := s.mail.events ++ [.badCue] }).withReel
          { s.reel with channels := s.reel.channels.set ch { c with next := .empty } })))) ∧
    (∀ a, c.nos.current = no → c.current = .loading a →
      (∀ q, cue = some q → (s.stale q = true → q.skipIfStale = false) → ∃ (t : State) (c' : Channel), exec .cueLoadDone s = .next t ∧
        Frame [.reel, .mail] s t ∧ t.mail = { s.mail with reelResp := more } ∧
        t.reel = { s.reel with channels := s.reel.channels.set ch c' } ∧ starts a q c' ∧ c'.next = c.next) ∧
      (∀ q, cue = some q → s.stale q = true → q.skipIfStale = true →
        (3 ≤ c.skips ∨ ∀ b n, c.next ≠ .ready b n) → ∃ t c' events reads, exec .cueLoadDone s = .next t ∧
          moves t c' events reads ∧ c.passedOver ch q c' events reads) ∧
      (∀ q b n, cue = some q → s.stale q = true → q.skipIfStale = true → c.skips < 3 → c.next = .ready b n →
        ((s.stale n = true → n.skipIfStale = false) → ∃ t c', exec .cueLoadDone s = .next t ∧ moves t c' [] [] ∧
          starts b n c' ∧ c'.next = .empty) ∧
        (s.stale n = true → n.skipIfStale = true → ∃ t c' events reads, exec .cueLoadDone s = .next t ∧
          moves t c' events reads ∧
          { c with skips := c.skips + 1, next := .empty }.passedOver ch n c' events reads)) ∧
      (cue = none → c.next = .empty → ∃ t : State, exec .cueLoadDone s = .next t ∧ Frame [.reel, .mail] s t ∧
        t.mail.events = s.mail.events ++ [.badCue] ∧ (t.reel.channels.get ch).state = .idle ∧
        (t.reel.channels.get ch).current = .empty ∧ (t.reel.channels.get ch).skips = 0 ∧
        (t.reel.channels.get ch).nos.current = no) ∧
      (∀ b, cue = none → c.next = .loading b → ∃ (t : State) (c' : Channel), exec .cueLoadDone s = .next t ∧ Frame [.reel, .mail] s t ∧
        t.mail = { s.mail with reelResp := more, events := s.mail.events ++ [.badCue] } ∧
        t.reel = { s.reel with channels := s.reel.channels.set ch c' } ∧ c'.current = .loading b ∧ c'.next = .empty ∧
        c'.nos.current = c.nos.next ∧ c'.nos.next = c'.loads ∧ c'.state = c.state ∧ c'.shownBuf = c.shownBuf) ∧
      (∀ b q, cue = none → c.next = .ready b q → (s.stale q = true → q.skipIfStale = false) →
        ∃ (t : State) (c' : Channel), exec .cueLoadDone s = .next t ∧ Frame [.reel, .mail] s t ∧
          t.mail = { s.mail with reelResp := more, events := s.mail.events ++ [.badCue] } ∧
          t.reel = { s.reel with channels := s.reel.channels.set ch c' } ∧ starts b q c' ∧ c'.next = .empty) ∧
      (∀ b q, cue = none → c.next = .ready b q → s.stale q = true → q.skipIfStale = true → ∃ t c' events reads,
        exec .cueLoadDone s = .next t ∧ moves t c' (.badCue :: events) reads ∧
          { c with next := .empty }.passedOver ch q c' events reads)) ∧
    ∀ q : Cue, (q.show_ = 0 → s.stale q = false) ∧
      (q.show_ ≠ 0 → (∀ i, ((s.tracker.entries.get i).state = .onSale ∨ (s.tracker.entries.get i).state = .closing) →
        (s.tracker.entries.get i).fields.id ≠ q.show_) → s.stale q = true) ∧
      ∀ i, q.show_ ≠ 0 → ((s.tracker.entries.get i).state = .onSale ∨ (s.tracker.entries.get i).state = .closing) →
        (s.tracker.entries.get i).fields.id = q.show_ →
        (∀ j, ((s.tracker.entries.get j).state = .onSale ∨ (s.tracker.entries.get j).state = .closing) →
          (s.tracker.entries.get j).fields.id = q.show_ → j = i) →
        (s.stale q = true ↔ s.bandQuery i = .soldOut)

/-- FRAME_READ_ISSUE, POINTER_READ_DONE and FRAME_READ_DONE (R79, R86): with 8 reads in flight, or nothing to read, none is issued; else the first channel after the one last served with a read to issue is served, a LIST pointer's beat or up to 8 beats of its frame in address order; a pointer that is aligned and leaves room for the frame starts the frame's reads, any other or a memory error fails the fetch; a frame read's beats join the buffer, which is COMPLETE with the last, and a memory error makes it FAILED; a response of another number is discarded. An address past 2^32, which only a rest still can reach, goes on from 0 (the model's choice, notes/assumptions/45.md). -/
def Obligations.FrameReadsFillTheBuffer : Prop :=
  (∀ s : State,
    (8 ≤ s.reel.inFlight ∨ (∀ ch, ¬ ((s.reel.channels.get ch).filling = .fetching ∧
        (s.reel.channels.get ch).plan.issued < (s.reel.channels.get ch).plan.total)) →
      exec .frameReadIssue s = .next s) ∧
    ∀ d (ch : Fin 8) c, s.reel.inFlight < 8 → d < 8 → ch.val = (s.reel.lastServed.val + 1 + d) % 8 →
      s.reel.channels.get ch = c → c.filling = .fetching → c.plan.issued < c.plan.total →
      (∀ d' < d, ∀ b : Fin 8, b.val = (s.reel.lastServed.val + 1 + d') % 8 →
        ¬ ((s.reel.channels.get b).filling = .fetching ∧
          (s.reel.channels.get b).plan.issued < (s.reel.channels.get b).plan.total)) →
      ∀ n addr tag, n = (if c.plan.pointer = none then min 8 (c.plan.total - c.plan.issued) else 1) →
        (∀ p, c.plan.pointer = some p → c.plan.issued = 0 ∧ c.plan.total = 1 ∧ addr = BitVec.ofNat 32 (p / 8 * 8) ∧
          tag = .pointer ch c.nos.pointer) →
        (∀ a, c.plan.pointer = none → c.plan.addr = some a → addr = BitVec.ofNat 32 (a + 8 * c.plan.issued) ∧
          tag = if c.fillFor = .rest then .rest ch c.nos.rest else .frame ch c.nos.frame) →
        (c.plan.pointer = none → c.plan.addr ≠ none) →
        exec .frameReadIssue s = .next (commit s
          ((s.withReel { s.reel with
              inFlight := s.reel.inFlight + 1, lastServed := ch
              channels := s.reel.channels.set ch { c with plan := { c.plan with issued := c.plan.issued + n } } }).withPath
            { s.path with frameQ := s.path.frameQ ++
              [{ cls := .frame, write := false, addr := addr, beats := n, data := [], tag := tag }] }))) ∧
  (∀ (s : State) (ch : Fin 8) (no : Nat) (data : List Beat) (err : Bool) (more : List Response) (c : Channel) (put : Channel → State),
    s.mail.reelResp = { tag := .pointer ch no, data := data, err := err } :: more → s.reel.channels.get ch = c →
    (∀ c', put c' = (s.withMail { s.mail with reelResp := more }).withReel
      { s.reel with inFlight := s.reel.inFlight - 1, channels := s.reel.channels.set ch c' }) →
    ((c.nos.pointer ≠ no ∨ c.filling ≠ .fetching ∨ c.plan.pointer = none) →
      exec .pointerReadDone s = .next (commit s (put c))) ∧
    ∀ p a, c.nos.pointer = no → c.filling = .fetching → c.plan.pointer = some p → a = le32At (beatsBytes data) (p % 8) →
      ((err = true ∨ a % 8 ≠ 0 ∨ 2 ^ 32 < a + c.plan.length) →
        exec .pointerReadDone s = .next (commit s (put { c with filling := .failed }))) ∧
      (err = false → a % 8 = 0 → a + c.plan.length ≤ 2 ^ 32 →
        exec .pointerReadDone s = .next (commit s (put
          { c with
            loads := c.loads + 1, nos := { c.nos with frame := c.loads + 1 }
            plan := { c.plan with pointer := none, addr := some a, total := (c.plan.length + 7) / 8, issued := 0,
                                  received := 0 } })))) ∧
  ∀ (s : State) (ch : Fin 8) (no : Nat) (data : List Beat) (err : Bool) (more : List Response) (c : Channel) (put : Channel → State)
      (bytes : List Byte),
    s.mail.reelResp = { tag := .frame ch no, data := data, err := err } :: more → s.reel.channels.get ch = c →
    (∀ c', put c' = (s.withMail { s.mail with reelResp := more }).withReel
      { s.reel with inFlight := s.reel.inFlight - 1, channels := s.reel.channels.set ch c' }) →
    bytes = c.fillBuf ++ beatsBytes data →
    ((c.nos.frame ≠ no ∨ c.filling ≠ .fetching) → exec .frameReadDone s = .next (commit s (put c))) ∧
    (c.nos.frame = no → c.filling = .fetching →
      (err = true → exec .frameReadDone s = .next (commit s (put { c with filling := .failed }))) ∧
      (err = false → c.plan.received + data.length < c.plan.total → exec .frameReadDone s = .next (commit s (put
        { c with fillBuf := bytes, plan := { c.plan with received := c.plan.received + data.length } }))) ∧
      (err = false → c.plan.total ≤ c.plan.received + data.length → exec .frameReadDone s = .next (commit s (put
        { c with
          filling := .complete, fillBuf := bytes.take c.plan.length
          plan := { c.plan with received := c.plan.received + data.length } }))))

/-- REEL_PERIOD_BOUNDARY (R84, R87 to R90, R92, R93, R96), channel by channel, their events, notes and reads in channel order (the order is the model's choice, notes/assumptions/44.md): an IDLE channel, a HELD one without a cut, one whose current cue still loads and an awaited frame still FETCHING stay; a running slot counts down; an awaited frame or a due one that is COMPLETE is shown with the serial advanced, one that FAILED or did not arrive is dropped and counted late, and its slot begins all the same; at the end of the last pass, or at a cut, a channel with nothing to follow becomes IDLE, a LOOP is replayed but after a COMMAND cut, a load in the next rank moves into the current one, and a stale follower is skipped; after a cut the FULL next or the replayed LOOP begins its segment from the channel's state, which a STARTING or HELD channel keeps while the frame is awaited; a segment start loads the chained cue, the last slot fetches the predicted follower, and a frame that comes due in a slot that hush interrupted is taken as awaited. -/
def Obligations.BoundariesPlayTheChannels : Prop :=
  ∀ s : State, 0 < s.time.dueReel → ∃ t : State, exec .reelPeriodBoundary s = .next t ∧
    Frame [.time, .reel, .mail, .classQueues] s t ∧ t.time = { s.time with dueReel := s.time.dueReel - 1 } ∧
    t.reel.inFlight = s.reel.inFlight ∧ t.reel.lastServed = s.reel.lastServed ∧ t.reel.hush = s.reel.hush ∧
    ∃ (events : Fin 8 → List EventKind) (reads : Fin 8 → List AgentReq),
    t.mail = { s.mail with
      events := s.mail.events ++ (allFin 8).flatMap events
      channelNotes := s.mail.channelNotes ++ (allFin 8).flatMap fun ch =>
        if (t.reel.channels.get ch).serial = (s.reel.channels.get ch).serial then [] else
          [{ channel := ch, serial := (t.reel.channels.get ch).serial, kind := (t.reel.channels.get ch).shownKind,
             len := (t.reel.channels.get ch).shownLen }] } ∧
    t.path = { s.path with recordQ := s.path.recordQ ++ (allFin 8).flatMap reads } ∧
    ∀ (ch : Fin 8) (c c' : Channel), s.reel.channels.get ch = c → t.reel.channels.get ch = c' →
      ∀ follows : Channel → Bool → Addr → Cue → Channel → List EventKind → List AgentReq → Prop,
      (∀ d ofNext a q d' ev rd, follows d ofNext a q d' ev rd ↔ d'.current = .ready a q ∧ d'.skips = 0 ∧ d'.cut = d.cut ∧
        (d.fillFor ≠ .follower ofNext → d'.state = d.state ∧ d'.next = d.next ∧ d'.awaited = true ∧ d'.begins = true ∧ d'.fetches q 0 (.frame 0) ∧
          d'.serial = d.serial ∧ d'.shownBuf = d.shownBuf ∧ ev = [] ∧ rd = []) ∧
        (d.fillFor = .follower ofNext → (d.state = .held ∨ (d.resume = true ∧ d.filling = .fetching)) → d'.state = d.state ∧
          d'.next = d.next ∧ d'.awaited = true ∧ d'.begins = true ∧ d'.filling = d.filling ∧ d'.fillFor = .frame 0 ∧
          d'.plan = d.plan ∧ d'.fillBuf = d.fillBuf ∧ d'.serial = d.serial ∧ d'.shownBuf = d.shownBuf ∧ ev = [] ∧ rd = []) ∧
        (d.fillFor = .follower ofNext → d.state ≠ .held → (d.resume = false ∨ d.filling ≠ .fetching) →
          { d with skips := 0 }.begun ch q 0 0 true d' ev rd)) →
      ((c.state = .idle ∨ (c.state = .held ∧ c.cut = none) ∨ (c.cut = none ∧ ∀ a q, c.current ≠ .ready a q)) →
        c' = c ∧ events ch = [] ∧ reads ch = []) ∧
      (∀ a q, c.cut = none → (c.state = .running ∨ c.state = .starting) → c.current = .ready a q →
        (c.awaited = true → c.filling = .fetching → c' = c ∧ events ch = [] ∧ reads ch = []) ∧
        (∀ k, c.awaited = true → c.fillFor = .frame k → c.filling ≠ .fetching → c'.current = c.current ∧
          c.begun ch q k c.repeatsLeft c.begins c' (events ch) (reads ch)) ∧
        (c.state = .running → c.awaited = false → 1 < c.periodsLeft → c' = { c with periodsLeft := c.periodsLeft - 1 } ∧
          events ch = [] ∧ reads ch = []) ∧
        (c.state = .running → c.awaited = false → c.periodsLeft = 1 →
          (∀ k r, ((c.position + 1 < q.count ∧ k = c.position + 1 ∧ r = c.repeatsLeft) ∨
              (q.count ≤ c.position + 1 ∧ 0 < c.repeatsLeft ∧ k = 0 ∧ r = c.repeatsLeft - 1)) →
            (c.resume = false → c'.current = c.current ∧ c.begun ch q k r false c' (events ch) (reads ch)) ∧
            (c.resume = true → c.filling = .fetching → c' =
              { c with periodsLeft := 0, repeatsLeft := r, resume := false, awaited := true, begins := false } ∧
              events ch = [] ∧ reads ch = []) ∧
            (c.resume = true → c.fillFor = .frame k → c.filling ≠ .fetching → c'.current = c.current ∧ c'.resume = false ∧
              c.begun ch q k r false c' (events ch) (reads ch))) ∧
          (q.count ≤ c.position + 1 → c.repeatsLeft = 0 →
            (c.next = .empty → q.loop = false → c'.state = .idle ∧ c'.current = .empty ∧ c'.periodsLeft = 0 ∧
              events ch = [] ∧ reads ch = []) ∧
            (∀ b, c.next = .loading b → q.loop = false → c'.state = .running ∧ c'.current = .loading b ∧ c'.next = .empty ∧
              c'.filling = .empty ∧ c'.nos.current = c.nos.next ∧ c'.serial = c.serial ∧ events ch = [] ∧ reads ch = []) ∧
            (∀ b n, c.next = .ready b n → (s.stale n = true → n.skipIfStale = false) →
              follows { c with current := .ready b n, next := .empty } true b n c' (events ch) (reads ch)) ∧
            ((∀ b n, c.next ≠ .ready b n) → q.loop = true → (s.stale q = true → q.skipIfStale = false) →
              follows c false a q c' (events ch) (reads ch)) ∧
            (∀ b n, c.next = .ready b n → s.stale n = true → n.skipIfStale = true →
              { c with next := .empty }.passedOver ch n c' (events ch) (reads ch)) ∧
            ((∀ b n, c.next ≠ .ready b n) → q.loop = true → s.stale q = true → q.skipIfStale = true →
              c.passedOver ch q c' (events ch) (reads ch))))) ∧
      (c.cut ≠ none → c.state ≠ .idle →
        ((∀ b, c.next ≠ .loading b) → (∀ b n, c.next ≠ .ready b n) →
          (c.cut = some .command ∨ ∀ a q, c.current = .ready a q → q.loop = false) → c'.state = .idle ∧ c'.cut = none ∧
            events ch = [] ∧ reads ch = []) ∧
        (∀ b, c.next = .loading b → (c.cut = some .command ∨ ∀ a q, c.current = .ready a q → q.loop = false) →
          c'.state = c.state ∧ c'.current = .loading b ∧ c'.cut = none ∧ c'.filling = .empty) ∧
        (∀ b n, c.next = .ready b n → (s.stale n = true → n.skipIfStale = false) →
          follows { c with cut := none, current := .ready b n, next := .empty } true b n c' (events ch) (reads ch)) ∧
        (∀ a q, c.cut = some .show_ → c.current = .ready a q → (∀ b n, c.next ≠ .ready b n) → q.loop = true →
          (s.stale q = true → q.skipIfStale = false) → follows { c with cut := none } false a q c' (events ch) (reads ch)) ∧
        (∀ b n, c.next = .ready b n → s.stale n = true → n.skipIfStale = true →
          { c with cut := none, next := .empty }.passedOver ch n c' (events ch) (reads ch)) ∧
        (∀ a q, c.cut = some .show_ → c.current = .ready a q → (∀ b n, c.next ≠ .ready b n) → q.loop = true →
          s.stale q = true → q.skipIfStale = true → { c with cut := none }.passedOver ch q c' (events ch) (reads ch)))

/-- Hush and show notes (R94 to R96): an asserted hush holds every RUNNING and STARTING channel, with the shown mark set for a RUNNING one and everything else as it stands; a deasserted one lets each HELD channel go back to RUNNING, its running slot to run out at the next boundary, or to STARTING; a note that a show is cancelled or removed marks a cut with cause SHOW on each channel whose READY current cue names it, unless a COMMAND cut is pending. -/
def Obligations.HushAndNotesMarkTheChannels : Prop :=
  (∀ (s : State) (rest : List Bool), s.mail.hush = true :: rest → ∃ t : State, exec .hushAsserted s = .next t ∧
    Frame [.reel, .mail] s t ∧ t.mail = { s.mail with hush := rest } ∧
    t.reel = { s.reel with hush := true, channels := t.reel.channels } ∧
    ∀ ch c, s.reel.channels.get ch = c → t.reel.channels.get ch =
      if c.state = .running then { c with state := .held, shownMark := true }
      else if c.state = .starting then { c with state := .held, shownMark := false } else c) ∧
  (∀ (s : State) (rest : List Bool), s.mail.hush = false :: rest → ∃ t : State, exec .hushReleased s = .next t ∧
    Frame [.reel, .mail] s t ∧ t.mail = { s.mail with hush := rest } ∧
    t.reel = { s.reel with hush := false, channels := t.reel.channels } ∧
    ∀ ch c c', s.reel.channels.get ch = c → t.reel.channels.get ch = c' →
      (c.state ≠ .held → c' = c) ∧
      (c.state = .held → c.shownMark = false → c' = { c with state := .starting }) ∧
      (c.state = .held → c.shownMark = true → c'.state = .running ∧ c'.shownMark = false ∧
        c' = { c with state := .running, shownMark := false, periodsLeft := c'.periodsLeft, resume := c'.resume } ∧
        (∀ a q, c.current = .ready a q → c.awaited = false → 0 < c.periodsLeft → c'.periodsLeft = 1 ∧ c'.resume = true) ∧
        (c.awaited = true ∨ c.periodsLeft = 0 ∨ (∀ a q, c.current ≠ .ready a q) →
          c'.periodsLeft = c.periodsLeft ∧ c'.resume = c.resume))) ∧
  ∀ (s : State) (n : ShowNote) (rest : List ShowNote), s.mail.toReel = n :: rest → n.id ≠ 0 →
    ∃ t : State, exec .reelShowChangedNote s = .next t ∧ Frame [.reel, .mail] s t ∧ t.mail = { s.mail with toReel := rest } ∧
      t.reel = { s.reel with channels := t.reel.channels } ∧
      ∀ ch c, s.reel.channels.get ch = c →
        ((n.change.removed = true ∨ n.new = .cancelled) → c.cut ≠ some .command → ∀ a q, c.current = .ready a q → q.show_ = n.id →
          t.reel.channels.get ch = { c with cut := some .show_ }) ∧
        ((n.change.removed = false ∧ n.new ≠ .cancelled) ∨ c.cut = some .command ∨ (∀ a q, c.current = .ready a q → q.show_ ≠ n.id) →
          t.reel.channels.get ch = c)

/-! ### Panes -/

/-- PANE_WRITE (R100 to R102, R188): the word's fields are stored in their ranges, the layout number advances, every item flag is cleared and every item of the new kind marked, a BOARD pane takes its filtered list, page 0 and its dwell, any other an empty list, a REEL pane forgets its module's serial, the fitness is judged afresh (the channel's frame length is that of NotesMarkTheItems, notes/assumptions/25.md) with PANE_UNFIT where the pane becomes UNFIT, and the Notice Unit is told where the pane becomes BANNER, stays so with another minimum priority, or ceases to be. The answer compares the written word alone with the word as it then reads, the model's choice where a BOARD kind raises fields of the other word (notes/assumptions/49.md). -/
def Obligations.PaneWritesStartThePaneAfresh : Prop :=
  ∀ (s : State) (e : Entry) (sc : Fin 32) (p : Fin 4) (second : Bool) (i : Fin 128) (old : Pane) (v : BitVec 32) (m : ModSlot),
    s.entry = some e → e.row = .pane sc p second → i = paneIx sc p → s.comp.panes.get i = old →
    v = s.masked e &&& (if second then 0x3F01FFFF else 0x00070707) → s.slotOf sc = m →
    ∃ (u : State) (x : Pane) (w : BitVec 32), w = BitVec.ofNat 32 (if second then x.rows + 2 ^ 5 * x.lo + 2 ^ 10 * x.hi +
        2 ^ 15 * bit x.includeStarted + 2 ^ 16 * bit x.includeCancelled + 2 ^ 24 * x.dwell
      else x.kind.code + 2 ^ 8 * x.channel.val + 2 ^ 16 * x.minPriority) ∧
      exec .paneWrite s = .next (commit s (u.result e.index w (if w = v then .applied else .clamped))) ∧
      Frame [.intakes, .setup, .comp, .mail] s u ∧ u.intakes = s.takeEntry.intakes ∧ u.setup = s.takeEntry.setup ∧
      u.comp.panes = s.comp.panes.set i x ∧ u.comp.minute = s.comp.minute ∧ x.layout = old.layout + 1 ∧
      (second = false → x.kind.code = min 4 (v.toNat % 8) ∧ x.channel.val = v.toNat / 256 % 8 ∧
        x.minPriority = v.toNat / 65536 % 8 ∧
        (x.kind = .board → x.rows = max 1 old.rows ∧ x.lo = max 1 old.lo ∧ x.hi = max 1 old.hi ∧ x.dwell = max 4 old.dwell) ∧
        (x.kind ≠ .board → x.rows = old.rows ∧ x.lo = old.lo ∧ x.hi = old.hi ∧ x.dwell = old.dwell) ∧
        x.includeStarted = old.includeStarted ∧ x.includeCancelled = old.includeCancelled) ∧
      (second = true → x.kind = old.kind ∧ x.channel = old.channel ∧ x.minPriority = old.minPriority ∧
        x.rows = max 1 (min 16 (v.toNat % 32)) ∧ x.lo = max 1 (min 24 (v.toNat / 32 % 32)) ∧
        x.hi = max 1 (min 24 (v.toNat / 1024 % 32)) ∧ x.includeStarted = v.getLsbD 15 ∧ x.includeCancelled = v.getLsbD 16 ∧
        x.dwell = max 4 (min 60 (v.toNat / 16777216 % 64))) ∧
      (∀ r, x.rowItems.get r = { dirty := decide (x.kind = .board), flight := false }) ∧
      x.item = { dirty := decide (x.kind = .banner ∨ x.kind = .clock), flight := false } ∧
      (x.kind = .board → x.page = 0 ∧ x.timer = x.dwell * 1000 ∧ ∃ pass : Fin 192 → Bool, x.list = s.tracker.board.filter pass ∧
        ∀ j d, s.tracker.entries.get j = d → (pass j = true ↔ x.lo ≤ d.fields.auditorium ∧ d.fields.auditorium ≤ x.hi ∧
          (d.state = .onSale ∨ d.state = .closing ∨ (d.state = .started ∧ x.includeStarted = true) ∨
            (d.state = .cancelled ∧ x.includeCancelled = true)))) ∧
      (x.kind ≠ .board → x.page = 0 ∧ x.timer = 0 ∧ x.list = []) ∧
      ((x.kind = .none ∨ m.state = .absent) → x.fitness = .unjudged) ∧
      (x.kind ≠ .none → m.state ≠ .absent → x.fitness =
        if m.regions ≤ p.val ∨ (x.kind = .reel ∧
          m.maxFrame < (s.reel.channels.get x.channel).frameLength (s.params.rest.get x.channel)) then .unfit else .fit) ∧
      (x.kind ≠ .reel → u.comp.screens = s.comp.screens) ∧
      (x.kind = .reel → ∀ sc' ch, (u.comp.screens.get sc').serials.get ch =
        if sc' = sc ∧ ch = x.channel then none else (s.comp.screens.get sc').serials.get ch) ∧
      u.mail = { s.mail with
        events := s.mail.events ++ if x.fitness = .unfit ∧ old.fitness ≠ .unfit then [.paneUnfit] else []
        bannerReports := s.mail.bannerReports ++
          if x.kind = .banner ∧ (old.kind ≠ .banner ∨ old.minPriority ≠ x.minPriority) then
            [{ screen := sc, pane := p, banner := some x.minPriority }]
          else if x.kind ≠ .banner ∧ old.kind = .banner then [{ screen := sc, pane := p, banner := none }] else [] }

/-- Board panes (R102 to R106): a board-order note, and a show-changed note with STATE, DISPLAY or REMOVED, compute every BOARD pane's filtered list afresh, mark the rows of the current page from the first difference on, and bring a page index at or beyond the new page count to the last page with every row marked; a show-changed note with STATE, START, TITLE or DISPLAY, and a seats-changed note, mark the rows that show the slot; a dwell timer at 0 is reloaded and, with more pages than one, turns the page with every row marked. -/
def Obligations.BoardPanesFollowTheBoard : Prop :=
  ∀ (s : State) (afresh shows : Pane → Pane → Prop) (slot : Fin 192),
    (∀ p p', afresh p p' ↔
      (p.kind ≠ .board → p' = p) ∧
      (p.kind = .board → ∃ (pass : Fin 192 → Bool) (count : Nat),
        (∀ j d, s.tracker.entries.get j = d → (pass j = true ↔ p.lo ≤ d.fields.auditorium ∧ d.fields.auditorium ≤ p.hi ∧
          (d.state = .onSale ∨ d.state = .closing ∨ (d.state = .started ∧ p.includeStarted = true) ∨
            (d.state = .cancelled ∧ p.includeCancelled = true)))) ∧
        count = max 1 ((p'.list.length + p.rows - 1) / p.rows) ∧
        p' = { p with
          list := s.tracker.board.filter pass, page := if p.page < count then p.page else count - 1, rowItems := p'.rowItems } ∧
        ∀ r : Fin 16, ∀ marked, marked = (r.val < p.rows ∧
            (count ≤ p.page ∨ ∃ f ≤ p.page * p.rows + r.val, p.list[f]? ≠ p'.list[f]?)) →
          (marked → p'.rowItems.get r = { p.rowItems.get r with dirty := true }) ∧
          (¬ marked → p'.rowItems.get r = p.rowItems.get r))) →
    (∀ p p', shows p p' ↔ p' = { p with rowItems := p'.rowItems } ∧ ∀ r : Fin 16, p'.rowItems.get r =
      if p.kind = .board ∧ r.val < p.rows ∧ p.list[p.page * p.rows + r.val]? = some slot then
        { p.rowItems.get r with dirty := true } else p.rowItems.get r) →
    (∀ q rest, s.mail.toComp = .board q :: rest → ∃ t : State, exec .boardOrderNote s = .next t ∧ Frame [.comp, .mail] s t ∧
      t.mail = { s.mail with toComp := rest } ∧ t.comp = { s.comp with panes := t.comp.panes } ∧
      ∀ i, afresh (s.comp.panes.get i) (t.comp.panes.get i)) ∧
    (∀ n rest, s.mail.toComp = .note n :: rest → n.slot = slot →
      ∃ t : State, exec .compositionShowChangedNote s = .next t ∧ Frame [.comp, .mail] s t ∧
        t.mail = { s.mail with toComp := rest } ∧ t.comp = { s.comp with panes := t.comp.panes } ∧
        ∀ i, ∃ m : Pane,
          ((n.change.state = true ∨ n.change.display = true ∨ n.change.removed = true) → afresh (s.comp.panes.get i) m) ∧
          (n.change.state = false → n.change.display = false → n.change.removed = false → m = s.comp.panes.get i) ∧
          ((n.change.state = true ∨ n.change.start = true ∨ n.change.title = true ∨ n.change.display = true) →
            shows m (t.comp.panes.get i)) ∧
          (n.change.state = false → n.change.start = false → n.change.title = false → n.change.display = false →
            t.comp.panes.get i = m)) ∧
    (∀ n rest, s.mail.seatsToComp = n :: rest → n.show_ = slot →
      ∃ t : State, exec .compositionSeatsChangedNote s = .next t ∧ Frame [.comp, .mail] s t ∧
        t.mail = { s.mail with seatsToComp := rest } ∧ t.comp = { s.comp with panes := t.comp.panes } ∧
        ∀ i, shows (s.comp.panes.get i) (t.comp.panes.get i)) ∧
    ∀ sc p i x count, i = paneIx sc p → s.comp.panes.get i = x → count = max 1 ((x.list.length + x.rows - 1) / x.rows) →
      ((x.kind ≠ .board ∨ x.timer ≠ 0) → exec (.pageDwellExpiry sc p) s = .next s) ∧
      (x.kind = .board → x.timer = 0 → ∃ (t : State) (x' : Pane), exec (.pageDwellExpiry sc p) s = .next t ∧
        Frame [.comp] s t ∧ t.comp = { s.comp with panes := s.comp.panes.set i x' } ∧
        x' = { x with timer := x.dwell * 1000, page := if x.page + 1 < count then x.page + 1 else 0, rowItems := x'.rowItems } ∧
        (count = 1 → x.page = 0 → x'.rowItems = x.rowItems) ∧
        (1 < count → ∀ r : Fin 16, x'.rowItems.get r =
          if r.val < x.rows then { x.rowItems.get r with dirty := true } else x.rowItems.get r))

/-- Notes of the Notice Unit, the clock and the channels (R98, R101, R111, R113, R114): a LIST note marks the banner items and the alert items under alert of the screens its mask names, every screen for a mask of 0; a BANNER note marks its pane's item while it is BANNER; an ALERT note puts its screen under alert with the alert item marked, or ends the alert with every item of the screen marked, every serial forgotten and the alert item clean; a minute note marks every clock item and sets the minute; a channel note judges the fitness of every REEL pane on its channel, with PANE_UNFIT for each that becomes UNFIT. The length judged is that of the channel's READY current cue, while it is IDLE that of its rest still, 0 where that is none or cannot be read, and else the length shown (read from the spec by inference, notes/assumptions/25.md). -/
def Obligations.NotesMarkTheItems : Prop :=
  (∀ (c : Channel) (rest : RestParams),
    (c.state = .idle → c.frameLength rest =
      if rest.len = 0 ∨ rest.addr = 0 ∨ rest.addr.toNat % 8 ≠ 0 then 0 else min 16384 rest.len) ∧
    (∀ a q, c.state ≠ .idle → c.current = .ready a q → c.frameLength rest = q.length) ∧
    (c.state ≠ .idle → (∀ a q, c.current ≠ .ready a q) → c.frameLength rest = c.shownLen)) ∧
  (∀ (s : State) (m : BitVec 32) (rest : List NoticeNote), s.mail.noticesToComp = .list m :: rest →
    ∃ t : State, exec .listNote s = .next t ∧ Frame [.comp, .mail] s t ∧ t.mail = { s.mail with noticesToComp := rest } ∧
      t.comp.minute = s.comp.minute ∧
      (∀ sc p x, s.comp.panes.get (paneIx sc p) = x → t.comp.panes.get (paneIx sc p) =
        if x.kind = .banner ∧ (m = 0 ∨ m.getLsbD sc.val = true) then { x with item := { x.item with dirty := true } } else x) ∧
      ∀ sc x, s.comp.screens.get sc = x → t.comp.screens.get sc =
        if x.underAlert = true ∧ (m = 0 ∨ m.getLsbD sc.val = true) then { x with alert := { x.alert with dirty := true } } else x) ∧
  (∀ (s : State) (sc : Fin 32) (p : Fin 4) (rest : List NoticeNote) (x : Pane),
    s.mail.noticesToComp = .banner sc p :: rest → s.comp.panes.get (paneIx sc p) = x →
    (x.kind = .banner → exec .bannerNote s = .next (commit s
      ((s.withMail { s.mail with noticesToComp := rest }).withComp { s.comp with
        panes := s.comp.panes.set (paneIx sc p) { x with item := { x.item with dirty := true } } }))) ∧
    (x.kind ≠ .banner → exec .bannerNote s = .next (commit s (s.withMail { s.mail with noticesToComp := rest })))) ∧
  (∀ (s : State) (sc : Fin 32) (selected : Bool) (rest : List NoticeNote) (x : Screen),
    s.mail.noticesToComp = .alert sc selected :: rest → s.comp.screens.get sc = x →
    (selected = true → exec .alertNote s = .next (commit s
      ((s.withMail { s.mail with noticesToComp := rest }).withComp { s.comp with
        screens := s.comp.screens.set sc { x with underAlert := true, alert := { x.alert with dirty := true } } }))) ∧
    (selected = false → x.underAlert = false →
      exec .alertNote s = .next (commit s (s.withMail { s.mail with noticesToComp := rest }))) ∧
    (selected = false → x.underAlert = true → ∃ t : State, exec .alertNote s = .next t ∧ Frame [.comp, .mail] s t ∧
      t.mail = { s.mail with noticesToComp := rest } ∧ t.comp.minute = s.comp.minute ∧
      t.comp.screens = s.comp.screens.set sc
        { underAlert := false, alert := { x.alert with dirty := false }, serials := Table.replicate 8 none } ∧
      ∀ sc' p y, s.comp.panes.get (paneIx sc' p) = y →
        (sc' ≠ sc → t.comp.panes.get (paneIx sc' p) = y) ∧
        (sc' = sc → t.comp.panes.get (paneIx sc' p) =
          match y.kind with
          | .board => { y with rowItems := y.rowItems.map fun z => { z with dirty := true } }
          | .banner | .clock => { y with item := { y.item with dirty := true } }
          | .none | .reel => y))) ∧
  (∀ (s : State) (m : Nat) (rest : List CompMsg), s.mail.toComp = .minute m :: rest →
    ∃ t : State, exec .minuteNoteComposition s = .next t ∧ Frame [.comp, .mail] s t ∧ t.mail = { s.mail with toComp := rest } ∧
      t.comp.minute = m ∧ t.comp.screens = s.comp.screens ∧
      ∀ i x, s.comp.panes.get i = x → t.comp.panes.get i =
        if x.kind = .clock then { x with item := { x.item with dirty := true } } else x) ∧
  ∀ (s : State) (n : ChannelNote) (rest : List ChannelNote) (fit : Fin 128 → Fitness), s.mail.channelNotes = n :: rest →
    (∀ sc p x m, s.comp.panes.get (paneIx sc p) = x → s.slotOf sc = m → fit (paneIx sc p) =
      if x.kind = .none ∨ m.state = .absent then .unjudged
      else if m.regions ≤ p.val ∨ (x.kind = .reel ∧
        m.maxFrame < (s.reel.channels.get x.channel).frameLength (s.params.rest.get x.channel)) then .unfit else .fit) →
    ∃ t : State, exec .channelNote s = .next t ∧ Frame [.comp, .mail] s t ∧ t.comp.minute = s.comp.minute ∧
      t.mail = { s.mail with channelNotes := rest, events := t.mail.events } ∧
      (∀ i x x', s.comp.panes.get i = x → t.comp.panes.get i = x' →
        (¬ (x.kind = .reel ∧ x.channel = n.channel) → x' = x) ∧
        (x.kind = .reel → x.channel = n.channel → x' = { x with fitness := fit i })) ∧
      (∀ sc ch, (t.comp.screens.get sc).serials.get ch =
        if ch = n.channel ∧ ∃ p, (s.comp.panes.get (paneIx sc p)).kind = .reel ∧
          (s.comp.panes.get (paneIx sc p)).channel = n.channel ∧ (s.comp.panes.get (paneIx sc p)).fitness ≠ .fit ∧
          fit (paneIx sc p) = .fit then none else (s.comp.screens.get sc).serials.get ch) ∧
      t.mail.events = s.mail.events ++ List.replicate
        ((allFin 128).countP fun i => decide ((s.comp.panes.get i).kind = .reel ∧ (s.comp.panes.get i).channel = n.channel ∧
          (s.comp.panes.get i).fitness ≠ .unfit ∧ fit i = .unfit)) .paneUnfit

/-- MODULE_REPORT and ACCEPTANCE_SETTLEMENT (R101, R110, R112, R115): a LOST or ABSENT slot's screen has every item dirty and out of flight and every serial forgotten, a READY one every item dirty, every serial forgotten and every pane judged by the module information that the report brings (notes/assumptions/52.md; the channel's frame length is that of NotesMarkTheItems, notes/assumptions/25.md), a LIVE one changes nothing, and an ABSENT one leaves every pane UNJUDGED; and each pane that becomes UNFIT raises PANE_UNFIT (R101); each row, banner, clock and alert car of a train settles the item of each module it names, clean of flight and dirty where it was dirty or not accepted, unless its layout number is no longer the pane's; a frame car leaves its serial with every module that accepted it and is not ABSENT as the settlement is taken (the model's choice, notes/assumptions/57.md). -/
def Obligations.ReportsAndReturnsSettleTheItems : Prop :=
  (∀ (s : State) (r : ModuleReport) (rest : List ModuleReport) (sc : Fin 32), s.mail.moduleReports = r :: rest →
    sc = ringScreen r.ring r.position → ∀ fit : Fin 4 → Pane → Fitness,
    (∀ p x, fit p x = match r.state, r.info with
      | .ready, some m =>
        if x.kind = .none then .unjudged
        else if m.regions ≤ p.val ∨ (x.kind = .reel ∧
          m.maxFrame < (s.reel.channels.get x.channel).frameLength (s.params.rest.get x.channel)) then .unfit else .fit
      | _, _ => .unjudged) →
    (r.state = .live → exec .moduleReport s = .next (commit s (s.withMail { s.mail with moduleReports := rest }))) ∧
    (r.state ≠ .live → ∃ t : State, exec .moduleReport s = .next t ∧ Frame [.comp, .mail] s t ∧ t.comp.minute = s.comp.minute ∧
      t.mail = { s.mail with
        moduleReports := rest
        events := s.mail.events ++ List.replicate
          ((allFin 4).countP fun p => decide (r.state ≠ .lost ∧ (s.comp.panes.get (paneIx sc p)).fitness ≠ .unfit ∧
            fit p (s.comp.panes.get (paneIx sc p)) = .unfit)) .paneUnfit } ∧
      (∀ sc', sc' ≠ sc → t.comp.screens.get sc' = s.comp.screens.get sc' ∧
        ∀ p, t.comp.panes.get (paneIx sc' p) = s.comp.panes.get (paneIx sc' p)) ∧
      (t.comp.screens.get sc).serials = Table.replicate 8 none ∧
      (t.comp.screens.get sc).underAlert = (s.comp.screens.get sc).underAlert ∧
      (t.comp.screens.get sc).alert =
        { dirty := true, flight := decide (r.state = .ready) && (s.comp.screens.get sc).alert.flight } ∧
      ∀ p x x', s.comp.panes.get (paneIx sc p) = x → t.comp.panes.get (paneIx sc p) = x' →
        x' = { x with rowItems := x'.rowItems, item := x'.item, fitness := x'.fitness } ∧
        (r.state = .lost → x'.fitness = x.fitness) ∧ (r.state ≠ .lost → x'.fitness = fit p x) ∧
        (x.kind = .board → ∀ k, x'.rowItems.get k =
          { dirty := true, flight := decide (r.state = .ready) && (x.rowItems.get k).flight }) ∧
        (x.kind = .banner ∨ x.kind = .clock → x'.item =
          { dirty := true, flight := decide (r.state = .ready) && x.item.flight }))) ∧
  ∀ (s : State) (ring : Fin 4) (cars : List (Car × BitVec 8)) (rest : List Settlement),
    s.mail.settlements = { ring := ring, cars := cars } :: rest → ∃ q : Comp,
      exec .acceptanceSettlement s = .next (commit s ((s.withMail { s.mail with settlements := rest }).withComp q)) ∧
      q.minute = s.comp.minute ∧ ∀ (sc : Fin 32) (k : Fin 8) (own : List (Car × BitVec 8)),
        k.val = sc.val % 8 → own = (if screenRing sc = ring then cars.filter fun c => c.1.dest.getLsbD k.val else []) →
        (∀ p x y, s.comp.panes.get (paneIx sc p) = x → q.panes.get (paneIx sc p) = y →
          y = { x with
            rowItems := y.rowItems
            item := x.item.settled (own.filter fun c =>
              decide ((c.1.kind = .banner ∨ c.1.kind = .clock) ∧ c.1.pane = p ∧ c.1.layout = x.layout)) k } ∧
          ∀ row, y.rowItems.get row = (x.rowItems.get row).settled (own.filter fun c =>
            decide (c.1.kind = .row ∧ c.1.pane = p ∧ c.1.row = row ∧ c.1.layout = x.layout)) k) ∧
        ∀ x y, s.comp.screens.get sc = x → q.screens.get sc = y → y.underAlert = x.underAlert ∧
          y.alert = x.alert.settled (own.filter fun c => decide (c.1.kind = .alert)) k ∧
          ∀ ch frames, frames = (own.filter fun c =>
              decide (c.1.kind = .frame ∧ c.1.channel = ch ∧ (s.slotOf sc).state ≠ .absent) && c.2.getLsbD k.val) →
            (frames = [] → y.serials.get ch = x.serials.get ch) ∧
            ∀ c, frames.getLast? = some c → y.serials.get ch = some (BitVec.ofNat 16 (le16At c.1.payload 2))

/-! ### Rings -/

/-- Coming up and going down (R118 to R123): the enable set takes an OFF ring to LOCKING and the enable cleared takes a ring to OFF; LOCKING clears the slots with an ABSENT report each and loads the lock timer; a lock indication taken in LOCKING sends an ENUM train, eight blank cars in 148 bytes; the lock timer at 0 takes the ring to FAULT with RING_FAULT; the restart timer at 0, or a RING_RESTART of an enabled ring, takes it to LOCKING; auto-restart written starts and stops the restart timer of a ring in FAULT; a query ends LOST where the ring restarts, goes off or faults. A shift countdown that runs stays through LOCKING, and a fault keeps the slots' counts of cars not accepted (read from the spec's silence, notes/assumptions/38.md). The reports of one event go out in position order (the model's choice, notes/assumptions/55.md). The result of a RING_RESTART reports the argument whole (the model's choice, notes/assumptions/51.md). A parameter is clamped as a whole value (read from the spec by inference, notes/assumptions/21.md). -/
def Obligations.RingsComeUpAndGoDown : Prop :=
  ∀ (s : State) (n : Fin 4) (r : Ring) (p : RingParams) (report : (ModSlot → Bool) → ModState → List ModuleReport)
      (locking cleared ended : Ring → Prop) (done : List EventKind),
    s.rings.get n = r → s.params.ring.get n = p →
    (∀ test st, report test st = ((allFin 8).filter fun k => test (r.slots.get k)).map fun k =>
      { ring := n, position := k, state := st, info := none }) →
    (∀ r', cleared r' ↔ ∀ k, r'.slots.get k =
      if (r.slots.get k).state = .absent then r.slots.get k else ModSlot.reset) →
    (∀ r', locking r' ↔ cleared r' ∧ r' = { r with
      state := .locking, errors := 0, period := 0, lockTimer := some p.lockLimit, restartTimer := none, flight := none
      returnTimer := none, slots := r'.slots, query := r'.query, result := r'.result }) →
    (∀ r', ended r' ↔ if r.query.state = .empty then r'.query = r.query ∧ r'.result = r.result else
      r'.query = Query.reset ∧ r'.result =
        { outcome := .lost, isSet := r.query.isSet, screen := 8 * n.val + r.query.position.val, item := r.query.item,
          value := if r.query.isSet then r.query.value else 0, answer := 0, trains := r.query.trains
          count := r.result.count + 1 }) →
    done = (if r.query.state = .empty then [] else [.queryDone]) →
    (∀ e v, s.entry = some e → e.row = .ringEnable n → v = (s.masked e).toNat →
      (v ≠ 0 → p.enable = false → r.state = .off → ∃ (u : State) (r' : Ring),
        exec .ringEnableWrite s = .next (commit s (u.result e.index 1 (if v = 1 then .applied else .clamped))) ∧
        Frame [.intakes, .setup, .params, .rings, .mail] s u ∧ u.intakes = s.takeEntry.intakes ∧ u.setup = s.takeEntry.setup ∧
        u.params = { s.params with ring := s.params.ring.set n { p with enable := true } } ∧ u.rings = s.rings.set n r' ∧
        locking r' ∧ r'.query = r.query ∧ r'.result = r.result ∧ u.mail = { s.mail with
          moduleReports := s.mail.moduleReports ++ report (fun m => decide (m.state ≠ .absent)) .absent }) ∧
      (v = 0 → p.enable = true → ∃ (u : State) (r' : Ring),
        exec .ringEnableWrite s = .next (commit s (u.result e.index 0 .applied)) ∧
        Frame [.intakes, .setup, .params, .rings, .mail] s u ∧
        u.params = { s.params with ring := s.params.ring.set n { p with enable := false } } ∧ u.rings = s.rings.set n r' ∧
        r' = { r with
          state := .off, flight := none, returnTimer := none, lockTimer := none, restartTimer := none, shift := none
          errors := 0, last := .none, slots := r'.slots, query := r'.query, result := r'.result } ∧
        cleared r' ∧ ended r' ∧ u.mail = { s.mail with
          events := s.mail.events ++ done
          moduleReports := s.mail.moduleReports ++ report (fun m => decide (m.state ≠ .absent)) .absent }) ∧
      ((v ≠ 0 ∧ p.enable = true) ∨ (v = 0 ∧ p.enable = false) →
        exec .ringEnableWrite s = .next (commit s
          (s.takeEntry.result e.index (if v = 0 then 0 else 1) (if v ≤ 1 then .applied else .clamped))))) ∧
    (trainSize (List.replicate 8 enumCar) = 148 ∧
      (r.state = .locking → exec (.lockIndication n) s = .next (commit s (s.withRings (s.rings.set n { r with
        state := .enumerating, lockTimer := none, seq := r.seq + 1
        flight := some { seq := r.seq, cars := List.replicate 8 enumCar, check := p.check, marker := p.marker }
        returnTimer := some (if s.params.period ≤ p.returnLimit then s.params.period - 1 else p.returnLimit) })))) ∧
      (r.state ≠ .locking → exec (.lockIndication n) s = .next s)) ∧
    ((r.state = .locking → r.lockTimer = some 0 → ∃ (t : State) (r' : Ring), exec (.lockTimerExpiry n) s = .next t ∧
        Frame [.rings, .mail] s t ∧ t.rings = s.rings.set n r' ∧ ended r' ∧ r' = { r with
          state := .fault, shift := none, returnTimer := none, lockTimer := none, slots := r'.slots, query := r'.query
          result := r'.result, restartTimer := if p.autoRestart then some (p.restartDelay * 1000) else none } ∧
        (∀ k m, r.slots.get k = m → r'.slots.get k =
          if m.state = .ready ∨ m.state = .live then { m with state := .lost } else m) ∧
        t.mail = { s.mail with
          events := s.mail.events ++ .ringFault :: done
          moduleReports := s.mail.moduleReports ++ report (fun m => decide (m.state = .ready ∨ m.state = .live)) .lost }) ∧
      (r.state ≠ .locking ∨ r.lockTimer ≠ some 0 → exec (.lockTimerExpiry n) s = .next s)) ∧
    ((r.state = .fault → r.restartTimer = some 0 → ∃ (t : State) (r' : Ring), exec (.restartTimerExpiry n) s = .next t ∧
        Frame [.rings, .mail] s t ∧ t.rings = s.rings.set n r' ∧ locking r' ∧ r'.query = r.query ∧ r'.result = r.result ∧
        t.mail = { s.mail with
          moduleReports := s.mail.moduleReports ++ report (fun m => decide (m.state ≠ .absent)) .absent }) ∧
      (r.state ≠ .fault ∨ r.restartTimer ≠ some 0 → exec (.restartTimerExpiry n) s = .next s)) ∧
    (∀ e v, s.entry = some e → e.row = .autoRestart n → v = (s.masked e).toNat →
      ∀ timer, timer = (if r.state = .fault ∧ v ≠ 0 ∧ p.autoRestart = false then some (p.restartDelay * 1000)
        else if r.state = .fault ∧ v = 0 ∧ p.autoRestart = true then none else r.restartTimer) →
      exec .autoRestartWrite s = .next (commit s
        (((s.takeEntry.withParams { s.params with
            ring := s.params.ring.set n { p with autoRestart := decide (v ≠ 0) } }).withRings
          (s.rings.set n { r with restartTimer := timer })).result e.index (if v = 0 then 0 else 1)
            (if v ≤ 1 then .applied else .clamped)))) ∧
    ∀ e, s.entry = some e → e.row = .ringRestart → n.val = e.argument.toNat % 4 →
      (p.enable = false → exec .ringRestart s = .next (commit s (s.takeEntry.result e.index e.argument .applied))) ∧
      (p.enable = true → ∃ (u : State) (r' : Ring),
        exec .ringRestart s = .next (commit s (u.result e.index e.argument .applied)) ∧
        Frame [.intakes, .setup, .rings, .mail] s u ∧ u.intakes = s.takeEntry.intakes ∧ u.setup = s.takeEntry.setup ∧
        u.rings = s.rings.set n r' ∧ locking r' ∧ ended r' ∧ u.mail = { s.mail with
          events := s.mail.events ++ done
          moduleReports := s.mail.moduleReports ++ report (fun m => decide (m.state ≠ .absent)) .absent })

/-- RING_UNSHIFTED_BOUNDARY and RING_BOUNDARY (R107, R112, R124 to R129, R131, R142, R143, R146, R190, R191): an unshifted boundary loads the shift in use, or with a shift of 0 is the ring's own boundary, as is the end of the shift countdown; one that is not due changes nothing. There a ring with a train in flight counts a skipped boundary, an ENUMERATING one sends an ENUM train, and a RUNNING one counts the period, marks the LOST slots whose probe is due, judges the request for timeout and sends one train: each candidate car in its turn that fits in the space left; the item of each car that entered is built, the pointers move to the last channel and screen that entered, and a frame passed over advances the skip count of each slot it names. What each car and the train's header carry, and that the train ends in its check over header and cars (R126, R133), is stated last; an alert car with no notice selected is the empty form (the model's choice, notes/assumptions/46.md). That the count of trains a query has ridden stays at 65,535 once there is the model's reading: R145 gives its range alone (read from the spec by inference, notes/assumptions/38.md). -/
def Obligations.RingsSendOneTrainAtATime : Prop :=
  (∀ (s : State) (n : Fin 4) (r : Ring) (p : RingParams) (base : State),
    s.rings.get n = r → s.params.ring.get n = p →
    base = s.withTime { s.time with dueRing := s.time.dueRing.set n (s.time.dueRing.get n - 1) } →
    (s.time.dueRing.get n = 0 → exec (.ringUnshiftedBoundary n) s = .next s) ∧
    (0 < s.time.dueRing.get n → r.state = .off ∨ r.state = .fault →
      exec (.ringUnshiftedBoundary n) s = .next (commit s base)) ∧
    (∀ shift, 0 < s.time.dueRing.get n → r.state = .locking ∨ r.state = .enumerating ∨ r.state = .running →
      shift = (if s.time.inUse ≤ p.shift then s.time.inUse - 1 else p.shift) →
      (0 < shift → exec (.ringUnshiftedBoundary n) s = .next (commit s
        (base.withRings (s.rings.set n { r with shift := some shift })))) ∧
      (shift = 0 → ∃ t : State, exec (.ringUnshiftedBoundary n) s = .next t ∧
        AtBoundary s t base n p { r with shift := none })) ∧
    (r.shift ≠ some 0 → exec (.ringBoundary n) s = .next s) ∧
    (r.shift = some 0 → ∃ t : State, exec (.ringBoundary n) s = .next t ∧ AtBoundary s t s n p { r with shift := none })) ∧
  (∀ (s : State) (n : Fin 4) (q : Ring) (budget : Nat) (cars : List Car), cars = fitting (budget - 20) (candidates s n q) →
    (20 ≤ budget → trainSize cars ≤ budget) ∧ (cars.Pairwise fun a b => a.kind.code ≤ b.kind.code) ∧
    (candidates s n q = [] → cars = [] ∧ trainSize cars = 20)) ∧
  (∀ (s : State) (sc : Fin 32) (no : Fin 4) (i : Fin 128) (x : Pane) (row : Fin 16) (mask : BitVec 8) (c : Car) (b : List Byte),
    i = paneIx sc no → s.comp.panes.get i = x → mask = 1#8 <<< (sc.val % 8) → s.rowCar s.comp i row = c →
    c = { kind := .row, dest := mask, pane := no, row := row, channel := 0, layout := x.layout, payload := b } ∧
    (x.list[x.page * x.rows + row.val]? = none → b = BitVec.ofNat 8 (row.val + 128) :: List.replicate 63 0) ∧
    (∀ slot e g, x.list[x.page * x.rows + row.val]? = some slot → s.tracker.entries.get slot = e → e.title.length ≤ 48 →
      g = (if e.fields.hideSeats = true ∨ (s.showFigure slot).band = .none then Figure.none else s.showFigure slot) →
      b.length = 64 ∧ byteAt b 0 = row.val ∧ byteAt b 1 = (if g.plus then 1 else 0) + 4 * e.fields.marks.toNat ∧
      byteAt b 2 = slot.val ∧ byteAt b 3 = e.state.code + 16 * g.band.code ∧ le16At b 4 = e.id % 65536 ∧
      byteAt b 6 = e.fields.auditorium % 256 ∧ b.getD 7 0 = e.fields.rating ∧ le16At b 8 = g.shown % 65536 ∧
      le16At b 10 = e.effStart % 65536 ∧ le16At b 12 = e.fields.run % 65536 ∧ byteAt b 14 = e.delay % 256 ∧
      byteAt b 15 = e.title.length ∧ b.drop 16 = e.title ++ List.replicate (48 - e.title.length) 0) ∧
    CarriesNotice s (s.notices.rotations.get i).current (s.bannerCar s.comp i).payload ∧
    CarriesNotice s (s.notices.alerts.get sc) (s.alertCar sc).payload ∧
    s.bannerCar s.comp i = { kind := .banner, dest := mask, pane := no, row := 0, channel := 0, layout := x.layout, payload := (s.bannerCar s.comp i).payload } ∧
    s.alertCar sc = { kind := .alert, dest := mask, pane := 0, row := 0, channel := 0, layout := 0, payload := (s.alertCar sc).payload } ∧
    clockCar s.comp i = { kind := .clock, dest := mask, pane := no, row := 0, channel := 0, layout := x.layout, payload := (clockCar s.comp i).payload } ∧
    (clockCar s.comp i).payload.length = 8 ∧ le16At (clockCar s.comp i).payload 0 = s.comp.minute % 65536 ∧
    (clockCar s.comp i).payload.drop 2 = List.replicate 6 0) ∧
  (∀ (s : State) (ch : Fin 8) (ks : List (Fin 8)) (c : Channel) (car : Car), s.reel.channels.get ch = c → s.frameCar ch ks = car →
    car.kind = .frame ∧ car.channel = ch ∧ (∀ k : Fin 8, car.dest.getLsbD k.val = decide (k ∈ ks)) ∧
    car.payload.length = 8 + min c.shownLen c.shownBuf.length ∧ byteAt car.payload 0 = ch.val ∧
    byteAt car.payload 1 = c.shownKind.code ∧ le16At car.payload 2 = c.serial.toNat ∧
    le16At car.payload 4 = c.shownLen % 65536 ∧ le16At car.payload 6 = 0 ∧ car.payload.drop 8 = c.shownBuf.take c.shownLen) ∧
  (∀ q : Query, q.car.kind = (if q.isSet then .set else .query) ∧ q.car.dest = 1#8 <<< q.position.val ∧
    q.car.payload.length = 8 ∧ byteAt q.car.payload 0 = q.item.toNat ∧
    le32At q.car.payload 4 = if q.isSet then q.value.toNat else 0) ∧
  (∀ k, probeCar k = { kind := .probe, dest := 1#8 <<< k.val, pane := 0, row := 0, channel := 0, layout := 0, payload := [] }) ∧
  ∀ (n : Fin 4) (f : Flight) (c : Car), c.bytes.length = c.size ∧ c.size = 8 + c.payload.length ∧
    c.bytes.take 6 = [BitVec.ofNat 8 c.kind.code, c.dest, 0,
      if c.kind = .frame then BitVec.ofNat 8 c.channel.val else BitVec.ofNat 8 (c.row.val + 16 * c.pane.val), c.layout, 0] ∧
    le16At c.bytes 6 = c.payload.length % 65536 ∧ c.bytes.drop 8 = c.payload ∧
    (f.bytes n).length = trainSize f.cars ∧ ((f.bytes n).drop 16).take ((f.cars.map Car.size).sum) = f.cars.flatMap Car.bytes ∧
    byteAt (f.bytes n) 0 = n.val ∧ byteAt (f.bytes n) 1 = f.check.code ∧ le16At (f.bytes n) 2 = f.seq.toNat ∧
    le32At (f.bytes n) 4 = trainSize f.cars % 4294967296 ∧ le16At (f.bytes n) 8 = f.cars.length % 65536 ∧
    byteAt (f.bytes n) 10 = 0 ∧
    (f.bytes n).drop (16 + (f.cars.map Car.size).sum) =
      checkField f.check f.marker ((f.bytes n).take (16 + (f.cars.map Car.size).sum))

/-- TRAIN_RETURN and RETURN_TIMER_EXPIRY (R121, R131 to R135, R139 to R141, R144, R147, R148): without a train in flight, or with another sequence, a return is discarded, and so is one under four bytes (the model's choice, notes/assumptions/27.md); a return is GOOD when its length, its header's size and car count and its check agree with the train sent, else CHECK_FAIL; the check field is four bytes, least significant first, of the marker, or of the CRC16 or CRC32 of R133's table over header and cars; a GOOD ENUM return fills each slot whose car was claimed, with a READY report that carries its module information, and makes the ring RUNNING; a GOOD regular one clears the error count and settles its cars with their accept masks, the content cars handed to the Composition Unit; a failed or missing one counts an error and settles a regular train's cars as not accepted, and at the fault limit the ring goes to FAULT, whose slots keep their counts of cars not accepted (read from the spec's silence, notes/assumptions/38.md). LIVE is judged before loss (the model's choice, notes/assumptions/48.md), each takes the slots in position order, and rejoining comes last (another, notes/assumptions/55.md). -/
def Obligations.ReturnsAreJudgedAndSettled : Prop :=
  ∀ (s : State) (n : Fin 4) (r : Ring) (p : RingParams) (bs : List Byte) (failed : TrainOutcome → EventKind → Flight → State → Prop)
      (sent : List ReturnedCar → List Settlement),
    s.rings.get n = r → s.params.ring.get n = p →
    (∀ cars, sent cars = [{ ring := n, cars := (cars.filter fun c =>
      decide (c.car.kind ≠ .query ∧ c.car.kind ≠ .set ∧ c.car.kind ≠ .probe ∧ c.car.kind ≠ .enum)).map fun c =>
        (c.car, c.accept) }]) →
    (∀ o kind f t, failed o kind f t ↔ Frame [.rings, .mail] s t ∧ ∃ r0 r1 r' events reports more leaving,
      r0 = { r with flight := none, returnTimer := none, last := o, errors := min (r.errors + 1) 255 } ∧
      (r.state = .enumerating → r1 = r0 ∧ events = [] ∧ reports = []) ∧
      (r.state = .running → Settles s n p f.notAccepted r0 r1 events reports) ∧
      (r0.errors < p.faultLimit → r' = r1 ∧ more = [] ∧ leaving = []) ∧
      (p.faultLimit ≤ r0.errors → Faults n p r1 r' more leaving) ∧ t.rings = s.rings.set n r' ∧
      t.mail = { s.mail with
        events := s.mail.events ++ kind :: (events ++ more), moduleReports := s.mail.moduleReports ++ (reports ++ leaving)
        settlements := s.mail.settlements ++ if r.state = .enumerating then [] else sent f.notAccepted }) →
    (∀ type marker body, (checkField type marker body).length = 4 ∧
      le32At (checkField type marker body) 0 = checkValue type marker body) ∧
    (∀ f : Flight, f.good bs = true ↔ bs.length = trainSize f.cars ∧ le32At bs 4 = trainSize f.cars ∧ le16At bs 8 = f.cars.length ∧
      checkField f.check f.marker (bs.take (bs.length - 4)) = bs.drop (bs.length - 4)) ∧
    (∀ (f : Flight) (c : ReturnedCar), (c ∈ f.notAccepted ↔ c.car ∈ f.cars ∧ c.accept = 0 ∧ c.claimed = false ∧
      c.payload = c.car.payload) ∧ f.notAccepted.map ReturnedCar.car = f.cars) ∧
    (∀ (f : Flight) (done : List Car) (car : Car) (rest : List Car) (at_ : Nat), f.cars = done ++ car :: rest →
      at_ = 16 + (done.map Car.size).sum → (f.returned bs)[done.length]? = some
        { car := car, accept := bs.getD (at_ + 2) 0, claimed := (bs.getD (at_ + 5) 0).getLsbD 0
          payload := (bs.drop (at_ + 8)).take car.payload.length }) ∧
    (r.flight = none → exec (.trainReturn n bs) s = .next s ∧ exec (.returnTimerExpiry n) s = .next s) ∧
    (bs.length < 4 → exec (.trainReturn n bs) s = .next s) ∧
    ∀ f, r.flight = some f →
      (BitVec.ofNat 16 (le16At bs 2) ≠ f.seq → exec (.trainReturn n bs) s = .next s) ∧
      (r.returnTimer ≠ some 0 → exec (.returnTimerExpiry n) s = .next s) ∧
      (4 ≤ bs.length → BitVec.ofNat 16 (le16At bs 2) = f.seq → f.good bs = false → r.state = .enumerating ∨ r.state = .running →
        ∃ t : State, exec (.trainReturn n bs) s = .next t ∧ failed .checkFail .checkFail f t) ∧
      (r.returnTimer = some 0 → r.state = .enumerating ∨ r.state = .running →
        ∃ t : State, exec (.returnTimerExpiry n) s = .next t ∧ failed .missing .trainMissing f t) ∧
      (BitVec.ofNat 16 (le16At bs 2) = f.seq → f.good bs = true → r.state = .enumerating →
        ∃ (t : State) (r' : Ring), exec (.trainReturn n bs) s = .next t ∧ Frame [.rings, .mail] s t ∧ t.rings = s.rings.set n r' ∧
          r' = { r with flight := none, returnTimer := none, last := .good, errors := 0, state := .running, slots := r'.slots } ∧
          t.mail = { s.mail with
            events := s.mail.events ++ if (bs.getD 10 0).getLsbD 0 then [.excessModules] else []
            moduleReports := s.mail.moduleReports ++
              (allFin 8).flatMap fun k => (((f.returned bs)[k.val]?).filter fun c => c.claimed).toList.map fun c =>
                { ring := n, position := k, state := .ready
                  info := some { type := c.payload.getD 0 0, regions := min 4 (byteAt c.payload 1)
                                 maxFrame := min 16384 (le16At c.payload 2)
                                 firmware := BitVec.ofNat 16 (le16At c.payload 4) } } } ∧
          (∀ k, (f.returned bs)[k.val]? = none → r'.slots.get k = r.slots.get k) ∧
          ∀ k c, (f.returned bs)[k.val]? = some c →
            (c.claimed = false → r'.slots.get k = r.slots.get k) ∧
            (c.claimed = true → r'.slots.get k =
                { state := .ready, type := c.payload.getD 0 0, regions := min 4 (byteAt c.payload 1)
                  maxFrame := min 16384 (le16At c.payload 2), firmware := BitVec.ofNat 16 (le16At c.payload 4), missed := 0
                  frameSkips := 0, lossPeriod := 0, probePending := false })) ∧
      (BitVec.ofNat 16 (le16At bs 2) = f.seq → f.good bs = true → r.state = .running →
        ∃ (t : State) (r' : Ring) (events : List EventKind) (reports : List ModuleReport),
          exec (.trainReturn n bs) s = .next t ∧ Frame [.rings, .mail] s t ∧ t.rings = s.rings.set n r' ∧
          Settles s n p (f.returned bs) { r with flight := none, returnTimer := none, last := .good, errors := 0 } r' events
            reports ∧
          t.mail = { s.mail with
            events := s.mail.events ++ events, moduleReports := s.mail.moduleReports ++ reports
            settlements := s.mail.settlements ++ sent (f.returned bs) })

/-- MODULE_QUERY and MODULE_SET (R145, R171, R188): the screen and item come from the argument; a ring whose query slot is taken answers BUSY, one whose module is not READY or LIVE answers REFUSED with SETUP_REFUSED, and else the slot takes the request, the set value as stored with a SET, and WAITS with the ring's period count as its start and no train carried. The result reports the argument whole (the model's choice, notes/assumptions/51.md). -/
def Obligations.RequestsTakeTheQuerySlot : Prop :=
  ∀ (s : State) (e : Entry) (isSet : Bool) (c : Instr) (n : Fin 4) (k : Fin 8) (r : Ring), s.entry = some e →
    (e.row = if isSet then .moduleSet else .moduleQuery) → c = (if isSet then .moduleSet else .moduleQuery) →
    n.val = e.argument.toNat % 32 / 8 → k.val = e.argument.toNat % 8 → s.rings.get n = r →
    (r.query.state ≠ .empty → exec c s = .next (commit s (s.takeEntry.result e.index e.argument .busy))) ∧
    (r.query.state = .empty → (r.slots.get k).state ≠ .ready → (r.slots.get k).state ≠ .live →
      exec c s = .next (commit s
        ((s.takeEntry.withMail { s.mail with events := s.mail.events ++ [.setupRefused] }).result e.index e.argument .refused))) ∧
    (r.query.state = .empty → (r.slots.get k).state = .ready ∨ (r.slots.get k).state = .live →
      exec c s = .next (commit s
        ((s.takeEntry.withRings (s.rings.set n { r with
          query := { state := .waiting, isSet := isSet, position := k, item := e.argument.extractLsb' 8 4
                     value := if isSet then s.params.setValue else 0, start := r.period, trains := 0 } })).result
          e.index e.argument .accepted)))

/-! ### The Through Path, the Setup Decoder and the Event Unit -/

/-- PORT_GRANT (R158, R159): passing traffic takes three grants in every four while both wait; the share count rises only with a passing grant made while an agent request waited and returns to 0 with every other grant; an agent grant goes to the first class after the last one served whose queue holds a request, and to the oldest of it; with nothing to grant nothing changes; the resets leave a share of 0 and WRITEBACK as the class last served. A passing head is eligible when each intake its beats go to has room (R150), and the port is not ready while 32 requests are unanswered (R151). A passing grant lets the oldest request held back join the queue (R149); the list held back is the model's (notes/assumptions/30.md). -/
def Obligations.PortGrantsShareThePort : Prop :=
  ∀ (s : State) (eligible waiting : Prop),
    (eligible ↔ ∃ r q, s.path.queue = r :: q ∧ ∀ bs, bs = s.path.windows.place r →
      (beatsTo .setup bs = 0 ∨ s.intakes.setup.length + beatsTo .setup bs ≤ 4) ∧
      (beatsTo .shows bs = 0 ∨ s.intakes.shows.length + beatsTo .shows bs ≤ 8) ∧
      (beatsTo .seat bs = 0 ∨ s.intakes.seat.length + beatsTo .seat bs ≤ 8)) →
    (waiting ↔ s.path.frameQ ≠ [] ∨ s.path.recordQ ≠ [] ∨ s.path.sweepQ ≠ [] ∨ s.path.writebackQ ≠ []) →
    (32 ≤ s.path.responses.length → exec .portGrant s = .next s) ∧
    (s.path.responses.length < 32 →
      (¬ eligible → ¬ waiting → exec .portGrant s = .next s) ∧
      (∀ share, eligible → ((¬ waiting ∧ share = 0) ∨ (waiting ∧ s.path.share < 3 ∧ share = s.path.share + 1)) →
        ∃ t : State, exec .portGrant s = .next t ∧ Frame [.port, .intakes, .mail] s t ∧ t.path.share = share ∧
          t.path.lastClass = s.path.lastClass ∧ t.path.queue = s.path.queue.tail ++ s.path.held.take 1 ∧
          t.path.held = s.path.held.drop 1 ∧ ∀ r, s.path.queue.head? = some r →
            t.path.responses = s.path.responses ++
              [{ source := .passing r.tag (((s.path.windows.place r).filter fun b => decide (b.cls = .seat)).map PlacedBeat.addr)
                 write := r.write, beats := r.beats, grant := s.path.grants }]) ∧
      (waiting → (¬ eligible ∨ 3 ≤ s.path.share) →
        ∀ (order : List AgentClass) (before after : List AgentClass) (c : AgentClass) (r : AgentReq) (rest : List AgentReq),
          order = (match s.path.lastClass with
            | .frame => [.record, .sweep, .writeback, .frame]
            | .record => [.sweep, .writeback, .frame, .record]
            | .sweep => [.writeback, .frame, .record, .sweep]
            | .writeback => [.frame, .record, .sweep, .writeback]) →
          order = before ++ c :: after → (∀ d ∈ before, s.path.classQueue d = []) → s.path.classQueue c = r :: rest → r.cls = c →
          exec .portGrant s = .next (commit s (s.withPath { s.path with
            frameQ := if c = .frame then rest else s.path.frameQ
            recordQ := if c = .record then rest else s.path.recordQ
            sweepQ := if c = .sweep then rest else s.path.sweepQ
            writebackQ := if c = .writeback then rest else s.path.writebackQ
            responses := s.path.responses ++
              [{ source := .agent r.tag false, write := r.write, beats := r.beats, grant := s.path.grants }]
            grants := s.path.grants + 1
            downPort := some { write := r.write, addr := r.addr, beats := r.beats, data := r.data }
            share := 0, lastClass := c })))) ∧
    (∀ strap, ∃ t : State, exec (.pinReset strap) s = .next t ∧ t.path.share = 0 ∧ t.path.lastClass = .writeback) ∧
    ∀ e, s.entry = some e → e.row = .softReset →
      ∃ t : State, exec .softReset s = .next t ∧ t.path.share = 0 ∧ t.path.lastClass = .writeback

/-- PASSING_REQUEST, the passing side of PORT_GRANT, and DOWNSTREAM_RESPONSE (R53, R149, R151, R154 to R156, R160, R161): a request joins the queue's tail, or is held back while 16 wait (the list held back is the model's, notes/assumptions/30.md); at its grant each beat of a WRITE is classified on its own, a guarded beat goes out with no byte enabled and raises GUARD_HIT if it had one, and watched beats join their owners' intakes in order, the enabled bytes of the producer word those of the value not yet taken, and the seat beats are kept with the request; a READ goes out as it is. Responses to requests granted before a pin reset are counted and discarded (the model's choice, notes/assumptions/12.md); any other response matches the oldest unanswered request: a passing one goes upstream with its tag, and with an error after seat beats to the Seat Tally Unit, a voided one is discarded, and an agent one goes to its block, an error raising MEM_ERROR. -/
def Obligations.RequestsPassAndResponsesReturn : Prop :=
  (∀ (s : State) (r : PassReq), r.addr.toNat % 8 = 0 → 1 ≤ r.beats → r.beats ≤ 8 →
    r.data.length = (if r.write then r.beats else 0) →
    (s.path.queue.length < 16 →
      exec (.passingRequest r) s = .next (commit s (s.withPath { s.path with queue := s.path.queue ++ [r] }))) ∧
    (16 ≤ s.path.queue.length →
      exec (.passingRequest r) s = .next (commit s (s.withPath { s.path with held := s.path.held ++ [r] })))) ∧
  (∀ (w : Windows) (a : Addr) (en : BitVec 8) (inside : Addr → Nat → Prop), w.passes = true → w.setupBase ≠ 0 →
    (∀ base size, inside base size ↔ base ≠ 0 ∧ base.toNat ≤ a.toNat ∧ a.toNat < base.toNat + size) →
    (inside w.setupBase 64 → w.classify a en =
      if a = w.setupBase ∨ a = w.setupBase + 8 then .setup else if a = w.setupBase + 16 then .guarded else .plain) ∧
    (inside w.showBase 12288 → w.classify a en =
      if (a.toNat - w.showBase.toNat) % 64 = 0 ∧ (en.getLsbD 0 = true ∨ en.getLsbD 1 = true) then .shows else .plain) ∧
    (inside w.seatBase (8192 * w.seatUnits) → w.classify a en = .seat) ∧
    (inside w.noticeBase 4160 → w.classify a en =
      if a = w.noticeBase then .notice else if a = w.noticeBase + 8 then .guarded else .plain) ∧
    (inside w.statusBase 4096 → w.classify a en = .guarded) ∧
    (¬ inside w.setupBase 64 → ¬ inside w.showBase 12288 → ¬ inside w.seatBase (8192 * w.seatUnits) →
      ¬ inside w.noticeBase 4160 → ¬ inside w.statusBase 4096 → w.classify a en = .plain)) ∧
  (∀ (s : State) (r : PassReq) (q : List PassReq) (cls : Nat → BeatClass), s.path.queue = r :: q → s.eligibleHead = some r →
    s.path.responses.length < 32 → (s.path.nextAgent = none ∨ s.path.share < 3) → r.write = true → r.data.length = r.beats →
    (∀ j b, r.data[j]? = some b → cls j = s.path.windows.classify (r.addr + BitVec.ofNat 32 (8 * j)) b.enables) →
    ∃ (t : State) (sent : List WriteBeat), exec .portGrant s = .next t ∧
      t.path.downPort = some { write := true, addr := r.addr, beats := r.beats, data := sent } ∧ sent.length = r.beats ∧
      (∀ j b, r.data[j]? = some b → sent[j]? = some (if cls j = .guarded then { b with enables := 0 } else b)) ∧
      t.mail = { s.mail with
        events := s.mail.events ++ List.replicate
          (r.data.zipIdx.countP fun x => decide (cls x.2 = .guarded ∧ x.1.enables ≠ 0)) .guardHit } ∧
      ∀ put : BeatClass → List IntakeBeat, (∀ c, put c = r.data.zipIdx.filterMap fun x =>
          if cls x.2 = c then some
            { addr := r.addr + BitVec.ofNat 32 (8 * x.2), data := x.1.data, enables := x.1.enables, grant := s.path.grants }
          else none) →
        t.intakes.setup = s.intakes.setup ++ put .setup ∧ t.intakes.shows = s.intakes.shows ++ put .shows ∧
        t.intakes.seat = s.intakes.seat ++ put .seat ∧
        t.path.responses = s.path.responses ++
          [{ source := .passing r.tag ((put .seat).map IntakeBeat.addr), write := true, beats := r.beats
             grant := s.path.grants }] ∧
        (put .notice = [] → t.intakes.notice = s.intakes.notice) ∧
        ∀ b, put .notice = [b] →
          (b.enables.getLsbD 0 = false → b.enables.getLsbD 1 = false → t.intakes.notice = s.intakes.notice) ∧
          (b.enables.getLsbD 0 = true ∨ b.enables.getLsbD 1 = true → ∃ v : BitVec 16, t.intakes.notice = some v ∧
            ∀ i < 16, v.getLsbD i = if b.enables.getLsbD (i / 8) then b.data.getLsbD i
              else (s.intakes.notice.getD s.notices.produced).getLsbD i)) ∧
  (∀ (s : State) (r : PassReq) (q : List PassReq), s.path.queue = r :: q → s.path.responses.length < 32 →
    (s.path.nextAgent = none ∨ s.path.share < 3) → r.write = false → ∃ t : State, exec .portGrant s = .next t ∧
      t.path.downPort = some { write := false, addr := r.addr, beats := r.beats, data := [] } ∧ t.intakes = s.intakes ∧
      t.mail = s.mail ∧ t.path.responses = s.path.responses ++
        [{ source := .passing r.tag [], write := false, beats := r.beats, grant := s.path.grants }]) ∧
  ∀ (s : State) (data : List Beat) (err : Bool),
    (0 < s.path.stale → exec (.downstreamResponse data err) s =
      .next (commit s (s.withPath { s.path with stale := s.path.stale - 1 }))) ∧
    (s.path.stale = 0 → s.path.responses = [] → exec (.downstreamResponse data err) s = .next s) ∧
    ∀ g rest, s.path.stale = 0 → s.path.responses = g :: rest →
      (∀ tag seatBeats, g.source = .passing tag seatBeats → exec (.downstreamResponse data err) s = .next (commit s
        ((s.withPath { s.path with responses := rest, upPort := some { tag := tag, data := data, err := err } }).withMail
          { s.mail with
            seatErrors := s.mail.seatErrors ++ if err = true ∧ seatBeats ≠ [] then [(g.grant, seatBeats)] else [] }))) ∧
      (∀ tag, g.source = .agent tag true → exec (.downstreamResponse data err) s =
        .next (commit s (s.withPath { s.path with responses := rest }))) ∧
      (∀ tag m, g.source = .agent tag false → (g.write = false → data.length = g.beats) →
        m = ({ s.mail with events := s.mail.events ++ if err then [.memError] else [] } : Mail) →
        exec (.downstreamResponse data err) s = .next (commit s
          ((s.withPath { s.path with responses := rest }).withMail
            (m.hand { tag := tag, data := if g.write then [] else data, err := err }))))

/-- INDEX_BEAT, READ_ENTRY, PARAMETER_ENTRY, WINDOW_BASE_WRITE and RESULT_WRITE_DONE (R26, R52, R137, R165 to R170, R177, R187, R188): an index beat latches the fields of its enabled bytes; an entry leaves the intake and steps the index while the step flag is set; an unused index is answered NO_SUCH with 0, a read-only one READ_ONLY and a mask of 0 APPLIED, each with the value as it reads, and a data beat with no enabled byte leaves without an entry (the model's choice, notes/assumptions/20.md); a parameter is stored by masked application at the nearest end of its range, clamped as a whole value (notes/assumptions/21.md), and answered CLAMPED where the stored value differs from the masked one, else APPLIED; a window value, a base with its low six bits 0, is stored only where the table passes, else REFUSED with SETUP_REFUSED and the old value, and one stored acts on the Seat Tally Unit (R26; the freed slots in slot order, notes/assumptions/41.md, and the id of their notes, notes/assumptions/42.md, are the model's choices), the notice reader (R52) or the changed mark (R177) at once; every result advances the sequence count and is written at SETUP base + 16, or waits while four are outstanding. -/
def Obligations.SetupEntriesAreAnswered : Prop :=
  (∀ (s : State) (b : IntakeBeat) (rest : List IntakeBeat), s.intakes.setup = b :: rest → s.setup.waiting = none →
    s.setup.dayOpen = none → b.addr = s.path.windows.setupBase → ∃ index step,
      exec .indexBeat s = .next (commit s
        ((s.withIntakes { s.intakes with setup := rest }).withSetup { s.setup with index := index, step := step })) ∧
      (∀ i < 8, index.getLsbD i = if b.enables.getLsbD 0 then b.data.getLsbD i else s.setup.index.getLsbD i) ∧
      (∀ i, 8 ≤ i → i < 10 → index.getLsbD i = if b.enables.getLsbD 1 then b.data.getLsbD i else s.setup.index.getLsbD i) ∧
      step = if b.enables.getLsbD 2 then b.data.getLsbD 16 else s.setup.step) ∧
  (∀ (s : State) (b : IntakeBeat) (rest : List IntakeBeat) (e : Entry), s.intakes.setup = b :: rest → s.setup.waiting = none →
    s.setup.dayOpen = none → b.addr ≠ s.path.windows.setupBase →
    (b.enables = 0 → s.entry = none ∧
      exec .readEntry s = .next (commit s (s.withIntakes { s.intakes with setup := rest }))) ∧
    (b.enables ≠ 0 → s.entry = some e →
      e.index = s.setup.index ∧
      (∀ j < 4, ∀ i < 8, e.value.getLsbD (8 * j + i) = (b.enables.getLsbD j && b.data.getLsbD (8 * j + i)) ∧
        e.mask.getLsbD (8 * j + i) = (b.enables.getLsbD (4 + j) && b.data.getLsbD (32 + 8 * j + i))) ∧
      s.takeEntry = (s.withIntakes { s.intakes with setup := rest }).withSetup
        { s.setup with index := if s.setup.step then s.setup.index + 1 else s.setup.index } ∧
      (Index.of e.index = .unused → exec .readEntry s = .next (commit s (s.takeEntry.result e.index 0 .noSuch))) ∧
      (∀ v, (Index.of e.index = .lobbyClock ∧ v = BitVec.ofNat 32
            (s.tracker.seconds + 2 ^ 30 * bit s.tracker.held + 2 ^ 31 * bit s.tracker.run)) ∨
          (Index.of e.index = .setupBase ∧
            v = BitVec.ofNat 32 (s.path.windows.setupBase.toNat + s.path.windows.strap.toNat)) ∨
          (∃ sc f, Index.of e.index = .info sc f ∧ v = BitVec.ofNat 32 (match f with
            | .state => (s.slotOf sc).state.code
            | .type => (s.slotOf sc).type.toNat
            | .regions => (s.slotOf sc).regions
            | .maxFrame => (s.slotOf sc).maxFrame
            | .firmware => (s.slotOf sc).firmware.toNat)) →
        exec .readEntry s = .next (commit s (s.takeEntry.result e.index v .readOnly))) ∧
      (∀ p, Index.of e.index = .simple p → e.mask = 0 → exec .readEntry s = .next (commit s (s.takeEntry.result e.index
        (if p = .managerKey then 0 else BitVec.ofNat 32 (s.params.simple p)) .applied))) ∧
      ∀ v, e.mask = 0 →
        ((Index.of e.index = .window .showBase ∧ v = s.path.windows.showBase) ∨
          (Index.of e.index = .window .seatBase ∧ v = s.path.windows.seatBase) ∨
          (Index.of e.index = .window .seatSize ∧ v = BitVec.ofNat 32 s.path.windows.seatUnits) ∨
          (Index.of e.index = .window .noticeBase ∧ v = s.path.windows.noticeBase) ∨
          (Index.of e.index = .window .statusBase ∧ v = s.path.windows.statusBase) ∨
          (∃ ch, Index.of e.index = .restAddr ch ∧ v = (s.params.rest.get ch).addr) ∨
          (∃ ch, Index.of e.index = .restLen ch ∧ v = BitVec.ofNat 32 (s.params.rest.get ch).len) ∨
          (∃ n f, Index.of e.index = .ring n f ∧ v = BitVec.ofNat 32 ((s.params.ring.get n).field f)) ∨
          (∃ sc no x, Index.of e.index = .pane sc no false ∧ s.comp.panes.get (paneIx sc no) = x ∧
            v = BitVec.ofNat 32 (x.kind.code + 2 ^ 8 * x.channel.val + 2 ^ 16 * x.minPriority)) ∨
          (∃ sc no x, Index.of e.index = .pane sc no true ∧ s.comp.panes.get (paneIx sc no) = x ∧
            v = BitVec.ofNat 32 (x.rows + 2 ^ 5 * x.lo + 2 ^ 10 * x.hi + 2 ^ 15 * bit x.includeStarted +
              2 ^ 16 * bit x.includeCancelled + 2 ^ 24 * x.dwell)) ∨
          ((Index.of e.index ∈ [.control, .dayOpen, .clockSet, .eventAck, .ringRestart, .moduleQuery, .moduleSet] ∨
            ∃ ch, Index.of e.index ∈ [.cuePush ch, .cueCut ch, .channelStop ch]) ∧ v = 0)) →
        exec .readEntry s = .next (commit s (s.takeEntry.result e.index v .applied)))) ∧
  (∀ (s : State) (e : Entry) (v : BitVec 32) (applied : BitVec 32 → BitVec 32) (outcome : Nat → Outcome), s.entry = some e →
    v = s.masked e → (∀ old, applied old = (old &&& ~~~ e.mask) ||| (e.value &&& e.mask)) →
    (∀ x, outcome x = if x = v.toNat then .applied else .clamped) →
    (∀ p x, e.row = .plain p → x = nearest (simpleRange p).1 (simpleRange p).2 v.toNat →
      v = applied (BitVec.ofNat 32 (s.params.simple p)) ∧
      exec .parameterEntry s = .next (commit s
        ((s.takeEntry.withParams (match p with
          | .managerKey => { s.params with managerKey := x }
          | .debounce => { s.params with debounce := x }
          | .setValue => { s.params with setValue := v }
          | .grace => { s.params with grace := x }
          | .cancelDisplay => { s.params with cancelDisplay := x }
          | .autoPriority => { s.params with autoPriority := x }
          | .period => { s.params with period := x }
          | _ => s.params)).result e.index (if p = .managerKey then 0 else BitVec.ofNat 32 x) (outcome x)))) ∧
    (∀ n f x r, e.row = .plainRing n f → s.params.ring.get n = r → x = nearest (ringRange f).1 (ringRange f).2 v.toNat →
      v = applied (BitVec.ofNat 32 (r.field f)) ∧
      exec .parameterEntry s = .next (commit s
        ((s.takeEntry.withParams { s.params with ring := s.params.ring.set n (match f with
          | .shift => { r with shift := x }
          | .budget => { r with budget := x }
          | .check => { r with check := if x = 0 then .marker else if x = 1 then .crc16 else .crc32 }
          | .marker => { r with marker := v }
          | .returnLimit => { r with returnLimit := x }
          | .faultLimit => { r with faultLimit := x }
          | .lossLimit => { r with lossLimit := x }
          | .restartDelay => { r with restartDelay := x }
          | .lockLimit => { r with lockLimit := x }
          | .queryTimeout => { r with queryTimeout := x }
          | .enable | .autoRestart => r) }).result e.index (BitVec.ofNat 32 x) (outcome x)))) ∧
    (e.row = .controlNoReset → exec .parameterEntry s = .next (commit s (s.takeEntry.result e.index 0 .applied))) ∧
    ∀ p w (x : BitVec 32), e.row = .window p →
      x = (if p = .seatSize then BitVec.ofNat 32 (nearest 1 128 v.toNat) else v &&& ~~~ 0x3F#32) →
      w = (match p with
        | .showBase => { s.path.windows with showBase := x }
        | .seatBase => { s.path.windows with seatBase := x }
        | .seatSize => { s.path.windows with seatUnits := x.toNat }
        | .noticeBase => { s.path.windows with noticeBase := x }
        | .statusBase => { s.path.windows with statusBase := x }) →
      v = applied (BitVec.ofNat 32 (s.path.windows.param p)) ∧
      (w.passes = false → exec .windowBaseWrite s = .next (commit s
        ((s.takeEntry.withMail { s.mail with events := s.mail.events ++ [.setupRefused] }).result e.index
          (BitVec.ofNat 32 (s.path.windows.param p)) .refused))) ∧
      (w.passes = true → p = .showBase → exec .windowBaseWrite s = .next (commit s
        ((s.takeEntry.withPath { s.path with windows := w }).result e.index x (outcome x.toNat)))) ∧
      (w.passes = true → p = .statusBase → exec .windowBaseWrite s = .next (commit s
        (((s.takeEntry.withPath { s.path with windows := w }).withEvents { s.events with changed := true }).result e.index x
          (outcome x.toNat)))) ∧
      (w.passes = true → p = .noticeBase →
        (s.notices.reader ≠ .idle ∨ s.notices.produced = s.notices.consumed ∨ w.noticeBase = 0 →
          exec .windowBaseWrite s = .next (commit s
            ((s.takeEntry.withPath { s.path with windows := w }).result e.index x (outcome x.toNat)))) ∧
        (s.notices.reader = .idle → s.notices.produced ≠ s.notices.consumed → w.noticeBase ≠ 0 →
          exec .windowBaseWrite s = .next (commit s
            (((s.takeEntry.withNotices { s.notices with
                reader := .record, number := s.notices.consumed, consumed := s.notices.consumed + 1
                outstanding := 1 }).withPath { s.path with
              windows := w
              recordQ := s.path.recordQ ++
                [{ cls := .record, write := false, beats := 8, data := [], tag := .noticeRecord
                   addr := w.noticeBase + BitVec.ofNat 32 (64 + 64 * (s.notices.consumed.toNat % 64)) }] }).result e.index x
              (outcome x.toNat))))) ∧
      (w.passes = true → p = .seatBase ∨ p = .seatSize → ∃ u : State,
        exec .windowBaseWrite s = .next (commit s (u.result e.index x (outcome x.toNat))) ∧
        u.path.windows = w ∧ u.intakes = s.takeEntry.intakes ∧ u.setup = s.takeEntry.setup ∧
        Frame [.port, .intakes, .setup, .seats, .seatFields, .mail] s u ∧ (SeatsOk s → MapsLeave s u w))) ∧
  (∀ (u : State) (index : BitVec 10) (v : BitVec 32) (o : Outcome),
    (u.setup.outstanding < 4 → ∃ beat : Beat, u.result index v o =
      (u.withSetup { u.setup with seq := u.setup.seq + 1, outstanding := u.setup.outstanding + 1 }).withPath
        { u.path with writebackQ := u.path.writebackQ ++
          [{ cls := .writeback, write := true, addr := u.path.windows.setupBase + 16, beats := 1,
             data := [{ data := beat, enables := 0xFF }], tag := .result }] } ∧
      beat.extractLsb' 0 10 = index ∧ (beat.extractLsb' 10 4).toNat = o.code ∧
      beat.extractLsb' 16 16 = u.setup.seq + 1 ∧ beat.extractLsb' 32 32 = v) ∧
    (4 ≤ u.setup.outstanding → u.result index v o = u.withSetup { u.setup with
      seq := u.setup.seq + 1, waiting := some { index := index, value := v, outcome := o, seq := u.setup.seq + 1 } })) ∧
  ∀ (s : State) (x : Response) (rest : List Response), s.mail.setupResp = x :: rest →
    (s.setup.waiting = none → exec .resultWriteDone s = .next (commit s
      ((s.withMail { s.mail with setupResp := rest }).withSetup
        { s.setup with outstanding := s.setup.outstanding - 1 }))) ∧
    ∀ r, s.setup.waiting = some r → s.setup.outstanding = 4 → exec .resultWriteDone s = .next (commit s
      (((s.withMail { s.mail with setupResp := rest }).withSetup { s.setup with waiting := none }).withPath
        { s.path with writebackQ := s.path.writebackQ ++
          [{ cls := .writeback, write := true, addr := s.path.windows.setupBase + 16, beats := 1,
             data := [{ data := r.beat, enables := 0xFF }], tag := .result }] }))

/-- EVENT_ACK (R176), with EVENT_REPORT, EVENT_ENABLE_WRITE and INTERRUPT_POLARITY_WRITE: an acknowledgement clears the pending flag of each named group, and with the counter-clear bit every counter of their kinds, no other; it is answered APPLIED with the argument whole (the model's choice, notes/assumptions/51.md), and the line is judged afresh at once. An event taken advances its kind's counter, which stays at 65,535, and sets its group's flag; the line is active while a pending group is enabled, low at polarity 0 and high at 1. A parameter is clamped as a whole value (read from the spec by inference, notes/assumptions/21.md). -/
def Obligations.AcknowledgementsClearTheNamedGroups : Prop :=
  (∀ (s : State) (e : Entry), s.entry = some e → e.row = .eventAck → ∃ v : Events,
    exec .eventAck s = .next (commit s ((s.takeEntry.withEvents v).result e.index e.argument .applied)) ∧
    v = { s.events with pending := v.pending, counters := v.counters } ∧
    (∀ g < 7, v.pending.getLsbD g = (s.events.pending.getLsbD g && !e.argument.getLsbD g)) ∧
    (∀ k : EventKind, v.counters.get k.index =
      if e.argument.getLsbD 8 = true ∧ e.argument.getLsbD k.group.bit.val = true then 0
      else s.events.counters.get k.index) ∧
    ∀ x : State, x.events = v → x.params = s.params →
      (x.lineActive = true ↔ ∃ g < 7, v.pending.getLsbD g = true ∧ s.params.eventEnable.getLsbD g = true) ∧
      x.lineHigh = if s.params.polarity then x.lineActive else !x.lineActive) ∧
  (∀ (s : State) (k : EventKind) (rest : List EventKind), s.mail.events = k :: rest → ∃ v : Events,
    exec .eventReport s = .next (commit s ((s.withMail { s.mail with events := rest }).withEvents v)) ∧
    v = { s.events with pending := v.pending, counters := v.counters } ∧
    (∀ g < 7, v.pending.getLsbD g = (s.events.pending.getLsbD g || decide (g = k.group.bit.val))) ∧
    ∀ j : EventKind, v.counters.get j.index =
      if j = k then min (s.events.counters.get j.index + 1) 65535 else s.events.counters.get j.index) ∧
  ∀ (s : State) (e : Entry) (v : BitVec 32), s.entry = some e → v = s.masked e →
    (e.row = .eventEnable → ∃ mask : BitVec 7, exec .eventEnableWrite s = .next (commit s
        ((s.takeEntry.withParams { s.params with eventEnable := mask }).result e.index (mask.setWidth 32)
          (if mask.setWidth 32 = v then .applied else .clamped))) ∧
      mask.getLsbD 6 = true ∧ ∀ g < 6, mask.getLsbD g = v.getLsbD g) ∧
    (e.row = .polarity → exec .interruptPolarityWrite s = .next (commit s
      ((s.takeEntry.withParams { s.params with polarity := decide (v ≠ 0) }).result e.index (if v = 0 then 0 else 1)
        (if v.toNat ≤ 1 then .applied else .clamped))))

/-- EVENT_PERIOD_BOUNDARY and STATUS_WRITE_DONE (R177 to R179, R189): at a boundary an IDLE unit with the changed mark set and a STATUS base captures the block with the next generation, clears the mark and issues the lead word and the 64 body writes in address order; with the last of their completions the trail word follows at base + 4,088, and its completion returns the unit to IDLE; a completion with an error is counted, and leaves the unit IDLE without a trail word and with the mark set. The block holds each value at its offset, and 0 between the areas. The body writes follow the lead word in the boundary's own event, so that the state BODY is entered at once (read from the spec by inference, notes/assumptions/33.md). An EMPTY rank's cue address reads as 0 (notes/assumptions/50.md) and an automatic notice's expiry above 1,799 as it is (notes/assumptions/61.md), both the model's choice. -/
def Obligations.TheStatusBlockIsWrittenWhole : Prop :=
  (∀ (s : State) (gen : BitVec 32) (block : List Byte) (request : Nat → Nat → StatusPart → AgentReq),
    0 < s.time.dueEvent → gen = s.events.generation + 1 → block = s.statusBlock gen →
    (∀ first count part, request first count part =
      { cls := .writeback, write := true, addr := s.path.windows.statusBase + BitVec.ofNat 32 (8 * first), beats := count,
        data := (List.range count).map fun j =>
          { data := beatOfBytes ((block.drop (8 * (first + j))).take 8), enables := 0xFF }
        tag := .status part }) →
    block.length = 4096 ∧ le32At block 0 = gen.toNat ∧ le32At block 4088 = gen.toNat ∧ (block.drop 8).take 4080 = s.mirror ∧ BlockHolds s block ∧
    ((s.events.writeback ≠ .idle ∨ s.events.changed = false ∨ s.path.windows.statusBase = 0) →
      exec .eventPeriodBoundary s = .next (commit s (s.withTime { s.time with dueEvent := s.time.dueEvent - 1 }))) ∧
    (s.events.writeback = .idle → s.events.changed = true → s.path.windows.statusBase ≠ 0 →
      exec .eventPeriodBoundary s = .next (commit s
        (((s.withTime { s.time with dueEvent := s.time.dueEvent - 1 }).withEvents { s.events with
            changed := false, generation := gen, writeback := .body, snapshot := block, base := s.path.windows.statusBase
            outstanding := 65, failed := false }).withPath
          { s.path with
            writebackQ := s.path.writebackQ ++
              request 0 1 .lead :: (List.range 64).map fun i => request (1 + 8 * i) (if i = 63 then 6 else 8) .body })))) ∧
  ∀ (s : State) (part : StatusPart) (data : List Beat) (err : Bool) (rest : List Response) (v : Events) (u : Events → State),
    s.mail.eventResp = { tag := .status part, data := data, err := err } :: rest →
    v = { s.events with errors := if err then min (s.events.errors + 1) 65535 else s.events.errors } →
    (∀ x, u x = (s.withMail { s.mail with eventResp := rest }).withEvents x) →
    (part ≠ .trail → 1 < v.outstanding → exec .statusWriteDone s = .next (commit s
      (u { v with outstanding := v.outstanding - 1, failed := v.failed || err }))) ∧
    (part ≠ .trail → v.outstanding = 1 → v.failed = true ∨ err = true → exec .statusWriteDone s = .next (commit s
      (u { v with outstanding := 0, failed := false, writeback := .idle, changed := true }))) ∧
    (part ≠ .trail → v.outstanding = 1 → v.failed = false → err = false → exec .statusWriteDone s = .next (commit s
      ((u { v with outstanding := 1, writeback := .trail }).withPath { s.path with
        writebackQ := s.path.writebackQ ++
          [{ cls := .writeback, write := true, addr := v.base + 4088, beats := 1, tag := .status .trail,
             data := [{ data := beatOfBytes ((v.snapshot.drop 4088).take 8), enables := 0xFF }] }] }))) ∧
    (part = .trail → exec .statusWriteDone s = .next (commit s
      (u { v with outstanding := 0, writeback := .idle, changed := v.changed || err })))
end

