-- ==== Sys2Proof/Laws/Channels.lean ====
section
/-! SUPPORT. The load numbers of a channel (R81): each load started or abandoned advances the load count once. -/

namespace Sys2Proof.Machine

@[simp] theorem number_loads (p : Purpose) (c : Channel) : (c.number p).loads = c.loads + 1 := rfl
@[simp] theorem number_nos (p : Purpose) (c : Channel) : (c.number p).nos = c.nos.set p (c.loads + 1) := rfl
@[simp] theorem clearFill_loads (c : Channel) : c.clearFill.loads = c.loads := rfl
@[simp] theorem clearFill_nos (c : Channel) : c.clearFill.nos = c.nos := rfl
@[simp] theorem clearFill_filling (c : Channel) : c.clearFill.filling = .empty := rfl

/-- What abandoning the filling buffer does: it is EMPTY, and unless it was EMPTY before, the load count advances once and one purpose takes the number. -/
theorem abandonFill_eq (c : Channel) :
    c.abandonFill =
      { c with
        filling := .empty, fillFor := .none, plan := FetchPlan.none, awaited := false, begins := false
        loads := if c.filling = .empty then c.loads else c.loads + 1
        nos := if c.filling = .empty then c.nos else c.nos.set c.fillPurpose (c.loads + 1) } := by
  unfold Channel.abandonFill Channel.clearFill
  split <;> simp_all [Channel.number]

/-- Abandoning a rank's load advances the load count once where the rank is LOADING, and else nothing. -/
theorem dropLoad_loads (p : Purpose) (r : Rank) (c : Channel) :
    (c.dropLoad p r).loads = c.loads + match r with | .loading _ => 1 | .empty | .ready _ _ => 0 := by
  cases r <;> rfl

/-- Beginning to show the rest still starts a load where there is one to fetch. -/
theorem showRest_loads (ch : Fin 8) (rest : RestParams) (c : Channel) :
    (c.showRest ch rest).1.loads = c.loads + if rest.usedLen = 0 then 0 else 1 := by
  unfold Channel.showRest Channel.blank
  split <;> rfl

/-- Becoming IDLE advances the load count once for the buffer, for each rank and for the rest fetch that it abandons or starts. -/
theorem goIdle_loads (ch : Fin 8) (rest : RestParams) (c : Channel) :
    (c.goIdle ch rest).1.loads = c.loads + (if c.filling = .empty then 0 else 1) +
      (match c.current with | .loading _ => 1 | .empty | .ready _ _ => 0) +
      (match c.next with | .loading _ => 1 | .empty | .ready _ _ => 0) + (if rest.usedLen = 0 then 0 else 1) := by
  unfold Channel.goIdle
  rw [showRest_loads, dropLoad_loads, dropLoad_loads, abandonFill_eq]
  split <;> simp

end Sys2Proof.Machine
end

