-- ==== Sys2Proof/Laws/State.lean ====
section
/-! SUPPORT. One lemma for each field and each update of State, so that no later proof unfolds a record update; and the laws of Table. -/

namespace Sys2Proof

namespace Table

variable {n : Nat} {α β : Type}

@[ext] theorem ext_get {t u : Table n α} (h : ∀ i, t.get i = u.get i) : t = u := by
  cases t with
  | mk a ha =>
    cases u with
    | mk b hb =>
      have : a = b := by
        apply List.ext_getElem (by rw [ha, hb])
        intro i h1 h2
        have := h ⟨i, ha ▸ h1⟩
        simpa [Table.get] using this
      subst this
      rfl

@[simp] theorem get_set_self (t : Table n α) (i : Fin n) (a : α) : (t.set i a).get i = a := by
  simp [Table.get, Table.set]

theorem get_set (t : Table n α) (i j : Fin n) (a : α) :
    (t.set i a).get j = if i = j then a else t.get j := by
  simp [Table.get, Table.set, List.getElem_set, Fin.ext_iff]

@[simp] theorem get_set_of_ne (t : Table n α) {i j : Fin n} (h : i ≠ j) (a : α) :
    (t.set i a).get j = t.get j := by
  simp [get_set, h]

@[simp] theorem get_modify_self (t : Table n α) (i : Fin n) (f : α → α) :
    (t.modify i f).get i = f (t.get i) := by
  simp [Table.modify]

@[simp] theorem get_modify_of_ne (t : Table n α) {i j : Fin n} (h : i ≠ j) (f : α → α) :
    (t.modify i f).get j = t.get j := by
  simp [Table.modify, h]

@[simp] theorem get_map (f : α → β) (t : Table n α) (i : Fin n) : (t.map f).get i = f (t.get i) := by
  simp [Table.get, Table.map]

@[simp] theorem get_mapFin (f : Fin n → α → β) (t : Table n α) (i : Fin n) :
    (t.mapFin f).get i = f i (t.get i) := by
  simp [Table.get, Table.mapFin]

@[simp] theorem get_replicate (a : α) (i : Fin n) : (Table.replicate n a).get i = a := by
  simp [Table.get, Table.replicate]

@[simp] theorem set_get_self (t : Table n α) (i : Fin n) : t.set i (t.get i) = t := by
  apply ext_get
  intro j
  rw [get_set]
  split
  · rename_i h
    rw [h]
  · rfl

end Table

namespace Machine.State

@[simp] theorem withPending_pending (s : State) (x : List Instr) : (s.withPending x).pending = x := rfl
@[simp] theorem withPending_path (s : State) (x : List Instr) : (s.withPending x).path = s.path := rfl
@[simp] theorem withPending_intakes (s : State) (x : List Instr) : (s.withPending x).intakes = s.intakes := rfl
@[simp] theorem withPending_setup (s : State) (x : List Instr) : (s.withPending x).setup = s.setup := rfl
@[simp] theorem withPending_params (s : State) (x : List Instr) : (s.withPending x).params = s.params := rfl
@[simp] theorem withPending_time (s : State) (x : List Instr) : (s.withPending x).time = s.time := rfl
@[simp] theorem withPending_tracker (s : State) (x : List Instr) : (s.withPending x).tracker = s.tracker := rfl
@[simp] theorem withPending_seats (s : State) (x : List Instr) : (s.withPending x).seats = s.seats := rfl
@[simp] theorem withPending_notices (s : State) (x : List Instr) : (s.withPending x).notices = s.notices := rfl
@[simp] theorem withPending_reel (s : State) (x : List Instr) : (s.withPending x).reel = s.reel := rfl
@[simp] theorem withPending_comp (s : State) (x : List Instr) : (s.withPending x).comp = s.comp := rfl
@[simp] theorem withPending_rings (s : State) (x : List Instr) : (s.withPending x).rings = s.rings := rfl
@[simp] theorem withPending_events (s : State) (x : List Instr) : (s.withPending x).events = s.events := rfl
@[simp] theorem withPending_mail (s : State) (x : List Instr) : (s.withPending x).mail = s.mail := rfl

@[simp] theorem withPath_pending (s : State) (x : Path) : (s.withPath x).pending = s.pending := rfl
@[simp] theorem withPath_path (s : State) (x : Path) : (s.withPath x).path = x := rfl
@[simp] theorem withPath_intakes (s : State) (x : Path) : (s.withPath x).intakes = s.intakes := rfl
@[simp] theorem withPath_setup (s : State) (x : Path) : (s.withPath x).setup = s.setup := rfl
@[simp] theorem withPath_params (s : State) (x : Path) : (s.withPath x).params = s.params := rfl
@[simp] theorem withPath_time (s : State) (x : Path) : (s.withPath x).time = s.time := rfl
@[simp] theorem withPath_tracker (s : State) (x : Path) : (s.withPath x).tracker = s.tracker := rfl
@[simp] theorem withPath_seats (s : State) (x : Path) : (s.withPath x).seats = s.seats := rfl
@[simp] theorem withPath_notices (s : State) (x : Path) : (s.withPath x).notices = s.notices := rfl
@[simp] theorem withPath_reel (s : State) (x : Path) : (s.withPath x).reel = s.reel := rfl
@[simp] theorem withPath_comp (s : State) (x : Path) : (s.withPath x).comp = s.comp := rfl
@[simp] theorem withPath_rings (s : State) (x : Path) : (s.withPath x).rings = s.rings := rfl
@[simp] theorem withPath_events (s : State) (x : Path) : (s.withPath x).events = s.events := rfl
@[simp] theorem withPath_mail (s : State) (x : Path) : (s.withPath x).mail = s.mail := rfl

@[simp] theorem withIntakes_pending (s : State) (x : Intakes) : (s.withIntakes x).pending = s.pending := rfl
@[simp] theorem withIntakes_path (s : State) (x : Intakes) : (s.withIntakes x).path = s.path := rfl
@[simp] theorem withIntakes_intakes (s : State) (x : Intakes) : (s.withIntakes x).intakes = x := rfl
@[simp] theorem withIntakes_setup (s : State) (x : Intakes) : (s.withIntakes x).setup = s.setup := rfl
@[simp] theorem withIntakes_params (s : State) (x : Intakes) : (s.withIntakes x).params = s.params := rfl
@[simp] theorem withIntakes_time (s : State) (x : Intakes) : (s.withIntakes x).time = s.time := rfl
@[simp] theorem withIntakes_tracker (s : State) (x : Intakes) : (s.withIntakes x).tracker = s.tracker := rfl
@[simp] theorem withIntakes_seats (s : State) (x : Intakes) : (s.withIntakes x).seats = s.seats := rfl
@[simp] theorem withIntakes_notices (s : State) (x : Intakes) : (s.withIntakes x).notices = s.notices := rfl
@[simp] theorem withIntakes_reel (s : State) (x : Intakes) : (s.withIntakes x).reel = s.reel := rfl
@[simp] theorem withIntakes_comp (s : State) (x : Intakes) : (s.withIntakes x).comp = s.comp := rfl
@[simp] theorem withIntakes_rings (s : State) (x : Intakes) : (s.withIntakes x).rings = s.rings := rfl
@[simp] theorem withIntakes_events (s : State) (x : Intakes) : (s.withIntakes x).events = s.events := rfl
@[simp] theorem withIntakes_mail (s : State) (x : Intakes) : (s.withIntakes x).mail = s.mail := rfl

@[simp] theorem withSetup_pending (s : State) (x : Setup) : (s.withSetup x).pending = s.pending := rfl
@[simp] theorem withSetup_path (s : State) (x : Setup) : (s.withSetup x).path = s.path := rfl
@[simp] theorem withSetup_intakes (s : State) (x : Setup) : (s.withSetup x).intakes = s.intakes := rfl
@[simp] theorem withSetup_setup (s : State) (x : Setup) : (s.withSetup x).setup = x := rfl
@[simp] theorem withSetup_params (s : State) (x : Setup) : (s.withSetup x).params = s.params := rfl
@[simp] theorem withSetup_time (s : State) (x : Setup) : (s.withSetup x).time = s.time := rfl
@[simp] theorem withSetup_tracker (s : State) (x : Setup) : (s.withSetup x).tracker = s.tracker := rfl
@[simp] theorem withSetup_seats (s : State) (x : Setup) : (s.withSetup x).seats = s.seats := rfl
@[simp] theorem withSetup_notices (s : State) (x : Setup) : (s.withSetup x).notices = s.notices := rfl
@[simp] theorem withSetup_reel (s : State) (x : Setup) : (s.withSetup x).reel = s.reel := rfl
@[simp] theorem withSetup_comp (s : State) (x : Setup) : (s.withSetup x).comp = s.comp := rfl
@[simp] theorem withSetup_rings (s : State) (x : Setup) : (s.withSetup x).rings = s.rings := rfl
@[simp] theorem withSetup_events (s : State) (x : Setup) : (s.withSetup x).events = s.events := rfl
@[simp] theorem withSetup_mail (s : State) (x : Setup) : (s.withSetup x).mail = s.mail := rfl

@[simp] theorem withParams_pending (s : State) (x : Params) : (s.withParams x).pending = s.pending := rfl
@[simp] theorem withParams_path (s : State) (x : Params) : (s.withParams x).path = s.path := rfl
@[simp] theorem withParams_intakes (s : State) (x : Params) : (s.withParams x).intakes = s.intakes := rfl
@[simp] theorem withParams_setup (s : State) (x : Params) : (s.withParams x).setup = s.setup := rfl
@[simp] theorem withParams_params (s : State) (x : Params) : (s.withParams x).params = x := rfl
@[simp] theorem withParams_time (s : State) (x : Params) : (s.withParams x).time = s.time := rfl
@[simp] theorem withParams_tracker (s : State) (x : Params) : (s.withParams x).tracker = s.tracker := rfl
@[simp] theorem withParams_seats (s : State) (x : Params) : (s.withParams x).seats = s.seats := rfl
@[simp] theorem withParams_notices (s : State) (x : Params) : (s.withParams x).notices = s.notices := rfl
@[simp] theorem withParams_reel (s : State) (x : Params) : (s.withParams x).reel = s.reel := rfl
@[simp] theorem withParams_comp (s : State) (x : Params) : (s.withParams x).comp = s.comp := rfl
@[simp] theorem withParams_rings (s : State) (x : Params) : (s.withParams x).rings = s.rings := rfl
@[simp] theorem withParams_events (s : State) (x : Params) : (s.withParams x).events = s.events := rfl
@[simp] theorem withParams_mail (s : State) (x : Params) : (s.withParams x).mail = s.mail := rfl

@[simp] theorem withTime_pending (s : State) (x : Timebase) : (s.withTime x).pending = s.pending := rfl
@[simp] theorem withTime_path (s : State) (x : Timebase) : (s.withTime x).path = s.path := rfl
@[simp] theorem withTime_intakes (s : State) (x : Timebase) : (s.withTime x).intakes = s.intakes := rfl
@[simp] theorem withTime_setup (s : State) (x : Timebase) : (s.withTime x).setup = s.setup := rfl
@[simp] theorem withTime_params (s : State) (x : Timebase) : (s.withTime x).params = s.params := rfl
@[simp] theorem withTime_time (s : State) (x : Timebase) : (s.withTime x).time = x := rfl
@[simp] theorem withTime_tracker (s : State) (x : Timebase) : (s.withTime x).tracker = s.tracker := rfl
@[simp] theorem withTime_seats (s : State) (x : Timebase) : (s.withTime x).seats = s.seats := rfl
@[simp] theorem withTime_notices (s : State) (x : Timebase) : (s.withTime x).notices = s.notices := rfl
@[simp] theorem withTime_reel (s : State) (x : Timebase) : (s.withTime x).reel = s.reel := rfl
@[simp] theorem withTime_comp (s : State) (x : Timebase) : (s.withTime x).comp = s.comp := rfl
@[simp] theorem withTime_rings (s : State) (x : Timebase) : (s.withTime x).rings = s.rings := rfl
@[simp] theorem withTime_events (s : State) (x : Timebase) : (s.withTime x).events = s.events := rfl
@[simp] theorem withTime_mail (s : State) (x : Timebase) : (s.withTime x).mail = s.mail := rfl

@[simp] theorem withTracker_pending (s : State) (x : Tracker) : (s.withTracker x).pending = s.pending := rfl
@[simp] theorem withTracker_path (s : State) (x : Tracker) : (s.withTracker x).path = s.path := rfl
@[simp] theorem withTracker_intakes (s : State) (x : Tracker) : (s.withTracker x).intakes = s.intakes := rfl
@[simp] theorem withTracker_setup (s : State) (x : Tracker) : (s.withTracker x).setup = s.setup := rfl
@[simp] theorem withTracker_params (s : State) (x : Tracker) : (s.withTracker x).params = s.params := rfl
@[simp] theorem withTracker_time (s : State) (x : Tracker) : (s.withTracker x).time = s.time := rfl
@[simp] theorem withTracker_tracker (s : State) (x : Tracker) : (s.withTracker x).tracker = x := rfl
@[simp] theorem withTracker_seats (s : State) (x : Tracker) : (s.withTracker x).seats = s.seats := rfl
@[simp] theorem withTracker_notices (s : State) (x : Tracker) : (s.withTracker x).notices = s.notices := rfl
@[simp] theorem withTracker_reel (s : State) (x : Tracker) : (s.withTracker x).reel = s.reel := rfl
@[simp] theorem withTracker_comp (s : State) (x : Tracker) : (s.withTracker x).comp = s.comp := rfl
@[simp] theorem withTracker_rings (s : State) (x : Tracker) : (s.withTracker x).rings = s.rings := rfl
@[simp] theorem withTracker_events (s : State) (x : Tracker) : (s.withTracker x).events = s.events := rfl
@[simp] theorem withTracker_mail (s : State) (x : Tracker) : (s.withTracker x).mail = s.mail := rfl

@[simp] theorem withSeats_pending (s : State) (x : Seats) : (s.withSeats x).pending = s.pending := rfl
@[simp] theorem withSeats_path (s : State) (x : Seats) : (s.withSeats x).path = s.path := rfl
@[simp] theorem withSeats_intakes (s : State) (x : Seats) : (s.withSeats x).intakes = s.intakes := rfl
@[simp] theorem withSeats_setup (s : State) (x : Seats) : (s.withSeats x).setup = s.setup := rfl
@[simp] theorem withSeats_params (s : State) (x : Seats) : (s.withSeats x).params = s.params := rfl
@[simp] theorem withSeats_time (s : State) (x : Seats) : (s.withSeats x).time = s.time := rfl
@[simp] theorem withSeats_tracker (s : State) (x : Seats) : (s.withSeats x).tracker = s.tracker := rfl
@[simp] theorem withSeats_seats (s : State) (x : Seats) : (s.withSeats x).seats = x := rfl
@[simp] theorem withSeats_notices (s : State) (x : Seats) : (s.withSeats x).notices = s.notices := rfl
@[simp] theorem withSeats_reel (s : State) (x : Seats) : (s.withSeats x).reel = s.reel := rfl
@[simp] theorem withSeats_comp (s : State) (x : Seats) : (s.withSeats x).comp = s.comp := rfl
@[simp] theorem withSeats_rings (s : State) (x : Seats) : (s.withSeats x).rings = s.rings := rfl
@[simp] theorem withSeats_events (s : State) (x : Seats) : (s.withSeats x).events = s.events := rfl
@[simp] theorem withSeats_mail (s : State) (x : Seats) : (s.withSeats x).mail = s.mail := rfl

@[simp] theorem withNotices_pending (s : State) (x : Notices) : (s.withNotices x).pending = s.pending := rfl
@[simp] theorem withNotices_path (s : State) (x : Notices) : (s.withNotices x).path = s.path := rfl
@[simp] theorem withNotices_intakes (s : State) (x : Notices) : (s.withNotices x).intakes = s.intakes := rfl
@[simp] theorem withNotices_setup (s : State) (x : Notices) : (s.withNotices x).setup = s.setup := rfl
@[simp] theorem withNotices_params (s : State) (x : Notices) : (s.withNotices x).params = s.params := rfl
@[simp] theorem withNotices_time (s : State) (x : Notices) : (s.withNotices x).time = s.time := rfl
@[simp] theorem withNotices_tracker (s : State) (x : Notices) : (s.withNotices x).tracker = s.tracker := rfl
@[simp] theorem withNotices_seats (s : State) (x : Notices) : (s.withNotices x).seats = s.seats := rfl
@[simp] theorem withNotices_notices (s : State) (x : Notices) : (s.withNotices x).notices = x := rfl
@[simp] theorem withNotices_reel (s : State) (x : Notices) : (s.withNotices x).reel = s.reel := rfl
@[simp] theorem withNotices_comp (s : State) (x : Notices) : (s.withNotices x).comp = s.comp := rfl
@[simp] theorem withNotices_rings (s : State) (x : Notices) : (s.withNotices x).rings = s.rings := rfl
@[simp] theorem withNotices_events (s : State) (x : Notices) : (s.withNotices x).events = s.events := rfl
@[simp] theorem withNotices_mail (s : State) (x : Notices) : (s.withNotices x).mail = s.mail := rfl

@[simp] theorem withReel_pending (s : State) (x : Reel) : (s.withReel x).pending = s.pending := rfl
@[simp] theorem withReel_path (s : State) (x : Reel) : (s.withReel x).path = s.path := rfl
@[simp] theorem withReel_intakes (s : State) (x : Reel) : (s.withReel x).intakes = s.intakes := rfl
@[simp] theorem withReel_setup (s : State) (x : Reel) : (s.withReel x).setup = s.setup := rfl
@[simp] theorem withReel_params (s : State) (x : Reel) : (s.withReel x).params = s.params := rfl
@[simp] theorem withReel_time (s : State) (x : Reel) : (s.withReel x).time = s.time := rfl
@[simp] theorem withReel_tracker (s : State) (x : Reel) : (s.withReel x).tracker = s.tracker := rfl
@[simp] theorem withReel_seats (s : State) (x : Reel) : (s.withReel x).seats = s.seats := rfl
@[simp] theorem withReel_notices (s : State) (x : Reel) : (s.withReel x).notices = s.notices := rfl
@[simp] theorem withReel_reel (s : State) (x : Reel) : (s.withReel x).reel = x := rfl
@[simp] theorem withReel_comp (s : State) (x : Reel) : (s.withReel x).comp = s.comp := rfl
@[simp] theorem withReel_rings (s : State) (x : Reel) : (s.withReel x).rings = s.rings := rfl
@[simp] theorem withReel_events (s : State) (x : Reel) : (s.withReel x).events = s.events := rfl
@[simp] theorem withReel_mail (s : State) (x : Reel) : (s.withReel x).mail = s.mail := rfl

@[simp] theorem withComp_pending (s : State) (x : Comp) : (s.withComp x).pending = s.pending := rfl
@[simp] theorem withComp_path (s : State) (x : Comp) : (s.withComp x).path = s.path := rfl
@[simp] theorem withComp_intakes (s : State) (x : Comp) : (s.withComp x).intakes = s.intakes := rfl
@[simp] theorem withComp_setup (s : State) (x : Comp) : (s.withComp x).setup = s.setup := rfl
@[simp] theorem withComp_params (s : State) (x : Comp) : (s.withComp x).params = s.params := rfl
@[simp] theorem withComp_time (s : State) (x : Comp) : (s.withComp x).time = s.time := rfl
@[simp] theorem withComp_tracker (s : State) (x : Comp) : (s.withComp x).tracker = s.tracker := rfl
@[simp] theorem withComp_seats (s : State) (x : Comp) : (s.withComp x).seats = s.seats := rfl
@[simp] theorem withComp_notices (s : State) (x : Comp) : (s.withComp x).notices = s.notices := rfl
@[simp] theorem withComp_reel (s : State) (x : Comp) : (s.withComp x).reel = s.reel := rfl
@[simp] theorem withComp_comp (s : State) (x : Comp) : (s.withComp x).comp = x := rfl
@[simp] theorem withComp_rings (s : State) (x : Comp) : (s.withComp x).rings = s.rings := rfl
@[simp] theorem withComp_events (s : State) (x : Comp) : (s.withComp x).events = s.events := rfl
@[simp] theorem withComp_mail (s : State) (x : Comp) : (s.withComp x).mail = s.mail := rfl

@[simp] theorem withRings_pending (s : State) (x : Table 4 Ring) : (s.withRings x).pending = s.pending := rfl
@[simp] theorem withRings_path (s : State) (x : Table 4 Ring) : (s.withRings x).path = s.path := rfl
@[simp] theorem withRings_intakes (s : State) (x : Table 4 Ring) : (s.withRings x).intakes = s.intakes := rfl
@[simp] theorem withRings_setup (s : State) (x : Table 4 Ring) : (s.withRings x).setup = s.setup := rfl
@[simp] theorem withRings_params (s : State) (x : Table 4 Ring) : (s.withRings x).params = s.params := rfl
@[simp] theorem withRings_time (s : State) (x : Table 4 Ring) : (s.withRings x).time = s.time := rfl
@[simp] theorem withRings_tracker (s : State) (x : Table 4 Ring) : (s.withRings x).tracker = s.tracker := rfl
@[simp] theorem withRings_seats (s : State) (x : Table 4 Ring) : (s.withRings x).seats = s.seats := rfl
@[simp] theorem withRings_notices (s : State) (x : Table 4 Ring) : (s.withRings x).notices = s.notices := rfl
@[simp] theorem withRings_reel (s : State) (x : Table 4 Ring) : (s.withRings x).reel = s.reel := rfl
@[simp] theorem withRings_comp (s : State) (x : Table 4 Ring) : (s.withRings x).comp = s.comp := rfl
@[simp] theorem withRings_rings (s : State) (x : Table 4 Ring) : (s.withRings x).rings = x := rfl
@[simp] theorem withRings_events (s : State) (x : Table 4 Ring) : (s.withRings x).events = s.events := rfl
@[simp] theorem withRings_mail (s : State) (x : Table 4 Ring) : (s.withRings x).mail = s.mail := rfl

@[simp] theorem withEvents_pending (s : State) (x : Events) : (s.withEvents x).pending = s.pending := rfl
@[simp] theorem withEvents_path (s : State) (x : Events) : (s.withEvents x).path = s.path := rfl
@[simp] theorem withEvents_intakes (s : State) (x : Events) : (s.withEvents x).intakes = s.intakes := rfl
@[simp] theorem withEvents_setup (s : State) (x : Events) : (s.withEvents x).setup = s.setup := rfl
@[simp] theorem withEvents_params (s : State) (x : Events) : (s.withEvents x).params = s.params := rfl
@[simp] theorem withEvents_time (s : State) (x : Events) : (s.withEvents x).time = s.time := rfl
@[simp] theorem withEvents_tracker (s : State) (x : Events) : (s.withEvents x).tracker = s.tracker := rfl
@[simp] theorem withEvents_seats (s : State) (x : Events) : (s.withEvents x).seats = s.seats := rfl
@[simp] theorem withEvents_notices (s : State) (x : Events) : (s.withEvents x).notices = s.notices := rfl
@[simp] theorem withEvents_reel (s : State) (x : Events) : (s.withEvents x).reel = s.reel := rfl
@[simp] theorem withEvents_comp (s : State) (x : Events) : (s.withEvents x).comp = s.comp := rfl
@[simp] theorem withEvents_rings (s : State) (x : Events) : (s.withEvents x).rings = s.rings := rfl
@[simp] theorem withEvents_events (s : State) (x : Events) : (s.withEvents x).events = x := rfl
@[simp] theorem withEvents_mail (s : State) (x : Events) : (s.withEvents x).mail = s.mail := rfl

@[simp] theorem withMail_pending (s : State) (x : Mail) : (s.withMail x).pending = s.pending := rfl
@[simp] theorem withMail_path (s : State) (x : Mail) : (s.withMail x).path = s.path := rfl
@[simp] theorem withMail_intakes (s : State) (x : Mail) : (s.withMail x).intakes = s.intakes := rfl
@[simp] theorem withMail_setup (s : State) (x : Mail) : (s.withMail x).setup = s.setup := rfl
@[simp] theorem withMail_params (s : State) (x : Mail) : (s.withMail x).params = s.params := rfl
@[simp] theorem withMail_time (s : State) (x : Mail) : (s.withMail x).time = s.time := rfl
@[simp] theorem withMail_tracker (s : State) (x : Mail) : (s.withMail x).tracker = s.tracker := rfl
@[simp] theorem withMail_seats (s : State) (x : Mail) : (s.withMail x).seats = s.seats := rfl
@[simp] theorem withMail_notices (s : State) (x : Mail) : (s.withMail x).notices = s.notices := rfl
@[simp] theorem withMail_reel (s : State) (x : Mail) : (s.withMail x).reel = s.reel := rfl
@[simp] theorem withMail_comp (s : State) (x : Mail) : (s.withMail x).comp = s.comp := rfl
@[simp] theorem withMail_rings (s : State) (x : Mail) : (s.withMail x).rings = s.rings := rfl
@[simp] theorem withMail_events (s : State) (x : Mail) : (s.withMail x).events = s.events := rfl
@[simp] theorem withMail_mail (s : State) (x : Mail) : (s.withMail x).mail = x := rfl

end Machine.State

end Sys2Proof
end

