-- ==== Sys2Proof/Laws/Ops.lean ====
section
/-! SUPPORT. What the shared operations do, said once: a slot's module information, sending (State.emit), the changed mark (commit), and the Setup Decoder's entries and results. -/

namespace Sys2Proof.Machine

/-! ### Module information -/

/-- A slot holds module information exactly while it is not ABSENT (R137). -/
theorem ModSlot.information_eq_none (m : ModSlot) : m.information = none ↔ m.state = .absent := by
  simp [ModSlot.information]

/-- What a slot's module information is, where it holds some: its four fields. -/
theorem ModSlot.information_eq_some {m : ModSlot} {info : ModuleInfo} (h : m.information = some info) :
    m.state ≠ .absent ∧ info = m.fields := by
  unfold ModSlot.information at h
  split at h
  · cases h
  · exact ⟨‹_›, (Option.some.inj h).symm⟩

/-! ### Sending -/

@[simp] theorem emit_nil (s : State) : s.emit [] = s := rfl

theorem emit_cons (s : State) (o : Out) (outs : List Out) : s.emit (o :: outs) = (s.send o).emit outs := rfl

theorem emit_append (s : State) (a b : List Out) : s.emit (a ++ b) = (s.emit a).emit b := by
  simp [State.emit, List.foldl_append]

/-- What a field that no sending touches is after any sendings. -/
theorem emit_field {α : Type} (f : State → α) (hf : ∀ s o, f (s.send o) = f s) (s : State) (outs : List Out) :
    f (s.emit outs) = f s := by
  induction outs generalizing s with
  | nil => rfl
  | cons o outs ih => rw [emit_cons, ih, hf]

@[simp] theorem emit_pending (s : State) (outs : List Out) : (s.emit outs).pending = s.pending :=
  emit_field State.pending (fun _ _ => rfl) s outs
@[simp] theorem emit_intakes (s : State) (outs : List Out) : (s.emit outs).intakes = s.intakes :=
  emit_field State.intakes (fun _ _ => rfl) s outs
@[simp] theorem emit_setup (s : State) (outs : List Out) : (s.emit outs).setup = s.setup :=
  emit_field State.setup (fun _ _ => rfl) s outs
@[simp] theorem emit_params (s : State) (outs : List Out) : (s.emit outs).params = s.params :=
  emit_field State.params (fun _ _ => rfl) s outs
@[simp] theorem emit_time (s : State) (outs : List Out) : (s.emit outs).time = s.time :=
  emit_field State.time (fun _ _ => rfl) s outs
@[simp] theorem emit_seats (s : State) (outs : List Out) : (s.emit outs).seats = s.seats :=
  emit_field State.seats (fun _ _ => rfl) s outs
@[simp] theorem emit_notices (s : State) (outs : List Out) : (s.emit outs).notices = s.notices :=
  emit_field State.notices (fun _ _ => rfl) s outs
@[simp] theorem emit_reel (s : State) (outs : List Out) : (s.emit outs).reel = s.reel :=
  emit_field State.reel (fun _ _ => rfl) s outs
@[simp] theorem emit_comp (s : State) (outs : List Out) : (s.emit outs).comp = s.comp :=
  emit_field State.comp (fun _ _ => rfl) s outs
@[simp] theorem emit_rings (s : State) (outs : List Out) : (s.emit outs).rings = s.rings :=
  emit_field State.rings (fun _ _ => rfl) s outs
@[simp] theorem emit_events (s : State) (outs : List Out) : (s.emit outs).events = s.events :=
  emit_field State.events (fun _ _ => rfl) s outs

/-- The requests among the things sent that are of one class. -/
def sentTo (c : AgentClass) (outs : List Out) : List AgentReq :=
  outs.filterMap fun o =>
    match o with
    | .agent r => if r.cls = c then some r else none
    | _ => none

/-- Sending adds to the class queues and leaves the rest of the Through Path as it is. -/
theorem emit_path (s : State) (outs : List Out) :
    (s.emit outs).path =
      { s.path with
        frameQ := s.path.frameQ ++ sentTo .frame outs
        recordQ := s.path.recordQ ++ sentTo .record outs
        sweepQ := s.path.sweepQ ++ sentTo .sweep outs
        writebackQ := s.path.writebackQ ++ sentTo .writeback outs } := by
  induction outs generalizing s with
  | nil => simp [sentTo]
  | cons o outs ih =>
    rw [emit_cons, ih]
    cases o with
    | agent r =>
      cases h : r.cls <;> simp [State.send, Path.post, Path.enqueue, sentTo, h]
    | _ => simp [State.send, Path.post, sentTo]

@[simp] theorem emit_queue (s : State) (outs : List Out) : (s.emit outs).path.queue = s.path.queue := by
  rw [emit_path]
@[simp] theorem emit_held (s : State) (outs : List Out) : (s.emit outs).path.held = s.path.held := by
  rw [emit_path]
@[simp] theorem emit_responses (s : State) (outs : List Out) : (s.emit outs).path.responses = s.path.responses := by
  rw [emit_path]
@[simp] theorem emit_stale (s : State) (outs : List Out) : (s.emit outs).path.stale = s.path.stale := by
  rw [emit_path]
@[simp] theorem emit_share (s : State) (outs : List Out) : (s.emit outs).path.share = s.path.share := by
  rw [emit_path]
@[simp] theorem emit_lastClass (s : State) (outs : List Out) : (s.emit outs).path.lastClass = s.path.lastClass := by
  rw [emit_path]
@[simp] theorem emit_windows (s : State) (outs : List Out) : (s.emit outs).path.windows = s.path.windows := by
  rw [emit_path]

/-- A sending writes at most the seat status and bound slot of an entry (R6). -/
theorem send_entry (s : State) (o : Out) (i : Fin 192) :
    ∃ st sl, (s.send o).tracker.entries.get i =
      { s.tracker.entries.get i with seatStatus := st, boundSlot := sl } := by
  cases o with
  | entrySeat j st sl =>
    by_cases h : j = i
    · subst h
      exact ⟨st, sl, by simp [State.send, Tracker.post]⟩
    · exact ⟨_, _, by simp [State.send, Tracker.post, h]; rfl⟩
  | entryStatus j st =>
    by_cases h : j = i
    · subst h
      exact ⟨st, _, by simp [State.send, Tracker.post]; rfl⟩
    · exact ⟨_, _, by simp [State.send, Tracker.post, h]; rfl⟩
  | _ => exact ⟨_, _, rfl⟩

/-- Sending writes at most the seat status and bound slot of entries (R6). -/
theorem emit_entry (s : State) (outs : List Out) (i : Fin 192) :
    ∃ st sl, (s.emit outs).tracker.entries.get i =
      { s.tracker.entries.get i with seatStatus := st, boundSlot := sl } := by
  induction outs generalizing s with
  | nil => exact ⟨_, _, rfl⟩
  | cons o outs ih =>
    rw [emit_cons]
    obtain ⟨a, b, h⟩ := ih (s.send o)
    obtain ⟨a', b', h'⟩ := send_entry s o i
    exact ⟨a, b, by rw [h, h']⟩

/-- Sending leaves the tracker's clock, board order and fetch count as they are. -/
theorem emit_tracker (s : State) (outs : List Out) :
    (s.emit outs).tracker = { s.tracker with entries := (s.emit outs).tracker.entries } := by
  induction outs generalizing s with
  | nil => rfl
  | cons o outs ih =>
    rw [emit_cons, ih]
    cases o <;> rfl

@[simp] theorem emit_seconds (s : State) (outs : List Out) : (s.emit outs).tracker.seconds = s.tracker.seconds := by
  rw [emit_tracker]
@[simp] theorem emit_millis (s : State) (outs : List Out) : (s.emit outs).tracker.millis = s.tracker.millis := by
  rw [emit_tracker]
@[simp] theorem emit_run (s : State) (outs : List Out) : (s.emit outs).tracker.run = s.tracker.run := by
  rw [emit_tracker]
@[simp] theorem emit_clockHeld (s : State) (outs : List Out) : (s.emit outs).tracker.held = s.tracker.held := by
  rw [emit_tracker]
@[simp] theorem emit_minuteDue (s : State) (outs : List Out) :
    (s.emit outs).tracker.minuteDue = s.tracker.minuteDue := by
  rw [emit_tracker]
@[simp] theorem emit_board (s : State) (outs : List Out) : (s.emit outs).tracker.board = s.tracker.board := by
  rw [emit_tracker]

/-- Things sent in a row to the mail alone. -/
def Mail.posts (m : Mail) (outs : List Out) : Mail := outs.foldl Mail.post m

/-- Sending posts each thing in turn. -/
theorem emit_mail (s : State) (outs : List Out) : (s.emit outs).mail = s.mail.posts outs := by
  induction outs generalizing s with
  | nil => rfl
  | cons o outs ih => rw [emit_cons, ih]; rfl

/-! ### The changed mark (R177) -/

/-- A commit changes the changed mark alone: set where a mirrored value differs, else as the command left it. -/
theorem commit_eq (s t : State) :
    commit s t = t.withEvents { t.events with changed := t.events.changed || decide (s.mirror ≠ t.mirror) } := by
  unfold commit State.markChanged
  by_cases h : s.mirror = t.mirror
  · simp [h, State.withEvents]
  · simp [h]

/-- The changed mark is no mirrored value. -/
theorem commit_mirror (s t : State) : (commit s t).mirror = t.mirror := by unfold commit; split <;> rfl
@[simp] theorem commit_self (s : State) : commit s s = s := by simp [commit]
@[simp] theorem commit_pending (s t : State) : (commit s t).pending = t.pending := by simp [commit_eq]
@[simp] theorem commit_path (s t : State) : (commit s t).path = t.path := by simp [commit_eq]
@[simp] theorem commit_intakes (s t : State) : (commit s t).intakes = t.intakes := by simp [commit_eq]
@[simp] theorem commit_setup (s t : State) : (commit s t).setup = t.setup := by simp [commit_eq]
@[simp] theorem commit_params (s t : State) : (commit s t).params = t.params := by simp [commit_eq]
@[simp] theorem commit_time (s t : State) : (commit s t).time = t.time := by simp [commit_eq]
@[simp] theorem commit_tracker (s t : State) : (commit s t).tracker = t.tracker := by simp [commit_eq]
@[simp] theorem commit_seats (s t : State) : (commit s t).seats = t.seats := by simp [commit_eq]
@[simp] theorem commit_notices (s t : State) : (commit s t).notices = t.notices := by simp [commit_eq]
@[simp] theorem commit_reel (s t : State) : (commit s t).reel = t.reel := by simp [commit_eq]
@[simp] theorem commit_comp (s t : State) : (commit s t).comp = t.comp := by simp [commit_eq]
@[simp] theorem commit_rings (s t : State) : (commit s t).rings = t.rings := by simp [commit_eq]
@[simp] theorem commit_mail (s t : State) : (commit s t).mail = t.mail := by simp [commit_eq]
@[simp] theorem commit_counters (s t : State) : (commit s t).events.counters = t.events.counters := by simp [commit_eq]
@[simp] theorem commit_eventsPending (s t : State) : (commit s t).events.pending = t.events.pending := by
  simp [commit_eq]
@[simp] theorem commit_generation (s t : State) : (commit s t).events.generation = t.events.generation := by
  simp [commit_eq]
@[simp] theorem commit_writeback (s t : State) : (commit s t).events.writeback = t.events.writeback := by
  simp [commit_eq]

/-- A command's next state is the commit of what it did. -/
@[simp] theorem goOn_eq_next (s t u : State) : goOn s t = .next u ↔ commit s t = u := by
  simp [goOn]

/-! ### Setup entries and results (R165, R170) -/

@[simp] theorem takeEntry_pending (s : State) : s.takeEntry.pending = s.pending := rfl
@[simp] theorem takeEntry_path (s : State) : s.takeEntry.path = s.path := rfl
@[simp] theorem takeEntry_intakes (s : State) :
    s.takeEntry.intakes = { s.intakes with setup := s.intakes.setup.tail } := rfl
@[simp] theorem takeEntry_setup (s : State) : s.takeEntry.setup = s.setup.stepped := rfl
@[simp] theorem takeEntry_params (s : State) : s.takeEntry.params = s.params := rfl
@[simp] theorem takeEntry_time (s : State) : s.takeEntry.time = s.time := rfl
@[simp] theorem takeEntry_tracker (s : State) : s.takeEntry.tracker = s.tracker := rfl
@[simp] theorem takeEntry_seats (s : State) : s.takeEntry.seats = s.seats := rfl
@[simp] theorem takeEntry_notices (s : State) : s.takeEntry.notices = s.notices := rfl
@[simp] theorem takeEntry_reel (s : State) : s.takeEntry.reel = s.reel := rfl
@[simp] theorem takeEntry_comp (s : State) : s.takeEntry.comp = s.comp := rfl
@[simp] theorem takeEntry_rings (s : State) : s.takeEntry.rings = s.rings := rfl
@[simp] theorem takeEntry_events (s : State) : s.takeEntry.events = s.events := rfl
@[simp] theorem takeEntry_mail (s : State) : s.takeEntry.mail = s.mail := rfl

/-- Issuing a result: one WRITEBACK request and one more outstanding, or the result held back at four (R170). -/
theorem issueResult_eq (s : State) (r : Result) :
    s.issueResult r =
      if s.setup.outstanding < 4 then
        { s with
          setup := { s.setup with outstanding := s.setup.outstanding + 1 }
          path := { s.path with
            writebackQ := s.path.writebackQ ++
              [{ cls := .writeback, write := true, addr := beatAddr s.path.windows.setupBase 2, beats := 1,
                 data := [{ data := r.beat, enables := 0xFF }], tag := .result }] } }
      else { s with setup := { s.setup with waiting := some r } } := by
  unfold State.issueResult
  split <;> rfl

/-- The result of an entry: the sequence count advances and the result is issued (R170). -/
theorem result_eq (s : State) (i : BitVec 10) (v : BitVec 32) (o : Outcome) :
    s.result i v o =
      ({ s with setup := { s.setup with seq := s.setup.seq + 1 } } : State).issueResult
        { index := i, value := v, outcome := o, seq := s.setup.seq + 1 } := rfl

/-- A field that neither the Setup Decoder's own state nor the class queues make up is as before a result. -/
theorem result_field {α : Type} (f : State → α)
    (hf : ∀ (s : State) (u : Setup) (q : List AgentReq),
      f { s with setup := u, path := { s.path with writebackQ := q } } = f s)
    (s : State) (i : BitVec 10) (v : BitVec 32) (o : Outcome) : f (s.result i v o) = f s := by
  rw [result_eq, issueResult_eq]
  split
  · exact hf s _ _
  · exact hf s _ s.path.writebackQ

@[simp] theorem result_pending (s : State) (i : BitVec 10) (v : BitVec 32) (o : Outcome) :
    (s.result i v o).pending = s.pending := result_field State.pending (fun _ _ _ => rfl) s i v o
@[simp] theorem result_intakes (s : State) (i : BitVec 10) (v : BitVec 32) (o : Outcome) :
    (s.result i v o).intakes = s.intakes := result_field State.intakes (fun _ _ _ => rfl) s i v o
@[simp] theorem result_params (s : State) (i : BitVec 10) (v : BitVec 32) (o : Outcome) :
    (s.result i v o).params = s.params := result_field State.params (fun _ _ _ => rfl) s i v o
@[simp] theorem result_time (s : State) (i : BitVec 10) (v : BitVec 32) (o : Outcome) :
    (s.result i v o).time = s.time := result_field State.time (fun _ _ _ => rfl) s i v o
@[simp] theorem result_tracker (s : State) (i : BitVec 10) (v : BitVec 32) (o : Outcome) :
    (s.result i v o).tracker = s.tracker := result_field State.tracker (fun _ _ _ => rfl) s i v o
@[simp] theorem result_seats (s : State) (i : BitVec 10) (v : BitVec 32) (o : Outcome) :
    (s.result i v o).seats = s.seats := result_field State.seats (fun _ _ _ => rfl) s i v o
@[simp] theorem result_notices (s : State) (i : BitVec 10) (v : BitVec 32) (o : Outcome) :
    (s.result i v o).notices = s.notices := result_field State.notices (fun _ _ _ => rfl) s i v o
@[simp] theorem result_reel (s : State) (i : BitVec 10) (v : BitVec 32) (o : Outcome) :
    (s.result i v o).reel = s.reel := result_field State.reel (fun _ _ _ => rfl) s i v o
@[simp] theorem result_comp (s : State) (i : BitVec 10) (v : BitVec 32) (o : Outcome) :
    (s.result i v o).comp = s.comp := result_field State.comp (fun _ _ _ => rfl) s i v o
@[simp] theorem result_rings (s : State) (i : BitVec 10) (v : BitVec 32) (o : Outcome) :
    (s.result i v o).rings = s.rings := result_field State.rings (fun _ _ _ => rfl) s i v o
@[simp] theorem result_events (s : State) (i : BitVec 10) (v : BitVec 32) (o : Outcome) :
    (s.result i v o).events = s.events := result_field State.events (fun _ _ _ => rfl) s i v o
@[simp] theorem result_mail (s : State) (i : BitVec 10) (v : BitVec 32) (o : Outcome) :
    (s.result i v o).mail = s.mail := result_field State.mail (fun _ _ _ => rfl) s i v o
@[simp] theorem result_windows (s : State) (i : BitVec 10) (v : BitVec 32) (o : Outcome) :
    (s.result i v o).path.windows = s.path.windows := result_field (fun s => s.path.windows) (fun _ _ _ => rfl) s i v o
@[simp] theorem result_queue (s : State) (i : BitVec 10) (v : BitVec 32) (o : Outcome) :
    (s.result i v o).path.queue = s.path.queue := result_field (fun s => s.path.queue) (fun _ _ _ => rfl) s i v o
@[simp] theorem result_held (s : State) (i : BitVec 10) (v : BitVec 32) (o : Outcome) :
    (s.result i v o).path.held = s.path.held := result_field (fun s => s.path.held) (fun _ _ _ => rfl) s i v o
@[simp] theorem result_responses (s : State) (i : BitVec 10) (v : BitVec 32) (o : Outcome) :
    (s.result i v o).path.responses = s.path.responses :=
  result_field (fun s => s.path.responses) (fun _ _ _ => rfl) s i v o
@[simp] theorem result_share (s : State) (i : BitVec 10) (v : BitVec 32) (o : Outcome) :
    (s.result i v o).path.share = s.path.share := result_field (fun s => s.path.share) (fun _ _ _ => rfl) s i v o

end Sys2Proof.Machine
end

