-- ==== Sys2Proof/Laws/Frames.lean ====
section
/-! SUPPORT. Frames compose, and what each shared operation and each block's operations may change or send. -/

namespace Sys2Proof.Machine

-- one proof at a time: each thread reserves a whole stack
set_option Elab.async false

/-! ### Frames compose -/

theorem Block.same_refl (b : Block) (s : State) : b.same s s := by
  cases b <;> simp [Block.same]

theorem Block.same_trans (b : Block) {s t u : State} (h : b.same s t) (k : b.same t u) : b.same s u := by
  cases b <;> simp only [Block.same] at *
  case classQueues => exact ⟨k.1.trans h.1, k.2.1.trans h.2.1, k.2.2.1.trans h.2.2.1, k.2.2.2.trans h.2.2.2⟩
  case entries => exact fun i => (k i).trans (h i)
  case seatFields => exact fun i => ⟨(k i).1.trans (h i).1, (k i).2.trans (h i).2⟩
  case events =>
    rw [← h]
    have := congrArg (fun v : Events => { v with changed := s.events.changed }) k
    simpa using this
  all_goals exact k.trans h

theorem Frame.refl (bs : List Block) (s : State) : Frame bs s s := fun b _ => b.same_refl s

theorem Frame.trans {bs : List Block} {s t u : State} (h : Frame bs s t) (k : Frame bs t u) : Frame bs s u :=
  fun b hb => b.same_trans (h b hb) (k b hb)

theorem Frame.mono {bs cs : List Block} {s t : State} (h : Frame bs s t) (hs : ∀ b ∈ bs, b ∈ cs) : Frame cs s t :=
  fun b hb => h b fun m => hb (hs b m)

/-- The changed mark is no part of a frame. -/
theorem Frame.commit {bs : List Block} {s t : State} (h : Frame bs s t) : Frame bs s (commit s t) := by
  intro b hb
  have k := h b hb
  cases b <;> simp_all [Block.same]
  case events => rw [← k]; simp [commit_eq]

/-- A command's next state has the frame of what the command did. -/
theorem Frame.goOn {bs : List Block} {s t u : State} (h : Frame bs s t) (hu : goOn s t = .next u) : Frame bs s u := by
  rw [goOn_eq_next] at hu
  rw [← hu]
  exact h.commit

/-! ### Updates of one field -/

theorem frame_withPath (s : State) (x : Path) : Frame [.port, .classQueues] s (s.withPath x) := by
  intro b hb; cases b <;> simp_all [Block.same]
theorem frame_withIntakes (s : State) (x : Intakes) : Frame [.intakes] s (s.withIntakes x) := by
  intro b hb; cases b <;> simp_all [Block.same]
theorem frame_withSetup (s : State) (x : Setup) : Frame [.setup] s (s.withSetup x) := by
  intro b hb; cases b <;> simp_all [Block.same]
theorem frame_withParams (s : State) (x : Params) : Frame [.params] s (s.withParams x) := by
  intro b hb; cases b <;> simp_all [Block.same]
theorem frame_withTime (s : State) (x : Timebase) : Frame [.time] s (s.withTime x) := by
  intro b hb; cases b <;> simp_all [Block.same]
theorem frame_withTracker (s : State) (x : Tracker) : Frame [.clock, .entries, .seatFields] s (s.withTracker x) := by
  intro b hb; cases b <;> simp_all [Block.same]
theorem frame_withSeats (s : State) (x : Seats) : Frame [.seats] s (s.withSeats x) := by
  intro b hb; cases b <;> simp_all [Block.same]
theorem frame_withNotices (s : State) (x : Notices) : Frame [.notices] s (s.withNotices x) := by
  intro b hb; cases b <;> simp_all [Block.same]
theorem frame_withReel (s : State) (x : Reel) : Frame [.reel] s (s.withReel x) := by
  intro b hb; cases b <;> simp_all [Block.same]
theorem frame_withComp (s : State) (x : Comp) : Frame [.comp] s (s.withComp x) := by
  intro b hb; cases b <;> simp_all [Block.same]
theorem frame_withRings (s : State) (x : Table 4 Ring) : Frame [.rings] s (s.withRings x) := by
  intro b hb; cases b <;> simp_all [Block.same]
theorem frame_withEvents (s : State) (x : Events) : Frame [.events] s (s.withEvents x) := by
  intro b hb; cases b <;> simp_all [Block.same]
theorem frame_withMail (s : State) (x : Mail) : Frame [.mail] s (s.withMail x) := by
  intro b hb; cases b <;> simp_all [Block.same]

/-! ### Sending -/

/-- The piece of state a thing sent goes to. -/
def Out.block : Out → Block
  | .agent _ => .classQueues
  | .entrySeat _ _ _ => .seatFields
  | .entryStatus _ _ => .seatFields
  | _ => .mail

/-- Everything sent goes to a listed piece. -/
def Sends (bs : List Block) (outs : List Out) : Prop := ∀ o ∈ outs, o.block ∈ bs

theorem send_frame (s : State) (o : Out) : Frame [o.block] s (s.send o) := by
  intro b hb
  cases o <;> cases b <;>
    simp_all [Out.block, Block.same, State.send, Mail.post, Path.post, Tracker.post, Path.bare, Tracker.bare]
  case agent.port r => cases h : r.cls <;> simp [Path.enqueue, h]
  case entrySeat.entries j st sl =>
    intro i
    by_cases h : j = i
    · subst h; simp [ShowEntry.bare]
    · simp [h]
  case entryStatus.entries j st =>
    intro i
    by_cases h : j = i
    · subst h; simp [ShowEntry.bare]
    · simp [h]

theorem emit_frame {bs : List Block} {outs : List Out} (h : Sends bs outs) (s : State) : Frame bs s (s.emit outs) := by
  induction outs generalizing s with
  | nil => exact Frame.refl bs s
  | cons o outs ih =>
    rw [emit_cons]
    refine Frame.trans ((send_frame s o).mono ?_) (ih (fun x hx => h x (List.mem_cons_of_mem o hx)) _)
    intro b hb
    rw [List.mem_singleton] at hb
    exact hb ▸ h o List.mem_cons_self

/-- Whatever is sent goes to an inbox, a class queue or a seat field. -/
theorem sends_any (outs : List Out) : Sends [.mail, .classQueues, .seatFields] outs := by
  intro o _
  cases o <;> simp [Out.block]

@[simp] theorem sends_nil (bs : List Block) : Sends bs [] := by simp [Sends]
@[simp] theorem sends_cons (bs : List Block) (o : Out) (outs : List Out) :
    Sends bs (o :: outs) ↔ o.block ∈ bs ∧ Sends bs outs := by simp [Sends]
@[simp] theorem sends_append (bs : List Block) (a b : List Out) : Sends bs (a ++ b) ↔ Sends bs a ∧ Sends bs b := by
  simp only [Sends, List.mem_append]
  exact ⟨fun h => ⟨fun o m => h o (.inl m), fun o m => h o (.inr m)⟩, fun h o m => m.elim (h.1 o) (h.2 o)⟩
@[simp] theorem sends_ite (bs : List Block) (c : Prop) [Decidable c] (a b : List Out) :
    Sends bs (if c then a else b) ↔ if c then Sends bs a else Sends bs b := by
  split <;> rfl
theorem sends_flatMap {α : Type} (bs : List Block) (xs : List α) (f : α → List Out) (h : ∀ x, Sends bs (f x)) :
    Sends bs (xs.flatMap f) := by
  intro o ho
  obtain ⟨x, _, hx⟩ := List.mem_flatMap.1 ho
  exact h x o hx
theorem sends_map {α : Type} (bs : List Block) (xs : List α) (f : α → Out) (h : ∀ x, (f x).block ∈ bs) :
    Sends bs (xs.map f) := by
  intro o ho
  obtain ⟨x, _, hx⟩ := List.mem_map.1 ho
  exact hx ▸ h x

theorem Sends.andThen {σ : Type} {bs : List Block} {p : σ × List Out} {f : σ → σ × List Out} (h : Sends bs p.2)
    (k : ∀ x, Sends bs (f x).2) : Sends bs (Machine.andThen p f).2 := by
  simp only [Machine.andThen, sends_append]
  exact ⟨h, k _⟩

theorem Sends.forAll {σ α : Type} {bs : List Block} {f : α → σ → σ × List Out} (k : ∀ a x, Sends bs (f a x).2)
    (xs : List α) (x : σ) : Sends bs (Machine.forAll xs f x).2 := by
  have (p : σ × List Out) (hp : Sends bs p.2) :
      Sends bs (xs.foldl (fun p a => Machine.andThen p (f a)) p).2 := by
    induction xs generalizing p with
    | nil => exact hp
    | cons a xs ih => exact ih _ (hp.andThen (k a))
  exact this (x, []) (sends_nil bs)

/-! ### Setup entries -/

theorem takeEntry_frame (s : State) : Frame [.intakes, .setup] s s.takeEntry := by
  intro b hb; cases b <;> simp_all [Block.same]

theorem result_frame (s : State) (i : BitVec 10) (v : BitVec 32) (o : Outcome) :
    Frame [.setup, .classQueues] s (s.result i v o) := by
  intro b hb
  rw [result_eq, issueResult_eq]
  split <;> cases b <;> simp_all [Block.same, Path.bare]

theorem paramResult_frame (s : State) (e : Entry) (v : BitVec 32) :
    Frame [.setup, .classQueues] s (s.paramResult e v) := result_frame s _ _ _

end Sys2Proof.Machine
end

