-- ==== Sys2Proof/Laws/Sends.lean ====
section
/-! SUPPORT. Where each block's operations send: the inboxes, the class queues, or (the Seat Tally Unit alone) the seat fields of the show table. -/

namespace Sys2Proof.Machine

-- one proof at a time: each thread reserves a whole stack
set_option Elab.async false

/-! ### Schedule Tracker -/

@[simp] theorem noteOuts_sends (n : ShowNote) : Sends [.mail] (noteOuts n) := by simp [noteOuts, Out.block]
@[simp] theorem minuteOuts_sends (m : Nat) : Sends [.mail] (minuteOuts m) := by simp [minuteOuts, Out.block]
@[simp] theorem heldOuts_sends (v : Nat) : Sends [.mail] (heldOuts v) := by
  unfold heldOuts; split <;> simp [Out.block]
@[simp] theorem diffNote_sends (i : Fin 192) (a b : ShowEntry) : Sends [.mail] (diffNote i a b) := by
  unfold diffNote; split <;> simp
@[simp] theorem seatOuts_sends (i : Fin 192) (a b : ShowEntry) : Sends [.mail] (seatOuts i a b) := by
  unfold seatOuts bindOut
  repeat' split
  all_goals simp [Out.block]
@[simp] theorem boardOuts_sends (a b : List (Fin 192)) : Sends [.mail] (boardOuts a b) := by
  unfold boardOuts; split <;> simp [Out.block]
@[simp] theorem removalOuts_sends (i : Fin 192) (e : ShowEntry) (st : ShowState) :
    Sends [.mail] (removalOuts i e st) := by
  unfold removalOuts; simp [Out.block]
@[simp] theorem cancelShow_sends (m : Nat) (i : Fin 192) (e : ShowEntry) : Sends [.mail] (cancelShow m i e).2 := by
  simp [cancelShow, Out.block]

theorem settle_sends {p : Tracker × List Out} (h : Sends [.mail] p.2) : Sends [.mail] (Tracker.settle p).2 := by
  simp [Tracker.settle, h]

theorem evaluateAll_sends (t : Tracker) (g d : Nat) : Sends [.mail] (t.evaluateAll g d).2 := by
  apply settle_sends
  exact sends_flatMap _ _ _ fun i => by simp

theorem applyRecord_sends (t : Tracker) (w : Windows) (x : EvalAt) (i : Fin 192) (bs : List Byte) (err : Bool) :
    Sends [.mail] (t.applyRecord w x i bs err).outs := by
  unfold Tracker.applyRecord publishReject publishUpdate publishNew applyUnlist applyCancel applyReinstate bindOut
  dsimp only
  repeat' split
  all_goals simp [Out.block]

@[simp] theorem startFetch_sends (w : Windows) (i : Fin 192) (t : Tracker) :
    Sends [.classQueues] (t.startFetch w i).2 := by
  simp [Tracker.startFetch, Tracker.issueRecord, agentRead, Out.block]
@[simp] theorem refetch_sends (w : Windows) (i : Fin 192) (t : Tracker) : Sends [.classQueues] (t.refetch w i).2 := by
  unfold Tracker.refetch
  repeat' split
  all_goals simp
@[simp] theorem afterRecord_sends (w : Windows) (i : Fin 192) (b : Bool) (t : Tracker) :
    Sends [.classQueues] (t.afterRecord w i b).2 := by
  unfold Tracker.afterRecord
  split
  · simp [Tracker.issueTitle, agentRead, Out.block]
  · simp

theorem Sends.mono {bs cs : List Block} {outs : List Out} (h : Sends bs outs) (hs : ∀ b ∈ bs, b ∈ cs) :
    Sends cs outs := fun o ho => hs _ (h o ho)

theorem recordDone_sends (t : Tracker) (w : Windows) (x : EvalAt) (i : Fin 192) (bs : List Byte) (err : Bool) :
    Sends [.mail, .classQueues] (t.recordDone w x i bs err).2 := by
  unfold Tracker.recordDone
  refine Sends.andThen ((settle_sends (applyRecord_sends _ _ _ _ _ _)).mono (by simp)) fun _ => ?_
  exact (afterRecord_sends _ _ _ _).mono (by simp)

theorem titleDone_sends (t : Tracker) (w : Windows) (i : Fin 192) (bs : List Byte) (err : Bool) :
    Sends [.mail, .classQueues] (t.titleDone w i bs err).2 := by
  unfold Tracker.titleDone
  refine Sends.andThen ?_ fun _ => (refetch_sends _ _ _).mono (by simp)
  dsimp only
  split
  · simp
  · exact (noteOuts_sends _).mono (by simp)

theorem changeShow_sends (t : Tracker) (i : Fin 192) (e : ShowEntry) : Sends [.mail] (t.changeShow i e).2 := by
  apply settle_sends; simp

theorem delayEffect_sends (t : Tracker) (x : EvalAt) (id m : Nat) : Sends [.mail] (t.delayEffect x id m).2 := by
  unfold Tracker.delayEffect
  dsimp only
  repeat' split
  all_goals simp [Out.block, changeShow_sends]
theorem undelayEffect_sends (t : Tracker) (x : EvalAt) (id m : Nat) : Sends [.mail] (t.undelayEffect x id m).2 := by
  unfold Tracker.undelayEffect
  dsimp only
  repeat' split
  all_goals simp [Out.block, changeShow_sends]
theorem cancelEffect_sends (t : Tracker) (id : Nat) : Sends [.mail] (t.cancelEffect id).2 := by
  unfold Tracker.cancelEffect
  dsimp only
  repeat' split
  all_goals first
    | (simp [Out.block]; done)
    | (simp only [sends_cons]; exact ⟨by simp [Out.block], settle_sends (cancelShow_sends _ _ _)⟩)

theorem advance_sends (t : Tracker) : Sends [.mail] t.advance.2 := by
  unfold Tracker.advance; dsimp only; split <;> simp [Out.block]
theorem boundary_sends (t : Tracker) (g d : Nat) : Sends [.mail] (t.boundary g d).2 := by
  simp [Tracker.boundary, evaluateAll_sends]
theorem clockSet_sends (t : Tracker) (g d v : Nat) : Sends [.mail] (t.clockSet g d v).2 := by
  simp [Tracker.clockSet, evaluateAll_sends]
theorem trackerDayOpen_sends (t : Tracker) (v : Nat) : Sends [.mail] (t.dayOpen v).2 := by
  simp only [Tracker.dayOpen, sends_append, boardOuts_sends, heldOuts_sends, minuteOuts_sends, and_true]
  exact sends_flatMap _ _ _ fun i => by simp

/-! ### Notice Unit -/

@[simp] theorem bannerOuts_sends (a b : Table 128 Rotation) : Sends [.mail] (bannerOuts a b) :=
  sends_flatMap _ _ _ fun i => by split <;> simp [Out.block]
@[simp] theorem alertOuts_sends (a b : Table 32 (Option NoticeId)) : Sends [.mail] (alertOuts a b) :=
  sends_flatMap _ _ _ fun i => by split <;> simp [Out.block]
@[simp] theorem change_sends (l : List Notice) (m : List (BitVec 32)) (q : Notices) : Sends [.mail] (q.change l m).2 := by
  simp [Notices.change, Out.block]
@[simp] theorem remove_sends (p : Notice → Bool) (q : Notices) : Sends [.mail] (q.remove p).2 := by
  unfold Notices.remove; split <;> simp
@[simp] theorem evictFor_sends (n : Notice) (q : Notices) : Sends [.mail] (q.evictFor n).2 :=
  Sends.andThen (by simp [Out.block]) fun _ => change_sends _ _ _
@[simp] theorem enter_sends (n : Notice) (q : Notices) : Sends [.mail] (q.enter n).2 := by
  unfold Notices.enter
  repeat' split
  all_goals simp [Out.block]
@[simp] theorem enterHouse_sends (q : Notices) : Sends [.mail] q.enterHouse.2 := by
  unfold Notices.enterHouse; split <;> simp
@[simp] theorem substitute_sends (o n : Notice) (q : Notices) : Sends [.mail] (q.substitute o n).2 := by
  unfold Notices.substitute; dsimp only; split <;> simp
@[simp] theorem takeIn_sends (n : Notice) (q : Notices) : Sends [.mail] (q.takeIn n).2 := by
  unfold Notices.takeIn
  repeat' split
  all_goals simp
@[simp] theorem fail_sends (x : NoticeId) (a : Answer) (q : Notices) : Sends [.mail] (q.fail x a).2 := by
  refine Sends.andThen (by simp [Out.block]) fun q => ?_
  split <;> simp
@[simp] theorem writeback_sends (w : Windows) (q : Notices) : Sends [.classQueues] (q.writeback w).2 := by
  unfold Notices.writeback; split <;> simp [agentWrite, Out.block]
@[simp] theorem begin_sends (w : Windows) (q : Notices) : Sends [.classQueues] (q.begin w).2 := by
  unfold Notices.begin; split <;> simp [agentRead, Out.block]
@[simp] theorem finish_sends (w : Windows) (q : Notices) : Sends [.classQueues] (q.finish w).2 :=
  Sends.andThen (Sends.andThen (writeback_sends w q) fun _ => by simp) fun _ => begin_sends _ _

theorem finish_sends' (w : Windows) (q : Notices) : Sends [.mail, .classQueues] (q.finish w).2 :=
  (finish_sends w q).mono (by simp)
theorem begin_sends' (w : Windows) (q : Notices) : Sends [.mail, .classQueues] (q.begin w).2 :=
  (begin_sends w q).mono (by simp)

theorem produce_sends (w : Windows) (v : BitVec 16) (q : Notices) : Sends [.mail, .classQueues] (q.produce w v).2 := by
  unfold Notices.produce
  dsimp only
  split
  · exact begin_sends' _ _
  · exact Sends.andThen (Sends.andThen (by simp [Out.block]) fun _ => (writeback_sends _ _).mono (by simp))
      fun _ => begin_sends' _ _
theorem discardOne_sends (w : Windows) (q : Notices) : Sends [.classQueues] (q.discardOne w).2 := by
  unfold Notices.discardOne; split <;> simp
theorem conclude_sends (w : Windows) (r : NoticeRec) (a : Option Answer) (q : Notices) :
    Sends [.mail, .classQueues] (q.conclude w r a).2 := by
  unfold Notices.conclude
  refine Sends.andThen ?_ fun _ => finish_sends' _ _
  dsimp only
  repeat' split
  all_goals first
    | exact (takeIn_sends _ _).mono (by simp)
    | exact (fail_sends _ _ _).mono (by simp)
    | simp
theorem await_sends (w : Windows) (r : NoticeRec) (outs : List Out) (x : List Awaited) (q : Notices)
    (h : Sends [.mail] outs) : Sends [.mail, .classQueues] (q.await w r outs x).2 := by
  refine Sends.andThen (h.mono (by simp)) fun q => ?_
  split
  · exact conclude_sends _ _ _ _
  · simp
@[simp] theorem undelayOuts_sends (n : Notice) : Sends [.mail] n.undelayOuts := by
  unfold Notice.undelayOuts; split <;> simp [Out.block]
@[simp] theorem effectOuts_sends (r : NoticeRec) : Sends [.mail] r.effectOuts := by
  unfold NoticeRec.effectOuts; split <;> simp [Out.block]
theorem withdraw_sends (w : Windows) (m : Nat) (r : NoticeRec) (q : Notices) :
    Sends [.mail, .classQueues] (q.withdraw w m r).2 := by
  unfold Notices.withdraw
  split
  · exact Sends.andThen (by simp [Out.block]) fun _ => finish_sends' _ _
  · split
    · exact Sends.andThen (by simp [Out.block]) fun _ => finish_sends' _ _
    · exact Sends.andThen ((remove_sends _ _).mono (by simp)) fun _ => await_sends _ _ _ _ _ (by simp)
theorem process_sends (w : Windows) (m : Nat) (r : NoticeRec) (q : Notices) :
    Sends [.mail, .classQueues] (q.process w m r).2 := by
  unfold Notices.process
  dsimp only
  repeat' split
  all_goals first
    | exact withdraw_sends _ _ _ _
    | exact await_sends _ _ _ _ _ (by simp)
    | exact Sends.andThen (by simp [Out.block]) fun _ => finish_sends' _ _
theorem answer_sends (w : Windows) (a : Answer) (q : Notices) : Sends [.mail, .classQueues] (q.answer w a).2 := by
  unfold Notices.answer
  dsimp only
  repeat' split
  all_goals first
    | exact conclude_sends _ _ _ _
    | simp
theorem noticeRecordDone_sends (w : Windows) (m : Nat) (bs : List Byte) (err : Bool) (q : Notices) :
    Sends [.mail, .classQueues] (q.recordDone w m bs err).2 := by
  unfold Notices.recordDone
  repeat' split
  all_goals first
    | exact finish_sends' _ _
    | exact process_sends _ _ _ _
    | exact Sends.andThen (by simp [Out.block]) fun _ => finish_sends' _ _
    | (refine sends_map _ _ _ fun _ => ?_
       simp [agentRead, Out.block])
theorem textDone_sends (w : Windows) (m : Nat) (bs : List Byte) (err : Bool) (q : Notices) :
    Sends [.mail, .classQueues] (q.textDone w m bs err).2 := by
  unfold Notices.textDone
  dsimp only
  repeat' split
  all_goals first
    | exact finish_sends' _ _
    | exact process_sends _ _ _ _
    | simp
theorem seatsNote_sends (p : Params) (e : ShowEntry) (n : SeatsNote) (q : Notices) :
    Sends [.mail] (q.seatsNote p e n).2 := by
  unfold Notices.seatsNote
  repeat' split
  all_goals simp
theorem dwellExpiry_sends (i : Fin 128) (q : Notices) : Sends [.mail] (q.dwellExpiry i).2 := by
  unfold Notices.dwellExpiry
  dsimp only
  repeat' split
  all_goals simp
theorem paneReport_sends (r : BannerReport) (q : Notices) : Sends [.mail] (q.paneReport r).2 := by
  simp [Notices.paneReport]

/-! ### Reel Player -/

@[simp] theorem exchange_sends (ch : Fin 8) (k : ShownKind) (c : Channel) : Sends [.mail] (c.exchange ch k).2 := by
  simp [Channel.exchange, Out.block]
@[simp] theorem showRest_sends (ch : Fin 8) (r : RestParams) (c : Channel) : Sends [.mail] (c.showRest ch r).2 := by
  unfold Channel.showRest Channel.blank; split <;> simp [Out.block]
@[simp] theorem goIdle_sends (ch : Fin 8) (r : RestParams) (c : Channel) : Sends [.mail] (c.goIdle ch r).2 := by
  simp [Channel.goIdle]
theorem goIdle_sends' (ch : Fin 8) (r : RestParams) (c : Channel) : Sends [.mail, .classQueues] (c.goIdle ch r).2 :=
  (goIdle_sends ch r c).mono (by simp)
theorem loadCurrent_sends (ch : Fin 8) (r : RestParams) (a : Addr) (c : Channel) :
    Sends [.mail, .classQueues] (c.loadCurrent ch r a).2 := by
  unfold Channel.loadCurrent
  split
  · simp [cueRead, agentRead, Out.block]
  · exact Sends.andThen (by simp [Out.block]) fun _ => goIdle_sends' _ _ _
theorem loadNext_sends (ch : Fin 8) (a : Addr) (c : Channel) : Sends [.mail, .classQueues] (c.loadNext ch a).2 := by
  unfold Channel.loadNext
  split <;> simp [cueRead, agentRead, Out.block]
theorem skip_sends (ch : Fin 8) (r : RestParams) (q : Cue) (f : Channel → Channel × List Out) (c : Channel)
    (h : ∀ c, Sends [.mail, .classQueues] (f c).2) : Sends [.mail, .classQueues] (c.skip ch r q f).2 := by
  unfold Channel.skip
  dsimp only
  repeat' split
  all_goals first
    | exact Sends.andThen (goIdle_sends' _ _ _) fun _ => by simp [Out.block]
    | exact h _
    | exact loadCurrent_sends _ _ _ _
    | exact goIdle_sends' _ _ _
    | simp
theorem judgeWith_sends (s : State) (ch : Fin 8) (r : RestParams) (f : Channel → Channel × List Out)
    (g : Cue → Channel → Channel × List Out) (c : Channel) (h : ∀ c, Sends [.mail, .classQueues] (f c).2)
    (k : ∀ q c, Sends [.mail, .classQueues] (g q c).2) : Sends [.mail, .classQueues] (c.judgeWith s ch r f g).2 := by
  unfold Channel.judgeWith
  repeat' split
  all_goals first
    | exact skip_sends _ _ _ _ _ h
    | exact k _ _
    | simp
theorem beginFresh_sends (q : Cue) (c : Channel) : Sends [.mail, .classQueues] (c.beginFresh q).2 := by
  simp [Channel.beginFresh]
theorem judge_sends (s : State) (ch : Fin 8) (r : RestParams) (g : Cue → Channel → Channel × List Out) (c : Channel)
    (k : ∀ q c, Sends [.mail, .classQueues] (g q c).2) : Sends [.mail, .classQueues] (c.judge s ch r g).2 :=
  judgeWith_sends _ _ _ _ _ _ (fun c => judgeWith_sends _ _ _ _ _ _ (fun _ => by simp) beginFresh_sends) k
theorem badCurrent_sends (s : State) (ch : Fin 8) (r : RestParams) (c : Channel) :
    Sends [.mail, .classQueues] (c.badCurrent s ch r).2 := by
  refine Sends.andThen (by simp [Out.block]) fun c => ?_
  split
  · exact goIdle_sends' _ _ _
  · simp
  · exact judge_sends _ _ _ _ _ beginFresh_sends
theorem loadDone_sends (s : State) (ch : Fin 8) (r : RestParams) (no : Nat) (bs : List Byte) (err : Bool)
    (c : Channel) : Sends [.mail, .classQueues] (c.loadDone s ch r no bs err).2 := by
  unfold Channel.loadDone
  dsimp only
  split
  · generalize (if err = true then none else cueRecord bs) = x
    cases x with
    | none => exact badCurrent_sends _ _ _ _
    | some q => exact judge_sends _ _ _ _ _ beginFresh_sends
  · generalize (if err = true then none else cueRecord bs) = x
    cases x <;> simp [Out.block]
  · simp
theorem segmentStart_sends (ch : Fin 8) (q : Cue) (c : Channel) :
    Sends [.mail, .classQueues] (c.segmentStart ch q).2 := by
  unfold Channel.segmentStart
  dsimp only
  repeat' split
  all_goals first
    | exact loadNext_sends _ _ _
    | simp
theorem slot_sends (ch : Fin 8) (q : Cue) (k : Nat) (b : Bool) (c : Channel) :
    Sends [.mail, .classQueues] (c.slot ch q k b).2 := by
  refine Sends.andThen ?_ fun c => ?_
  · unfold Channel.showOrDrop
    split
    · exact (exchange_sends _ _ _).mono (by simp)
    · simp [Out.block]
  · refine Sends.andThen ?_ fun c => by simp
    split
    · exact segmentStart_sends _ _ _
    · simp
theorem awaitedBoundary_sends (ch : Fin 8) (q : Cue) (c : Channel) :
    Sends [.mail, .classQueues] (c.awaitedBoundary ch q).2 := by
  unfold Channel.awaitedBoundary
  split
  · simp
  · exact slot_sends _ _ _ _ _
theorem follow_sends (ch : Fin 8) (a b : Bool) (q : Cue) (c : Channel) :
    Sends [.mail, .classQueues] (Channel.follow ch a b q c).2 := by
  unfold Channel.follow
  dsimp only
  repeat' split
  all_goals first
    | exact awaitedBoundary_sends _ _ _
    | exact slot_sends _ _ _ _ _
    | exact beginFresh_sends _ _
    | simp
theorem segmentEnd_sends (s : State) (ch : Fin 8) (r : RestParams) (b : Bool) (c : Channel) :
    Sends [.mail, .classQueues] (c.segmentEnd s ch r b).2 := by
  have last : Sends [.mail, .classQueues]
      (match ({ c with periodsLeft := 0, resume := false } : Channel).next with
        | .loading _ => (({ c with periodsLeft := 0, resume := false } : Channel).carry, [])
        | _ => ({ c with periodsLeft := 0, resume := false } : Channel).goIdle ch r).2 := by
    split
    · simp
    · exact goIdle_sends' _ _ _
  unfold Channel.segmentEnd
  dsimp only
  split
  · exact judge_sends _ _ _ _ _ (follow_sends _ _ _)
  · split
    · split
      · exact judge_sends _ _ _ _ _ (follow_sends _ _ _)
      · exact last
    · exact last
theorem channelBoundary_sends (s : State) (ch : Fin 8) (r : RestParams) (c : Channel) :
    Sends [.mail, .classQueues] (c.boundary s ch r).2 := by
  have hdue (c : Channel) (q : Cue) (k : Nat) : Sends [.mail, .classQueues] (c.due ch q k).2 := by
    unfold Channel.due
    split
    · exact awaitedBoundary_sends _ _ _
    · exact slot_sends _ _ _ _ _
  unfold Channel.boundary Channel.takeCut Channel.runOut
  dsimp only
  repeat' split
  all_goals first
    | exact segmentEnd_sends _ _ _ _ _
    | exact awaitedBoundary_sends _ _ _
    | exact hdue _ _ _
    | simp
theorem push_sends (ch : Fin 8) (r : RestParams) (h : Bool) (a : Addr) (c : Channel) :
    Sends [.mail, .classQueues] (c.push ch r h a).2 := by
  unfold Channel.push
  repeat' split
  all_goals first
    | exact loadCurrent_sends _ _ _ _
    | exact loadNext_sends _ _ _
    | simp [Out.block]
theorem stop_sends (ch : Fin 8) (r : RestParams) (c : Channel) : Sends [.mail] (c.stop ch r).2 := by
  unfold Channel.stop; split <;> simp
theorem restDone_sends (ch : Fin 8) (no : Nat) (d : List Beat) (err : Bool) (c : Channel) :
    Sends [.mail] (c.restDone ch no d err).2 := by
  unfold Channel.restDone Channel.blank
  dsimp only
  repeat' split
  all_goals simp [Out.block]
theorem reelIssue_sends (q : Reel) : Sends [.classQueues] q.issueRead.2 := by
  unfold Reel.issueRead Reel.onChannel Channel.readOut
  dsimp only
  repeat' split
  all_goals simp [agentRead, Out.block]
theorem reelBoundary_sends (s : State) (q : Reel) : Sends [.mail, .classQueues] (q.boundary s).2 :=
  Sends.forAll (fun ch q => by exact channelBoundary_sends s ch (s.params.rest.get ch) (q.channels.get ch)) _ _

/-! ### Composition Unit and Ring Engines -/

/-- Without module information every pane is UNJUDGED (R101). -/
@[simp] theorem fitnessBy_none (s : State) (i : Fin 128) (p : Pane) : s.fitnessBy none i p = .unjudged := rfl
theorem judgePane_sends (fit : Fin 128 → Pane → Fitness) (i : Fin 128) (q : Comp) : Sends [.mail] (q.judge fit i).2 := by
  unfold Comp.judge
  dsimp only
  repeat' split
  all_goals simp [Out.block]
theorem judgeSome_sends (fit : Fin 128 → Pane → Fitness) (f : Fin 128 → Pane → Bool) (q : Comp) :
    Sends [.mail] (q.judgeSome fit f).2 :=
  Sends.forAll (fun i q => by
    split
    · exact judgePane_sends _ _ _
    · simp) _ _
theorem writePane_sends (s : State) (i : Fin 128) (p : Pane) (q : Comp) : Sends [.mail] (q.writePane s i p).2 := by
  refine Sends.andThen (judgePane_sends _ _ _) fun _ => ?_
  unfold bannerReportOuts
  dsimp only
  repeat' split
  all_goals simp [Out.block]
theorem compReport_sends (s : State) (r : ModuleReport) (q : Comp) : Sends [.mail] (q.report s r).2 := by
  unfold Comp.report
  dsimp only
  split
  · simp
  · exact Sends.andThen (judgeSome_sends _ _ _) fun _ => by simp
  · simp
  · exact judgeSome_sends _ _ _

theorem clearSlots_sends (n : Fin 4) (r : Ring) : Sends [.mail] (r.clearSlots n).2 := by
  unfold Ring.clearSlots
  apply Sends.forAll
  intro k r
  split <;> simp [reportOut, Out.block]
theorem loseSlots_sends (n : Fin 4) (r : Ring) : Sends [.mail] (r.loseSlots n).2 := by
  unfold Ring.loseSlots
  apply Sends.forAll
  intro k r
  split <;> simp [reportOut, Out.block]
@[simp] theorem endQuery_sends (n : Fin 4) (o : QueryOutcome) (v : BitVec 32) (r : Ring) :
    Sends [.mail] (r.endQuery n o v).2 := by
  unfold Ring.endQuery; split <;> simp [Out.block]
theorem enterLocking_sends (p : RingParams) (n : Fin 4) (r : Ring) : Sends [.mail] (r.enterLocking p n).2 :=
  Sends.andThen (clearSlots_sends _ _) fun _ => by simp
theorem fault_sends (p : RingParams) (n : Fin 4) (r : Ring) : Sends [.mail] (r.fault p n).2 := by
  unfold Ring.fault
  refine Sends.andThen ?_ fun r => Sends.andThen (loseSlots_sends n r) (endQuery_sends n _ _)
  simp [Out.block]
theorem goOff_sends (n : Fin 4) (r : Ring) : Sends [.mail] (r.goOff n).2 := by
  unfold Ring.goOff
  refine Sends.andThen (Sends.andThen ?_ ?_) ?_
  · simp
  · exact clearSlots_sends n
  · exact endQuery_sends n _ _
theorem enableWrite_sends (p : RingParams) (n : Fin 4) (a b : Bool) (r : Ring) :
    Sends [.mail] (r.enableWrite p n a b).2 := by
  unfold Ring.enableWrite
  split
  · split
    · exact enterLocking_sends p n r
    · exact sends_nil _
  · split
    · exact goOff_sends n r
    · exact sends_nil _
theorem ringRestart_sends (p : RingParams) (n : Fin 4) (r : Ring) : Sends [.mail] (r.restart p n).2 :=
  Sends.andThen (enterLocking_sends _ _ _) fun _ => by simp
theorem request_sends (b : Bool) (k : Fin 8) (i : BitVec 4) (v : BitVec 32) (r : Ring) :
    Sends [.mail] (r.request b k i v).2 := by
  unfold Ring.request; split <;> simp [Out.block]
theorem lockExpiry_sends (p : RingParams) (n : Fin 4) (r : Ring) : Sends [.mail] (r.lockExpiry p n).2 := by
  unfold Ring.lockExpiry
  split
  · exact fault_sends _ _ _
  · simp
theorem restartExpiry_sends (p : RingParams) (n : Fin 4) (r : Ring) : Sends [.mail] (r.restartExpiry p n).2 := by
  unfold Ring.restartExpiry
  split
  · exact enterLocking_sends _ _ _
  · simp
theorem ringBoundary_sends (s : State) (p : RingParams) (n : Fin 4) (x : Ring × Comp) :
    Sends [.mail] (Ring.boundary s p n x).2 := by
  unfold Ring.boundary Ring.judgeTimeout
  dsimp only
  repeat' split
  all_goals simp
theorem unshifted_sends (s : State) (p : RingParams) (n : Fin 4) (x : Ring × Comp) :
    Sends [.mail] (Ring.unshifted s p n x).2 := by
  unfold Ring.unshifted
  repeat' split
  all_goals first
    | exact ringBoundary_sends _ _ _ _
    | simp
theorem handOver_sends (s : State) (p : RingParams) (n : Fin 4) (cs : List ReturnedCar) (r : Ring) :
    Sends [.mail] (r.handOver s p n cs).2 := by
  refine Sends.andThen (Sends.andThen (Sends.andThen (Sends.andThen ?_ ?_) ?_) ?_) ?_
  · simp [settlementOut, Out.block]
  · intro r
    unfold Ring.settleQuery
    repeat' split
    all_goals simp
  · intro r
    apply Sends.forAll
    intro k r
    unfold Ring.goLive
    split <;> simp [reportOut, Out.block]
  · intro r
    apply Sends.forAll
    intro k r
    unfold Ring.walk
    dsimp only
    repeat' split
    · simp
    · simp
    · refine Sends.andThen (by simp [reportOut, Out.block]) fun r => ?_
      unfold Ring.endQueryOf
      split <;> simp
  · intro r
    apply Sends.forAll
    intro k r
    unfold Ring.rejoin
    split <;> simp [readyOut, Out.block]
theorem badReturn_sends (s : State) (p : RingParams) (n : Fin 4) (o : TrainOutcome) (k : EventKind) (f : Flight)
    (r : Ring) : Sends [.mail] (r.badReturn s p n o k f).2 := by
  refine Sends.andThen (Sends.andThen (by simp [Out.block]) fun r => ?_) fun r => ?_
  · split
    · simp
    · exact handOver_sends _ _ _ _ _
  · split
    · exact fault_sends _ _ _
    · simp
theorem fill_sends (n : Fin 4) (cs : List ReturnedCar) (r : Ring) : Sends [.mail] (r.fill n cs).2 := by
  unfold Ring.fill
  apply Sends.forAll
  intro k r
  repeat' split
  all_goals simp [readyOut, Out.block]
theorem goodReturn_sends (s : State) (p : RingParams) (n : Fin 4) (f : Flight) (bs : List Byte) (r : Ring) :
    Sends [.mail] (r.goodReturn s p n f bs).2 := by
  unfold Ring.goodReturn
  dsimp only
  split
  · refine Sends.andThen (fill_sends n _ _) fun r => ?_
    rw [sends_ite]
    split <;> simp [Out.block]
  · exact handOver_sends s p n _ _
theorem returned_sends (s : State) (p : RingParams) (n : Fin 4) (bs : List Byte) (r : Ring) :
    Sends [.mail] (r.returned s p n bs).2 := by
  unfold Ring.returned
  split
  · split
    · exact sends_nil _
    · split
      · exact goodReturn_sends s p n _ bs r
      · exact badReturn_sends s p n _ _ _ r
  · exact sends_nil _
theorem returnExpiry_sends (s : State) (p : RingParams) (n : Fin 4) (r : Ring) :
    Sends [.mail] (r.returnExpiry s p n).2 := by
  unfold Ring.returnExpiry
  split
  · split
    · exact badReturn_sends s p n _ _ _ r
    · exact sends_nil _
  · exact sends_nil _

end Sys2Proof.Machine
end

