-- ==== Sys2Proof/Laws/Commands.lean ====
section
/-! SUPPORT. For each command, the pieces of state it may change; it leaves the others as they are. -/

namespace Sys2Proof.Machine

-- one proof at a time: each thread reserves a whole stack
set_option Elab.async false

/-! ### Putting a block's new state in place -/

theorem Frame.emit {bs cs : List Block} {s t : State} {outs : List Out} (h : Frame bs s t) (k : Sends cs outs)
    (hb : ∀ b ∈ bs, b ∈ cs := by simp) : Frame cs s (t.emit outs) := (h.mono hb).trans (emit_frame k t)

theorem trackerDo_frame (s : State) (p : Tracker × List Out) (h : Sends [.mail, .classQueues] p.2) :
    Frame [.clock, .entries, .seatFields, .mail, .classQueues] s (s.trackerDo p) :=
  (frame_withTracker s p.1).emit (h.mono (by simp))
theorem trackerDo_frame' (s : State) (p : Tracker × List Out) (h : Sends [.mail] p.2) :
    Frame [.clock, .entries, .seatFields, .mail] s (s.trackerDo p) :=
  (frame_withTracker s p.1).emit (h.mono (by simp))
theorem seatsDo_frame (s : State) (p : Seats × List Out) :
    Frame [.seats, .mail, .classQueues, .seatFields] s (s.seatsDo p) :=
  (frame_withSeats s p.1).emit ((sends_any p.2).mono (by simp))
theorem noticesDo_frame (s : State) (p : Notices × List Out) (h : Sends [.mail, .classQueues] p.2) :
    Frame [.notices, .mail, .classQueues] s (s.noticesDo p) :=
  (frame_withNotices s p.1).emit (h.mono (by simp))
theorem noticesDo_frame' (s : State) (p : Notices × List Out) (h : Sends [.mail] p.2) :
    Frame [.notices, .mail] s (s.noticesDo p) :=
  (frame_withNotices s p.1).emit (h.mono (by simp))
theorem reelDo_frame (s : State) (p : Reel × List Out) (h : Sends [.mail, .classQueues] p.2) :
    Frame [.reel, .mail, .classQueues] s (s.reelDo p) :=
  (frame_withReel s p.1).emit (h.mono (by simp))
theorem reelDo_frame' (s : State) (p : Reel × List Out) (h : Sends [.mail] p.2) :
    Frame [.reel, .mail] s (s.reelDo p) :=
  (frame_withReel s p.1).emit (h.mono (by simp))
theorem compDo_frame (s : State) (p : Comp × List Out) (h : Sends [.mail] p.2) :
    Frame [.comp, .mail] s (s.compDo p) :=
  (frame_withComp s p.1).emit (h.mono (by simp))
theorem ringDo_frame (s : State) (n : Fin 4) (p : Ring × List Out) (h : Sends [.mail] p.2) :
    Frame [.rings, .mail] s (s.ringDo n p) :=
  (frame_withRings s _).emit (h.mono (by simp))
theorem ringCompDo_frame (s : State) (n : Fin 4) (p : (Ring × Comp) × List Out) (h : Sends [.mail] p.2) :
    Frame [.rings, .comp, .mail] s (s.ringCompDo n p) :=
  (((frame_withComp s p.1.2).mono (by simp)).trans ((frame_withRings _ _).mono (by simp)) :
    Frame [.rings, .comp, .mail] s _).emit (h.mono (by simp))
theorem storeSimple_frame (s : State) (p : Simple) (v : BitVec 32) : Frame [.params] s (s.storeSimple p v) :=
  frame_withParams s _
theorem storeRing_frame (s : State) (n : Fin 4) (f : RingField) (v : BitVec 32) :
    Frame [.params] s (s.storeRing n f v) := frame_withParams s _

/-- An entry taken, something done, and its result written. -/
theorem entry_frame {bs : List Block} {s t : State} {e : BitVec 10} {v : BitVec 32} {o : Outcome}
    (h : Frame bs s.takeEntry t) (hi : Block.intakes ∈ bs := by simp) (hs : Block.setup ∈ bs := by simp)
    (hc : Block.classQueues ∈ bs := by simp) : Frame bs s (t.result e v o) :=
  (((takeEntry_frame s).mono (by simp [hi, hs])).trans h).trans ((result_frame t e v o).mono (by simp [hs, hc]))

/-! ### Clock and shows -/

theorem secondAdvance_frame (s : State) : Frame [.clock, .entries, .seatFields, .mail] s (secondAdvance s) := by
  unfold secondAdvance
  split
  · exact trackerDo_frame' s _ (advance_sends _)
  · exact Frame.refl _ _

theorem minuteBoundary_frame (s : State) : Frame [.clock, .entries, .seatFields, .mail] s (minuteBoundary s) := by
  unfold minuteBoundary
  split
  · exact trackerDo_frame' s _ (boundary_sends _ _ _)
  · exact Frame.refl _ _

theorem dayOpenAnswer_frame (s : State) (w : DayOpenWait) : Frame [.setup, .classQueues] s (s.dayOpenAnswer w) := by
  unfold State.dayOpenAnswer
  split
  · exact (frame_withSetup s _).mono (by simp)
  · exact ((frame_withSetup s _).mono (by simp)).trans (result_frame _ _ _ _)
theorem dayOpenSeats_frame (s : State) : Frame [.setup, .classQueues] s s.dayOpenSeats := by
  unfold State.dayOpenSeats
  split
  · exact dayOpenAnswer_frame s _
  · exact Frame.refl _ _
theorem dayOpenNotices_frame (s : State) : Frame [.setup, .classQueues] s s.dayOpenNotices := by
  unfold State.dayOpenNotices
  split
  · exact dayOpenAnswer_frame s _
  · exact Frame.refl _ _
theorem dayOpenComp_frame (s : State) : Frame [.setup, .classQueues] s s.dayOpenComp := by
  unfold State.dayOpenComp
  split
  · exact dayOpenAnswer_frame s _
  · exact Frame.refl _ _

theorem dayOpen_frame (s : State) :
    Frame [.intakes, .setup, .mail, .clock, .entries, .seatFields] s (dayOpen s) := by
  unfold dayOpen
  split
  · split
    · exact ((takeEntry_frame s).mono (by simp)).trans (((frame_withSetup _ _).mono (by simp)).trans
        (((frame_withMail _ _).mono (by simp)).trans ((emit_frame (by simp [Out.block]) _).trans
          ((trackerDo_frame' _ _ (trackerDayOpen_sends _ _)).mono (by simp)))))
    · exact Frame.refl _ _
  · exact Frame.refl _ _

theorem clockSet_frame (s : State) :
    Frame [.intakes, .setup, .classQueues, .mail, .clock, .entries, .seatFields] s (clockSet s) := by
  unfold clockSet
  split
  · split
    · exact entry_frame ((trackerDo_frame' _ _ (clockSet_sends _ _ _ _)).mono (by simp))
    · exact Frame.refl _ _
  · exact Frame.refl _ _

theorem controlBeat_sends (w : Windows) (i : Fin 192) (t : Tracker) : Sends [.mail, .classQueues] (t.controlBeat w i).2 := by
  unfold Tracker.controlBeat
  split
  · exact (startFetch_sends _ _ _).mono (by simp)
  · simp

theorem controlWordBeat_frame (s : State) :
    Frame [.intakes, .clock, .entries, .seatFields, .mail, .classQueues] s (controlWordBeat s) := by
  unfold controlWordBeat
  split
  · exact Frame.refl _ _
  · dsimp only
    split
    · exact (frame_withIntakes s _).mono (by simp)
    · exact ((frame_withIntakes s _).mono (by simp)).trans
        ((trackerDo_frame _ _ (controlBeat_sends _ _ _)).mono (by simp))

theorem recordFetchDone_frame (s : State) :
    Frame [.clock, .entries, .seatFields, .mail, .classQueues] s (recordFetchDone s) := by
  unfold recordFetchDone
  split
  · dsimp only
    split
    · exact ((frame_withMail s _).mono (by simp)).trans (trackerDo_frame _ _ (recordDone_sends _ _ _ _ _ _))
    · exact (frame_withMail s _).mono (by simp)
  · exact Frame.refl _ _

theorem titleFetchDone_frame (s : State) :
    Frame [.clock, .entries, .seatFields, .mail, .classQueues] s (titleFetchDone s) := by
  unfold titleFetchDone
  split
  · dsimp only
    split
    · exact ((frame_withMail s _).mono (by simp)).trans (trackerDo_frame _ _ (titleDone_sends _ _ _ _ _))
    · exact (frame_withMail s _).mono (by simp)
  · exact Frame.refl _ _

theorem delayEffect_frame (s : State) : Frame [.clock, .entries, .seatFields, .mail] s (delayEffect s) := by
  unfold delayEffect
  split
  · exact ((frame_withMail s _).mono (by simp)).trans (trackerDo_frame' _ _ (delayEffect_sends _ _ _ _))
  · exact Frame.refl _ _
theorem undelayEffect_frame (s : State) : Frame [.clock, .entries, .seatFields, .mail] s (undelayEffect s) := by
  unfold undelayEffect
  split
  · exact ((frame_withMail s _).mono (by simp)).trans (trackerDo_frame' _ _ (undelayEffect_sends _ _ _ _))
  · exact Frame.refl _ _
theorem cancelEffect_frame (s : State) : Frame [.clock, .entries, .seatFields, .mail] s (cancelEffect s) := by
  unfold cancelEffect
  split
  · exact ((frame_withMail s _).mono (by simp)).trans (trackerDo_frame' _ _ (cancelEffect_sends _ _))
  · exact Frame.refl _ _

/-! ### Seats -/

theorem bind_frame (s : State) : Frame [.seats, .mail, .classQueues, .seatFields] s (bind s) := by
  unfold bind
  split
  · exact ((frame_withMail s _).mono (by simp)).trans (seatsDo_frame _ _)
  · exact Frame.refl _ _
theorem release_frame (s : State) : Frame [.seats, .mail, .classQueues, .seatFields] s (release s) := by
  unfold release
  split
  · exact ((frame_withMail s _).mono (by simp)).trans (seatsDo_frame _ _)
  · exact Frame.refl _ _
theorem remap_frame (s : State) : Frame [.seats, .mail, .classQueues, .seatFields] s (remap s) := by
  unfold remap
  split
  · exact ((frame_withMail s _).mono (by simp)).trans (seatsDo_frame _ _)
  · exact Frame.refl _ _
theorem holdback_frame (s : State) : Frame [.seats, .mail, .classQueues, .seatFields] s (holdback s) := by
  unfold holdback
  split
  · exact ((frame_withMail s _).mono (by simp)).trans (seatsDo_frame _ _)
  · exact Frame.refl _ _
theorem seatDayOpen_frame (s : State) : Frame [.seats, .mail, .setup, .classQueues] s (seatDayOpen s) := by
  unfold seatDayOpen
  split
  · exact ((frame_withMail s _).mono (by simp)).trans
      (((frame_withSeats _ _).mono (by simp)).trans ((dayOpenSeats_frame _).mono (by simp)))
  · exact Frame.refl _ _
theorem seatShowChangedNote_frame (s : State) : Frame [.seats, .mail] s (seatShowChangedNote s) := by
  unfold seatShowChangedNote
  split
  · split
    · exact ((frame_withMail s _).mono (by simp)).trans ((frame_withSeats _ _).mono (by simp))
    · exact (frame_withMail s _).mono (by simp)
  · exact Frame.refl _ _
theorem sweepReadIssue_frame (s : State) : Frame [.seats, .mail, .classQueues, .seatFields] s (sweepReadIssue s) :=
  seatsDo_frame _ _
theorem sweepReadDone_frame (s : State) : Frame [.seats, .mail, .classQueues, .seatFields] s (sweepReadDone s) := by
  unfold sweepReadDone
  split
  · exact ((frame_withMail s _).mono (by simp)).trans (seatsDo_frame _ _)
  · exact Frame.refl _ _
theorem seatBeat_frame (s : State) : Frame [.intakes, .seats, .mail, .classQueues, .seatFields] s (seatBeat s) := by
  unfold seatBeat
  split
  · dsimp only
    split
    · exact ((frame_withIntakes s _).mono (by simp)).trans ((seatsDo_frame _ _).mono (by simp))
    · exact (frame_withIntakes s _).mono (by simp)
  · exact Frame.refl _ _
theorem seatWriteError_frame (s : State) : Frame [.seats, .mail, .classQueues, .seatFields] s (seatWriteError s) := by
  unfold seatWriteError
  split
  · split
    · exact Frame.refl _ _
    · exact ((frame_withMail s _).mono (by simp)).trans (seatsDo_frame _ _)
  · exact Frame.refl _ _
theorem policyWrite_frame (s : State) :
    Frame [.intakes, .setup, .params, .seats, .mail, .classQueues, .seatFields] s (policyWrite s) := by
  unfold policyWrite
  split
  · split
    · exact entry_frame
        (((storeSimple_frame _ _ _).mono (by simp)).trans ((seatsDo_frame _ _).mono (by simp)))
    · exact Frame.refl _ _
  · exact Frame.refl _ _

/-! ### Notices -/

theorem producerValueTaken_frame (s : State) :
    Frame [.intakes, .notices, .mail, .classQueues] s (producerValueTaken s) := by
  unfold producerValueTaken
  split
  · exact ((frame_withIntakes s _).mono (by simp)).trans ((noticesDo_frame _ _ (produce_sends _ _ _)).mono (by simp))
  · exact Frame.refl _ _
theorem noticeRecordDone_frame (s : State) : Frame [.notices, .mail, .classQueues] s (noticeRecordDone s) := by
  unfold noticeRecordDone
  split
  · have h : Frame [.notices, .mail, .classQueues] s s.popNoticeResp := (frame_withMail s _).mono (by simp)
    split
    · exact h.trans (noticesDo_frame _ _ (noticeRecordDone_sends _ _ _ _ _))
    · exact h.trans (noticesDo_frame _ _ ((discardOne_sends _ _).mono (by simp)))
    · exact h
  · exact Frame.refl _ _
theorem noticeTextDone_frame (s : State) : Frame [.notices, .mail, .classQueues] s (noticeTextDone s) := by
  unfold noticeTextDone
  split
  · have h : Frame [.notices, .mail, .classQueues] s s.popNoticeResp := (frame_withMail s _).mono (by simp)
    split
    · exact h.trans (noticesDo_frame _ _ (textDone_sends _ _ _ _ _))
    · exact h.trans (noticesDo_frame _ _ ((discardOne_sends _ _).mono (by simp)))
    · exact h
  · exact Frame.refl _ _
theorem effectAnswer_frame (s : State) : Frame [.notices, .mail, .classQueues] s (effectAnswer s) := by
  unfold effectAnswer
  split
  · exact ((frame_withMail s _).mono (by simp)).trans (noticesDo_frame _ _ (answer_sends _ _ _))
  · exact Frame.refl _ _
theorem consumerWritebackDone_frame (s : State) : Frame [.notices, .mail] s (consumerWritebackDone s) := by
  unfold consumerWritebackDone
  split
  · have h : Frame [.notices, .mail] s s.popNoticeResp := (frame_withMail s _).mono (by simp)
    split
    · exact h.trans ((frame_withNotices _ _).mono (by simp))
    · exact h
  · exact Frame.refl _ _
theorem writebackRetryBoundary_frame (s : State) :
    Frame [.time, .notices, .mail, .classQueues] s (writebackRetryBoundary s) := by
  unfold writebackRetryBoundary
  split
  · dsimp only
    split
    · exact ((frame_withTime s _).mono (by simp)).trans
        ((noticesDo_frame _ _ ((writeback_sends _ _).mono (by simp))).mono (by simp))
    · exact (frame_withTime s _).mono (by simp)
  · exact Frame.refl _ _
theorem minuteNoteNotice_frame (s : State) : Frame [.notices, .mail] s (minuteNoteNotice s) := by
  unfold minuteNoteNotice
  split
  · exact ((frame_withMail s _).mono (by simp)).trans (noticesDo_frame' _ _ (by simp [Notices.minuteNote]))
  · exact Frame.refl _ _
theorem noticeShowChangedNote_frame (s : State) : Frame [.notices, .mail] s (noticeShowChangedNote s) := by
  unfold noticeShowChangedNote
  split
  · exact ((frame_withMail s _).mono (by simp)).trans (noticesDo_frame' _ _ (by simp [Notices.showNote]))
  · exact Frame.refl _ _
theorem noticeSeatsChangedNote_frame (s : State) : Frame [.notices, .mail] s (noticeSeatsChangedNote s) := by
  unfold noticeSeatsChangedNote
  split
  · exact ((frame_withMail s _).mono (by simp)).trans (noticesDo_frame' _ _ (seatsNote_sends _ _ _ _))
  · exact Frame.refl _ _
theorem noticeDayOpen_frame (s : State) : Frame [.notices, .mail, .setup, .classQueues] s (noticeDayOpen s) := by
  unfold noticeDayOpen
  split
  · exact ((frame_withMail s _).mono (by simp)).trans
      (((noticesDo_frame' _ _ (remove_sends _ _)).mono (by simp)).trans ((dayOpenNotices_frame _).mono (by simp)))
  · exact Frame.refl _ _
theorem alertLineAsserted_frame (s : State) : Frame [.notices, .mail] s (alertLineAsserted s) := by
  unfold alertLineAsserted
  split
  · exact noticesDo_frame' _ _ (enterHouse_sends _)
  · exact Frame.refl _ _
theorem alertLineDeasserted_frame (s : State) : Frame [.notices, .mail] s (alertLineDeasserted s) := by
  unfold alertLineDeasserted
  split
  · exact noticesDo_frame' _ _ (remove_sends _ _)
  · exact Frame.refl _ _
theorem hushLineChange_frame (s : State) : Frame [.notices, .mail] s (hushLineChange s) := by
  unfold hushLineChange
  split
  · exact noticesDo_frame' _ _ (by simp [Notices.hushChange, Out.block])
  · exact Frame.refl _ _
theorem bannerDwellExpiry_frame (sc : Fin 32) (p : Fin 4) (s : State) :
    Frame [.notices, .mail] s (bannerDwellExpiry sc p s) := noticesDo_frame' _ _ (dwellExpiry_sends _ _)
theorem bannerPaneReport_frame (s : State) : Frame [.notices, .mail] s (bannerPaneReport s) := by
  unfold bannerPaneReport
  split
  · exact ((frame_withMail s _).mono (by simp)).trans (noticesDo_frame' _ _ (paneReport_sends _ _))
  · exact Frame.refl _ _
theorem autoSoldOutWrite_frame (s : State) :
    Frame [.intakes, .setup, .params, .notices, .mail, .classQueues] s (autoSoldOutWrite s) := by
  unfold autoSoldOutWrite
  split
  · split
    · refine entry_frame ?_
      split
      · exact ((storeSimple_frame _ _ _).mono (by simp)).trans ((noticesDo_frame' _ _ (remove_sends _ _)).mono (by simp))
      · exact (storeSimple_frame _ _ _).mono (by simp)
    · exact Frame.refl _ _
  · exact Frame.refl _ _

/-! ### Reels -/

theorem cuePush_frame (s : State) : Frame [.intakes, .setup, .reel, .mail, .classQueues] s (cuePush s) := by
  unfold cuePush
  split
  · split
    · exact entry_frame ((reelDo_frame _ _ (push_sends _ _ _ _ _)).mono (by simp))
    · exact Frame.refl _ _
  · exact Frame.refl _ _
theorem cueCut_frame (s : State) : Frame [.intakes, .setup, .reel, .mail, .classQueues] s (cueCut s) := by
  unfold cueCut
  split
  · split
    · exact entry_frame ((reelDo_frame _ _ (by simp [Reel.onChannel])).mono (by simp))
    · exact Frame.refl _ _
  · exact Frame.refl _ _
theorem channelStop_frame (s : State) : Frame [.intakes, .setup, .reel, .mail, .classQueues] s (channelStop s) := by
  unfold channelStop
  split
  · split
    · exact entry_frame ((reelDo_frame _ _ ((stop_sends _ _ _).mono (by simp))).mono (by simp))
    · exact Frame.refl _ _
  · exact Frame.refl _ _
theorem cueLoadDone_frame (s : State) : Frame [.reel, .mail, .classQueues] s (cueLoadDone s) := by
  unfold cueLoadDone
  split
  · exact ((frame_withMail s _).mono (by simp)).trans (reelDo_frame _ _ (loadDone_sends _ _ _ _ _ _ _))
  · exact Frame.refl _ _
theorem frameReadIssue_frame (s : State) : Frame [.reel, .mail, .classQueues] s (frameReadIssue s) :=
  reelDo_frame _ _ ((reelIssue_sends _).mono (by simp))
theorem pointerReadDone_frame (s : State) : Frame [.reel, .mail] s (pointerReadDone s) := by
  unfold pointerReadDone
  split
  · exact ((frame_withMail s _).mono (by simp)).trans (reelDo_frame' _ _ (by simp [Reel.onChannel]))
  · exact Frame.refl _ _
theorem frameReadDone_frame (s : State) : Frame [.reel, .mail] s (frameReadDone s) := by
  unfold frameReadDone
  split
  · exact ((frame_withMail s _).mono (by simp)).trans (reelDo_frame' _ _ (by simp [Reel.onChannel]))
  · exact Frame.refl _ _
theorem restReadDone_frame (s : State) : Frame [.reel, .mail] s (restReadDone s) := by
  unfold restReadDone
  split
  · exact ((frame_withMail s _).mono (by simp)).trans (reelDo_frame' _ _ (restDone_sends _ _ _ _ _))
  · exact Frame.refl _ _
theorem reelPeriodBoundary_frame (s : State) : Frame [.time, .reel, .mail, .classQueues] s (reelPeriodBoundary s) := by
  unfold reelPeriodBoundary
  split
  · exact ((frame_withTime s _).mono (by simp)).trans ((reelDo_frame _ _ (reelBoundary_sends _ _)).mono (by simp))
  · exact Frame.refl _ _
theorem reelShowChangedNote_frame (s : State) : Frame [.reel, .mail] s (reelShowChangedNote s) := by
  unfold reelShowChangedNote
  split
  · exact ((frame_withMail s _).mono (by simp)).trans ((frame_withReel _ _).mono (by simp))
  · exact Frame.refl _ _
theorem hushAsserted_frame (s : State) : Frame [.reel, .mail] s (hushAsserted s) := by
  unfold hushAsserted
  split
  · exact ((frame_withMail s _).mono (by simp)).trans ((frame_withReel _ _).mono (by simp))
  · exact Frame.refl _ _
theorem hushReleased_frame (s : State) : Frame [.reel, .mail] s (hushReleased s) := by
  unfold hushReleased
  split
  · exact ((frame_withMail s _).mono (by simp)).trans ((frame_withReel _ _).mono (by simp))
  · exact Frame.refl _ _
theorem restStillWrite_frame (s : State) :
    Frame [.intakes, .setup, .params, .reel, .mail, .classQueues] s (restStillWrite s) := by
  unfold restStillWrite
  split
  · split
    · refine entry_frame (((frame_withParams _ _).mono (by simp)).trans ((reelDo_frame' _ _ ?_).mono (by simp)))
      simp only [Reel.onChannel]
      split <;> simp
    · exact Frame.refl _ _
  · exact Frame.refl _ _

/-! ### Panes -/

theorem paneWrite_frame (s : State) : Frame [.intakes, .setup, .comp, .mail, .classQueues] s (paneWrite s) := by
  unfold paneWrite
  split
  · split
    · exact entry_frame ((compDo_frame _ _ (writePane_sends _ _ _ _)).mono (by simp))
    · exact Frame.refl _ _
  · exact Frame.refl _ _
theorem boardOrderNote_frame (s : State) : Frame [.comp, .mail] s (boardOrderNote s) := by
  unfold boardOrderNote
  split
  · exact ((frame_withMail s _).mono (by simp)).trans ((frame_withComp _ _).mono (by simp))
  · exact Frame.refl _ _
theorem compositionShowChangedNote_frame (s : State) : Frame [.comp, .mail] s (compositionShowChangedNote s) := by
  unfold compositionShowChangedNote
  split
  · exact ((frame_withMail s _).mono (by simp)).trans ((frame_withComp _ _).mono (by simp))
  · exact Frame.refl _ _
theorem compositionSeatsChangedNote_frame (s : State) : Frame [.comp, .mail] s (compositionSeatsChangedNote s) := by
  unfold compositionSeatsChangedNote
  split
  · exact ((frame_withMail s _).mono (by simp)).trans ((frame_withComp _ _).mono (by simp))
  · exact Frame.refl _ _
theorem pageDwellExpiry_frame (sc : Fin 32) (p : Fin 4) (s : State) : Frame [.comp] s (pageDwellExpiry sc p s) :=
  frame_withComp s _
theorem listNote_frame (s : State) : Frame [.comp, .mail] s (listNote s) := by
  unfold listNote
  split
  · exact ((frame_withMail s _).mono (by simp)).trans ((frame_withComp _ _).mono (by simp))
  · exact Frame.refl _ _
theorem bannerNote_frame (s : State) : Frame [.comp, .mail] s (bannerNote s) := by
  unfold bannerNote
  split
  · exact ((frame_withMail s _).mono (by simp)).trans ((frame_withComp _ _).mono (by simp))
  · exact Frame.refl _ _
theorem alertNote_frame (s : State) : Frame [.comp, .mail] s (alertNote s) := by
  unfold alertNote
  split
  · exact ((frame_withMail s _).mono (by simp)).trans ((frame_withComp _ _).mono (by simp))
  · exact Frame.refl _ _
theorem minuteNoteComposition_frame (s : State) : Frame [.comp, .mail] s (minuteNoteComposition s) := by
  unfold minuteNoteComposition
  split
  · exact ((frame_withMail s _).mono (by simp)).trans ((frame_withComp _ _).mono (by simp))
  · exact Frame.refl _ _
theorem channelNote_frame (s : State) : Frame [.comp, .mail] s (channelNote s) := by
  unfold channelNote
  split
  · exact ((frame_withMail s _).mono (by simp)).trans (compDo_frame _ _ (judgeSome_sends _ _ _))
  · exact Frame.refl _ _
theorem moduleReport_frame (s : State) : Frame [.comp, .mail] s (moduleReport s) := by
  unfold moduleReport
  split
  · exact ((frame_withMail s _).mono (by simp)).trans (compDo_frame _ _ (compReport_sends _ _ _))
  · exact Frame.refl _ _
theorem acceptanceSettlement_frame (s : State) : Frame [.comp, .mail] s (acceptanceSettlement s) := by
  unfold acceptanceSettlement
  split
  · exact ((frame_withMail s _).mono (by simp)).trans ((frame_withComp _ _).mono (by simp))
  · exact Frame.refl _ _
theorem compositionDayOpen_frame (s : State) :
    Frame [.comp, .mail, .setup, .classQueues] s (compositionDayOpen s) := by
  unfold compositionDayOpen
  split
  · exact ((frame_withMail s _).mono (by simp)).trans
      (((frame_withComp _ _).mono (by simp)).trans ((dayOpenComp_frame _).mono (by simp)))
  · exact Frame.refl _ _

/-! ### Rings -/

theorem ringEnableWrite_frame (s : State) :
    Frame [.intakes, .setup, .params, .rings, .mail, .classQueues] s (ringEnableWrite s) := by
  unfold ringEnableWrite
  split
  · split
    · exact entry_frame
        (((storeRing_frame _ _ _ _).mono (by simp)).trans ((ringDo_frame _ _ _ (enableWrite_sends _ _ _ _ _)).mono (by simp)))
    · exact Frame.refl _ _
  · exact Frame.refl _ _
theorem lockIndication_frame (n : Fin 4) (s : State) : Frame [.rings, .mail] s (lockIndication n s) :=
  ringDo_frame _ _ _ (by simp)
theorem lockTimerExpiry_frame (n : Fin 4) (s : State) : Frame [.rings, .mail] s (lockTimerExpiry n s) :=
  ringDo_frame _ _ _ (lockExpiry_sends _ _ _)
theorem restartTimerExpiry_frame (n : Fin 4) (s : State) : Frame [.rings, .mail] s (restartTimerExpiry n s) :=
  ringDo_frame _ _ _ (restartExpiry_sends _ _ _)
theorem autoRestartWrite_frame (s : State) :
    Frame [.intakes, .setup, .params, .rings, .mail, .classQueues] s (autoRestartWrite s) := by
  unfold autoRestartWrite
  split
  · split
    · exact entry_frame
        (((storeRing_frame _ _ _ _).mono (by simp)).trans ((ringDo_frame _ _ _ (by simp)).mono (by simp)))
    · exact Frame.refl _ _
  · exact Frame.refl _ _
theorem ringRestart_frame (s : State) : Frame [.intakes, .setup, .rings, .mail, .classQueues] s (ringRestart s) := by
  unfold ringRestart
  split
  · split
    · refine entry_frame ((ringDo_frame _ _ _ ?_).mono (by simp))
      split
      · exact ringRestart_sends _ _ _
      · exact sends_nil _
    · exact Frame.refl _ _
  · exact Frame.refl _ _
theorem ringUnshiftedBoundary_frame (n : Fin 4) (s : State) :
    Frame [.time, .rings, .comp, .mail] s (ringUnshiftedBoundary n s) := by
  unfold ringUnshiftedBoundary
  split
  · exact ((frame_withTime s _).mono (by simp)).trans
      ((ringCompDo_frame _ _ _ (unshifted_sends _ _ _ _)).mono (by simp))
  · exact Frame.refl _ _
theorem ringBoundary_frame (n : Fin 4) (s : State) : Frame [.rings, .comp, .mail] s (ringBoundary n s) := by
  unfold ringBoundary
  dsimp only
  split
  · exact ringCompDo_frame _ _ _ (ringBoundary_sends _ _ _ _)
  · exact Frame.refl _ _
theorem trainReturn_frame (n : Fin 4) (bs : List Byte) (s : State) : Frame [.rings, .mail] s (trainReturn n bs s) :=
  ringDo_frame _ _ _ (returned_sends _ _ _ _ _)
theorem returnTimerExpiry_frame (n : Fin 4) (s : State) : Frame [.rings, .mail] s (returnTimerExpiry n s) :=
  ringDo_frame _ _ _ (returnExpiry_sends _ _ _ _)
theorem moduleQuery_frame (s : State) : Frame [.intakes, .setup, .rings, .mail, .classQueues] s (moduleQuery s) := by
  unfold moduleQuery
  split
  · split
    · exact entry_frame ((ringDo_frame _ _ _ (request_sends _ _ _ _ _)).mono (by simp))
    · exact Frame.refl _ _
  · exact Frame.refl _ _
theorem moduleSet_frame (s : State) : Frame [.intakes, .setup, .rings, .mail, .classQueues] s (moduleSet s) := by
  unfold moduleSet
  split
  · split
    · exact entry_frame ((ringDo_frame _ _ _ (request_sends _ _ _ _ _)).mono (by simp))
    · exact Frame.refl _ _
  · exact Frame.refl _ _

/-! ### Path -/

theorem passingRequest_frame (r : PassReq) (s : State) : Frame [.port] s (passingRequest r s) := by
  unfold passingRequest
  intro b hb
  split <;> cases b <;> simp_all [Block.same]

theorem guardOuts_sends (bs : List PlacedBeat) : Sends [.mail] (guardOuts bs) :=
  sends_map _ _ _ fun _ => by simp [Out.block]

theorem portGrant_frame (s : State) : Frame [.port, .classQueues, .intakes, .mail] s (portGrant s) := by
  have hp (r : PassReq) (n : Nat) : Frame [.port, .classQueues, .intakes, .mail] s (s.grantPassing r n) := by
    refine Frame.emit (bs := [.port, .classQueues, .intakes]) ?_ ((guardOuts_sends _).mono (by simp))
    exact ((frame_withIntakes s _).mono (by simp)).trans ((frame_withPath _ _).mono (by simp))
  have ha (r : AgentReq) : Frame [.port, .classQueues, .intakes, .mail] s (s.grantAgent r) :=
    (frame_withPath s _).mono (by simp)
  unfold portGrant
  split
  · exact Frame.refl _ _
  · split
    · exact hp _ _
    · exact ha _
    · split
      · exact hp _ _
      · exact ha _
    · exact Frame.refl _ _

theorem respond_frame (g : Granted) (d : List Beat) (err : Bool) (s : State) :
    Frame [.port, .classQueues, .mail] s (s.respond g d err) := by
  unfold State.respond
  dsimp only
  split
  · split
    · exact ((frame_withPath s _).mono (by simp)).trans ((frame_withMail _ _).mono (by simp))
    · exact (frame_withPath s _).mono (by simp)
  · exact Frame.refl _ _
  · split
    · exact ((emit_frame (bs := [.mail]) (by simp [Out.block]) s).mono (by simp)).trans ((frame_withMail _ _).mono (by simp))
    · exact (frame_withMail s _).mono (by simp)

theorem downstreamResponse_frame (d : List Beat) (err : Bool) (s : State) :
    Frame [.port, .classQueues, .mail] s (downstreamResponse d err s) := by
  unfold downstreamResponse
  split
  · exact (frame_withPath s _).mono (by simp)
  · split
    · exact ((frame_withPath s _).mono (by simp)).trans (respond_frame _ d err _)
    · exact Frame.refl _ _

/-! ### Setup -/

theorem indexBeat_frame (s : State) : Frame [.intakes, .setup] s (indexBeat s) := by
  unfold indexBeat
  split
  · exact ((frame_withIntakes s _).mono (by simp)).trans ((frame_withSetup _ _).mono (by simp))
  · exact Frame.refl _ _
theorem readEntry_frame (s : State) : Frame [.intakes, .setup, .classQueues] s (readEntry s) := by
  unfold readEntry
  split
  · split
    · exact entry_frame (Frame.refl _ _)
    · exact Frame.refl _ _
  · split
    · exact (frame_withIntakes s _).mono (by simp)
    · exact Frame.refl _ _
theorem parameterEntry_frame (s : State) : Frame [.intakes, .setup, .params, .classQueues] s (parameterEntry s) := by
  unfold parameterEntry
  split
  · split
    · exact entry_frame ((storeSimple_frame _ _ _).mono (by simp))
    · exact entry_frame ((storeRing_frame _ _ _ _).mono (by simp))
    · exact entry_frame (Frame.refl _ _)
    · exact Frame.refl _ _
  · exact Frame.refl _ _
theorem windowMoved_frame (s : State) (p : WindowParam) :
    Frame [.seats, .notices, .events, .mail, .classQueues, .seatFields] s (s.windowMoved p) := by
  unfold State.windowMoved
  split
  · exact Frame.refl _ _
  · exact (seatsDo_frame _ _).mono (by simp)
  · exact (seatsDo_frame _ _).mono (by simp)
  · exact (noticesDo_frame _ _ (begin_sends' _ _)).mono (by simp)
  · exact (frame_withEvents _ _).mono (by simp)
theorem windowBaseWrite_frame (s : State) :
    Frame [.intakes, .setup, .port, .seats, .notices, .events, .mail, .classQueues, .seatFields] s
      (windowBaseWrite s) := by
  unfold windowBaseWrite
  split
  · split
    · dsimp only
      split
      · exact entry_frame (((frame_withPath _ _).mono (by simp)).trans ((windowMoved_frame _ _).mono (by simp)))
      · exact entry_frame (emit_frame (by simp [Out.block]) _)
    · exact Frame.refl _ _
  · exact Frame.refl _ _
theorem eventEnableWrite_frame (s : State) : Frame [.intakes, .setup, .params, .classQueues] s (eventEnableWrite s) := by
  unfold eventEnableWrite
  split
  · split
    · exact entry_frame ((storeSimple_frame _ _ _).mono (by simp))
    · exact Frame.refl _ _
  · exact Frame.refl _ _
theorem interruptPolarityWrite_frame (s : State) :
    Frame [.intakes, .setup, .params, .classQueues] s (interruptPolarityWrite s) := by
  unfold interruptPolarityWrite
  split
  · split
    · exact entry_frame ((storeSimple_frame _ _ _).mono (by simp))
    · exact Frame.refl _ _
  · exact Frame.refl _ _
theorem issueResult_frame (s : State) (r : Result) : Frame [.setup, .classQueues] s (s.issueResult r) := by
  intro b hb
  rw [issueResult_eq]
  split <;> cases b <;> simp_all [Block.same, Path.bare]
theorem issueWaiting_frame (s : State) : Frame [.setup, .classQueues] s s.issueWaiting := by
  unfold State.issueWaiting
  split
  · exact ((frame_withSetup s _).mono (by simp)).trans (issueResult_frame _ _)
  · exact Frame.refl _ _
theorem resultWriteDone_frame (s : State) : Frame [.setup, .mail, .classQueues] s (resultWriteDone s) := by
  unfold resultWriteDone
  split
  · exact ((frame_withMail s _).mono (by simp)).trans
      (((frame_withSetup _ _).mono (by simp)).trans ((issueWaiting_frame _).mono (by simp)))
  · exact Frame.refl _ _

/-! ### Events and the timebase -/

theorem eventAck_frame (s : State) : Frame [.intakes, .setup, .events, .classQueues] s (eventAck s) := by
  unfold eventAck
  split
  · split
    · exact entry_frame ((frame_withEvents _ _).mono (by simp))
    · exact Frame.refl _ _
  · exact Frame.refl _ _
theorem eventReport_frame (s : State) : Frame [.events, .mail] s (eventReport s) := by
  unfold eventReport
  split
  · exact ((frame_withMail s _).mono (by simp)).trans ((frame_withEvents _ _).mono (by simp))
  · exact Frame.refl _ _
theorem beginWriteback_frame (s : State) : Frame [.events, .classQueues] s s.beginWriteback := by
  unfold State.beginWriteback
  refine Frame.emit (bs := [.events]) (frame_withEvents _ _) ?_
  simp only [sends_cons]
  exact ⟨by simp [statusWrite, agentWrite, Out.block],
    sends_map _ _ _ fun i => by simp [statusWrite, agentWrite, Out.block]⟩
theorem eventPeriodBoundary_frame (s : State) : Frame [.time, .events, .classQueues] s (eventPeriodBoundary s) := by
  unfold eventPeriodBoundary
  split
  · dsimp only
    split
    · exact ((frame_withTime s _).mono (by simp)).trans ((beginWriteback_frame _).mono (by simp))
    · exact (frame_withTime s _).mono (by simp)
  · exact Frame.refl _ _
theorem bodyDone_frame (s : State) (err : Bool) : Frame [.events, .mail, .classQueues] s (s.bodyDone err) := by
  unfold State.bodyDone
  dsimp only
  repeat' split
  · exact (frame_withEvents _ _).mono (by simp)
  · exact (frame_withEvents _ _).mono (by simp)
  · refine Frame.emit (bs := [.events]) (frame_withEvents _ _) ?_
    simp [statusWrite, agentWrite, Out.block]
theorem statusWriteDone_frame (s : State) : Frame [.events, .mail, .classQueues] s (statusWriteDone s) := by
  unfold statusWriteDone
  split
  · dsimp only
    split
    · exact ((frame_withMail s _).mono (by simp)).trans (((frame_withEvents _ _).mono (by simp)).trans (bodyDone_frame _ _))
    · exact ((frame_withMail s _).mono (by simp)).trans (((frame_withEvents _ _).mono (by simp)).trans (bodyDone_frame _ _))
    · exact ((frame_withMail s _).mono (by simp)).trans (((frame_withEvents _ _).mono (by simp)).trans
        ((frame_withEvents _ _).mono (by simp)))
  · exact Frame.refl _ _

theorem tickAll_frame (a h : Bool) (s : State) :
    Frame [.clock, .time, .notices, .comp, .rings] s (s.tickAll a h) := by
  intro b hb
  cases b <;> simp_all [Block.same, State.tickAll]
  all_goals (simp [Tracker.tick]; split <;> simp)
theorem takeOutstanding_frame (s : State) :
    Frame [.clock, .entries, .seatFields, .mail, .notices] s s.takeOutstanding :=
  ((((secondAdvance_frame s).mono (by simp)).trans ((alertLineAsserted_frame _).mono (by simp))).trans
    ((alertLineDeasserted_frame _).mono (by simp))).trans ((hushLineChange_frame _).mono (by simp))
theorem millisecondTick_frame (a h : Bool) (s : State) :
    Frame [.clock, .entries, .seatFields, .mail, .notices, .time, .comp, .rings] s (millisecondTick a h s) :=
  ((takeOutstanding_frame s).mono (by simp)).trans ((tickAll_frame a h _).mono (by simp))

end Sys2Proof.Machine
end

