-- ==== Sys2Proof/Laws/Exec.lean ====
section
/-! SUPPORT. What a command and a step can do, said once: the pieces of state each command may change, and that it changes no other. -/

namespace Sys2Proof.Machine

-- one proof at a time: each thread reserves a whole stack
set_option Elab.async false

/-- The pieces of state a command may change. -/
def mayChange : Instr → List Block
  | .pinReset _ =>
    [.port, .classQueues, .intakes, .setup, .params, .time, .clock, .entries, .seatFields, .seats, .notices, .reel,
      .comp, .rings, .events, .mail]
  | .softReset =>
    [.port, .classQueues, .intakes, .setup, .params, .clock, .entries, .seatFields, .seats, .notices, .reel,
      .comp, .rings, .events, .mail]
  | .millisecondTick _ _ => [.clock, .entries, .seatFields, .mail, .notices, .time, .comp, .rings]
  | .secondAdvance => [.clock, .entries, .seatFields, .mail]
  | .minuteBoundary => [.clock, .entries, .seatFields, .mail]
  | .dayOpen => [.intakes, .setup, .mail, .clock, .entries, .seatFields]
  | .clockSet => [.intakes, .setup, .classQueues, .mail, .clock, .entries, .seatFields]
  | .controlWordBeat => [.intakes, .clock, .entries, .seatFields, .mail, .classQueues]
  | .recordFetchDone => [.clock, .entries, .seatFields, .mail, .classQueues]
  | .titleFetchDone => [.clock, .entries, .seatFields, .mail, .classQueues]
  | .delayEffect => [.clock, .entries, .seatFields, .mail]
  | .undelayEffect => [.clock, .entries, .seatFields, .mail]
  | .cancelEffect => [.clock, .entries, .seatFields, .mail]
  | .bind => [.seats, .mail, .classQueues, .seatFields]
  | .release => [.seats, .mail, .classQueues, .seatFields]
  | .remap => [.seats, .mail, .classQueues, .seatFields]
  | .holdback => [.seats, .mail, .classQueues, .seatFields]
  | .seatDayOpen => [.seats, .mail, .setup, .classQueues]
  | .seatShowChangedNote => [.seats, .mail]
  | .sweepReadIssue => [.seats, .mail, .classQueues, .seatFields]
  | .sweepReadDone => [.seats, .mail, .classQueues, .seatFields]
  | .seatBeat => [.intakes, .seats, .mail, .classQueues, .seatFields]
  | .policyWrite => [.intakes, .setup, .params, .seats, .mail, .classQueues, .seatFields]
  | .seatWriteError => [.seats, .mail, .classQueues, .seatFields]
  | .producerValueTaken => [.intakes, .notices, .mail, .classQueues]
  | .noticeRecordDone => [.notices, .mail, .classQueues]
  | .noticeTextDone => [.notices, .mail, .classQueues]
  | .effectAnswer => [.notices, .mail, .classQueues]
  | .consumerWritebackDone => [.notices, .mail]
  | .writebackRetryBoundary => [.time, .notices, .mail, .classQueues]
  | .minuteNoteNotice => [.notices, .mail]
  | .noticeShowChangedNote => [.notices, .mail]
  | .noticeSeatsChangedNote => [.notices, .mail]
  | .autoSoldOutWrite => [.intakes, .setup, .params, .notices, .mail, .classQueues]
  | .noticeDayOpen => [.notices, .mail, .setup, .classQueues]
  | .alertLineAsserted => [.notices, .mail]
  | .alertLineDeasserted => [.notices, .mail]
  | .hushLineChange => [.notices, .mail]
  | .bannerDwellExpiry _ _ => [.notices, .mail]
  | .bannerPaneReport => [.notices, .mail]
  | .cuePush => [.intakes, .setup, .reel, .mail, .classQueues]
  | .cueCut => [.intakes, .setup, .reel, .mail, .classQueues]
  | .channelStop => [.intakes, .setup, .reel, .mail, .classQueues]
  | .cueLoadDone => [.reel, .mail, .classQueues]
  | .frameReadIssue => [.reel, .mail, .classQueues]
  | .pointerReadDone => [.reel, .mail]
  | .frameReadDone => [.reel, .mail]
  | .restReadDone => [.reel, .mail]
  | .reelPeriodBoundary => [.time, .reel, .mail, .classQueues]
  | .reelShowChangedNote => [.reel, .mail]
  | .hushAsserted => [.reel, .mail]
  | .hushReleased => [.reel, .mail]
  | .restStillWrite => [.intakes, .setup, .params, .reel, .mail, .classQueues]
  | .paneWrite => [.intakes, .setup, .comp, .mail, .classQueues]
  | .boardOrderNote => [.comp, .mail]
  | .compositionShowChangedNote => [.comp, .mail]
  | .compositionSeatsChangedNote => [.comp, .mail]
  | .pageDwellExpiry _ _ => [.comp]
  | .listNote => [.comp, .mail]
  | .bannerNote => [.comp, .mail]
  | .alertNote => [.comp, .mail]
  | .minuteNoteComposition => [.comp, .mail]
  | .channelNote => [.comp, .mail]
  | .moduleReport => [.comp, .mail]
  | .acceptanceSettlement => [.comp, .mail]
  | .compositionDayOpen => [.comp, .mail, .setup, .classQueues]
  | .ringEnableWrite => [.intakes, .setup, .params, .rings, .mail, .classQueues]
  | .lockIndication _ => [.rings, .mail]
  | .lockTimerExpiry _ => [.rings, .mail]
  | .restartTimerExpiry _ => [.rings, .mail]
  | .autoRestartWrite => [.intakes, .setup, .params, .rings, .mail, .classQueues]
  | .ringRestart => [.intakes, .setup, .rings, .mail, .classQueues]
  | .ringUnshiftedBoundary _ => [.time, .rings, .comp, .mail]
  | .ringBoundary _ => [.rings, .comp, .mail]
  | .trainReturn _ _ => [.rings, .mail]
  | .returnTimerExpiry _ => [.rings, .mail]
  | .moduleQuery => [.intakes, .setup, .rings, .mail, .classQueues]
  | .moduleSet => [.intakes, .setup, .rings, .mail, .classQueues]
  | .passingRequest _ => [.port]
  | .portGrant => [.port, .classQueues, .intakes, .mail]
  | .downstreamResponse _ _ => [.port, .classQueues, .mail]
  | .indexBeat => [.intakes, .setup]
  | .parameterEntry => [.intakes, .setup, .params, .classQueues]
  | .windowBaseWrite => [.intakes, .setup, .port, .seats, .notices, .events, .mail, .classQueues, .seatFields]
  | .resultWriteDone => [.setup, .mail, .classQueues]
  | .eventEnableWrite => [.intakes, .setup, .params, .classQueues]
  | .interruptPolarityWrite => [.intakes, .setup, .params, .classQueues]
  | .eventAck => [.intakes, .setup, .events, .classQueues]
  | .eventReport => [.events, .mail]
  | .eventPeriodBoundary => [.time, .events, .classQueues]
  | .statusWriteDone => [.events, .mail, .classQueues]
  | .readEntry => [.intakes, .setup, .classQueues]

theorem softReset_frame (s : State) : Frame (mayChange .softReset) s (softReset s) := by
  unfold softReset
  split
  · split
    · refine Frame.trans ?_ ((result_frame _ _ _ _).mono (by simp [mayChange]))
      intro b hb
      cases b <;> simp_all [mayChange, Block.same, State.softReset]
    · exact Frame.refl _ _
  · exact Frame.refl _ _

theorem pinReset_frame (strap : BitVec 3) (s : State) : Frame (mayChange (.pinReset strap)) s (pinReset strap s) := by
  intro b hb
  cases b <;> simp_all [mayChange, Block.same, pinReset]

/-- A command that answers a next state leaves every piece it may not change as it is. -/
theorem exec_frame {c : Instr} {s t : State} (h : exec c s = .next t) : Frame (mayChange c) s t := by
  cases c with
  | pinReset strap =>
    simp only [exec, execPinReset, Host.Outcome.next.injEq] at h
    exact h ▸ pinReset_frame strap s
  | passingRequest r =>
    simp only [exec, execPassingRequest] at h
    split at h
    · exact (passingRequest_frame r s).goOn h
    · cases h
  | softReset => exact (softReset_frame s).goOn h
  | millisecondTick alert hush => exact (millisecondTick_frame alert hush s).goOn h
  | secondAdvance => exact (secondAdvance_frame s).goOn h
  | minuteBoundary => exact (minuteBoundary_frame s).goOn h
  | dayOpen => exact (dayOpen_frame s).goOn h
  | clockSet => exact (clockSet_frame s).goOn h
  | controlWordBeat => exact (controlWordBeat_frame s).goOn h
  | recordFetchDone => exact (recordFetchDone_frame s).goOn h
  | titleFetchDone => exact (titleFetchDone_frame s).goOn h
  | delayEffect => exact (delayEffect_frame s).goOn h
  | undelayEffect => exact (undelayEffect_frame s).goOn h
  | cancelEffect => exact (cancelEffect_frame s).goOn h
  | bind => exact (bind_frame s).goOn h
  | release => exact (release_frame s).goOn h
  | remap => exact (remap_frame s).goOn h
  | holdback => exact (holdback_frame s).goOn h
  | seatDayOpen => exact (seatDayOpen_frame s).goOn h
  | seatShowChangedNote => exact (seatShowChangedNote_frame s).goOn h
  | sweepReadIssue => exact (sweepReadIssue_frame s).goOn h
  | sweepReadDone => exact (sweepReadDone_frame s).goOn h
  | seatBeat => exact (seatBeat_frame s).goOn h
  | policyWrite => exact (policyWrite_frame s).goOn h
  | seatWriteError => exact (seatWriteError_frame s).goOn h
  | producerValueTaken => exact (producerValueTaken_frame s).goOn h
  | noticeRecordDone => exact (noticeRecordDone_frame s).goOn h
  | noticeTextDone => exact (noticeTextDone_frame s).goOn h
  | effectAnswer => exact (effectAnswer_frame s).goOn h
  | consumerWritebackDone => exact (consumerWritebackDone_frame s).goOn h
  | writebackRetryBoundary => exact (writebackRetryBoundary_frame s).goOn h
  | minuteNoteNotice => exact (minuteNoteNotice_frame s).goOn h
  | noticeShowChangedNote => exact (noticeShowChangedNote_frame s).goOn h
  | noticeSeatsChangedNote => exact (noticeSeatsChangedNote_frame s).goOn h
  | autoSoldOutWrite => exact (autoSoldOutWrite_frame s).goOn h
  | noticeDayOpen => exact (noticeDayOpen_frame s).goOn h
  | alertLineAsserted => exact (alertLineAsserted_frame s).goOn h
  | alertLineDeasserted => exact (alertLineDeasserted_frame s).goOn h
  | hushLineChange => exact (hushLineChange_frame s).goOn h
  | bannerDwellExpiry screen pane => exact (bannerDwellExpiry_frame screen pane s).goOn h
  | bannerPaneReport => exact (bannerPaneReport_frame s).goOn h
  | cuePush => exact (cuePush_frame s).goOn h
  | cueCut => exact (cueCut_frame s).goOn h
  | channelStop => exact (channelStop_frame s).goOn h
  | cueLoadDone => exact (cueLoadDone_frame s).goOn h
  | frameReadIssue => exact (frameReadIssue_frame s).goOn h
  | pointerReadDone => exact (pointerReadDone_frame s).goOn h
  | frameReadDone => exact (frameReadDone_frame s).goOn h
  | restReadDone => exact (restReadDone_frame s).goOn h
  | reelPeriodBoundary => exact (reelPeriodBoundary_frame s).goOn h
  | reelShowChangedNote => exact (reelShowChangedNote_frame s).goOn h
  | hushAsserted => exact (hushAsserted_frame s).goOn h
  | hushReleased => exact (hushReleased_frame s).goOn h
  | restStillWrite => exact (restStillWrite_frame s).goOn h
  | paneWrite => exact (paneWrite_frame s).goOn h
  | boardOrderNote => exact (boardOrderNote_frame s).goOn h
  | compositionShowChangedNote => exact (compositionShowChangedNote_frame s).goOn h
  | compositionSeatsChangedNote => exact (compositionSeatsChangedNote_frame s).goOn h
  | pageDwellExpiry screen pane => exact (pageDwellExpiry_frame screen pane s).goOn h
  | listNote => exact (listNote_frame s).goOn h
  | bannerNote => exact (bannerNote_frame s).goOn h
  | alertNote => exact (alertNote_frame s).goOn h
  | minuteNoteComposition => exact (minuteNoteComposition_frame s).goOn h
  | channelNote => exact (channelNote_frame s).goOn h
  | moduleReport => exact (moduleReport_frame s).goOn h
  | acceptanceSettlement => exact (acceptanceSettlement_frame s).goOn h
  | compositionDayOpen => exact (compositionDayOpen_frame s).goOn h
  | ringEnableWrite => exact (ringEnableWrite_frame s).goOn h
  | lockIndication ring => exact (lockIndication_frame ring s).goOn h
  | lockTimerExpiry ring => exact (lockTimerExpiry_frame ring s).goOn h
  | restartTimerExpiry ring => exact (restartTimerExpiry_frame ring s).goOn h
  | autoRestartWrite => exact (autoRestartWrite_frame s).goOn h
  | ringRestart => exact (ringRestart_frame s).goOn h
  | ringUnshiftedBoundary ring => exact (ringUnshiftedBoundary_frame ring s).goOn h
  | ringBoundary ring => exact (ringBoundary_frame ring s).goOn h
  | trainReturn ring bytes => exact (trainReturn_frame ring bytes s).goOn h
  | returnTimerExpiry ring => exact (returnTimerExpiry_frame ring s).goOn h
  | moduleQuery => exact (moduleQuery_frame s).goOn h
  | moduleSet => exact (moduleSet_frame s).goOn h
  | portGrant => exact (portGrant_frame s).goOn h
  | downstreamResponse data err => exact (downstreamResponse_frame data err s).goOn h
  | indexBeat => exact (indexBeat_frame s).goOn h
  | parameterEntry => exact (parameterEntry_frame s).goOn h
  | windowBaseWrite => exact (windowBaseWrite_frame s).goOn h
  | resultWriteDone => exact (resultWriteDone_frame s).goOn h
  | eventEnableWrite => exact (eventEnableWrite_frame s).goOn h
  | interruptPolarityWrite => exact (interruptPolarityWrite_frame s).goOn h
  | eventAck => exact (eventAck_frame s).goOn h
  | eventReport => exact (eventReport_frame s).goOn h
  | eventPeriodBoundary => exact (eventPeriodBoundary_frame s).goOn h
  | statusWriteDone => exact (statusWriteDone_frame s).goOn h
  | readEntry => exact (readEntry_frame s).goOn h

/-- A step runs the front command against the queue's rest, or idles. -/
theorem step_cases {s t : State} (h : step s = .next t) :
    t = s ∨ ∃ c rest, s.pending = c :: rest ∧ exec c (s.withPending rest) = .next t := by
  unfold step at h
  split at h
  · exact .inl (by simpa using h.symm)
  · rename_i c rest hp
    exact .inr ⟨c, rest, hp, h⟩

end Sys2Proof.Machine
end

