-- ==== Sys2Proof/Laws/Trains.lean ====
section
/-! SUPPORT. The check registers of trains (R133): the byte-wise forms of Machine/Trains.lean are the bit-wise ones of Safety.lean. -/

namespace Sys2Proof.Machine

/-! ### Registers, bit by bit -/

/-- A register with further bits added in, shifted: the bit fed is the top one of what was added. -/
theorem crcBit_xor {w : Nat} (poly r c : BitVec w) :
    (if (r ^^^ c).msb then ((r ^^^ c) <<< 1) ^^^ poly else (r ^^^ c) <<< 1) = crcBit poly r c.msb ^^^ c <<< 1 := by
  rw [crcBit, BitVec.msb_xor, BitVec.shiftLeft_xor_distrib]
  cases r.msb <;> cases c.msb <;> simp [BitVec.xor_assoc, BitVec.xor_comm (c <<< 1)]

/-- Several shifts of a register with further bits added in feed those bits from the top. -/
theorem shifts_xor {w : Nat} (poly r c : BitVec w) (n : Nat) :
    (List.range n).foldl (fun x _ => if x.msb then (x <<< 1) ^^^ poly else x <<< 1) (r ^^^ c) =
      ((List.range n).map fun i => (c <<< i).msb).foldl (crcBit poly) r ^^^ c <<< n := by
  induction n with
  | zero => simp
  | succ n ih =>
    rw [List.range_succ, List.foldl_append, ih, List.map_append, List.foldl_append]
    simp only [List.foldl_cons, List.foldl_nil, List.map_cons, List.map_nil]
    rw [crcBit_xor, BitVec.shiftLeft_add]

/-- A register in reflected bit order with further bits added in: the bit fed is the lowest one of what was added. -/
theorem crcBit_reverse {w : Nat} (poly r c : BitVec w) :
    (if (r.reverse ^^^ c).getLsbD 0 then ((r.reverse ^^^ c) >>> 1) ^^^ poly.reverse else (r.reverse ^^^ c) >>> 1) =
      (crcBit poly r (c.getLsbD 0)).reverse ^^^ c >>> 1 := by
  have hs : (r <<< 1).reverse = r.reverse >>> 1 := by
    ext i hi
    simp only [BitVec.getElem_reverse, BitVec.getElem_ushiftRight, BitVec.getLsbD_reverse, BitVec.getMsbD_shiftLeft]
    congr 1; omega
  have hx (a b : BitVec w) : (a ^^^ b).reverse = a.reverse ^^^ b.reverse := by
    ext i hi; simp [BitVec.getElem_reverse]
  have hm : r.reverse.getLsbD 0 = r.msb := by rw [BitVec.getLsbD_reverse, BitVec.msb]
  rw [crcBit, BitVec.getLsbD_xor, hm, BitVec.ushiftRight_xor_distrib, ← hs]
  cases r.msb <;> cases c.getLsbD 0 <;> simp [hx, BitVec.xor_assoc, BitVec.xor_comm (c >>> 1)]

/-- Several shifts of a reflected register with further bits added in feed those bits from the bottom. -/
theorem shifts_reverse {w : Nat} (poly r c : BitVec w) (n : Nat) :
    (List.range n).foldl (fun x _ => if x.getLsbD 0 then (x >>> 1) ^^^ poly.reverse else x >>> 1) (r.reverse ^^^ c) =
      (((List.range n).map fun i => c.getLsbD i).foldl (crcBit poly) r).reverse ^^^ c >>> n := by
  induction n with
  | zero => simp
  | succ n ih =>
    rw [List.range_succ, List.foldl_append, ih, List.map_append, List.foldl_append]
    simp only [List.foldl_cons, List.foldl_nil, List.map_cons, List.map_nil]
    rw [crcBit_reverse, BitVec.shiftRight_add, BitVec.getLsbD_ushiftRight, Nat.add_zero]

/-! ### Bytes -/

/-- A byte fed to the CRC16 register is its bits fed, most significant first (R133). -/
theorem crc16Byte_bits (r : BitVec 16) (b : Byte) : crc16Byte r b = (bitsMsbFirst [b]).foldl (crcBit 0x1021#16) r := by
  have h : (List.range 8).map (fun i => ((b.setWidth 16 <<< 8) <<< i).msb) = (List.range 8).map fun i => b.getLsbD (7 - i) := by
    refine List.map_congr_left fun i hi => ?_
    have := List.mem_range.mp hi
    have e : 16 - 1 - i - 8 = 7 - i := by omega
    simp only [BitVec.msb_eq_getLsbD_last, BitVec.getLsbD_shiftLeft, BitVec.getLsbD_setWidth, e]
    have h1 : 16 - 1 < 16 := by omega
    have h2 : ¬ 16 - 1 < i := by omega
    have h3 : 16 - 1 - i < 16 := by omega
    have h4 : ¬ 16 - 1 - i < 8 := by omega
    have h5 : 7 - i < 16 := by omega
    simp only [h1, h2, h3, h4, h5, decide_true, decide_false, Bool.not_false, Bool.true_and]
  have z : (b.setWidth 16 <<< 8) <<< 8 = 0#16 := by
    rw [← BitVec.shiftLeft_add]; exact BitVec.shiftLeft_eq_zero (by decide)
  rw [crc16Byte, shifts_xor, h, z, BitVec.xor_zero]
  simp [bitsMsbFirst]

/-- A byte fed to the reflected CRC32 register is its bits fed, least significant first (R133). -/
theorem crc32Byte_bits (r : BitVec 32) (b : Byte) :
    crc32Byte r.reverse b = ((bitsLsbFirst [b]).foldl (crcBit 0x04C11DB7#32) r).reverse := by
  have p : (0x04C11DB7#32).reverse = 0xEDB88320#32 := by decide +kernel
  have h : (List.range 8).map (fun i => (b.setWidth 32).getLsbD i) = (List.range 8).map fun i => b.getLsbD i := by
    refine List.map_congr_left fun i hi => ?_
    have := List.mem_range.mp hi
    simp [BitVec.getLsbD_setWidth]; omega
  have z : b.setWidth 32 >>> 8 = 0#32 := by
    ext i hi
    simp only [BitVec.getElem_ushiftRight, BitVec.getLsbD_setWidth]
    simp
  rw [crc32Byte, ← p, shifts_reverse, h, z, BitVec.xor_zero]
  simp [bitsLsbFirst]

theorem bitsMsbFirst_cons (b : Byte) (bs : List Byte) : bitsMsbFirst (b :: bs) = bitsMsbFirst [b] ++ bitsMsbFirst bs := by
  simp [bitsMsbFirst]

theorem bitsLsbFirst_cons (b : Byte) (bs : List Byte) : bitsLsbFirst (b :: bs) = bitsLsbFirst [b] ++ bitsLsbFirst bs := by
  simp [bitsLsbFirst]

/-- Bytes fed to the CRC16 register are their bits fed. -/
theorem crc16_bits (r : BitVec 16) (bs : List Byte) : bs.foldl crc16Byte r = (bitsMsbFirst bs).foldl (crcBit 0x1021#16) r := by
  induction bs generalizing r with
  | nil => rfl
  | cons b bs ih => rw [List.foldl_cons, ih, bitsMsbFirst_cons b bs, List.foldl_append, crc16Byte_bits]

/-- Bytes fed to the reflected CRC32 register are their bits fed. -/
theorem crc32_bits (r : BitVec 32) (bs : List Byte) :
    bs.foldl crc32Byte r.reverse = ((bitsLsbFirst bs).foldl (crcBit 0x04C11DB7#32) r).reverse := by
  induction bs generalizing r with
  | nil => rfl
  | cons b bs ih => rw [List.foldl_cons, crc32Byte_bits, ih, bitsLsbFirst_cons b bs, List.foldl_append]

end Sys2Proof.Machine
end

