-- ==== Sys2Proof/Tests/Slice0.lean ====
section
/-! SUPPORT. Small tests: the ill-formed operands that WellFormed refuses, the worked examples of the spec, and for each statement of the certificate that has hypotheses a concrete state and operands that meet them, clause by clause. A hypothesis that only names a relation or a function of the state is met by the relation or function it names. -/

namespace Sys2Proof.Tests

open Sys2Proof Sys2Proof.Machine

set_option Elab.async false

/-! ### Building small states -/

abbrev full : BitVec 32 := 0xFFFFFFFF

/-- A state with one entry at the head of its setup intake. -/
def entryAt (index : BitVec 10) (value mask : BitVec 32) (s : State) : State :=
  { s with
    setup := { s.setup with index := index }
    intakes := { s.intakes with
      setup := [{ addr := s.path.windows.setupBase + 8, data := mask ++ value, enables := 0xFF, grant := 0 }] } }

/-- Reset with one whole entry. -/
def given (index : BitVec 10) (value : BitVec 32) : State := entryAt index value full State.reset

/-- The entry `given` holds. -/
def entryOf (index : BitVec 10) (value : BitVec 32) : Entry := { index := index, value := value, mask := full }

def clockAt (seconds : Nat) (s : State) : State := { s with tracker := { s.tracker with seconds := seconds } }
def putShow (i : Fin 192) (e : ShowEntry) (s : State) : State :=
  { s with tracker := { s.tracker with entries := s.tracker.entries.set i e } }
def putSlot (i : Fin 64) (sl : SeatSlot) (s : State) : State :=
  { s with seats := { s.seats with slots := s.seats.slots.set i sl } }
def putChan (i : Fin 8) (c : Channel) (s : State) : State :=
  { s with reel := { s.reel with channels := s.reel.channels.set i c } }
def putPane (i : Fin 128) (p : Pane) (s : State) : State :=
  { s with comp := { s.comp with panes := s.comp.panes.set i p } }
def putRing (n : Fin 4) (r : Ring) (s : State) : State := { s with rings := s.rings.set n r }
def mailTo (f : Mail → Mail) (s : State) : State := { s with mail := f s.mail }
def windowsTo (f : Windows → Windows) (s : State) : State := { s with path := { s.path with windows := f s.path.windows } }

def showOf (st : ShowState) (id start : Nat) : ShowEntry :=
  { ShowEntry.reset with
    state := st
    fields := { ShowFields.zero with id := id, auditorium := 3, start := start, run := 120, closeOffset := 15 }
    effStart := start }

def bytesOf (bs : List Nat) : List Byte := bs.map (BitVec.ofNat 8)

/-- The eight beats of a record. -/
def recordOf (bs : List Nat) : List Beat := toBeats 8 (bytesOf bs)

def cueOf (count repeats : Nat) : Cue :=
  { mode := .step, multiple := 1, repeats := repeats, skipIfStale := false, loop := false, length := 16, count := count,
    show_ := 0, base := 0x1000, stride := 16, next := 0 }

/-! ### WellFormed refuses ill-formed operands (R149, R157) -/

def goodWrite : PassReq :=
  { write := true, addr := 0x1000, beats := 2, data := [{ data := 1, enables := 0xFF }, { data := 2, enables := 0 }], tag := 7 }

theorem test_wf_good : Instr.wf (.passingRequest goodWrite) = true := by decide
theorem test_wf_address : Instr.wf (.passingRequest { goodWrite with addr := 0x1004 }) = false := by decide
theorem test_wf_no_beat : Instr.wf (.passingRequest { goodWrite with beats := 0, data := [] }) = false := by decide
theorem test_wf_nine_beats :
    Instr.wf (.passingRequest { goodWrite with beats := 9, data := List.replicate 9 { data := 0, enables := 0 } }) = false := by
  decide
theorem test_wf_data_count : Instr.wf (.passingRequest { goodWrite with beats := 3 }) = false := by decide
theorem test_wf_read_data : Instr.wf (.passingRequest { goodWrite with write := false }) = false := by decide
theorem test_wf_response : Instr.wf (.downstreamResponse (List.replicate 9 0) false) = false := by decide
theorem test_no_word_decodes : decodeTableWord 8 0 = none := by decide

/-! ### Worked examples of the spec -/

/-- spec/06, 6.6: the check values of the nine characters 1 to 9. -/
theorem test_crc16 : crc16 (bytesOf [0x31, 0x32, 0x33, 0x34, 0x35, 0x36, 0x37, 0x38, 0x39]) = 0x29B1 := by decide +kernel
theorem test_crc32 : crc32 (bytesOf [0x31, 0x32, 0x33, 0x34, 0x35, 0x36, 0x37, 0x38, 0x39]) = 0xCBF43926 := by decide +kernel

/-- spec/02, worked cases of the availability computation: a steady show. -/
theorem test_availability_steady :
    Params.reset.availability { free := 86, held := 20, sold := 300, off := 6 } 412 4 .filling =
      { band := .filling, shown := 82, plus := false } := by decide
/-- spec/02: FILLING is not entered below 15 + 5 percent. -/
theorem test_availability_margin :
    Params.reset.availability { free := 66, held := 0, sold := 340, off := 6 } 412 4 .few =
      { band := .few, shown := 62, plus := false } := by decide
/-- spec/02: one seat does not reopen a sold-out show; two do. -/
theorem test_availability_reopen :
    Params.reset.availability { free := 5, held := 0, sold := 401, off := 6 } 412 4 .soldOut =
        { band := .soldOut, shown := 0, plus := false } ∧
      Params.reset.availability { free := 6, held := 0, sold := 400, off := 6 } 412 4 .soldOut =
        { band := .few, shown := 2, plus := false } := by decide
/-- spec/02: rounding above the exact limit. -/
theorem test_availability_rounds :
    Params.reset.availability { free := 347, held := 0, sold := 293, off := 0 } 640 0 .none =
      { band := .plenty, shown := 340, plus := true } := by decide
/-- spec/02: nothing to sell. -/
theorem test_availability_nothing :
    Params.reset.availability { free := 12, held := 0, sold := 8, off := 20 } 40 20 .none =
      { band := .soldOut, shown := 0, plus := false } := by decide

/-- spec/01, a clock jump: three shows at minute 1,100, jumped to minute 1,125. -/
def threeShows : State :=
  clockAt 66000 <| putShow 2 { showOf .cancelled 70 1095 with cancelMinute := some 1090 } <|
    putShow 4 { showOf .closing 71 1110 with
      fields := { (showOf .closing 71 1110).fields with auditorium := 7, seatsTracked := true } } <|
    putShow 9 { showOf .onSale 72 1130 with
      fields := { (showOf .onSale 72 1130).fields with auditorium := 12, closeOffset := 20 }, delay := 5, effStart := 1135 } <|
    entryAt 0x002 67500 full State.reset

theorem test_clock_jump :
    ((clockSet threeShows).tracker.entries.get 2).state = .retired ∧
      ((clockSet threeShows).tracker.entries.get 4).state = .retired ∧
      ((clockSet threeShows).tracker.entries.get 9).state = .closing ∧ (clockSet threeShows).tracker.board = [9] := by
  decide +kernel
theorem test_clock_jump_releases : (clockSet threeShows).mail.toSeats[1]? = some (.release 4) := by decide +kernel

/-- spec/09, setting up a ring and placing two windows: the budget is clamped. -/
theorem test_budget_clamped :
    ((parameterEntry (given 0x0D2 70000)).params.ring.get 1).budget = 65536 ∧
      (parameterEntry (given 0x0D2 70000)).setup.seq = 1 := by decide +kernel
/-- spec/09: a NOTICE window that overlaps the SHOW window is refused, one beside it stored with its low bits 0. -/
theorem test_notice_window :
    (windowBaseWrite (windowsTo (fun w => { w with showBase := 0x20000000 }) (given 0x023 0x20002000))).path.windows.noticeBase = 0 ∧
      (windowBaseWrite (windowsTo (fun w => { w with showBase := 0x20000000 }) (given 0x023 0x20003020))).path.windows.noticeBase =
        0x20003000 := by decide +kernel

/-- spec/06, 6.2: an ENUM train holds eight blank cars in 148 bytes. -/
theorem test_enum_train : trainSize (List.replicate 8 enumCar) = 148 ∧
    (Flight.bytes 1 { seq := 5, cars := List.replicate 8 enumCar, check := .crc16, marker := 0 }).length = 148 := by decide +kernel

/-- spec/01: 999 milliseconds and a tick make a second outstanding, which the next tick takes first. -/
theorem test_tick_and_second :
    (millisecondTick false false { State.reset with
      tracker := { State.reset.tracker with run := true, millis := 1000, seconds := 59 } }).tracker.millis = 1 ∧
    (secondAdvance { State.reset with
      tracker := { State.reset.tracker with run := true, millis := 1000, seconds := 59 } }).tracker.minuteDue = true := by
  decide +kernel

/-- R152: the SETUP base of each strap lies 16 MiB above the one before. -/
theorem test_strap : (State.pinReset 7).path.windows.setupBase = 0x07FF0000 := by decide

/-- R154: one WRITE of two beats across the notice header delivers the producer value and strips the guarded beat. -/
theorem test_notice_header :
    (portGrant { State.reset with path := { State.reset.path with
      queue := [{ write := true, addr := 0x4000, beats := 2, tag := 1,
                  data := [{ data := 41, enables := 3 }, { data := 9, enables := 3 }] }]
      windows := { State.reset.path.windows with noticeBase := 0x4000 } } }).intakes.notice = some 41 ∧
    (portGrant { State.reset with path := { State.reset.path with
      queue := [{ write := true, addr := 0x4000, beats := 2, tag := 1,
                  data := [{ data := 41, enables := 3 }, { data := 9, enables := 3 }] }]
      windows := { State.reset.path.windows with noticeBase := 0x4000 } } }).mail.events = [.guardHit] := by decide +kernel

/-- R78, spec/04, 4.3: a push to a channel that runs with a full next rank is answered NEXT_FULL. -/
theorem test_next_full :
    (cuePush (putChan 2 { Channel.reset with state := .running, current := .ready 0x1000 (cueOf 2 0), next := .loading 0x2000 }
      (given 0x090 0x3000))).mail.events = [.nextFull] := by decide +kernel

/-! ### Witnesses: the part as a whole -/

theorem test_witness_StepRunsTheFrontCommand : State.reset.pending = [] := by decide

theorem test_witness_OnlyMalformedRequestsStop :
    goodWrite.wf = true ∧ PassReq.wf { goodWrite with beats := 8, data := List.replicate 8 { data := 0, enables := 0 } } = true ∧
      PassReq.wf { goodWrite with beats := 9, data := List.replicate 9 { data := 0, enables := 0 } } = false ∧
      PassReq.wf { goodWrite with addr := 0xFFFFFFFC } = false := by decide

/-- A second that has run. -/
def secondRun : State :=
  { State.reset with tracker := { State.reset.tracker with run := true, millis := 1000, seconds := 107998 } }

theorem test_witness_MirrorChangesSetTheMark :
    ∃ t, exec .secondAdvance secondRun = .next t ∧ t.mirror ≠ secondRun.mirror :=
  ⟨_, rfl, fun h => absurd (congrArg (fun l => l[64]?) ((commit_mirror _ _).symm.trans h)) (by decide +kernel)⟩

theorem test_witness_SoftResetReturnsEveryBlock :
    (given 0 1).entry = some (entryOf 0 1) ∧ (entryOf 0 1).index = 0 ∧ (entryOf 0 1).argument.getLsbD 0 = true := by
  decide +kernel

/-- A queued command on a state past reset: the step answers, and the invariants hold before it. -/
theorem test_witness_EveryStepKeepsThePathBounds :
    (((secondRun.path.queue.length ≤ 16 ∧ secondRun.path.share ≤ 3) ∧ secondRun.intakes.setup.length ≤ 4) ∧
      secondRun.path.windows.setupBase = strapBase secondRun.path.windows.strap) ∧
      step (secondRun.withPending [.secondAdvance]) = exec .secondAdvance secondRun := ⟨by decide, rfl⟩
theorem test_witness_path_bounds_at_their_ends :
    PathOk { State.reset with path := { State.reset.path with
      queue := List.replicate 16 goodWrite, held := [goodWrite], share := 3
      responses := List.replicate 32 { source := .passing 1 [], write := false, beats := 1, grant := 0 } } } := by
  unfold PathOk; decide
theorem test_witness_EveryStepKeepsTheClockAndTheBoard :
    ClockOk secondRun ∧ BoardOk secondRun ∧ (secondAdvance secondRun).tracker.held = true := by
  unfold ClockOk BoardOk; decide +kernel
theorem test_witness_clock_held_at_its_end :
    ClockOk { State.reset with tracker := { State.reset.tracker with seconds := 107999, held := true } } := by
  unfold ClockOk; decide
/-- The house alert and a desk's notice listed, while the answer for a third notice's DELAY is awaited. -/
theorem test_witness_EveryStepKeepsTheNoticeList :
    NoticesOk { State.reset with notices := { State.reset.notices with
      reader := .effect, awaiting := [.delay], alertLine := { level := true, runCount := 0, due := false }
      record := some { ident := { desk := 2, id := 10 }, kind := .delay, priority := 3, key := 1, mask := 0, show_ := 880,
                       expiry := none, dwell := 10, minutes := 20, textAddr := 0, textLen := 0 }
      list :=
        [{ ident := { desk := 0, id := 65535 }, kind := .alert, priority := 7, key := 0, mask := 0, show_ := 0, expiry := none,
           dwell := 10, template := .house, text := [], applied := 0 },
         { ident := { desk := 2, id := 9 }, kind := .info, priority := 0, key := 1, mask := 0, show_ := 0, expiry := some 1799,
           dwell := 10, template := .none, text := [], applied := 0 }] } } := by
  unfold NoticesOk
  exact ⟨by decide, by decide, by decide, by decide, fun _ => rfl, fun _ h => by cases h; decide, by decide, by decide +kernel⟩

/-- A module slot of a working module. -/
def liveSlot : ModSlot := { ModSlot.reset with state := .live, regions := 4, maxFrame := 16384 }
/-- A ring that runs, with no train out. -/
def runningRing : Ring := { Ring.reset with state := .running, slots := Table.replicate 8 liveSlot }
/-- A ring that runs, with an empty train out. -/
def sentRing : Ring :=
  { runningRing with
    flight := some { seq := 0, cars := [], check := .crc16, marker := 0 }, seq := 1, returnTimer := some 0 }
/-- A ring that enumerates. -/
def enumRing : Ring :=
  { Ring.reset with
    state := .enumerating, flight := some { seq := 0, cars := List.replicate 8 enumCar, check := .marker, marker := 0x5A5A }
    seq := 1, returnTimer := some 0 }
def lockingRing : Ring := { Ring.reset with state := .locking, lockTimer := some 0 }
def faultRing : Ring := { Ring.reset with state := .fault, restartTimer := some 0 }

theorem test_witness_EveryStepKeepsTheRings :
    runningRing.ok ∧ sentRing.ok ∧ enumRing.ok ∧ lockingRing.ok ∧ faultRing.ok := by
  refine ⟨?_, ?_, ?_, ?_, ?_⟩ <;> unfold Ring.ok <;> decide
/-- Rings 0 and 1 are enabled, one running and one in fault; the others are OFF. -/
theorem test_witness_rings_and_their_enables :
    RingsOk ((putRing 0 runningRing (putRing 1 faultRing State.reset)).withParams
      { Params.reset with
        ring := (Params.reset.ring.set 0 { Params.reset.ring.get 0 with enable := true }).set 1
          { Params.reset.ring.get 1 with enable := true } }) := by
  unfold RingsOk Ring.ok; decide

theorem test_witness_EveryStepKeepsTheParametersAndTheResults :
    ResultsOk { State.reset with setup := { State.reset.setup with
      outstanding := 4, waiting := some { index := 0, value := 0, outcome := .applied, seq := 5 } } } ∧
      ParamsOk (State.reset.withParams { Params.reset with high := 1, exact := 9, period := 200, managerKey := 65535 }) := by
  unfold ResultsOk ParamsOk; decide

/-! ### Witnesses: timebase and clock -/

theorem test_witness_MillisecondTickCountsEveryTimer :
    State.reset.tracker.millis < 1000 ∧ State.reset.notices.alertLine.due = false ∧
      State.reset.notices.hushLine.due = false := by decide
/-- With a second outstanding each of the commands that take what is outstanding completes, and so does the tick. -/
theorem test_witness_tick_with_a_second_outstanding :
    ∃ s1 s2 s3 s4 t, exec .secondAdvance secondRun = .next s1 ∧ exec .alertLineAsserted s1 = .next s2 ∧
      exec .alertLineDeasserted s2 = .next s3 ∧ exec .hushLineChange s3 = .next s4 ∧
      exec (.millisecondTick true false) s4 = .next t ∧ 1000 ≤ secondRun.tracker.millis :=
  ⟨_, _, _, _, _, rfl, rfl, rfl, rfl, rfl, by decide⟩

theorem test_witness_SecondAdvanceMovesTheClock :
    (1000 ≤ secondRun.tracker.millis ∧ secondRun.tracker.seconds < 107999) ∧
      ({ State.reset with tracker := { State.reset.tracker with millis := 999 } } : State).tracker.millis < 1000 ∧
      107999 ≤ (clockAt 107999 secondRun).tracker.seconds := by decide

/-- A minute boundary due, with a show in each state. -/
def boundaryDue : State :=
  clockAt 66000 <| putShow 0 (showOf .onSale 10 1200) <| putShow 1 (showOf .closing 11 1100) <|
    putShow 2 (showOf .started 12 1090) <| putShow 3 { showOf .cancelled 13 1200 with cancelMinute := some 1085 } <|
    putShow 4 (showOf .retired 14 900) <|
    { State.reset with tracker := { State.reset.tracker with minuteDue := true } }

theorem test_witness_MinuteBoundaryEvaluatesEveryShow :
    boundaryDue.tracker.minuteDue = true ∧
      (allFin 5).map (fun i => (boundaryDue.tracker.entries.get ⟨i.val, by omega⟩).state) =
        [.onSale, .closing, .started, .cancelled, .retired] := by decide +kernel
/-- spec/01, 1.2: at minute 1,100 the started show's grace and the cancelled show's display time have just run out. -/
theorem test_minute_boundary :
    (allFin 5).map (fun i => ((minuteBoundary boundaryDue).tracker.entries.get ⟨i.val, by omega⟩).state) =
      [.onSale, .started, .retired, .retired, .retired] := by decide +kernel

theorem test_witness_ClockSetMovesTheClock :
    ((given 2 107999).entry = some (entryOf 2 107999) ∧ (entryOf 2 107999).index = 2 ∧ (entryOf 2 107999).mask ≠ 0) ∧
      (given 2 108000).entry = some (entryOf 2 108000) := by decide +kernel

theorem test_witness_DayOpenFreesEveryShow :
    (given 1 36000).entry = some (entryOf 1 36000) ∧ (entryOf 1 36000).index = 1 ∧ (entryOf 1 36000).mask ≠ 0 := by
  decide +kernel

/-- A DAY_OPEN stands before the other units. -/
def dayStands (w : Option DayOpenWait) : State :=
  { State.reset with
    setup := { State.reset.setup with dayOpen := w }
    mail := { State.reset.mail with toSeats := [.dayOpen], dayOpenNotices := true, dayOpenComp := true } }

theorem test_witness_UnitsTakeDayOpen :
    ∀ seats notices comp : Bool, ∃ s : State,
      s.mail.toSeats = .dayOpen :: [] ∧ s.mail.dayOpenNotices = true ∧ s.mail.dayOpenComp = true ∧
        s.setup.dayOpen =
          some { index := 1, value := 0, outcome := .applied, seats := seats, notices := notices, comp := comp } :=
  fun seats notices comp =>
    ⟨dayStands (some { index := 1, value := 0, outcome := .applied, seats := seats, notices := notices, comp := comp }),
      rfl, rfl, rfl, rfl⟩
/-- At the Notice Unit with no notice, and with a desk's notice beside the house alert. -/
theorem test_witness_UnitsTakeDayOpen_lists :
    (∀ n ∈ (dayStands none).notices.list, n.ident = { desk := 0, id := 65535 }) ∧
      ∃ n ∈ ({ dayStands none with notices := { Notices.reset with list :=
          [houseAlert, { houseAlert with ident := { desk := 1, id := 9 }, kind := .info, priority := 0 }] } } : State).notices.list,
        n.ident ≠ { desk := 0, id := 65535 } := by decide
theorem test_witness_UnitsTakeDayOpen_without_wait :
    (dayStands none).mail.toSeats = .dayOpen :: [] ∧ (dayStands none).setup.dayOpen = none := by decide

/-! ### Witnesses: shows -/

/-- A PUBLISH record of generation 7 for auditorium 3. -/
def publishOf (id start flags titleLen titleAddr seatCount map : Nat) : List Beat :=
  recordOf ([1, 7, id % 256, id / 256, 3, flags, start % 256, start / 256, 120, 0, 15, 0, 0, titleLen, seatCount % 256,
    seatCount / 256] ++ (leBytes 4 titleAddr ++ leBytes 4 map).map BitVec.toNat)

/-- A record of another action. -/
def actionOf (action : Nat) : List Beat := recordOf [action, 7]

def responded (tag : Tag) (data : List Beat) (err : Bool) (s : State) : State :=
  mailTo (fun m => { m with trackerResp := [{ tag := tag, data := data, err := err }] }) s
def inFetch (e : ShowEntry) : ShowEntry := { e with fetch := .record, fetchNo := 1 }
def inTitle (e : ShowEntry) : ShowEntry := { e with fetch := .title, fetchNo := 1 }

/-- A record read that entry i waits for has come back. -/
abbrev RecordBack (s : State) (i : Fin 192) (data : List Beat) (err : Bool) : Prop :=
  s.mail.trackerResp = { tag := .record i 1, data := data, err := err } :: [] ∧ (s.tracker.entries.get i).fetch = .record ∧
    (s.tracker.entries.get i).fetchNo = 1 ∧ (s.tracker.entries.get i).refetch = false

/-- The state in which the record of slot 5 has come back for an entry. -/
def backFor (e : ShowEntry) (data : List Beat) (err : Bool) : State :=
  clockAt 66000 <| responded (.record 5 1) data err <| putShow 5 (inFetch e) <|
    windowsTo (fun w => { w with seatBase := 0x30000000, showBase := 0x20000000 }) State.reset

def fetchingEntry : ShowEntry := { ShowEntry.reset with state := .fetching }

/-- A control beat waits. -/
def controlAt (addr : Addr) (s : State) : State :=
  { s with intakes := { s.intakes with shows := [{ addr := addr, data := 1, enables := 3, grant := 0 }] } }

theorem test_witness_ControlWordStartsAFetch :
    ((controlAt 0x1000 State.reset).intakes.shows ≠ [] ∧ (controlAt 0x1000 State.reset).path.windows.showBase = 0) ∧
      (∀ k ∈ [0, 191], ∀ w : Windows, w.showBase = 0x20000000 →
        ((w.showBase + BitVec.ofNat 32 (64 * k)).toNat - w.showBase.toNat) / 64 = k) ∧
      ((backFor fetchingEntry [] true).tracker.entries.get 5).fetch ≠ .none ∧
      (controlAt 0x20003000 (backFor fetchingEntry [] true)).path.windows.showBase.toNat + 12288 ≤ (0x20003000#32).toNat ∧
      ∀ st ∈ [ShowState.free, .rejected, .retired, .onSale],
        ((putShow 191 (showOf st 10 1200) State.reset).tracker.entries.get 191).fetch = .none := by
  refine ⟨by decide, fun k hk w hw => ?_, by decide, by decide, by decide⟩
  rw [hw]; revert k; decide
/-- spec/01, 1.3: the first control word of a FREE slot makes it FETCHING and reads its 64-byte record. -/
theorem test_control_word :
    ((controlWordBeat (controlAt 0x20000440 (windowsTo (fun w => { w with showBase := 0x20000000 }) State.reset))).tracker.entries.get
        17).state = .fetching ∧
      ((controlWordBeat (controlAt 0x20000440 (windowsTo (fun w => { w with showBase := 0x20000000 }) State.reset))).path.recordQ.map
        fun r => (r.addr, r.beats)) = [(0x20000440, 8)] := by decide +kernel

theorem test_witness_FailedPublishRejectsTheEntry :
    RecordBack (backFor (showOf .onSale 101 1200) [] true) 5 [] true ∧
      RecordBack (backFor fetchingEntry (publishOf 0 1200 0 0 0 0 0) false) 5 (publishOf 0 1200 0 0 0 0 0) false ∧
      showAction (beatsBytes (publishOf 0 1200 0 0 0 0 0)) = .publish ∧
      (backFor fetchingEntry (publishOf 0 1200 0 0 0 0 0) false).tracker.validate
        (backFor fetchingEntry [] false).path.windows 5 (showFields (beatsBytes (publishOf 0 1200 0 0 0 0 0))) false = .badId := by
  decide +kernel
theorem test_witness_PublishChecksComeInOrder :
    (∀ err, RecordBack (backFor fetchingEntry (publishOf 101 1800 0 0 0 0 0) err) 5 (publishOf 101 1800 0 0 0 0 0) err) ∧
      showAction (beatsBytes (publishOf 101 1800 0 0 0 0 0)) = .publish := by decide +kernel
/-- R12: start minute 1,799 passes and 1,800 does not. -/
theorem test_bad_start :
    ((recordFetchDone (backFor fetchingEntry (publishOf 101 1799 0 0 0 0 0) false)).tracker.entries.get 5).state = .onSale ∧
      ((recordFetchDone (backFor fetchingEntry (publishOf 101 1800 0 0 0 0 0) false)).tracker.entries.get 5).reason = .badStart := by
  decide +kernel

/-- A PUBLISH that takes effect on an entry of slot 5. -/
abbrev PublishFits (e : ShowEntry) (data : List Beat) : Prop :=
  RecordBack (backFor e data false) 5 data false ∧ showAction (beatsBytes data) = .publish ∧
    (backFor e data false).tracker.validate (backFor e data false).path.windows 5 (showFields (beatsBytes data)) false = .none

theorem test_witness_PublishEntersANewShow :
    PublishFits fetchingEntry (publishOf 101 1200 0 0 0 0 0) ∧
      (PublishFits (showOf .onSale 55 1200) (publishOf 101 1200 1 48 0x1003 640 0x30000000) ∧
        (showOf .onSale 55 1200).state.visible = true ∧ (showOf .onSale 55 1200).fields.id ≠ 101) ∧
      (showFields (beatsBytes (publishOf 101 1200 1 48 0x1003 640 0x30000000))).titleLen = 48 ∧
      ¬ (0 < (showFields (beatsBytes (publishOf 101 1200 0 0 0 0 0))).titleLen) := by decide +kernel

theorem test_witness_PublishUpdatesAShow :
    ∀ st ∈ [ShowState.onSale, .closing, .started, .cancelled],
      PublishFits (showOf st 101 1100) (publishOf 101 1100 0 0 0 0 0) ∧
        (showOf st 101 1100).state.visible = true ∧ (showOf st 101 1100).fields.id = 101 := by decide +kernel
/-- The same with a title that moved and seats tracked. -/
theorem test_witness_update_with_a_title :
    PublishFits (showOf .onSale 101 1100) (publishOf 101 1100 1 48 0x1003 640 0x30000000) := by decide +kernel
/-- spec/01, three writes to one record: seats tracked added later sends BIND and a note with DISPLAY. -/
theorem test_publish_adds_seats :
    (recordFetchDone (backFor (showOf .onSale 101 1200) (publishOf 101 1200 1 0 0 640 0x30000000) false)).mail.toSeats =
      [.bind 5 0x30000000 640 0 1200,
       .note { slot := 5, id := 101, old := .onSale, new := .onSale,
               change := { state := false, start := false, title := false, display := true, removed := false } }] := by
  decide +kernel

theorem test_witness_OtherActionsActOnTheEntry :
    (∀ e ∈ [fetchingEntry, showOf .onSale 101 1200, showOf .cancelled 101 1200, showOf .retired 101 1200], ∀ a ∈ [0, 2, 3, 4, 9],
        RecordBack (backFor e (actionOf a) false) 5 (actionOf a) false) ∧
      [0, 2, 3, 4, 9].map (fun a => showAction (beatsBytes (actionOf a))) = [.none, .unlist, .cancel, .reinstate, .none] := by
  decide +kernel
/-- R17: a CANCEL of a started show makes it CANCELLED at the clock minute. -/
theorem test_cancel_record :
    ((recordFetchDone (backFor (showOf .started 101 1095) (actionOf 3) false)).tracker.entries.get 5).cancelMinute = some 1100 := by
  decide +kernel

/-- A PUBLISH record that calls for a title. -/
def titledRecord : List Beat := publishOf 101 1200 0 48 0x1003 0 0

/-- The title of slot 5 has come back. -/
def titleBack (e : ShowEntry) (err : Bool) : State :=
  responded (.title 5 1) [0x6261#64] err <| putShow 5 (inTitle e) <| windowsTo (fun w => { w with showBase := 0x20000000 }) State.reset

theorem test_witness_TitlesAndRefetchesFollow :
    (∀ refetch err, (titleBack { showOf .onSale 101 1200 with refetch := refetch } err).mail.trackerResp =
        { tag := .title 5 1, data := [0x6261#64], err := err } :: [] ∧
      ((titleBack { showOf .onSale 101 1200 with refetch := refetch } err).tracker.entries.get 5).fetch = .title) ∧
      (((backFor { showOf .onSale 101 1200 with refetch := true } (actionOf 0) false).tracker.entries.get 5).refetch = true ∧
        (backFor fetchingEntry [] false).path.windows.showBase ≠ 0 ∧ (titleBack fetchingEntry true).path.windows.showBase ≠ 0) ∧
      (((backFor { fetchingEntry with refetch := true } titledRecord false).tracker.entries.get 5).refetch = true ∧
        ((recordFetchDone ((backFor { fetchingEntry with refetch := true } titledRecord false).withTracker
          { (backFor fetchingEntry [] false).tracker with
            entries := (backFor fetchingEntry [] false).tracker.entries.set 5 (inFetch fetchingEntry) })).tracker.entries.get 5).fetch =
          .title) ∧
      (((backFor { showOf .onSale 101 1200 with refetch := true } [] true).tracker.entries.get 5).refetch = true ∧
        ((recordFetchDone (backFor (showOf .onSale 101 1200) [] true)).tracker.entries.get 5).fetch ≠ .title) ∧
      (windowsTo (fun w => { w with showBase := 0 }) (backFor { fetchingEntry with refetch := true } [] true)).path.windows.showBase = 0 ∧
      ((responded (.record 5 2) [] false (putShow 5 (inFetch fetchingEntry) State.reset)).tracker.entries.get 5).fetchNo ≠ 2 ∧
      ((responded (.title 5 1) [] false State.reset).tracker.entries.get 5).fetch ≠ .title := by decide +kernel
theorem test_title :
    ((titleFetchDone (titleBack { showOf .onSale 101 1200 with
      fields := { (showOf .onSale 101 1200).fields with titleLen := 2 } } false)).tracker.entries.get 5).title = [0x61, 0x62] := by
  decide +kernel

/-- A desk effect waits, with show 101 in slot 5. -/
def effected (x : Effect) (e : ShowEntry) : State :=
  clockAt 61200 <| mailTo (fun m => { m with effects := [x] }) <| putShow 5 e State.reset

theorem test_witness_DeskEffectsAreAnswered :
    (∀ x ∈ [Effect.delay 9 20, .undelay 9 20, .cancel 9], (effected x (showOf .onSale 101 1050)).mail.effects = x :: [] ∧
        ∀ j, ((effected x (showOf .onSale 101 1050)).tracker.entries.get j).state.visible = true →
          ((effected x (showOf .onSale 101 1050)).tracker.entries.get j).fields.id ≠ 9) ∧
      (∀ st ∈ [ShowState.onSale, .closing, .started, .cancelled], ∀ x ∈ [Effect.delay 101 20, .undelay 101 20, .cancel 101],
        (effected x (showOf st 101 1050)).mail.effects = x :: [] ∧
          (effected x (showOf st 101 1050)).tracker.findShow 101 = some 5) ∧
      min 240 (({ showOf .onSale 101 1050 with delay := 240 } : ShowEntry).delay + 20) = 240 := by decide +kernel
/-- spec/03, the worked example: a DELAY of 20 minutes on show 880, then an UNDELAY. -/
theorem test_delay_effect :
    ((delayEffect (effected (.delay 101 20) (showOf .onSale 101 1050))).tracker.entries.get 5).effStart = 1070 ∧
      (delayEffect (effected (.delay 101 20) (showOf .onSale 101 1050))).mail.toNotices.head? = some (.answer (.done 20)) := by
  decide +kernel
theorem test_undelay_effect :
    (undelayEffect (effected (.undelay 101 20) { showOf .onSale 101 1050 with delay := 5, effStart := 1055 })).mail.toNotices.head? =
      some (.answer (.done 5)) := by decide +kernel

/-! ### Witnesses: seats -/

/-- A slot that sweeps a map of 64 seats for show slot 5. -/
def sweepingSlot : SeatSlot :=
  { SeatSlot.reset with state := .sweeping, bound := some 5, binding := 3, map := 0x10000, count := 64, beats := 2 }
/-- A slot that counts it. -/
def countingSlot : SeatSlot :=
  { sweepingSlot with
    state := .counting, issue := 2, fill := 2, tallies := { free := 64, held := 0, sold := 0, off := 0 }
    figure := { band := .plenty, shown := 64, plus := false } }
def waiterOf (i : Fin 192) : WaitEntry := { show_ := i, effStart := 1200, map := 0x10000, count := 64, holdback := 0 }
def seatMsg (m : SeatMsg) (s : State) : State := mailTo (fun x => { x with toSeats := [m] }) s
def waiters (ws : List WaitEntry) (s : State) : State := { s with seats := { s.seats with waiting := ws } }
def allBound (sl : SeatSlot) (s : State) : State := { s with seats := { s.seats with slots := Table.replicate 64 sl } }
/-- No slot is bound to show slot 5. -/
abbrev NotBound (s : State) : Prop := ∀ j, (s.seats.slots.get j).bound ≠ some 5
/-- Slot i is the one bound to show slot 5. -/
abbrev BoundAt (s : State) (i : Fin 64) : Prop :=
  (s.seats.slots.get i).state ≠ .unbound ∧ (s.seats.slots.get i).bound = some 5 ∧
    ∀ j < i, (s.seats.slots.get j).bound ≠ some 5

theorem test_witness_BindTakesASlotOrWaits :
    (NotBound State.reset ∧ (State.reset.seats.slots.get 0).state = .unbound) ∧
      (NotBound (putSlot 63 SeatSlot.reset (allBound { countingSlot with bound := some 9 } State.reset)) ∧
        ((putSlot 63 SeatSlot.reset (allBound { countingSlot with bound := some 9 } State.reset)).seats.slots.get 63).state = .unbound ∧
        ∀ j < 63, ((putSlot 63 SeatSlot.reset (allBound { countingSlot with bound := some 9 } State.reset)).seats.slots.get j).state ≠
          .unbound) ∧
      (NotBound (allBound { countingSlot with bound := some 9 } State.reset) ∧
        ∀ j, ((allBound { countingSlot with bound := some 9 } State.reset).seats.slots.get j).state ≠ .unbound) ∧
      BoundAt (putSlot 7 countingSlot State.reset) 7 ∧
      (NotBound (waiters [waiterOf 5] State.reset) ∧ ∃ w ∈ (waiters [waiterOf 5] State.reset).seats.waiting, w.show_ = 5) ∧
      (seatMsg (.bind 5 0x10000 64 2 1200) State.reset).mail.toSeats = .bind 5 0x10000 64 2 1200 :: [] := by decide +kernel
/-- R30: a bind on an empty unit takes slot 0 with its binding number advanced. -/
theorem test_bind :
    ((bind (seatMsg (.bind 5 0x10000 64 2 1200) State.reset)).seats.slots.get 0).binding = 1 ∧
      ((bind (seatMsg (.bind 5 0x10000 64 2 1200) State.reset)).tracker.entries.get 5).boundSlot = some 0 := by decide +kernel

theorem test_witness_ReleaseFreesTheSlot :
    (seatMsg (.release 5) State.reset).mail.toSeats = .release 5 :: [] ∧
      (BoundAt (putSlot 7 countingSlot State.reset) 7 ∧ (putSlot 7 countingSlot State.reset).seats.waiting = []) ∧
      (BoundAt (putSlot 0 countingSlot (waiters [waiterOf 8] State.reset)) 0 ∧
        (putSlot 0 countingSlot (waiters [waiterOf 8] State.reset)).seats.waiting = waiterOf 8 :: []) ∧
      (NotBound (waiters [waiterOf 5] State.reset) ∧ ∃ w ∈ (waiters [waiterOf 5] State.reset).seats.waiting, w.show_ = 5) ∧
      (NotBound State.reset ∧ ∀ w ∈ State.reset.seats.waiting, w.show_ ≠ 5) := by decide +kernel
theorem test_release :
    (release (seatMsg (.release 5) (putSlot 0 countingSlot (waiters [waiterOf 8] State.reset)))).seats.waiting = [] ∧
      ((release (seatMsg (.release 5) (putSlot 0 countingSlot (waiters [waiterOf 8] State.reset)))).seats.slots.get 0).bound = some 8 := by
  decide +kernel

def startNote (start : Bool) : ShowNote :=
  { slot := 5, id := 101, old := .onSale, new := .onSale,
    change := { state := false, start := start, title := false, display := false, removed := false } }

theorem test_witness_RequestsReachABoundShow :
    ((seatMsg (.remap 5 0x20000 32) State.reset).mail.toSeats = .remap 5 0x20000 32 :: [] ∧
        (seatMsg (.holdback 5 9) State.reset).mail.toSeats = .holdback 5 9 :: [] ∧
        (∀ x, (seatMsg (.note (startNote x)) State.reset).mail.toSeats = .note (startNote x) :: [])) ∧
      BoundAt (putSlot 7 sweepingSlot State.reset) 7 ∧ BoundAt (putSlot 7 countingSlot State.reset) 7 ∧
      (NotBound (waiters [waiterOf 5] State.reset) ∧ ∃ w ∈ (waiters [waiterOf 5] State.reset).seats.waiting, w.show_ = 5) ∧
      (NotBound State.reset ∧ ∀ w ∈ State.reset.seats.waiting, w.show_ ≠ 5) ∧
      ((waiters [waiterOf 3, waiterOf 5, waiterOf 8] State.reset).seats.waiting = [waiterOf 3] ++ waiterOf 5 :: [waiterOf 8] ∧
        (∀ x ∈ [waiterOf 3] ++ [waiterOf 8], x.show_ ≠ 5) ∧
        [waiterOf 3, waiterOf 5, waiterOf 8].Pairwise fun x y => waitBefore x y = true) := by decide +kernel

/-- R33: a REMAP of a bound show whose entry was freed meanwhile writes the seat status and no bound slot. -/
theorem test_remap_writes_the_status_alone :
    let e := (remap (seatMsg (.remap 5 0x20000 32) (putSlot 7 countingSlot State.reset))).tracker.entries.get 5
    (e.seatStatus, e.boundSlot) = (.sweeping, none) := by decide +kernel

def inFlight (n : Nat) (rs : List Reissue) (s : State) : State :=
  { s with seats := { s.seats with inFlight := n, reissues := rs } }

theorem test_witness_SweepReadsTakeTurns :
    4 ≤ (inFlight 4 [] State.reset).seats.inFlight ∧
      ((inFlight 3 [{ slot := 7, first := 1, count := 1 }] State.reset).seats.inFlight < 4 ∧
        (inFlight 3 [{ slot := 7, first := 1, count := 1 }] State.reset).seats.reissues = { slot := 7, first := 1, count := 1 } :: []) ∧
      (State.reset.seats.reissues = [] ∧ ∀ i, (State.reset.seats.slots.get i).state ≠ .sweeping) ∧
      ((putSlot 0 sweepingSlot State.reset).seats.burst = 63 ∧
        ((putSlot 0 sweepingSlot State.reset).seats.slots.get 0).issue < ((putSlot 0 sweepingSlot State.reset).seats.slots.get 0).beats ∧
        (0 : Fin 64).val = ((putSlot 0 sweepingSlot State.reset).seats.burst.val + 1 + 0) % 64) ∧
      (63 : Fin 64).val = ((putSlot 63 sweepingSlot State.reset).seats.burst.val + 1 + 63) % 64 := by decide +kernel
/-- R36: a burst reads the two beats of the map and moves the issue cursor to them. -/
theorem test_sweep_issue :
    ((sweepReadIssue (putSlot 0 sweepingSlot State.reset)).path.sweepQ.map fun r => (r.addr, r.beats)) = [(0x10000, 2)] ∧
      ((sweepReadIssue (putSlot 0 sweepingSlot State.reset)).seats.slots.get 0).issue = 2 := by decide +kernel

/-- Both beats of a sweep issued and in flight. -/
def issuedSlot : SeatSlot :=
  { sweepingSlot with
    issue := 2
    shadow := (SeatSlot.reset.shadow.set 0 { data := 0, reading := true, reread := false }).set 1
      { data := 0, reading := true, reread := true } }
def seatBack (b : BitVec 8) (first : Nat) (data : List Beat) (err : Bool) (s : State) : State :=
  mailTo (fun m => { m with seatResp := [{ tag := .sweep 0 b first data.length, data := data, err := err }] }) s

theorem test_witness_SweepResponsesFillTheShadow :
    (∀ b err, (seatBack b 0 [0, 0] err (putSlot 0 issuedSlot State.reset)).mail.seatResp =
        { tag := .sweep 0 b 0 2, data := [0, 0], err := err } :: []) ∧
      ((putSlot 0 issuedSlot State.reset).seats.slots.get 0).binding = 3 ∧
      (issuedSlot.retries < 2 ∧ 0 + 2 ≤ 20) ∧ (2 ≤ ({ issuedSlot with retries := 2 } : SeatSlot).retries ∧ issuedSlot.state ≠ .unbound ∧
        issuedSlot.bound = some 5 ∧ ∀ j < 0, ((putSlot 0 issuedSlot State.reset).seats.slots.get j).bound ≠ some 5) ∧
      (issuedSlot.state = .sweeping ∧ 0 + [0#64, 0].length ≤ 20 ∧ issuedSlot.fill ≤ issuedSlot.issue ∧
        issuedSlot.issue ≤ issuedSlot.beats ∧ issuedSlot.beats ≤ 20) :=
  ⟨fun _ _ => rfl, by decide, by decide, by decide, by decide⟩
/-- The third memory error of a sweep frees its slot as a RELEASE does, with shows waiting. -/
theorem test_witness_sweep_given_up :
    ∃ u, exec .release ((seatMsg (.release 5) (putSlot 0 { issuedSlot with retries := 2 } (waiters [waiterOf 8] State.reset))).withSeats
      { (putSlot 0 { issuedSlot with retries := 2 } (waiters [waiterOf 8] State.reset)).seats with inFlight := 0 }) = .next u := ⟨_, rfl⟩
/-- The Seat Tally Unit with a slot that counts, one that sweeps with a response in hand, and four reads in flight. -/
def sweptState : State :=
  inFlight 4 [] (seatBack 3 0 [0, 0] false (putSlot 0 { issuedSlot with bound := some 6 } (putSlot 63 countingSlot State.reset)))
theorem test_witness_EveryStepKeepsTheNoticeList_seats :
    SeatsOk sweptState ∧ TalliesOk sweptState ∧
      ∀ i first n data err rest,
        sweptState.mail.seatResp = { tag := .sweep i (sweptState.seats.slots.get i).binding first n, data := data, err := err } :: rest →
        (sweptState.seats.slots.get i).fill ≤ first ∧ first + data.length ≤ 20 := by
  have hm : sweptState.mail.toSeats = [] := rfl
  refine ⟨⟨?_, ?_, by decide +kernel, by decide +kernel, by decide +kernel, by decide +kernel, by decide +kernel, by decide +kernel,
    fun _ _ _ _ _ h => (by rw [hm] at h; cases h), fun _ _ _ h => (by rw [hm] at h; cases h), by decide +kernel⟩, ?_, ?_⟩
  · unfold SeatSlot.ok; decide +kernel
  · have h : ∀ i, (sweptState.seats.slots.get i).bound = if i = 0 then some 6 else if i = 63 then some 5 else none := by decide +kernel
    intro i j sh a b
    rw [h] at a b
    split at a <;> split at b <;> simp_all <;> grind
  · unfold TalliesOk SeatSlot.counts; decide +kernel
  · intro i first n data err rest h
    injection h with h _
    injection h with h hd _
    injection h with hi _ hf _
    subst hi hf hd
    decide +kernel
/-- R37, R39: a beat written meanwhile is read again, so the sweep stops counting before it; without one it ends with 64 free seats. -/
theorem test_sweep_done :
    ((sweepReadDone (seatBack 3 0 [0, 0] false (putSlot 0 issuedSlot State.reset))).seats.slots.get 0).fill = 1 ∧
      (sweepReadDone (seatBack 3 0 [0, 0] false (putSlot 0 issuedSlot State.reset))).seats.reissues =
        [{ slot := 0, first := 1, count := 1 }] := by decide +kernel
theorem test_sweep_ends :
    ((sweepReadDone (seatBack 3 1 [0] false (putSlot 0 { issuedSlot with
        fill := 1, tallies := { free := 32, held := 0, sold := 0, off := 0 }
        shadow := SeatSlot.reset.shadow.set 1 { data := 0, reading := true, reread := false } } State.reset))).seats.slots.get
      0).figure = { band := .plenty, shown := 64, plus := false } := by decide +kernel

def seatBeatAt (addr : Addr) (s : State) : State :=
  { s with intakes := { s.intakes with seat := [{ addr := addr, data := 0x2, enables := 1, grant := 4 }] } }

theorem test_witness_WriteBeatsKeepTheTalliesTrue :
    (∀ i, ((seatBeatAt 0x10000 State.reset).seats.slots.get i).state = .unbound) ∧
      (seatBeatAt 0x10008 (putSlot 0 countingSlot State.reset)).intakes.seat ≠ [] ∧
      (putSlot 0 countingSlot State.reset).seats.slotAt 0x10000 = some 0 ∧
      (putSlot 0 countingSlot State.reset).seats.slotAt 0x10008 = some 0 ∧
      (putSlot 0 countingSlot State.reset).seats.slotAt 0x10010 = none ∧
      (countingSlot.fill ≤ countingSlot.issue ∧ countingSlot.issue ≤ countingSlot.beats ∧ countingSlot.beats ≤ 20) ∧
      (0x10008 - 0x10000) / 8 < countingSlot.fill ∧ countingSlot.counts ∧
      ((putSlot 0 issuedSlot State.reset).seats.slotAt 0x10008 = some 0 ∧ issuedSlot.fill ≤ 1 ∧ 1 < issuedSlot.issue ∧
        (issuedSlot.beat 1).reading = true) ∧
      (({ issuedSlot with shadow := SeatSlot.reset.shadow } : SeatSlot).beat 1).reading = false ∧
      sweepingSlot.issue ≤ 1 := by
  unfold SeatSlot.counts; decide +kernel
/-- R42: the seat in bits 1..0 of the beat goes from free to sold (code 2). -/
theorem test_seat_beat :
    ((seatBeat (seatBeatAt 0x10000 (putSlot 0 countingSlot State.reset))).seats.slots.get 0).tallies =
      { free := 63, held := 0, sold := 1, off := 0 } := by decide +kernel

theorem test_witness_AvailabilityGradesAShow :
    9 ≤ ({ Params.reset with exact := 9 } : Params).exact ∧ Band.soldOut.code ≤ Band.soldOut.code ∧ Band.few.code < Band.filling.code := by
  decide

def writeFailed (s : State) : State := mailTo (fun m => { m with seatErrors := [(4, [0x10008])] }) s

theorem test_witness_PoliciesAndFailedWritesReachEverySlot :
    ((given 0x043 60).entry = some (entryOf 0x043 60) ∧ (entryOf 0x043 60).row = .policy .high) ∧
      (writeFailed State.reset).mail.seatErrors = (4, [0x10008]) :: [] ∧
      (∃ b ∈ (writeFailed (seatBeatAt 0x10000 State.reset)).intakes.seat, b.grant = 4) ∧
      (∀ b ∈ (writeFailed State.reset).intakes.seat, b.grant ≠ 4) ∧
      (countingSlot.state = .counting ∧ sweepingSlot.state ≠ .counting) ∧
      countingSlot.state ≠ .unbound ∧ countingSlot.map.toNat ≤ (0x10008#32).toNat ∧
      (0x10008#32).toNat < countingSlot.map.toNat + 8 * countingSlot.beats := by decide +kernel
/-- R50, R47: with the high threshold raised to 100 percent, 60 free seats of 64 are FILLING at once. -/
theorem test_policy_write :
    ((policyWrite (putSlot 0 { countingSlot with tallies := { free := 60, held := 0, sold := 4, off := 0 } }
      (given 0x043 100))).seats.slots.get 0).figure = { band := .filling, shown := 60, plus := false } := by decide +kernel
theorem test_seat_write_error :
    ((seatWriteError (writeFailed (putSlot 0 countingSlot State.reset))).seats.slots.get 0).state = .sweeping := by decide +kernel

/-! ### Witnesses: notices -/

def noticeOf (kind : NoticeKind) (desk id priority : Nat) : Notice :=
  { ident := { desk := desk, id := id }, kind := kind, priority := priority, key := 0x777, mask := 0, show_ := 101,
    expiry := none, dwell := 10, template := .none, text := [], applied := 0 }
def n1 : Notice := noticeOf .alert 1 1 7
def n2 : Notice := noticeOf .info 2 2 2
def n3 : Notice := noticeOf .info 3 3 2
/-- The notice list of a state replaced. -/
def listed (l : List Notice) (s : State) : State := { s with notices := { s.notices with list := l } }
/-- A unit whose pane 0 of screen 0 is BANNER at minimum priority 2 and shows a notice, or none. -/
def rotating (l : List Notice) (x : Option NoticeId) : Notices :=
  { Notices.reset with
    list := l, rotations := Notices.reset.rotations.set 0 { banner := some 2, current := x, timer := 0 } }
def fullList (p : Nat) : List Notice := List.replicate 16 (noticeOf .info 1 1 p)

theorem test_witness_SettlingFollowsTheList :
    (∃ q' outs, (rotating [n1, n2, n3] (some n2.ident)).change [n1, n3] [n2.mask] = (q', outs)) ∧
      ((rotating [n1, n2, n3] (some n2.ident)).rotations.get (paneIx 0 0)).current = some n2.ident ∧
      (∀ n ∈ [n1, n3], n.ident = n2.ident → n.eligible 0 2 = false) ∧
      ([n1, n2, n3] = [n1] ++ n2 :: [n3] ∧ (∀ y ∈ [n1], y.ident ≠ n2.ident) ∧ n3.eligible 0 2 = true ∧
        ∀ n' ∈ [n1, n3], n'.ident = n3.ident → n' = n3) ∧
      ((∀ n ∈ [n1], n.eligible 0 2 = false) ∧ ∃ n ∈ [n1, n2], n.ident = n2.ident ∧ n.eligible 0 2 = true) ∧
      ([n1, n2] = [n1] ++ n2 :: [] ∧ ∀ y ∈ [n1], y.eligible 0 2 = false) ∧
      ([n1, n3] = [] ++ n1 :: [n3] ∧ n1.kind = .alert ∧ n1.mask = 0) ∧
      (0 ∈ [n2.mask] ∧ 0 ∉ [(3 : BitVec 32), 4]) :=
  ⟨⟨_, _, rfl⟩, by decide⟩
/-- R75: the pane of a notice that leaves moves to the next eligible one, and a LIST note for every screen goes first. -/
theorem test_settling :
    ((((rotating [n1, n2, n3] (some n2.ident)).change [n1, n3] [n2.mask]).1.rotations.get 0).current = some n3.ident) ∧
      ((rotating [n1, n2, n3] (some n2.ident)).change [n1, n3] [n2.mask]).2.head? = some (.noticeNote (.list 0)) := by
  decide +kernel

theorem test_witness_NoticesEnterByPriority :
    (∀ e, some 5 = some e → e ≤ ({ Notices.reset with lastMinute := 5 } : Notices).lastMinute) ∧
      (∀ e, some 6 = some e → ({ Notices.reset with lastMinute := 5 } : Notices).lastMinute < e) ∧
      ([n1, n2] = [n1, n2] ++ [] ∧ [n1, n2].length < 16 ∧ ∀ x ∈ [n1, n2], n3.priority ≤ x.priority) ∧
      (fullList 1 = [] ++ fullList 1 ∧ 16 ≤ (fullList 1).length ∧ fullList 1 = [] ++ List.replicate 15 (noticeOf .info 1 1 1) ++
        [noticeOf .info 1 1 1] ∧ ∀ x ∈ fullList 1, x.priority < n2.priority) ∧
      (fullList 2 = List.replicate 15 (noticeOf .info 1 1 2) ++ [noticeOf .info 1 1 2] ∧ n2.priority ≤ (noticeOf .info 1 1 2).priority) :=
  ⟨fun e h => by cases h; decide, fun e h => by cases h; decide, by decide, by decide, by decide⟩
theorem test_enter_evicts :
    (({ Notices.reset with list := fullList 1 }).enter n2).2.head? = some (.event .noticeEvicted) ∧
      (({ Notices.reset with list := fullList 2 }).enter n2).2 = [.event .listFull] := by decide +kernel

/-- A producer value waits, with the reader as given and C at 40. -/
def produced (v : BitVec 16) (reader : Reader) (base : Addr) : State :=
  { windowsTo (fun w => { w with noticeBase := base }) State.reset with
    intakes := { State.reset.intakes with notice := some v }
    notices := { State.reset.notices with produced := 40, consumed := 40, reader := reader } }

theorem test_witness_TheRingIsTakenInOrder :
    (∀ v r b, (produced v r b).intakes.notice = some v ∧ (produced v r b).notices.reader = r ∧
        (produced v r b).path.windows.noticeBase = b) ∧
      (((104 : BitVec 16) - 40).toNat ≤ 64 ∧ 65 ≤ ((105 : BitVec 16) - 40).toNat ∧ (104 : BitVec 16) ≠ 40) ∧
      ((mailTo (fun m => { m with noticeResp := [{ tag := .consumer, data := [], err := true }] }) State.reset).mail.noticeResp =
        { tag := .consumer, data := [], err := true } :: []) ∧
      (∀ b, 0 < ({ State.reset with
        time := { State.reset.time with dueNotice := 1 }
        notices := { State.reset.notices with writebackPending := b } } : State).time.dueNotice) :=
  ⟨fun _ _ _ => ⟨rfl, rfl, rfl⟩, by decide, rfl, fun _ => Nat.one_pos⟩
/-- R54: 64 waiting notices are read from notice C; 65 are an overrun, and reading starts 64 below the value. -/
theorem test_producer_value :
    ((producerValueTaken (produced 104 .idle 0x4000)).path.recordQ.map fun r => r.addr) = [0x4000 + 64 + 64 * 40] ∧
      (producerValueTaken (produced 105 .idle 0x4000)).notices.number = 41 := by decide +kernel

def noticeRec (kind : NoticeKind) : NoticeRec :=
  { kind := kind, priority := 5, ident := { desk := 4, id := 12 }, key := 0x777, mask := 0, show_ := 880, minutes := 20,
    expiry := none, dwell := 10, textLen := 2, textAddr := 0x1001 }
/-- A record of desk 4, notice 12, for show 880. -/
def noticeBytes (kind minutes len addr : Nat) : List Beat :=
  recordOf ([kind, 5, 4, 10, 12, 0, 0x77, 7, 0, 0, 0, 0, 0x70, 3, minutes, 0, 0xFF, 0xFF, len, 0] ++ (leBytes 4 addr).map BitVec.toNat)
/-- A response for the notice reader. -/
def reading (tag : Tag) (data : List Beat) (err : Bool) (q : Notices) : State :=
  windowsTo (fun w => { w with noticeBase := 0x4000 }) <|
    mailTo (fun m => { m with noticeResp := [{ tag := tag, data := data, err := err }] }) { State.reset with notices := q }
def reader (r : Reader) (k : NoticeKind) (outstanding : Nat) (l : List Notice) : Notices :=
  { Notices.reset with reader := r, record := some (noticeRec k), outstanding := outstanding, list := l, produced := 41, consumed := 41 }

theorem test_witness_NoticesAreReadAndChecked :
    (∀ tag data err q, (reading tag data err q).mail.noticeResp = { tag := tag, data := data, err := err } :: [] ∧
        (reading tag data err q).path.windows.noticeBase ≠ 0) ∧
      (∀ r k o l, (reader r k o l).produced = (reader r k o l).consumed ∧ (reader r k o l).reader = r ∧
        (reader r k o l).record = some (noticeRec k) ∧ (reader r k o l).outstanding = o ∧ (reader r k o l).textErr = false) ∧
      (byteAt (beatsBytes (noticeBytes 5 0 0 0)) 0 = 5 ∧ byteAt (beatsBytes (noticeBytes 1 0 0 0)) 0 = 1 ∧
        le16At (beatsBytes (noticeBytes 1 0 0 0)) 14 = 0) ∧
      (byteAt (beatsBytes (noticeBytes 0 0 240 0x1001)) 2 = 4 ∧ le16At (beatsBytes (noticeBytes 0 0 240 0x1001)) 4 = 12 ∧
        le16At (beatsBytes (noticeBytes 0 0 240 0x1001)) 18 = 240 ∧
        le32At (beatsBytes (noticeBytes 0 0 240 0x1001)) 20 = 0x1001) ∧
      ∀ x ∈ [n1, n2], x.ident ≠ (noticeRec .info).ident :=
  ⟨fun _ _ _ _ => ⟨rfl, (by decide : (0x4000 : Addr) ≠ 0)⟩, fun _ _ _ _ => ⟨rfl, rfl, rfl, rfl, rfl⟩, by decide +kernel, by decide +kernel, by decide⟩
/-- R55: 240 bytes of text at 0x1001 lie in 31 beats, read as 8, 8, 8 and 7. -/
theorem test_notice_record :
    ((noticeRecordDone (reading .noticeRecord (noticeBytes 0 0 240 0x1001) false (reader .record .info 1 []))).path.recordQ.map
      fun r => (r.addr, r.beats)) = [(0x1000, 8), (0x1040, 8), (0x1080, 8), (0x10C0, 7)] := by decide +kernel
/-- R52, R55: a notice skipped ends with a consumer writeback, and notice 41 is begun where P stands at 42; with no NOTICE base the writeback is left pending and nothing is begun. -/
theorem test_next_notice :
    let ends (base : Addr) := noticeRecordDone (windowsTo (fun w => { w with noticeBase := base })
      (reading .noticeRecord [] true { reader .record .info 1 [] with produced := 42 }))
    ((ends 0x4000).notices.reader, (ends 0x4000).notices.number, (ends 0x4000).notices.consumed,
        (ends 0x4000).path.recordQ.map fun r => r.addr) = (.record, 41, 42, [0x4000 + 64 + 64 * 41]) ∧
      ((ends 0).notices.reader, (ends 0).notices.writebackPending, (ends 0).path.recordQ) = (.idle, true, []) := by decide +kernel
theorem test_notice_text :
    ((noticeTextDone (reading .noticeText [0x636261#64] false (reader .text .info 1 []))).notices.list.map fun n => n.text) =
      [bytesOf [0x62, 0x63]] := by decide +kernel

/-- A WITHDRAW, and a CANCEL without text, of desk 4, notice 12; and the records they make. -/
def withdrawBack (l : List Notice) : State := reading .noticeRecord (noticeBytes 4 0 0 0) false (reader .record .info 1 l)
def cancelBack (l : List Notice) : State := reading .noticeRecord (noticeBytes 2 0 0 0) false (reader .record .info 1 l)
theorem test_witness_notices_are_processed_by_kind :
    ((noticeRecord (beatsBytes (noticeBytes 4 0 0 0))).map fun r => (r.kind, r.textLen, r.ident.id)) = some (.withdraw, 0, 12) ∧
      ((noticeRecord (beatsBytes (noticeBytes 2 0 0 0))).map fun r => (r.kind, r.textLen, r.ident.id)) = some (.cancel, 0, 12) ∧
      (∀ k ∈ [NoticeKind.info, .delay], (reader .text k 1 []).record = some (noticeRec k) ∧ (reader .text k 1 []).outstanding = 1) ∧
      (∀ o ∈ [n1, n2], o.ident ≠ { desk := 4, id := 12 }) ∧
      ([n1, noticeOf .delay 4 12 5, n2] = [n1] ++ noticeOf .delay 4 12 5 :: [n2] ∧ ∀ o ∈ [n1] ++ [n2], o.ident ≠ { desk := 4, id := 12 }) ∧
      (opens 0 (noticeOf .delay 4 12 5) 0x777 ∧ ¬ opens 0 (noticeOf .delay 4 12 5) 0x778 ∧ opens 9 (noticeOf .delay 4 12 5) 9 ∧
        ¬ opens 0 (noticeOf .delay 0 12 5) 0) ∧
      (leavingEffects (noticeOf .delay 4 12 5) = [] ∧ leavingEffects { noticeOf .delay 4 12 5 with applied := 1 } ≠ []) ∧
      (ownEffects (noticeRec .info) = [] ∧ ownEffects (noticeRec .delay) ≠ []) := by
  unfold opens; decide +kernel
/-- R65: a WITHDRAW of an unlisted notice raises NOT_FOUND; one of a listed DELAY removes it and waits for its UNDELAY. -/
theorem test_withdraw :
    (noticeRecordDone (withdrawBack [n1])).mail.events = [.notFound] ∧
      (noticeRecordDone (withdrawBack [{ noticeOf .delay 4 12 5 with applied := 20 }])).mail.effects = [.undelay 101 20] ∧
      (noticeRecordDone (withdrawBack [{ noticeOf .delay 4 12 5 with key := 1 }])).mail.events = [.keyMismatch] ∧
      (noticeRecordDone (cancelBack [])).mail.effects = [.cancel 880] := by decide +kernel

/-- An answer waits for the notice reader. -/
def answered (a : Answer) (k : NoticeKind) (awaiting : List Awaited) (replacing : Bool) (l : List Notice) : State :=
  windowsTo (fun w => { w with noticeBase := 0x4000 }) <|
    mailTo (fun m => { m with toNotices := [.answer a] }) { State.reset with
      notices := { reader .effect k 0 l with awaiting := awaiting, replacing := replacing } }
def listedDelay : Notice := { noticeOf .delay 4 12 5 with show_ := 880, applied := 20 }

theorem test_witness_EffectAnswersDecideTheNotice :
    (∀ a k x more b l, (answered a k (x :: more) b l).mail.toNotices = .answer a :: [] ∧
        (answered a k (x :: more) b l).notices.record = some (noticeRec k) ∧
        (answered a k (x :: more) b l).notices.awaiting = x :: more ∧ (answered a k (x :: more) b l).notices.replacing = b ∧
        (answered a k (x :: more) b l).path.windows.noticeBase ≠ 0 ∧
        (answered a k (x :: more) b l).notices.produced = (answered a k (x :: more) b l).notices.consumed) ∧
      (∀ o ∈ [n1, n2], o.ident ≠ (noticeRec .delay).ident) ∧
      ([n1, listedDelay, n2] = [n1] ++ listedDelay :: [n2] ∧ listedDelay.ident = (noticeRec .delay).ident ∧
        (∀ o ∈ [n1] ++ [n2], o.ident ≠ (noticeRec .delay).ident)) ∧
      ([n1] ++ [n2] = [n1] ++ [n2] ∧ (∀ o ∈ [n1], 5 ≤ o.priority) ∧ ∀ o ∈ [n2], o.priority < 5) :=
  ⟨fun _ _ _ _ _ _ => ⟨rfl, rfl, rfl, rfl, (by decide : (0x4000 : Addr) ≠ 0), rfl⟩, by decide, by decide, by decide⟩
/-- spec/03, the worked example: the replacing DELAY stands before the priority-2 notices with 10 minutes applied. -/
theorem test_effect_answer :
    ((effectAnswer (answered (.done 10) .delay [.delay] true [listedDelay, n2, n3])).notices.list.map
      fun n => (n.ident.id, n.applied)) = [(12, 10), (2, 0), (3, 0)] := by decide +kernel

def noted (x : NoticeMsg) (l : List Notice) : State := mailTo (fun m => { m with toNotices := [x] }) (listed l State.reset)
def movedNote (st : ShowState) (start removed : Bool) : ShowNote :=
  { slot := 5, id := 101, old := .onSale, new := st,
    change := { state := true, start := start, title := false, display := false, removed := removed } }
def seatsNoted (old new : Band) (on : Bool) (st : ShowState) : State :=
  mailTo (fun m => { m with seatsToNotices := [{ show_ := 5, id := 101, old := old, new := new, shown := 0, plus := false, status := .counting }] }) <|
    putShow 5 (showOf st 101 1200) (State.reset.withParams { Params.reset with autoSoldOut := on })

theorem test_witness_NoticesLeaveByTimeShowAndSeats :
    (noted (.minute 1100) [n1]).mail.toNotices = .minute 1100 :: [] ∧
      (∀ start, (noted (.note (movedNote .started start false)) [n1]).mail.toNotices =
          .note (movedNote .started start false) :: [] ∧ (movedNote .started start false).id ≠ 0) ∧
      ((seatsNoted .few .soldOut true .onSale).mail.seatsToNotices.length = 1 ∧
        (seatsNoted .few .soldOut true .onSale).params.autoSoldOut = true ∧
        ((seatsNoted .few .soldOut true .onSale).tracker.entries.get 5).state = .onSale ∧
        ∀ n ∈ (seatsNoted .few .soldOut true .onSale).notices.list, n.ident ≠ { desk := 0, id := 101 }) ∧
      (seatsNoted .soldOut .few false .onSale).mail.seatsToNotices.length = 1 ∧
      (seatsNoted .few .soldOut false .onSale).params.autoSoldOut = false ∧
      (∀ on, ((given 0x049 0).withParams { Params.reset with autoSoldOut := on }).entry = some (entryOf 0x049 0)) ∧
      (entryOf 0x049 0).row = .autoSoldOut := by
  refine ⟨rfl, fun _ => ⟨rfl, (by decide : (101 : Nat) ≠ 0)⟩, by decide +kernel, rfl, rfl, by decide +kernel, by decide⟩
theorem test_minute_note :
    (minuteNoteNotice (noted (.minute 1100) [{ n2 with expiry := some 1100 }, { n3 with expiry := some 1101 }])).notices.list =
      [{ n3 with expiry := some 1101 }] := by decide +kernel
theorem test_sold_out_notice :
    ((noticeSeatsChangedNote (seatsNoted .few .soldOut true .closing)).notices.list.map fun n => (n.ident.desk, n.ident.id, n.expiry)) =
      [(0, 101, some 1200)] := by decide +kernel

/-- A change of the alert line is due. -/
def alertDue (level : Bool) (l : List Notice) : State :=
  { State.reset with notices := { State.reset.notices with
      list := l, alertLine := { level := level, runCount := 16, due := true } } }

theorem test_witness_HouseLinesAndRotationsMove :
    (∀ level l, (alertDue level l).notices.alertLine.due = true ∧ (alertDue level l).notices.alertLine.level = level) ∧
      ((∀ n ∈ [n1], 7 ≤ n.priority) ∧ (∀ n ∈ [n2, n3], n.priority < 7) ∧ [n1, n2, n3] = [n1] ++ [n2, n3]) ∧
      (fullList 2 = [] ++ List.replicate 15 (noticeOf .info 1 1 2) ++ [noticeOf .info 1 1 2] ∧ 16 ≤ (fullList 2).length) ∧
      (∀ b, ({ State.reset with notices := { State.reset.notices with
        hushLine := { level := b, runCount := 16, due := true } } } : State).notices.hushLine.due = true) ∧
      ((rotating [n1, n2, n3] (some n2.ident)).rotations.get (paneIx 0 0) = { banner := some 2, current := some n2.ident, timer := 0 } ∧
        [n1, n2, n3] = [n1] ++ n2 :: [n3] ∧ ([n1, n2, n3].Pairwise fun u v => u.ident ≠ v.ident) ∧
        [n3] ++ [n1] ++ [n2] = [] ++ n3 :: [n1, n2] ∧ n3.eligible 0 2 = true) ∧
      (∀ b, (mailTo (fun m => { m with bannerReports := [{ screen := 0, pane := 0, banner := b }] }) State.reset).mail.bannerReports =
        { screen := 0, pane := 0, banner := b } :: []) :=
  ⟨fun _ _ => ⟨rfl, rfl⟩, by decide, by decide, fun _ => rfl, by decide, fun _ => rfl⟩
/-- R72: the house alert goes first. -/
theorem test_house_alert :
    ((alertLineAsserted (alertDue false [n2, n3])).notices.list.map fun n => n.template) = [.house, .none, .none] := by
  decide +kernel
theorem test_dwell_expiry :
    ((bannerDwellExpiry 0 0 (State.reset.withNotices (rotating [n1, n2, n3] (some n3.ident)))).notices.rotations.get 0).current =
      some n2.ident := by decide +kernel

/-! ### Witnesses: reels -/

def idleChan : Channel := Channel.reset
/-- A channel that runs a cue, with its frame's last period running. -/
def runningChan (q : Cue) : Channel :=
  { Channel.reset with state := .running, current := .ready 0x1000 q, periodsLeft := 1 }
/-- A channel that waits for its first frame. -/
def startingChan (q : Cue) (f : Filling) : Channel :=
  { Channel.reset with
    state := .starting, current := .ready 0x1000 q, awaited := true, begins := true, filling := f, fillFor := .frame 0
    fillBuf := bytesOf [1, 2], plan := { FetchPlan.none with addr := some 0x1000, total := 2, length := 16 }, periodsLeft := 0 }

theorem test_witness_CuesAndCutsReachTheirChannel :
    ((given 0x080 0x3000).entry = some (entryOf 0x080 0x3000) ∧ (entryOf 0x080 0x3000).row = .cuePush 0 ∧
        (entryOf 0x080 0x3000).argument ≠ 0 ∧ (entryOf 0x080 0x3000).argument.toNat % 8 = 0) ∧
      ((entryOf 0x080 0).row = .cuePush 0 ∧ (entryOf 0x080 0).argument = 0 ∧ (entryOf 0x080 4).argument.toNat % 8 ≠ 0) ∧
      ((given 0x081 1).entry = some (entryOf 0x081 1) ∧ (entryOf 0x081 1).row = .cueCut 0) ∧
      ((given 0x080 0x3000).reel.channels.get 0).state = .idle ∧
      (((putChan 0 (runningChan (cueOf 2 0)) (given 0x080 0x3000)).reel.channels.get 0).state ≠ .idle ∧
        (runningChan (cueOf 2 0)).next = .empty) ∧
      ({ runningChan (cueOf 2 0) with next := .loading 8 } : Channel).next ≠ .empty := by decide +kernel
/-- spec/04, the worked example: a push on an IDLE channel loads the cue and answers ACCEPTED. -/
theorem test_cue_push :
    ((cuePush (given 0x090 0x3000)).reel.channels.get 2).current = .loading 0x3000 ∧
      ((cuePush (given 0x090 0x3000)).path.recordQ.map fun r => (r.addr, r.beats)) = [(0x3000, 4)] := by decide +kernel

theorem test_witness_ChannelStopIdlesTheChannel :
    ((given 0x082 1).entry = some (entryOf 0x082 1) ∧ (entryOf 0x082 1).row = .channelStop 0) ∧
      ((given 0x082 1).reel.channels.get 0).state = .idle ∧
      ({ startingChan (cueOf 2 0) .fetching with current := .loading 0x1000, next := .loading 0x2000 } : Channel).state ≠ .idle ∧
      ((startingChan (cueOf 2 0) .fetching).filling ≠ .empty ∧ (startingChan (cueOf 2 0) .fetching).fillFor ≠ .rest ∧
        (startingChan (cueOf 2 0) .fetching).plan.pointer = none ∧
        (startingChan (cueOf 2 0) .fetching).nos.frame ≤ (startingChan (cueOf 2 0) .fetching).loads) ∧
      ({ startingChan (cueOf 2 0) .fetching with plan := { FetchPlan.none with pointer := some 0x1004 } } : Channel).plan.pointer ≠
        none ∧
      (RestParams.reset.len = 0) ∧
      (({ addr := 8, len := 1 } : RestParams).len ≠ 0 ∧ ({ addr := 8, len := 1 } : RestParams).addr ≠ 0 ∧
        ({ addr := 8, len := 1 } : RestParams).addr.toNat % 8 = 0) := by decide +kernel
theorem test_channel_stop :
    ((channelStop (putChan 0 (startingChan (cueOf 2 0) .fetching) (given 0x082 1))).reel.channels.get 0).state = .idle ∧
      ((channelStop (putChan 0 (startingChan (cueOf 2 0) .fetching) (given 0x082 1))).reel.channels.get 0).serial = 1 := by
  decide +kernel

/-- R81: stopping a channel while a STEP frame is fetched abandons one load; while a LIST pointer is read, that one alone. -/
theorem test_stop_numbers :
    let no (c : Channel) := let d := (channelStop (putChan 0 c (given 0x082 1))).reel.channels.get 0
      (d.loads, d.nos.pointer, d.nos.frame)
    no (startingChan (cueOf 2 0) .fetching) = (1, 0, 1) ∧
      no { startingChan (cueOf 2 0) .fetching with plan := { FetchPlan.none with pointer := some 0x1004 } } = (1, 1, 0) := by
  decide +kernel

/-- A response for the Reel Player. -/
def reelBack (tag : Tag) (data : List Beat) (err : Bool) (c : Channel) : State :=
  mailTo (fun m => { m with reelResp := [{ tag := tag, data := data, err := err }] }) (putChan 0 c State.reset)
def restChan (received : Nat) : Channel :=
  { Channel.reset with
    filling := .fetching, fillFor := .rest
    plan := { FetchPlan.none with addr := some 0x1000, total := 2, issued := 2, received := received, length := 9 } }

theorem test_witness_RestStillsAreStoredAndShown :
    ((given 0x083 0x1000).entry = some (entryOf 0x083 0x1000) ∧ (entryOf 0x083 0x1000).row = .restStill 0 false ∧
        (given 0x084 65535).entry = some (entryOf 0x084 65535) ∧ (entryOf 0x084 65535).row = .restStill 0 true) ∧
      (∀ data err c, (reelBack (.rest 0 0) data err c).mail.reelResp = { tag := .rest 0 0, data := data, err := err } :: []) ∧
      ((restChan 0).nos.rest = 0 ∧ (restChan 0).nos.rest ≠ 1 ∧ (restChan 0).filling = .fetching ∧ (restChan 0).fillFor = .rest ∧
        (startingChan (cueOf 2 0) .fetching).fillFor ≠ .rest ∧
        (restChan 0).plan.received + 1 < (restChan 0).plan.total ∧ (restChan 1).plan.total ≤ (restChan 1).plan.received + 1) :=
  ⟨by decide +kernel, fun _ _ _ => rfl, by decide⟩
theorem test_rest_still :
    ((restReadDone (reelBack (.rest 0 0) [0x09] false { restChan 1 with fillBuf := bytesOf [1, 2, 3, 4, 5, 6, 7, 8] })).reel.channels.get
      0).shownBuf = bytesOf [1, 2, 3, 4, 5, 6, 7, 8, 9] := by decide +kernel

/-- The four beats of a cue record: STEP, one period, two frames of 16 bytes at 0x1000, no flags unless given. -/
def cueBytes (flags count show_ next : Nat) : List Beat :=
  toBeats 4 (bytesOf ([0, 1, 0, flags, count, 0, show_, 0, 16, 0, 0, 0, 0, 0x10, 0, 0, 16, 0, 0, 0, 0, next, 0, 0]))
def loadingChan (skips : Nat) : Channel :=
  { Channel.reset with state := .starting, current := .loading 0x1000, loads := 1, skips := skips, nos := { LoadNos.zero with current := 1 } }
def nextLoading : Channel :=
  { runningChan (cueOf 2 0) with next := .loading 0x2000, loads := 1, nos := { LoadNos.zero with next := 1 } }

theorem test_witness_EveryStepKeepsTheRings_channels :
    ReelOk (State.reset.withReel { State.reset.reel with
      inFlight := 8
      channels := State.reset.reel.channels.set 7
        { startingChan (cueOf 2 0) .fetching with next := .loading 0x2000, skips := 3, late := 65535, loads := 2
                                                  nos := { current := 1, next := 2, pointer := 0, frame := 2, rest := 0 } } }) := by
  unfold ReelOk Channel.ok; decide +kernel

/-- A cue that is stale while no show of its id sells. -/
def staleCue : Cue := { cueOf 2 0 with show_ := 101, skipIfStale := true }

theorem test_witness_CueLoadsFillTheirRank :
    (∀ no data err c, (reelBack (.cue 0 no) data err c).mail.reelResp = { tag := .cue 0 no, data := data, err := err } :: []) ∧
      ((loadingChan 0).nos.current ≠ 2 ∧ (loadingChan 0).nos.next ≠ 2) ∧
      (nextLoading.nos.current ≠ 1 ∧ nextLoading.nos.next = 1 ∧ nextLoading.next = .loading 0x2000) ∧
      ((loadingChan 0).nos.current = 1 ∧ (loadingChan 0).current = .loading 0x1000 ∧ (loadingChan 0).next = .empty) ∧
      (cueRecord (beatsBytes (cueBytes 0 2 0 0))).isSome ∧ cueRecord (beatsBytes (cueBytes 0 0 0 0)) = none ∧
      ((cueRecord (beatsBytes (cueBytes 1 2 101 0x20))).map fun q => (q.skipIfStale, q.next, State.reset.stale q)) =
        some (true, 0x2000, true) ∧
      (loadingChan 2).skips < 3 ∧ (loadingChan 3).skips = 3 ∧
      (({ loadingChan 0 with next := .loading 0x2000 } : Channel).next = .loading 0x2000 ∧
        ({ loadingChan 0 with next := .ready 0x2000 (cueOf 2 0) } : Channel).next = .ready 0x2000 (cueOf 2 0) ∧
        State.reset.stale (cueOf 2 0) = false) ∧
      (State.reset.stale staleCue = true ∧ staleCue.skipIfStale = true ∧
        ({ loadingChan 0 with next := .ready 0x2000 staleCue } : Channel).next = .ready 0x2000 staleCue) ∧
      ([0, 0x40, 4].map fun n => (cueRecord (bytesOf ([0, 1, 0, 1, 2, 0, 101, 0, 16, 0, 0, 0, 0, 0x10, 0, 0, 16, 0, 0, 0, n] ++
          List.replicate 11 0))).map fun q => (decide (q.next.toNat = 0), decide (q.next.toNat % 8 = 0))) =
        [some (true, true), some (false, true), some (false, false)] ∧
      ((putShow 5 (showOf .onSale 101 1200) State.reset).tracker.entries.get 5).fields.id = 101 :=
  ⟨fun _ _ _ _ => rfl, by decide, by decide, by decide, by decide +kernel⟩
/-- R77, R78: a STEP cue whose last frame ends at the end of the address space is valid and read field by field, one byte longer is not, nor one of mode 3. -/
theorem test_witness_cue_records :
    let cue (mode length : Nat) := cueRecord (bytesOf ([mode, 9, 5, 2, 2, 0, 101, 0, length, 0, 0, 0, 0xE0, 0xFF, 0xFF, 0xFF, 0x17, 0, 0, 0] ++
      List.replicate 12 0))
    (cue 0 16 = some { mode := .step, multiple := 8, repeats := 5, skipIfStale := false, loop := true, length := 16, count := 2,
                       show_ := 101, base := 0xFFFFFFE0, stride := 16, next := 0 }) ∧
      cue 0 17 = none ∧ cue 3 16 = none := by decide +kernel
/-- R93: the third skip still loads the skipped cue's next cue; the fourth makes the channel IDLE with STALE_CHAIN. -/
theorem test_stale_chain :
    ((cueLoadDone (reelBack (.cue 0 1) (cueBytes 1 2 101 0x20) false (loadingChan 2))).reel.channels.get 0).current = .loading 0x2000 ∧
      (cueLoadDone (reelBack (.cue 0 1) (cueBytes 1 2 101 0x20) false (loadingChan 3))).mail.events = [.staleChain] := by
  decide +kernel

def listChan : Channel :=
  { startingChan { cueOf 2 0 with mode := .list, base := 0x1004 } .fetching with
    plan := { FetchPlan.none with pointer := some 0x1004, total := 1, length := 16 } }

theorem test_witness_FrameReadsFillTheBuffer :
    (8 ≤ (State.reset.withReel { State.reset.reel with inFlight := 8 }).reel.inFlight ∧
        ∀ ch, (State.reset.reel.channels.get ch).filling ≠ .fetching) ∧
      (State.reset.reel.inFlight < 8 ∧ (0 : Fin 8).val = (State.reset.reel.lastServed.val + 1 + 0) % 8 ∧
        (7 : Fin 8).val = (State.reset.reel.lastServed.val + 1 + 7) % 8) ∧
      ((startingChan (cueOf 2 0) .fetching).plan.issued < (startingChan (cueOf 2 0) .fetching).plan.total ∧
        (startingChan (cueOf 2 0) .fetching).plan.pointer = none ∧ (startingChan (cueOf 2 0) .fetching).plan.addr = some 0x1000) ∧
      (listChan.plan.pointer = some 0x1004 ∧ listChan.plan.issued = 0 ∧ listChan.plan.total = 1) ∧
      (∀ tag data err c, (reelBack tag data err c).mail.reelResp = { tag := tag, data := data, err := err } :: []) ∧
      (listChan.nos.pointer = 0 ∧ listChan.nos.pointer ≠ 1 ∧ listChan.filling = .fetching) ∧
      (le32At (beatsBytes [0x0000200000000000#64]) (0x1004 % 8) = 0x2000 ∧ 0x2000 % 8 = 0 ∧
        0x2000 + listChan.plan.length ≤ 2 ^ 32 ∧ le32At (beatsBytes [0x0000200400000000#64]) (0x1004 % 8) % 8 ≠ 0) ∧
      ((startingChan (cueOf 2 0) .fetching).nos.frame = 0 ∧ (startingChan (cueOf 2 0) .fetching).plan.received + 1 <
        (startingChan (cueOf 2 0) .fetching).plan.total ∧ (startingChan (cueOf 2 0) .fetching).plan.total ≤ 0 + 2) :=
  ⟨by decide, by decide, by decide, by decide, fun _ _ _ _ => rfl, by decide, by decide +kernel, by decide⟩
theorem test_pointer :
    ((pointerReadDone (reelBack (.pointer 0 0) [0x0000200000000000#64] false listChan)).reel.channels.get 0).plan.addr = some 0x2000 := by
  decide +kernel
theorem test_frame_issue :
    ((frameReadIssue (putChan 0 (startingChan (cueOf 2 0) .fetching) State.reset)).path.frameQ.map fun r => (r.addr, r.beats)) =
      [(0x1000, 2)] := by decide +kernel

def boundaryFor (c : Channel) : State :=
  putChan 0 c { State.reset with time := { State.reset.time with dueReel := 1 } }

def heldChan (mark : Bool) : Channel := { runningChan (cueOf 2 0) with state := .held, shownMark := mark }

theorem test_witness_BoundariesPlayTheChannels :
    (∀ c, 0 < (boundaryFor c).time.dueReel ∧ (boundaryFor c).reel.channels.get 0 = c) ∧
      (startingChan (cueOf 2 0) .fetching).current = .ready 0x1000 (cueOf 2 0) ∧
      (startingChan (cueOf 2 0) .complete).fillFor = .frame 0 ∧
      ((runningChan (cueOf 2 0)).awaited = false ∧ (runningChan (cueOf 2 0)).periodsLeft = 1 ∧
        (runningChan (cueOf 2 0)).position + 1 < (cueOf 2 0).count) ∧
      ((cueOf 1 1).count ≤ (runningChan (cueOf 1 1)).position + 1 ∧ 0 < ({ runningChan (cueOf 1 1) with repeatsLeft := 1 } : Channel).repeatsLeft) ∧
      ((runningChan (cueOf 1 0)).repeatsLeft = 0 ∧ (runningChan (cueOf 1 0)).next = .empty ∧ (cueOf 1 0).loop = false) ∧
      ({ runningChan (cueOf 1 0) with cut := some .show_, next := .loading 8 } : Channel).cut ≠ none ∧
      (({ runningChan (cueOf 2 0) with resume := true, filling := .fetching } : Channel).awaited = false ∧
        ({ runningChan (cueOf 2 0) with resume := true, filling := .failed, fillFor := .frame 1 } : Channel).fillFor = .frame 1) ∧
      (({ runningChan (cueOf 1 0) with next := .ready 8 (cueOf 2 0), fillFor := .follower true } : Channel).next = .ready 8 (cueOf 2 0) ∧
        ({ runningChan (cueOf 1 0) with next := .ready 8 staleCue } : Channel).repeatsLeft = 0 ∧
        (runningChan { staleCue with loop := true, count := 1 }).position + 1 = 1) ∧
      ((startingChan { cueOf 2 0 with next := 0x40 } .complete).next = .empty ∧ (startingChan { cueOf 2 0 with next := 0x40 } .complete).begins = true ∧
        (0x40 : Addr).toNat % 8 = 0) ∧
      (({ runningChan { cueOf 1 0 with loop := true } with cut := some .show_ } : Channel).cut = some .show_ ∧
        ({ startingChan (cueOf 2 0) .fetching with cut := some .command, next := .ready 8 (cueOf 2 0) } : Channel).next = .ready 8 (cueOf 2 0) ∧
        ({ heldChan true with cut := some .command, next := .ready 8 (cueOf 2 0), fillFor := .follower true } : Channel).state = .held) ∧
      State.reset.stale (cueOf 2 0) = false :=
  ⟨fun _ => ⟨Nat.one_pos, rfl⟩, by decide, by decide, by decide, by decide, by decide, by decide, by decide, by decide, by decide, by decide, by decide +kernel⟩
/-- R90, R94: a SHOW cut replays a LOOP cue, frame 0 awaited; R84, R90: a COMMAND cut on a STARTING channel promotes a FULL next, and the channel keeps its state. -/
theorem test_cuts :
    let c := (reelPeriodBoundary (boundaryFor { runningChan { cueOf 1 0 with loop := true } with cut := some .show_ })).reel.channels.get 0
    let d := (reelPeriodBoundary (boundaryFor { startingChan (cueOf 2 0) .fetching with
      cut := some .command, next := .ready 8 (cueOf 3 0) })).reel.channels.get 0
    (c.state, c.cut, c.awaited, c.fillFor) = (.running, none, true, .frame 0) ∧
      (d.state, d.current, d.next, d.awaited) = (.starting, .ready 8 (cueOf 3 0), .empty, true) := by decide +kernel
/-- R87, R88: the segment start of a cue with a next cue loads that cue; R93: a stale follower is skipped, which with no next cue leaves the channel IDLE. -/
theorem test_chained_load :
    ((reelPeriodBoundary (boundaryFor (startingChan { cueOf 2 0 with next := 0x40 } .complete))).reel.channels.get 0).next = .loading 0x40 ∧
      ((reelPeriodBoundary (boundaryFor { runningChan (cueOf 1 0) with next := .ready 8 staleCue })).reel.channels.get 0).state = .idle := by
  decide +kernel
/-- spec/04, the worked example: an awaited frame that is complete is shown, its segment begins and the next frame is fetched. -/
theorem test_segment_start :
    ((reelPeriodBoundary (boundaryFor (startingChan (cueOf 2 0) .complete))).reel.channels.get 0).state = .running ∧
      ((reelPeriodBoundary (boundaryFor (startingChan (cueOf 2 0) .complete))).reel.channels.get 0).fillFor = .frame 1 := by
  decide +kernel
theorem test_late_frame :
    ((reelPeriodBoundary (boundaryFor (runningChan (cueOf 2 0)))).reel.channels.get 0).late = 1 ∧
      (reelPeriodBoundary (boundaryFor (runningChan (cueOf 2 0)))).mail.events = [.lateFrame] := by decide +kernel

def hushed (b : Bool) (c : Channel) : State := mailTo (fun m => { m with hush := [b] }) (putChan 0 c State.reset)
def reelNoted (n : ShowNote) (c : Channel) : State := mailTo (fun m => { m with toReel := [n] }) (putChan 0 c State.reset)

theorem test_witness_HushAndNotesMarkTheChannels :
    (∀ b c, (hushed b c).mail.hush = b :: [] ∧ (hushed b c).reel.channels.get 0 = c) ∧
      (∀ mark, (heldChan mark).state = .held ∧ (heldChan mark).shownMark = mark ∧ (heldChan mark).awaited = false ∧
        0 < (heldChan mark).periodsLeft ∧ (heldChan mark).current = .ready 0x1000 (cueOf 2 0)) ∧
      (∀ n c, (reelNoted n c).mail.toReel = n :: []) ∧
      ((movedNote .cancelled false false).id = 101 ∧ (runningChan { cueOf 2 0 with show_ := 101 }).cut ≠ some .command ∧
        ({ cueOf 2 0 with show_ := 101 } : Cue).show_ = (movedNote .cancelled false false).id) :=
  ⟨fun _ _ => ⟨rfl, rfl⟩, by decide, fun _ _ => rfl, by decide⟩
theorem test_hush :
    ((hushAsserted (hushed true (runningChan (cueOf 2 0)))).reel.channels.get 0).state = .held ∧
      ((hushReleased (hushed false (heldChan false))).reel.channels.get 0).state = .starting := by decide +kernel
theorem test_show_cut :
    ((reelShowChangedNote (reelNoted (movedNote .cancelled false false) (runningChan { cueOf 2 0 with show_ := 101 }))).reel.channels.get
      0).cut = some .show_ := by decide +kernel

/-! ### Witnesses: panes -/

def boardPane : Pane :=
  { Pane.reset with kind := .board, rows := 2, lo := 1, hi := 24, dwell := 4, fitness := .fit, list := [5, 6, 7], page := 1 }
def kindPane (k : PaneKind) : Pane := { Pane.reset with kind := k }

theorem test_witness_PaneWritesStartThePaneAfresh :
    ((given 0x100 0x00000001).entry = some (entryOf 0x100 1) ∧ (entryOf 0x100 1).row = .pane 0 0 false) ∧
      ((given 0x1FF 0x04000822).entry = some (entryOf 0x1FF 0x04000822) ∧ (entryOf 0x1FF 0x04000822).row = .pane 31 3 true) ∧
      ((given 0x100 1).comp.panes.get (paneIx 0 0)).kind = .none ∧ (given 0x100 1).slotOf 0 = ModSlot.reset ∧
      (liveSlot.state ≠ .absent ∧ ¬ liveSlot.regions ≤ (3 : Fin 4).val) := by decide +kernel
/-- R100: a BOARD pane written in both words: 16 rows of auditoriums 1 to 24, turning every 4 seconds. -/
theorem test_pane_write :
    let p := (paneWrite (putPane 0 (kindPane .board) (given 0x101 0x04006030))).comp.panes.get 0
    (p.rows, p.lo, p.hi, p.dwell, p.layout) = (16, 1, 24, 4, 1) := by decide +kernel

/-- A show whose auditorium the pane shows. -/
def withBoard (s : State) : State :=
  { putShow 5 (showOf .onSale 101 1200) (putShow 7 (showOf .onSale 102 1300) s) with
    tracker := { (putShow 5 (showOf .onSale 101 1200) (putShow 7 (showOf .onSale 102 1300) s)).tracker with board := [5, 7] } }
def toBoard (x : CompMsg) (p : Pane) : State := mailTo (fun m => { m with toComp := [x] }) (putPane 0 p (withBoard State.reset))

theorem test_witness_BoardPanesFollowTheBoard :
    (∀ x p, (toBoard x p).mail.toComp = x :: [] ∧ (toBoard x p).comp.panes.get 0 = p) ∧
      ((movedNote .closing false false).change.state = true ∧ (startNote true).change.state = false ∧
        (startNote true).change.display = false ∧ (startNote true).change.removed = false ∧ (startNote true).change.start = true ∧
        (startNote false).change.start = false) ∧
      ((mailTo (fun m => { m with seatsToComp := [{ show_ := 5, id := 101, old := .few, new := .soldOut, shown := 0, plus := false, status := .counting }] })
        State.reset).mail.seatsToComp.length = 1) ∧
      ((paneIx 0 0 = 0 ∧ (kindPane .clock).kind ≠ .board) ∧ (boardPane.timer = 0 ∧
        max 1 ((boardPane.list.length + boardPane.rows - 1) / boardPane.rows) = 2) ∧
        max 1 ((({ boardPane with list := [5, 6] } : Pane).list.length + 2 - 1) / 2) = 1) :=
  ⟨fun _ _ => ⟨rfl, rfl⟩, by decide, rfl, by decide⟩
/-- R103: the list becomes 5 and 7, one page of two rows; the page index 1 lies beyond it and comes back to page 0 with both rows marked. -/
theorem test_board_order :
    let p := (boardOrderNote (toBoard (.board 0) boardPane)).comp.panes.get 0
    (p.list, p.page, (p.rowItems.get 0).dirty, (p.rowItems.get 1).dirty, (p.rowItems.get 2).dirty) = ([5, 7], 0, true, true, false) := by
  decide +kernel
/-- R105: the dwell of a pane of two pages turns it back to page 0. -/
theorem test_page_dwell :
    let p := (pageDwellExpiry 0 0 (putPane 0 boardPane State.reset)).comp.panes.get 0
    (p.page, p.timer, (p.rowItems.get 1).dirty) = (0, 4000, true) := by decide +kernel

def noticeNoted (x : NoticeNote) (s : State) : State := mailTo (fun m => { m with noticesToComp := [x] }) s
def underAlert (s : State) : State :=
  s.withComp { s.comp with screens := s.comp.screens.set 3 { Screen.reset with underAlert := true } }

theorem test_witness_NotesMarkTheItems :
    (∀ x s, (noticeNoted x s).mail.noticesToComp = x :: []) ∧
      ((putPane (paneIx 3 2) (kindPane .banner) State.reset).comp.panes.get (paneIx 3 2)).kind = .banner ∧
      (State.reset.comp.panes.get (paneIx 3 2)).kind ≠ .banner ∧
      ((underAlert State.reset).comp.screens.get 3).underAlert = true ∧ (State.reset.comp.screens.get 3).underAlert = false ∧
      (toBoard (.minute 1100) (kindPane .clock)).mail.toComp = .minute 1100 :: [] ∧
      (mailTo (fun m => { m with channelNotes := [{ channel := 0, serial := 1, kind := .frame, len := 16 }] }) State.reset).mail.channelNotes =
        { channel := 0, serial := 1, kind := .frame, len := 16 } :: [] :=
  ⟨fun _ _ => rfl, by decide, by decide, by decide, by decide, rfl, rfl⟩
/-- R98: the frame length of an IDLE channel is its rest still's, a usable one and one that is not, of a READY cue its own, and of one LOADING the one shown. -/
theorem test_witness_frame_lengths :
    Channel.reset.state = .idle ∧ Channel.reset.frameLength { addr := 0x1000, len := 20000 } = 16384 ∧
      Channel.reset.frameLength { addr := 0x1004, len := 40 } = 0 ∧
      (startingChan (cueOf 2 0) .fetching).frameLength { addr := 0, len := 0 } = 16 ∧
      ({ loadingChan 0 with state := .running, shownLen := 24 } : Channel).frameLength { addr := 0, len := 0 } = 24 := by decide
/-- The fitness that a channel note's hypothesis names: a REEL pane of a working module, and one of an absent module. -/
theorem test_witness_channel_note_fitness :
    ∀ s : State, ∃ fit : Fin 128 → Fitness, ∀ sc p x m, s.comp.panes.get (paneIx sc p) = x → s.slotOf sc = m →
      fit (paneIx sc p) =
        if x.kind = .none ∨ m.state = .absent then .unjudged
        else if m.regions ≤ p.val ∨ (x.kind = .reel ∧
          m.maxFrame < (s.reel.channels.get x.channel).frameLength (s.params.rest.get x.channel)) then .unfit else .fit := by
  intro s
  refine ⟨fun i =>
    if (s.comp.panes.get i).kind = .none ∨ (s.slotOf (paneScreen i)).state = .absent then .unjudged
    else if (s.slotOf (paneScreen i)).regions ≤ (paneNo i).val ∨ ((s.comp.panes.get i).kind = .reel ∧
      (s.slotOf (paneScreen i)).maxFrame < (s.reel.channels.get (s.comp.panes.get i).channel).frameLength
        (s.params.rest.get (s.comp.panes.get i).channel)) then .unfit else .fit, ?_⟩
  intro sc p x m hx hm
  have hs : paneScreen (paneIx sc p) = sc := Fin.ext (by simp only [paneScreen, paneIx]; omega)
  have hp : paneNo (paneIx sc p) = p := Fin.ext (by simp only [paneNo, paneIx]; omega)
  simp only [hs, hp, hx, hm]
/-- R111: a LIST note whose mask names screen 3 marks its banner item and not screen 4's. -/
theorem test_list_note :
    let q := (listNote (noticeNoted (.list 8) (putPane 14 (kindPane .banner) (putPane 18 (kindPane .banner) State.reset)))).comp.panes
    ((q.get 14).item.dirty, (q.get 18).item.dirty) = (true, false) := by decide +kernel
/-- R114: the end of an alert marks the screen's clock item and leaves the alert item clean. -/
theorem test_alert_ends :
    let t := alertNote (noticeNoted (.alert 3 false) (underAlert (putPane 12 (kindPane .clock) State.reset)))
    ((t.comp.screens.get 3).underAlert, (t.comp.screens.get 3).alert.dirty, (t.comp.panes.get 12).item.dirty) = (false, false, true) := by
  decide +kernel

def modReport (st : ModState) (info : Option ModuleInfo) : State :=
  mailTo (fun m => { m with moduleReports := [{ ring := 0, position := 0, state := st, info := info }] }) (putPane 0 boardPane State.reset)
def panesInfo (regions : Nat) : ModuleInfo := { type := 3, regions := regions, maxFrame := 16384, firmware := 0x102 }
def rowCar (kind : CarKind) (layout : BitVec 8) : Car :=
  { kind := kind, dest := 1#8 <<< (0 : Fin 8).val, pane := 0, row := 1, channel := 2, layout := layout, payload := bytesOf [0, 0, 9, 0] }
def settled (c : Car) (accept : BitVec 8) (p : Pane) : State :=
  mailTo (fun m => { m with settlements := [{ ring := 0, cars := [(c, accept)] }] }) (putPane 0 p State.reset)

theorem test_witness_ReportsAndReturnsSettleTheItems :
    (∀ st i, (modReport st i).mail.moduleReports = { ring := 0, position := 0, state := st, info := i } :: []) ∧
      (∀ c a p, (settled c a p).mail.settlements = { ring := 0, cars := [(c, a)] } :: [] ∧
        (settled c a p).comp.panes.get (paneIx (ringScreen 0 0) 0) = p) ∧
      ((mailTo (fun m => { m with settlements := [{ ring := 0, cars := [(rowCar .row 0, 1), (rowCar .banner 0, 0), (rowCar .frame 0, 1)] }] })
        State.reset).mail.settlements.map fun x => x.cars.filter fun c => decide (c.1.kind = .frame) && c.2.getLsbD 0) =
        [[(rowCar .frame 0, 1)]] ∧
      ((rowCar .row 0).dest = 1#8 <<< (0 : Fin 8).val ∧ boardPane.layout = (rowCar .row 0).layout ∧
        boardPane.layout ≠ (rowCar .row 1).layout) :=
  ⟨fun _ _ => rfl, fun _ _ _ => ⟨rfl, rfl⟩, by decide, by decide⟩
/-- R101, R115, R139: a READY report judges the screen's panes by the information it brings: pane 0 fits one region and none fits no region. -/
theorem test_ready_report :
    let fit (regions : Nat) := ((moduleReport (modReport .ready (some (panesInfo regions)))).comp.panes.get 0).fitness
    (fit 1, fit 0, (moduleReport (modReport .absent none)).comp.panes.get 0 |>.fitness) = (.fit, .unfit, .unjudged) := by decide +kernel
/-- R110, R112: a train of two cars settles each item by its own accept mask, and a frame car leaves its serial. -/
theorem test_settlement_of_a_train :
    let t := acceptanceSettlement (mailTo (fun m => { m with settlements := [{ ring := 0, cars := [(rowCar .row 0, 0), (rowCar .frame 0, 1)] }] })
      (putPane 0 boardPane (putRing 0 { Ring.reset with slots := Ring.reset.slots.set 0 { ModSlot.reset with state := .ready } } State.reset)))
    (((t.comp.panes.get 0).rowItems.get 1).dirty, (t.comp.screens.get 0).serials.get 2) = (true, some 9) := by decide +kernel
/-- R110: a row that was not accepted is dirty again. -/
theorem test_settlement :
    let q (a : BitVec 8) := ((acceptanceSettlement (settled (rowCar .row 0) a
      { boardPane with rowItems := boardPane.rowItems.set 1 { dirty := false, flight := true } })).comp.panes.get 0).rowItems.get 1
    (q 1, q 0) = ({ dirty := false, flight := false }, { dirty := true, flight := false }) := by decide +kernel

/-! ### Witnesses: rings -/

/-- An entry with a ring in a state, and that ring's parameters changed. -/
def ringWith (n : Fin 4) (r : Ring) (f : RingParams → RingParams) (s : State) : State :=
  putRing n r (s.withParams { s.params with ring := s.params.ring.modify n f })
def waitingQuery : Query := { Query.reset with state := .waiting, isSet := true, position := 2 }

theorem test_witness_RingsComeUpAndGoDown :
    (∀ r f, (ringWith 1 r f (given 0x0D0 1)).rings.get 1 = r) ∧
      ((ringWith 1 Ring.reset id (given 0x0D0 1)).entry = some (entryOf 0x0D0 1) ∧ (entryOf 0x0D0 1).row = .ringEnable 1 ∧
        ((ringWith 1 Ring.reset id (given 0x0D0 1)).masked (entryOf 0x0D0 1)).toNat = 1 ∧
        ((ringWith 1 Ring.reset id (given 0x0D0 1)).params.ring.get 1).enable = false ∧ Ring.reset.state = .off) ∧
      ((ringWith 1 { sentRing with query := waitingQuery } (fun p => { p with enable := true }) (given 0x0D0 0)).entry =
          some (entryOf 0x0D0 0) ∧
        ((ringWith 1 sentRing (fun p => { p with enable := true }) (given 0x0D0 0)).masked (entryOf 0x0D0 0)).toNat = 0 ∧
        ((ringWith 1 sentRing (fun p => { p with enable := true }) (given 0x0D0 0)).params.ring.get 1).enable = true) ∧
      (lockingRing.state = .locking ∧ lockingRing.lockTimer = some 0 ∧ Ring.reset.state ≠ .locking) ∧
      (faultRing.state = .fault ∧ faultRing.restartTimer = some 0 ∧ Ring.reset.restartTimer ≠ some 0) ∧
      ((given 0x0D8 1).entry = some (entryOf 0x0D8 1) ∧ (entryOf 0x0D8 1).row = .autoRestart 1) ∧
      ((given 0x009 1).entry = some (entryOf 0x009 1) ∧ (entryOf 0x009 1).row = .ringRestart ∧
        (1 : Fin 4).val = (entryOf 0x009 1).argument.toNat % 4) := by
  refine ⟨fun _ _ => rfl, by decide +kernel⟩
/-- spec/09, the worked example: ring 1 enters LOCKING in the event in which it is enabled. -/
theorem test_ring_enable :
    ((ringEnableWrite (given 0x0D0 1)).rings.get 1).state = .locking ∧
      ((ringEnableWrite (given 0x0D0 1)).rings.get 1).lockTimer = some 50 := by decide +kernel
theorem test_lock :
    ((lockIndication 1 (putRing 1 lockingRing State.reset)).rings.get 1).state = .enumerating ∧
      ((lockTimerExpiry 1 (putRing 1 lockingRing State.reset)).rings.get 1).state = .fault := by decide +kernel

def ringDue (n : Fin 4) (r : Ring) : State :=
  putRing n r { State.reset with time := { State.reset.time with dueRing := State.reset.time.dueRing.set n 1 } }

theorem test_witness_RingsSendOneTrainAtATime :
    (∀ r, 0 < (ringDue 1 r).time.dueRing.get 1 ∧ (ringDue 1 r).rings.get 1 = r) ∧
      (Ring.reset.state = .off ∧ faultRing.state = .fault ∧ lockingRing.state ≠ .off ∧ lockingRing.state ≠ .fault) ∧
      ((State.reset.params.ring.get 1).shift = 0 ∧ 40 ≤ 199 ∧ 20 ≤ (State.reset.params.ring.get 1).budget) ∧
      ({ runningRing with shift := some 0 } : Ring).shift = some 0 ∧
      (State.reset.time.dueRing.get 1 = 0 ∧ runningRing.shift ≠ some 0 ∧
        ((State.reset.withParams { State.reset.params with
          ring := State.reset.params.ring.modify 1 fun p => { p with shift := 199 } }).params.ring.get 1).shift = 199) ∧
      (∀ r ∈ [runningRing, sentRing, enumRing, { enumRing with flight := none }, lockingRing, faultRing, Ring.reset],
        (ringDue 1 { r with shift := some 0 }).rings.get 1 = { r with shift := some 0 }) ∧
      (sentRing.flight.isSome ∧ sentRing.state = .running ∧ enumRing.flight.isSome ∧ enumRing.state = .enumerating) ∧
      candidates (ringDue 1 runningRing) 1 runningRing = [] ∧
      ((withBoard State.reset).tracker.entries.get 5).title.length ≤ 48 ∧
      (State.reset.notices.alerts.get 3 = none ∧ (listed [n1] State.reset).notices.find n1.ident = some n1) ∧
      (runningRing.flight = none ∧ runningRing.state = .running ∧ runningRing.query.state = .empty ∧
        ∀ k, (runningRing.slots.get k).state ≠ .lost) := by
  refine ⟨fun _ => ⟨Nat.one_pos, rfl⟩, by decide +kernel⟩

/-- A clock pane of screen 10 and two rows of screen 12, all dirty and fit, with ring 1 running (as in spec/06, two trains on a tight budget). -/
def tightRing : State :=
  putPane 42 { kindPane .clock with fitness := .fit, item := { dirty := true, flight := false } } <|
    putPane 49 { boardPane with
      fitness := .fit, page := 0, rowItems := (boardPane.rowItems.set 0 { dirty := true, flight := false }).set 1
        { dirty := true, flight := false } } (ringDue 1 { runningRing with screenPtr := 1 })
theorem test_witness_candidates_of_a_tight_ring :
    ((candidates tightRing 1 (tightRing.rings.get 1)).map fun c => c.kind) = [.row, .row, .clock] ∧
      (fitting 90 (candidates tightRing 1 (tightRing.rings.get 1))).map (fun c => c.kind) = [.row, .clock] := by decide +kernel
set_option maxRecDepth 8000 in
/-- Rows enter before the clock; screen 12 (position 4) becomes the screen pointer; the train is 16 + 2 x 72 + 16 + 4 bytes. -/
theorem test_train_order :
    (((ringUnshiftedBoundary 1 tightRing).rings.get 1).flight.map fun f => (f.cars.map fun c => (c.kind, c.dest, c.row), trainSize f.cars)) =
        some ([(.row, 16, 0), (.row, 16, 1), (.clock, 4, 0)], 180) ∧
      ((ringUnshiftedBoundary 1 tightRing).rings.get 1).screenPtr = 4 := by decide +kernel

/-- The bytes of the train a ring has out. -/
def outBytes (r : Ring) : List Byte := (r.flight.map (Flight.bytes 1)).getD []

theorem test_witness_ReturnsAreJudgedAndSettled :
    (runningRing.flight = none) ∧
      (16 ≤ (outBytes sentRing).length ∧ BitVec.ofNat 16 (le16At (outBytes sentRing) 2) = 0) ∧
      (((outBytes sentRing).take 3).length < 4 ∧ 4 ≤ ((outBytes sentRing).take 4).length ∧
        BitVec.ofNat 16 (le16At ((outBytes sentRing).take 4) 2) = 0 ∧
        ({ seq := 0, cars := [], check := .crc16, marker := 0 } : Flight).good ((outBytes sentRing).take 4) = false) ∧
      ({ seq := 0, cars := [enumCar, probeCar 2], check := .crc16, marker := 0 } : Flight).cars = [enumCar] ++ probeCar 2 :: [] ∧
      (({ sentRing with query := { waitingQuery with state := .inFlight } } : Ring).query.state = .inFlight ∧
        ({ sentRing with slots := sentRing.slots.set 2 { liveSlot with state := .ready } } : Ring).state = .running) ∧
      ({ seq := 0, cars := [], check := .crc16, marker := 0 } : Flight).good (outBytes sentRing) = true ∧
      ({ seq := 0, cars := [], check := .crc16, marker := 0 } : Flight).good ((outBytes sentRing).set 19 1) = false ∧
      BitVec.ofNat 16 (le16At ((outBytes sentRing).set 2 7) 2) ≠ 0 ∧
      (sentRing.returnTimer = some 0 ∧ ({ sentRing with returnTimer := some 1 } : Ring).returnTimer ≠ some 0) ∧
      ({ seq := 0, cars := List.replicate 8 enumCar, check := .marker, marker := 0x5A5A } : Flight).good (outBytes enumRing) = true ∧
      liveSlot.state = .live ∧ min (7 + 1) 255 < 9 ∧ 8 ≤ min (7 + 1) 255 := by decide +kernel
/-- R138, R139: the train of an ENUM that passed one module fills slot 0 and no other. -/
theorem test_enum_return :
    let r := (trainReturn 1 (enumerateModule { type := 3, regions := 4, maxFrame := 16384, firmware := 0x102 } (outBytes enumRing))
      (putRing 1 enumRing State.reset)).rings.get 1
    (r.state, (r.slots.get 0).state, (r.slots.get 0).maxFrame, (r.slots.get 1).state) = (.running, .ready, 16384, .absent) := by
  decide +kernel
/-- R139: the READY report of that slot carries the information its module wrote. -/
theorem test_enum_report :
    (trainReturn 1 (enumerateModule { type := 3, regions := 5, maxFrame := 16384, firmware := 0x102 } (outBytes enumRing))
      (putRing 1 enumRing State.reset)).mail.moduleReports =
      [{ ring := 1, position := 0, state := .ready, info := some (panesInfo 4) }] := by decide +kernel
/-- R144: the READY report of a rejoin carries the information the slot kept. -/
theorem test_rejoin_report :
    (Ring.rejoin 1 [{ car := probeCar 2, accept := 4, claimed := false, payload := [] }] 2
      { sentRing with slots := sentRing.slots.set 2 { liveSlot with state := .lost } }).2 =
      [.moduleReport { ring := 1, position := 2, state := .ready,
                       info := some { type := 0, regions := 4, maxFrame := 16384, firmware := 0 } }] := by decide +kernel
/-- R132: a return of four bytes with the sequence in flight is judged, and fails its length. -/
theorem test_short_return :
    (trainReturn 1 ((outBytes sentRing).take 4) (putRing 1 sentRing State.reset)).mail.events = [.checkFail] := by decide +kernel
/-- R147, R148: a SET car that the module accepted ends the request with the returned value field. -/
theorem test_answered :
    let q : Query := { waitingQuery with state := .inFlight, trains := 1 }
    let f : Flight := { seq := 0, cars := [q.car], check := .marker, marker := 7 }
    let r := (trainReturn 1 (((f.bytes 1).set 18 4).set 28 9) (putRing 1 { sentRing with flight := some f, query := q } State.reset)).rings.get 1
    (r.query.state, r.result.outcome, r.result.answer) = (.empty, .answered, 9) := by decide +kernel
/-- R135: the eighth failure in a row puts the ring in FAULT. -/
theorem test_return_timer :
    ((returnTimerExpiry 1 (putRing 1 { sentRing with errors := 6 } State.reset)).rings.get 1).state = .running ∧
      ((returnTimerExpiry 1 (putRing 1 { sentRing with errors := 7 } State.reset)).rings.get 1).state = .fault := by decide +kernel

theorem test_witness_RequestsTakeTheQuerySlot :
    ((given 0x00A 0x30A).entry = some (entryOf 0x00A 0x30A) ∧ (entryOf 0x00A 0x30A).row = .moduleQuery ∧
        (given 0x00C 0x30A).entry = some (entryOf 0x00C 0x30A) ∧ (entryOf 0x00C 0x30A).row = .moduleSet) ∧
      ((1 : Fin 4).val = (entryOf 0x00A 0x30A).argument.toNat % 32 / 8 ∧ (2 : Fin 8).val = (entryOf 0x00A 0x30A).argument.toNat % 8) ∧
      ({ runningRing with query := waitingQuery } : Ring).query.state ≠ .empty ∧
      (runningRing.query.state = .empty ∧ (runningRing.slots.get 2).state = .live ∧ (Ring.reset.slots.get 2).state = .absent) := by
  decide +kernel
theorem test_module_query :
    ((moduleQuery (putRing 1 runningRing (given 0x00A 0x30A))).rings.get 1).query =
      { state := .waiting, isSet := false, position := 2, item := 3, value := 0, start := 0, trains := 0 } := by decide +kernel

/-! ### Witnesses: the path, the decoder and the Event Unit -/

def agentFor (c : AgentClass) : AgentReq := { cls := c, write := false, addr := 0x1000, beats := 1, data := [], tag := .noticeRecord }
def pathTo (f : Path → Path) (s : State) : State := s.withPath (f s.path)
def responsesOf (n : Nat) : List Granted := List.replicate n { source := .passing 1 [], write := false, beats := 1, grant := 0 }
/-- A passing request and agent requests of two classes wait. -/
def contended (share : Nat) : State :=
  pathTo (fun p => { p with queue := [goodWrite], share := share, recordQ := [agentFor .record], sweepQ := [agentFor .sweep] }) State.reset

theorem test_witness_PortGrantsShareThePort :
    32 ≤ (pathTo (fun p => { p with responses := responsesOf 32 }) State.reset).path.responses.length ∧
      (pathTo (fun p => { p with responses := responsesOf 31 }) State.reset).path.responses.length < 32 ∧
      State.reset.path.queue = [] ∧
      ((contended 2).eligibleHead = some goodWrite ∧ (contended 2).path.share < 3 ∧ 3 ≤ (contended 3).path.share ∧
        (contended 3).path.recordQ ≠ []) ∧
      ([AgentClass.frame, .record, .sweep, .writeback] = [.frame] ++ .record :: [.sweep, .writeback] ∧
        (∀ d ∈ [AgentClass.frame], (contended 3).path.classQueue d = []) ∧
        (contended 3).path.classQueue .record = agentFor .record :: [] ∧ (agentFor .record).cls = .record ∧
        (contended 3).path.lastClass = .writeback) ∧
      (given 0 1).entry.map Entry.row = some .softReset := by decide +kernel
/-- R158: after three passing grants the fourth goes to the agents, and the share count returns to 0. -/
theorem test_share :
    (portGrant (contended 2)).path.share = 3 ∧ (portGrant (contended 3)).path.share = 0 ∧
      (portGrant (contended 3)).path.lastClass = .record := by decide +kernel

def windowed : Windows :=
  { State.reset.path.windows with
    showBase := 0x20000000, seatBase := 0x20004000, seatUnits := 1, noticeBase := 0x20008000, statusBase := 0x2000A000 }
/-- A write of one beat at the head of the queue. -/
def writing (a : Addr) (en : BitVec 8) (s : State) : State :=
  pathTo (fun p => { p with windows := windowed, queue := [{ write := true, addr := a, beats := 1, data := [{ data := 1, enables := en }], tag := 7 }] }) s

theorem test_witness_RequestsPassAndResponsesReturn :
    (goodWrite.addr.toNat % 8 = 0 ∧ 1 ≤ goodWrite.beats ∧ goodWrite.beats ≤ 8 ∧
        goodWrite.data.length = (if goodWrite.write then goodWrite.beats else 0)) ∧
      ((pathTo (fun p => { p with queue := List.replicate 15 goodWrite }) State.reset).path.queue.length < 16 ∧
        16 ≤ (pathTo (fun p => { p with queue := List.replicate 16 goodWrite }) State.reset).path.queue.length) ∧
      (windowed.passes = true ∧ windowed.setupBase ≠ 0) ∧
      ((writing 0x20008008 3 State.reset).eligibleHead.isSome ∧ (writing 0x20008008 3 State.reset).path.nextAgent = none ∧
        (writing 0x20008008 3 State.reset).path.responses.length < 32) ∧
      ((writing 0x20008000 2 (contended 2)).eligibleHead.isSome ∧ (writing 0x20008000 2 (contended 2)).path.nextAgent ≠ none ∧
        (writing 0x20008000 2 (contended 2)).path.share < 3 ∧ windowed.classify 0x20008000 2 = .notice ∧
        windowed.classify 0x20004000 2 = .seat) ∧
      ((pathTo (fun p => { p with queue := [{ goodWrite with write := false, data := [] }] }) State.reset).eligibleHead.isSome) ∧
      0 < (pathTo (fun p => { p with stale := 1 }) State.reset).path.stale ∧
      (State.reset.path.stale = 0 ∧ State.reset.path.responses = []) ∧
      (∀ voided, (pathTo (fun p => { p with responses := [{ source := .agent .noticeRecord voided, write := false, beats := 8, grant := 0 }] })
        State.reset).path.responses = { source := .agent .noticeRecord voided, write := false, beats := 8, grant := 0 } :: []) ∧
      (pathTo (fun p => { p with responses := responsesOf 1 }) State.reset).path.responses =
        { source := .passing 1 [], write := false, beats := 1, grant := 0 } :: [] :=
  ⟨by decide, by decide, by decide +kernel, by decide +kernel, by decide +kernel, by decide +kernel, by decide, by decide, fun _ => rfl, rfl⟩
/-- R53: a NOTICE beat that enables byte 1 alone changes that byte of the value not yet taken. -/
theorem test_producer_intake :
    (portGrant (writing 0x20008000 2 { State.reset with intakes := { State.reset.intakes with notice := some 0x1234 } })).intakes.notice =
      some 0x0034 := by decide +kernel
/-- The window table at the ends of its fields passes, with bases that are multiples of 64. -/
theorem test_witness_EveryStepKeepsThePathBounds_windows :
    WindowsOk (windowsTo (fun _ => { windowed with seatUnits := 128, noticeBase := 0x20104000, statusBase := 0x20106000 }) State.reset) := by
  unfold WindowsOk; decide +kernel
/-- R154: the first and last byte of each window, and the guarded beats within. -/
theorem test_classify :
    [0x00FF0000#32, 0x00FF0008, 0x00FF0010, 0x00FF0018, 0x20000000, 0x20002FC0, 0x20003000, 0x20004000, 0x20005FF8, 0x20006000,
      0x20008000, 0x20008008, 0x20008010, 0x2000A000, 0x2000AFF8, 0x2000B000].map (fun a => windowed.classify a 3) =
      [.setup, .setup, .guarded, .plain, .shows, .shows, .plain, .seat, .seat, .plain, .notice, .guarded, .plain, .guarded, .guarded,
        .plain] := by decide +kernel

/-- An index beat waits. -/
def indexed (data : Beat) (en : BitVec 8) : State :=
  { State.reset with intakes := { State.reset.intakes with
      setup := [{ addr := State.reset.path.windows.setupBase, data := data, enables := en, grant := 0 }] } }

theorem test_witness_SetupEntriesAreAnswered :
    ((indexed 0x100D1 0xFF).intakes.setup.length = 1 ∧ (indexed 0x100D1 0xFF).setup.waiting = none ∧
        (indexed 0x100D1 0xFF).setup.dayOpen = none) ∧
      ((given 3 0).intakes.setup.length = 1 ∧ (0x00FF0008#32) ≠ State.reset.path.windows.setupBase) ∧
      (entryAt 3 0 0 State.reset).entry = some { index := 3, value := 0, mask := 0 } ∧
      [0x00D, 0x003, 0x025, 0x27A, 0x007].map (fun i => Index.of i) =
        [.unused, .lobbyClock, .setupBase, .info 15 .regions, .simple .managerKey] ∧
      (entryAt 0x022 0 0 State.reset).entry = some { index := 0x022, value := 0, mask := 0 } ∧
      [0x020, 0x021, 0x022, 0x023, 0x024, 0x083, 0x084, 0x0D2, 0x100, 0x1FF, 0x000, 0x090].map (fun i => Index.of i) =
        [.window .showBase, .window .seatBase, .window .seatSize, .window .noticeBase, .window .statusBase, .restAddr 0, .restLen 0,
          .ring 1 .budget, .pane 0 0 false, .pane 31 3 true, .control, .cuePush 2] ∧
      ({ State.reset with intakes := { State.reset.intakes with
        setup := [{ addr := 0x00FF0008, data := 0, enables := 0, grant := 0 }] } } : State).entry = none ∧
      ((entryOf 0x04B 500).row = .plain .period ∧ (given 0x04B 500).entry = some (entryOf 0x04B 500)) ∧
      ([0x007, 0x008, 0x00B, 0x040, 0x041, 0x04A, 0x04B].map (fun i => (entryOf i 1).row) =
          [Simple.managerKey, .debounce, .setValue, .grace, .cancelDisplay, .autoPriority, .period].map .plain ∧
        [19, 20, 200, 201].map (nearest 20 200) = [20, 20, 200, 200]) ∧
      ([0x0D1, 0x0D3, 0x0D4, 0x0D5, 0x0D6, 0x0D7, 0x0D9, 0x0DA, 0x0DB].map (fun i => (entryOf i 1).row) =
        [RingField.shift, .check, .marker, .returnLimit, .faultLimit, .lossLimit, .restartDelay, .lockLimit, .queryTimeout].map (.plainRing 1)) ∧
      (entryOf 0x0D2 70000).row = .plainRing 1 .budget ∧ (entryOf 0 2).row = .controlNoReset ∧
      ((entryOf 0x020 0x20000000).row = .window .showBase ∧
        (State.reset.path.windows.setParam .showBase (WindowParam.clamp .showBase 0x20000000#32)).passes = true ∧
        (State.reset.path.windows.setParam .showBase (WindowParam.clamp .showBase 0x00FF0000#32)).passes = false) ∧
      ((entryOf 0x021 0x20004000).row = .window .seatBase ∧ (entryOf 0x022 1).row = .window .seatSize ∧
        (entryOf 0x023 0x20008000).row = .window .noticeBase ∧ (entryOf 0x024 0x2000A000).row = .window .statusBase ∧
        (State.reset.path.windows.setParam .noticeBase (WindowParam.clamp .noticeBase 0x20008000#32)).passes = true ∧
        (State.reset.path.windows.setParam .statusBase (WindowParam.clamp .statusBase 0x2000A000#32)).passes = true ∧
        (State.reset.path.windows.setParam .seatBase (WindowParam.clamp .seatBase 0x20004000#32)).passes = true) ∧
      (State.reset.notices.reader = .idle ∧ ({ State.reset.notices with produced := 1 } : Notices).produced ≠ State.reset.notices.consumed) ∧
      (State.reset.setup.outstanding < 4 ∧ 4 ≤ (State.reset.withSetup { Setup.reset with outstanding := 4 }).setup.outstanding) ∧
      (mailTo (fun m => { m with setupResp := [{ tag := .result, data := [], err := false }] }) State.reset).mail.setupResp =
        { tag := .result, data := [], err := false } :: [] := by decide +kernel
/-- spec/09, the worked example: index 0x0D1 with the step flag, then a data beat moves the index on. -/
theorem test_index_beat :
    (indexBeat (indexed 0x100D1 0xFF)).setup.index = 0x0D1 ∧ (indexBeat (indexed 0x100D1 0xFF)).setup.step = true ∧
      (indexBeat (indexed 0x100D1 0x02)).setup.index = 0 := by decide +kernel
/-- spec/09: a mask-0 entry to 0x022 reports the SEAT size 8 with APPLIED. -/
theorem test_read_entry :
    ((readEntry (entryAt 0x022 0 0 State.reset)).path.writebackQ.map fun r => (r.addr, r.data.map fun b => b.data)) =
      [(0x00FF0010, [0x0000000800010022])] := by decide +kernel

theorem test_witness_AcknowledgementsClearTheNamedGroups :
    ((given 4 0x142).entry = some (entryOf 4 0x142) ∧ (entryOf 4 0x142).row = .eventAck) ∧
      (mailTo (fun m => { m with events := [.memError] }) State.reset).mail.events = .memError :: [] ∧
      ((given 5 0).entry = some (entryOf 5 0) ∧ (entryOf 5 0).row = .eventEnable) ∧
      ((given 6 2).entry = some (entryOf 6 2) ∧ (entryOf 6 2).row = .polarity) := by decide +kernel
/-- R176: acknowledging MEMORY with the counter-clear bit leaves REELS pending; R174: MEMORY stays enabled. -/
theorem test_event_ack :
    (eventAck ((given 4 0x140).withEvents { Events.reset with pending := 0x50 })).events.pending = 0x10 ∧
      (eventEnableWrite (given 5 0)).params.eventEnable = 0x40 := by decide +kernel
theorem test_event_report :
    (eventReport (mailTo (fun m => { m with events := [.memError] }) State.reset)).lineHigh = false := by decide +kernel

def eventDue (changed : Bool) (base : Addr) : State :=
  windowsTo (fun w => { w with statusBase := base })
    { State.reset with
      time := { State.reset.time with dueEvent := 1 }, events := { State.reset.events with changed := changed } }
def statusBack (part : StatusPart) (err : Bool) (outstanding : Nat) : State :=
  mailTo (fun m => { m with eventResp := [{ tag := .status part, data := [], err := err }] })
    { State.reset with events := { State.reset.events with writeback := .body, outstanding := outstanding } }

theorem test_witness_TheStatusBlockIsWrittenWhole :
    (∀ c b, 0 < (eventDue c b).time.dueEvent ∧ (eventDue c b).events.writeback = .idle ∧ (eventDue c b).events.changed = c ∧
        (eventDue c b).path.windows.statusBase = b) ∧
      ∀ part err n, (statusBack part err n).mail.eventResp = { tag := .status part, data := [], err := err } :: [] ∧
        (statusBack part err n).events.outstanding = n ∧ (statusBack part err n).events.failed = false :=
  ⟨fun _ _ => ⟨Nat.one_pos, rfl, rfl, rfl⟩, fun _ _ _ => ⟨rfl, rfl, rfl⟩⟩
/-- R178: the last body completion issues the trail word at base + 4,088; an error there leaves the unit IDLE with the mark set. -/
theorem test_status_write :
    ((statusWriteDone (statusBack .body false 1)).path.writebackQ.map fun r => (r.addr, r.beats)) = [(4088, 1)] ∧
      (statusWriteDone (statusBack .body true 1)).events.changed = true := by decide +kernel

end Sys2Proof.Tests
end

section
/-! The checks of a PUBLISH (R12): each check of `Tracker.validate` as a proposition, what it reads of the show table, and the entry of a record that fails one. -/

namespace Sys2Proof.Machine

/-! ### Each check as a proposition -/

theorem mapsOverlap_iff (a : Addr) (n : Nat) (b : Addr) (m : Nat) :
    mapsOverlap a n b m = true ↔
      a.toNat < b.toNat + 8 * ((m + 31) / 32) ∧ b.toNat < a.toNat + 8 * ((n + 31) / 32) := by
  simp only [mapsOverlap, Bool.and_eq_true, decide_eq_true_eq]
  rfl

theorem duplicate_iff (t : Tracker) (slot : Fin 192) (id : Nat) :
    t.duplicate slot id = true ↔
      ∃ j, j ≠ slot ∧ (t.entries.get j).state.live = true ∧ (t.entries.get j).id = id := by
  simp [Tracker.duplicate, allFin, and_assoc]

theorem overlaps_iff (t : Tracker) (slot : Fin 192) (f : ShowFields) :
    t.overlaps slot f = true ↔
      ∃ j, j ≠ slot ∧ (t.entries.get j).state.live = true ∧ (t.entries.get j).fields.seatsTracked = true ∧
        f.mapAddr.toNat < (t.entries.get j).fields.mapAddr.toNat + 8 * (((t.entries.get j).fields.seatCount + 31) / 32) ∧
        (t.entries.get j).fields.mapAddr.toNat < f.mapAddr.toNat + 8 * ((f.seatCount + 31) / 32) := by
  simp [Tracker.overlaps, allFin, mapsOverlap_iff, and_assoc]

theorem holdsMap_eq_false_iff (w : Windows) (map : Addr) (count : Nat) :
    w.holdsMap map count = false ↔
      ¬ (w.seatBase.toNat ≤ map.toNat ∧
        map.toNat + 8 * ((count + 31) / 32) ≤ w.seatBase.toNat + w.seatUnits * 8192) ∨ w.seatBase = 0 := by
  rw [← Bool.not_eq_true]
  simp only [Windows.holdsMap, Bool.and_eq_true, decide_eq_true_eq]
  simp only [Windows.seatSize, mapBeats]
  tauto

/-! ### What the checks read -/

/-- No check reads the entry of the record's own slot (R12). -/
theorem validate_modify_self (t : Tracker) (w : Windows) (slot : Fin 192) (g : ShowEntry → ShowEntry)
    (f : ShowFields) (err : Bool) :
    ({ t with entries := t.entries.modify slot g } : Tracker).validate w slot f err = t.validate w slot f err := by
  have others (j : Fin 192) (h : j ≠ slot) : (t.entries.modify slot g).get j = t.entries.get j :=
    Table.get_modify_of_ne _ h.symm _
  have hdup : ({ t with entries := t.entries.modify slot g } : Tracker).duplicate slot f.id = t.duplicate slot f.id := by
    rw [Bool.eq_iff_iff, duplicate_iff, duplicate_iff]
    exact exists_congr fun j => and_congr_right fun h => by simp only [others j h]
  have hover : ({ t with entries := t.entries.modify slot g } : Tracker).overlaps slot f = t.overlaps slot f := by
    rw [Bool.eq_iff_iff, overlaps_iff, overlaps_iff]
    exact exists_congr fun j => and_congr_right fun h => by simp only [others j h]
  simp only [Tracker.validate, hdup, hover]

/-! ### A PUBLISH record that fails a check -/

/-- A PUBLISH record that fails a check is rejected with that check's reason, a memory error being the first check (R12, R15). -/
theorem applyRecord_of_failed_publish {t : Tracker} {w : Windows} {slot : Fin 192} {bs : List Byte} {err : Bool}
    {reason : RejectReason} (at_ : EvalAt) (hact : showAction bs = .publish)
    (hval : t.validate w slot (showFields bs) err = reason) (hfail : reason ≠ .none) :
    ∃ generation, t.applyRecord w at_ slot bs err =
      publishReject slot { t.entries.get slot with generation := generation } reason := by
  subst hval
  cases err with
  | true => exact ⟨(t.entries.get slot).generation, rfl⟩
  | false => exact ⟨showGeneration bs, by simp [Tracker.applyRecord, hact, hfail]⟩

@[simp] theorem publishReject_title (slot : Fin 192) (e : ShowEntry) (reason : RejectReason) :
    (publishReject slot e reason).title = false := rfl
@[simp] theorem publishReject_reason (slot : Fin 192) (e : ShowEntry) (reason : RejectReason) :
    (publishReject slot e reason).entry.reason = reason := rfl
@[simp] theorem publishReject_refetch (slot : Fin 192) (e : ShowEntry) (reason : RejectReason) :
    (publishReject slot e reason).entry.refetch = e.refetch := rfl

@[simp] theorem settle_entries (p : Tracker × List Out) : (Tracker.settle p).1.entries = p.1.entries := rfl

theorem afterRecord_of_nothing_due {w : Windows} {slot : Fin 192} {t : Tracker}
    (h : (t.entries.get slot).refetch = false) : t.afterRecord w slot false = (t, []) := by
  simp [Tracker.afterRecord, Tracker.refetch, h]

/-- The entry that a failed PUBLISH leaves, where no refetch is pending, carries the reason (R12, R15). -/
theorem recordDone_reason_of_failed_publish {t : Tracker} {w : Windows} {slot : Fin 192} {bs : List Byte} {err : Bool}
    {reason : RejectReason} (at_ : EvalAt) (hact : showAction bs = .publish)
    (hre : (t.entries.get slot).refetch = false)
    (hval : t.validate w slot (showFields bs) err = reason) (hfail : reason ≠ .none) :
    ((t.recordDone w at_ slot bs err).1.entries.get slot).reason = reason := by
  obtain ⟨generation, happ⟩ :=
    applyRecord_of_failed_publish at_ hact ((validate_modify_self t w slot _ _ err).trans hval) hfail
  rw [Tracker.recordDone, happ, publishReject_title, andThen, afterRecord_of_nothing_due]
  · simp
  · simp [hre]

/-! ### The command -/

/-- A record that the tracker awaits is taken and applied (R10). -/
theorem recordFetchDone_of_awaited {s : State} {slot : Fin 192} {no : Nat} {data : List Beat} {err : Bool}
    {rest : List Response} (hresp : s.mail.trackerResp = { tag := .record slot no, data := data, err := err } :: rest)
    (hfetch : (s.tracker.entries.get slot).fetch = .record) (hno : (s.tracker.entries.get slot).fetchNo = no) :
    recordFetchDone s =
      s.popTracker.trackerDo (s.tracker.recordDone s.path.windows s.evalAt slot (beatsBytes data) err) := by
  simp [recordFetchDone, hresp, hfetch, hno]

/-- What the tracker sends leaves the reject reasons of its new state as they are. -/
theorem trackerDo_reason (s : State) (p : Tracker × List Out) (i : Fin 192) :
    ((s.trackerDo p).tracker.entries.get i).reason = (p.1.entries.get i).reason := by
  obtain ⟨st, sl, h⟩ := emit_entry (s.withTracker p.1) p.2 i
  rw [State.trackerDo, h]
  rfl

/-- Settles O18: a record that fails a check reaches the rejection with that check's reason, and the model's checks are the stated ones, each read as a proposition. -/
theorem publishChecksComeInOrder : Obligations.PublishChecksComeInOrder := by
  unfold Obligations.PublishChecksComeInOrder
  constructor
  · intro s i no data err rest hresp hfetch hno hre hact reason hval hfail
    refine ⟨commit s (recordFetchDone s), rfl, ?_⟩
    rw [commit_tracker, recordFetchDone_of_awaited hresp hfetch hno, trackerDo_reason]
    exact recordDone_reason_of_failed_publish s.evalAt hact hre hval hfail
  · intro t w slot f err
    simp only [Tracker.validate, duplicate_iff, overlaps_iff, holdsMap_eq_false_iff, ne_eq, Nat.dvd_iff_mod_eq_zero]

end Sys2Proof.Machine
end

section
/-! A channel that is stopped (R85): which load numbers it advances (R81), what it keeps of the channel, and the showing of its rest still (R97). -/

namespace Sys2Proof.Machine

/-! ### The number kept for a purpose (R81) -/

/-- The number kept for one purpose. -/
def LoadNos.of (n : LoadNos) : Purpose → Nat
  | .current => n.current
  | .next => n.next
  | .pointer => n.pointer
  | .frame => n.frame
  | .rest => n.rest

theorem LoadNos.of_set (n : LoadNos) (p q : Purpose) (v : Nat) :
    (n.set p v).of q = if p = q then v else n.of q := by
  cases p <;> cases q <;> rfl

theorem number_of_self (p : Purpose) (c : Channel) : (c.number p).nos.of p = c.loads + 1 := by
  simp [LoadNos.of_set]

theorem number_of_ne {p q : Purpose} (h : p ≠ q) (c : Channel) : (c.number p).nos.of q = c.nos.of q := by
  simp [LoadNos.of_set, h]

/-- The filling buffer's fetch stands at the pointer of a LIST cue (R79). -/
theorem fillPurpose_eq_pointer_iff (c : Channel) :
    c.fillPurpose = .pointer ↔ c.fillFor ≠ .rest ∧ c.plan.pointer ≠ none := by
  unfold Channel.fillPurpose
  split <;> simp_all

/-- The filling buffer's fetch stands at the frame itself (R79). -/
theorem fillPurpose_eq_frame_iff (c : Channel) :
    c.fillPurpose = .frame ↔ c.fillFor ≠ .rest ∧ c.plan.pointer = none := by
  unfold Channel.fillPurpose
  split <;> simp_all

theorem fillPurpose_ne_current (c : Channel) : c.fillPurpose ≠ .current := by
  unfold Channel.fillPurpose
  split <;> simp

theorem fillPurpose_ne_next (c : Channel) : c.fillPurpose ≠ .next := by
  unfold Channel.fillPurpose
  split <;> simp

/-! ### What a channel abandons (R81, R85) -/

/-- The channel holds a load or a fetch of the purpose, which becoming IDLE abandons: a LOADING rank, or a filling buffer that is not EMPTY, whose fetch stands at the purpose. -/
def Channel.HasLoad (c : Channel) : Purpose → Prop
  | .current => ∃ a, c.current = .loading a
  | .next => ∃ a, c.next = .loading a
  | p => c.filling ≠ .empty ∧ c.fillPurpose = p

theorem hasLoad_pointer_iff (c : Channel) :
    c.HasLoad .pointer ↔ c.filling ≠ .empty ∧ c.fillFor ≠ .rest ∧ c.plan.pointer ≠ none :=
  and_congr_right fun _ => fillPurpose_eq_pointer_iff c

theorem hasLoad_frame_iff (c : Channel) :
    c.HasLoad .frame ↔ c.filling ≠ .empty ∧ c.fillFor ≠ .rest ∧ c.plan.pointer = none :=
  and_congr_right fun _ => fillPurpose_eq_frame_iff c

/-- Abandoning the filling buffer renumbers the purpose its fetch stands at, and no other. -/
theorem abandonFill_of (c : Channel) (q : Purpose) :
    c.abandonFill.nos.of q = if c.filling ≠ .empty ∧ c.fillPurpose = q then c.loads + 1 else c.nos.of q := by
  rw [abandonFill_eq]
  by_cases h : c.filling = .empty <;> simp [h, LoadNos.of_set]

theorem abandonFill_loads_le (c : Channel) : c.loads ≤ c.abandonFill.loads := by
  rw [abandonFill_eq]
  dsimp only
  split <;> omega

/-- Abandoning a rank's load changes the load count and the numbers alone. -/
theorem dropLoad_eq (p : Purpose) (r : Rank) (c : Channel) :
    ∃ loads nos, c.dropLoad p r = { c with loads := loads, nos := nos } := by
  cases r with
  | loading a => exact ⟨_, _, rfl⟩
  | empty => exact ⟨_, _, rfl⟩
  | ready a cue => exact ⟨_, _, rfl⟩

/-- Abandoning a rank's load renumbers its purpose where the rank is LOADING, and no other. -/
theorem dropLoad_of_ne {p q : Purpose} (h : p ≠ q) (r : Rank) (c : Channel) :
    (c.dropLoad p r).nos.of q = c.nos.of q := by
  cases r with
  | loading a => exact number_of_ne h c
  | empty => rfl
  | ready a cue => rfl

theorem dropLoad_of_not_loading {r : Rank} (h : ¬ ∃ a, r = .loading a) (p : Purpose) (c : Channel) :
    c.dropLoad p r = c := by
  cases r with
  | loading a => exact absurd ⟨a, rfl⟩ h
  | empty => rfl
  | ready a cue => rfl

theorem dropLoad_loads_le (p : Purpose) (r : Rank) (c : Channel) : c.loads ≤ (c.dropLoad p r).loads := by
  rw [dropLoad_loads]
  exact Nat.le_add_right _ _

/-! ### Every load abandoned -/

/-- The channel with its filling buffer and the loads of both ranks abandoned. -/
def Channel.abandonAll (c : Channel) : Channel :=
  (c.abandonFill.dropLoad .current c.current).dropLoad .next c.next

/-- Beyond the EMPTY filling buffer, abandoning every load changes the load count and the numbers alone. -/
theorem abandonAll_eq (c : Channel) :
    c.abandonAll = { c.clearFill with loads := c.abandonAll.loads, nos := c.abandonAll.nos } := by
  obtain ⟨_, _, hcur⟩ := dropLoad_eq .current c.current c.abandonFill
  obtain ⟨_, _, hnext⟩ := dropLoad_eq .next c.next (c.abandonFill.dropLoad .current c.current)
  rw [Channel.abandonAll, hnext, hcur, abandonFill_eq]
  rfl

/-- For a purpose of the filling buffer, the loads of the ranks do not matter. -/
theorem abandonAll_of_buffer {p : Purpose} (hcur : p ≠ .current) (hnext : p ≠ .next) (c : Channel) :
    c.abandonAll.nos.of p = if c.filling ≠ .empty ∧ c.fillPurpose = p then c.loads + 1 else c.nos.of p := by
  rw [Channel.abandonAll, dropLoad_of_ne hnext.symm, dropLoad_of_ne hcur.symm, abandonFill_of]

/-- A purpose whose load is abandoned keeps a number above every one drawn before. -/
theorem loads_lt_abandonAll_of {c : Channel} {p : Purpose} (h : c.HasLoad p) : c.loads < c.abandonAll.nos.of p := by
  have hfill := abandonFill_loads_le c
  have hcur := dropLoad_loads_le .current c.current c.abandonFill
  have buffer (hp : p ≠ .current) (hp' : p ≠ .next) (hload : c.filling ≠ .empty ∧ c.fillPurpose = p) :
      c.loads < c.abandonAll.nos.of p :=
    (Nat.lt_succ_self _).trans_eq ((abandonAll_of_buffer hp hp' c).trans (if_pos hload)).symm
  cases p with
  | current =>
    obtain ⟨a, ha⟩ := h
    rw [Channel.abandonAll, dropLoad_of_ne (by decide), ha]
    exact (Nat.lt_succ_of_le hfill).trans_eq (number_of_self .current _).symm
  | next =>
    obtain ⟨a, ha⟩ := h
    rw [Channel.abandonAll, ha]
    exact (Nat.lt_succ_of_le (hfill.trans hcur)).trans_eq (number_of_self .next _).symm
  | pointer => exact buffer (by decide) (by decide) h
  | frame => exact buffer (by decide) (by decide) h
  | rest => exact buffer (by decide) (by decide) h

/-- A purpose with no load to abandon keeps its number. -/
theorem abandonAll_of_not_hasLoad {c : Channel} {p : Purpose} (h : ¬ c.HasLoad p) :
    c.abandonAll.nos.of p = c.nos.of p := by
  have buffer (hp : p ≠ .current) (hp' : p ≠ .next) (hload : ¬ (c.filling ≠ .empty ∧ c.fillPurpose = p)) :
      c.abandonAll.nos.of p = c.nos.of p := (abandonAll_of_buffer hp hp' c).trans (if_neg hload)
  cases p with
  | current =>
    rw [Channel.abandonAll, dropLoad_of_ne (by decide), dropLoad_of_not_loading h, abandonFill_of,
      if_neg fun hf => fillPurpose_ne_current c hf.2]
  | next =>
    rw [Channel.abandonAll, dropLoad_of_not_loading h, dropLoad_of_ne (by decide), abandonFill_of,
      if_neg fun hf => fillPurpose_ne_next c hf.2]
  | pointer => exact buffer (by decide) (by decide) h
  | frame => exact buffer (by decide) (by decide) h
  | rest => exact buffer (by decide) (by decide) h

/-! ### The rest still (R97) -/

theorem usedLen_eq_zero_iff (r : RestParams) :
    r.usedLen = 0 ↔ r.len = 0 ∨ r.addr = 0 ∨ r.addr.toNat % 8 ≠ 0 := by
  unfold RestParams.usedLen
  split
  case isTrue h => exact iff_of_true rfl h
  case isFalse h =>
    have hlen : r.len ≠ 0 := (not_or.mp h).1
    exact iff_of_false (by omega) h

theorem usedLen_of_ne_zero {r : RestParams} (h : r.usedLen ≠ 0) : r.usedLen = min r.len 16384 :=
  if_neg (mt (usedLen_eq_zero_iff r).mpr h)

theorem showRest_of_none {rest : RestParams} (h : rest.usedLen = 0) (ch : Fin 8) (c : Channel) :
    c.showRest ch rest = c.blank ch := if_pos h

theorem showRest_of_some {rest : RestParams} (h : rest.usedLen ≠ 0) (ch : Fin 8) (c : Channel) :
    c.showRest ch rest =
      ({ c.number .rest with
          filling := .fetching, fillFor := .rest, fillBuf := []
          plan := { pointer := none, addr := some rest.addr.toNat, total := (min rest.len 16384 + 7) / 8,
                    issued := 0, received := 0, length := min rest.len 16384 } }, []) := by
  rw [← usedLen_of_ne_zero h]
  exact if_neg h

/-- Showing the rest still renumbers no purpose but its own. -/
theorem showRest_of {p : Purpose} (hp : p ≠ .rest) (ch : Fin 8) (rest : RestParams) (c : Channel) :
    (c.showRest ch rest).1.nos.of p = c.nos.of p := by
  by_cases h : rest.usedLen = 0
  · rw [showRest_of_none h]
    rfl
  · rw [showRest_of_some h]
    exact number_of_ne hp.symm c

/-! ### Becoming IDLE (R97) -/

/-- The channel IDLE, before its rest still is shown: every load abandoned, both ranks and the filling buffer EMPTY, and the counts and marks of its cues cleared. -/
def Channel.emptied (c : Channel) : Channel :=
  { c.abandonAll with
    state := .idle, shownMark := false, current := .empty, next := .empty, resume := false, position := 0
    periodsLeft := 0, repeatsLeft := 0, skips := 0, cut := none }

theorem goIdle_eq (ch : Fin 8) (rest : RestParams) (c : Channel) :
    c.goIdle ch rest = c.emptied.showRest ch rest := rfl

/-- The emptied channel, field by field: what it keeps of the channel are its buffers' contents and what is shown. -/
theorem emptied_eq (c : Channel) :
    c.emptied =
      { c with
        state := .idle, shownMark := false, current := .empty, next := .empty, filling := .empty, fillFor := .none
        plan := FetchPlan.none, awaited := false, begins := false, resume := false, position := 0
        periodsLeft := 0, repeatsLeft := 0, skips := 0, cut := none
        loads := c.abandonAll.loads, nos := c.abandonAll.nos } := by
  rw [Channel.emptied, abandonAll_eq]
  rfl

/-- Becoming IDLE gives each purpose whose load it abandons a number above every one drawn before (R81). -/
theorem loads_lt_goIdle_of {c : Channel} {p : Purpose} (hp : p ≠ .rest) (h : c.HasLoad p) (ch : Fin 8)
    (rest : RestParams) : c.loads < (c.goIdle ch rest).1.nos.of p :=
  (loads_lt_abandonAll_of h).trans_eq (showRest_of hp ch rest c.emptied).symm

/-- Becoming IDLE leaves the number of a purpose that has no load, and is not the rest still's, as it is. -/
theorem goIdle_of_not_hasLoad {c : Channel} {p : Purpose} (hp : p ≠ .rest) (h : ¬ c.HasLoad p) (ch : Fin 8)
    (rest : RestParams) : (c.goIdle ch rest).1.nos.of p = c.nos.of p :=
  (showRest_of hp ch rest c.emptied).trans (abandonAll_of_not_hasLoad h)

/-- What becoming IDLE leaves, whatever its rest still: every rank, mark and count cleared, the content shown and the late count kept. -/
theorem goIdle_clears (ch : Fin 8) (rest : RestParams) (c : Channel) :
    (c.goIdle ch rest).1.state = .idle ∧ (c.goIdle ch rest).1.current = .empty ∧
      (c.goIdle ch rest).1.next = .empty ∧ (c.goIdle ch rest).1.awaited = false ∧ (c.goIdle ch rest).1.cut = none ∧
      (c.goIdle ch rest).1.skips = 0 ∧ (c.goIdle ch rest).1.position = 0 ∧ (c.goIdle ch rest).1.periodsLeft = 0 ∧
      (c.goIdle ch rest).1.repeatsLeft = 0 ∧ (c.goIdle ch rest).1.shownBuf = c.shownBuf ∧
      (c.goIdle ch rest).1.late = c.late := by
  by_cases h : rest.usedLen = 0
  · rw [goIdle_eq, showRest_of_none h, emptied_eq]
    exact ⟨rfl, rfl, rfl, rfl, rfl, rfl, rfl, rfl, rfl, rfl, rfl⟩
  · rw [goIdle_eq, showRest_of_some h, emptied_eq]
    exact ⟨rfl, rfl, rfl, rfl, rfl, rfl, rfl, rfl, rfl, rfl, rfl⟩

/-- With no rest still to fetch, becoming IDLE shows BLANK at once: the buffer stays EMPTY and the channel note goes out (R97, R98). -/
theorem goIdle_of_no_rest {rest : RestParams} (h : rest.usedLen = 0) (ch : Fin 8) (c : Channel) :
    (c.goIdle ch rest).1.filling = .empty ∧ (c.goIdle ch rest).1.shownKind = .blank ∧
      (c.goIdle ch rest).1.serial = c.serial + 1 ∧
      (c.goIdle ch rest).2 = [.channelNote { channel := ch, serial := c.serial + 1, kind := .blank, len := 0 }] := by
  rw [goIdle_eq, showRest_of_none h, emptied_eq]
  exact ⟨rfl, rfl, rfl, rfl⟩

/-- With a rest still to fetch, becoming IDLE begins the fetch and sends nothing: what is shown stays (R97). -/
theorem goIdle_of_rest {rest : RestParams} (h : rest.usedLen ≠ 0) (ch : Fin 8) (c : Channel) :
    (c.goIdle ch rest).2 = [] ∧ (c.goIdle ch rest).1.filling = .fetching ∧ (c.goIdle ch rest).1.fillFor = .rest ∧
      (c.goIdle ch rest).1.shownKind = c.shownKind ∧ (c.goIdle ch rest).1.serial = c.serial ∧
      (c.goIdle ch rest).1.plan =
        { pointer := none, addr := some rest.addr.toNat, total := (min rest.len 16384 + 7) / 8, issued := 0,
          received := 0, length := min rest.len 16384 } := by
  rw [goIdle_eq, showRest_of_some h, emptied_eq]
  exact ⟨rfl, rfl, rfl, rfl, rfl, rfl⟩

/-! ### The command (R85) -/

theorem stop_of_idle {c : Channel} (h : c.state = .idle) (ch : Fin 8) (rest : RestParams) :
    c.stop ch rest = (c, []) := if_pos h

theorem stop_of_not_idle {c : Channel} (h : c.state ≠ .idle) (ch : Fin 8) (rest : RestParams) :
    c.stop ch rest = c.goIdle ch rest := if_neg h

/-- A change that leaves its channel as it is leaves the player as it is. -/
theorem onChannel_of_fixed {q : Reel} {ch : Fin 8} {f : Channel → Channel × List Out}
    (h : f (q.channels.get ch) = (q.channels.get ch, [])) : q.onChannel ch f = (q, []) := by
  simp [Reel.onChannel, h]

/-- A stop puts a channel that is not IDLE in place as it becomes IDLE. -/
theorem onChannel_stop {q : Reel} {ch : Fin 8} {c : Channel} (hc : q.channels.get ch = c) (h : c.state ≠ .idle)
    (rest : RestParams) :
    q.onChannel ch (Channel.stop ch rest) =
      ({ q with channels := q.channels.set ch (c.goIdle ch rest).1 }, (c.goIdle ch rest).2) := by
  rw [Reel.onChannel, hc, stop_of_not_idle h]

/-- A CHANNEL_STOP takes its entry, stops the channel and answers APPLIED. -/
theorem exec_channelStop {s : State} {e : Entry} {ch : Fin 8} (he : s.entry = some e) (hrow : e.row = .channelStop ch) :
    exec .channelStop s = .next (commit s
      ((s.takeEntry.reelDo (s.reel.onChannel ch (Channel.stop ch (s.restOf ch)))).result e.index e.argument .applied)) := by
  have hstop : channelStop s =
      (s.takeEntry.reelDo (s.reel.onChannel ch (Channel.stop ch (s.restOf ch)))).result e.index e.argument .applied := by
    simp only [channelStop, he, hrow]
  rw [← hstop]
  rfl

/-- The player's mail after it is put in place is what it sends posted. -/
theorem reelDo_mail (s : State) (p : Reel × List Out) : (s.reelDo p).mail = s.mail.posts p.2 := by
  rw [State.reelDo, emit_mail]
  rfl

/-- Settles O42: an IDLE channel is left as it is; any other becomes IDLE by R97, which renumbers exactly the purposes whose loads it abandons. -/
theorem channelStopIdlesTheChannel : Obligations.ChannelStopIdlesTheChannel := by
  unfold Obligations.ChannelStopIdlesTheChannel
  intro s e ch c rest he hrow hc hrest
  have hexec := exec_channelStop he hrow
  rw [show s.restOf ch = rest from hrest] at hexec
  constructor
  · intro hidle
    rw [onChannel_of_fixed (by rw [hc, stop_of_idle hidle])] at hexec
    exact ⟨e.argument, hexec⟩
  · intro hbusy
    rw [onChannel_stop hc hbusy] at hexec
    obtain ⟨hstate, hcurrent, hnext, hawaited, hcut, hskips, hposition, hperiods, hrepeats, hshown, hlate⟩ :=
      goIdle_clears ch rest c
    have fresh {p : Purpose} (hp : p ≠ .rest) (h : c.HasLoad p) (hle : c.nos.of p ≤ c.loads) :
        c.nos.of p < (c.goIdle ch rest).1.nos.of p := hle.trans_lt (loads_lt_goIdle_of hp h ch rest)
    have kept {p : Purpose} (hp : p ≠ .rest) (h : ¬ c.HasLoad p) :
        (c.goIdle ch rest).1.nos.of p = c.nos.of p := goIdle_of_not_hasLoad hp h ch rest
    have hloads := goIdle_loads ch rest c
    rw [if_congr (usedLen_eq_zero_iff rest) rfl rfl] at hloads
    refine ⟨_, (c.goIdle ch rest).1, e.argument, hexec, ?_, emit_intakes _ _, emit_setup _ _, emit_reel _ _, hstate,
      hcurrent, hnext, hawaited, hcut, hskips, hposition, hperiods, hrepeats, hshown, hlate,
      fun a ha => fresh (p := .current) (by decide) ⟨a, ha⟩,
      fun a ha => fresh (p := .next) (by decide) ⟨a, ha⟩,
      fun hf hr hp => fresh (p := .pointer) (by decide) ((hasLoad_pointer_iff c).mpr ⟨hf, hr, hp⟩),
      fun hf hr hp => fresh (p := .frame) (by decide) ((hasLoad_frame_iff c).mpr ⟨hf, hr, hp⟩),
      fun h => kept (p := .current) (by decide) (not_exists.mpr h),
      fun h => kept (p := .next) (by decide) (not_exists.mpr h),
      fun h => kept (p := .pointer) (by decide) (by rw [hasLoad_pointer_iff]; tauto),
      fun h => kept (p := .frame) (by decide) (by rw [hasLoad_frame_iff]; tauto), hloads, ?_, ?_⟩
    · exact ((takeEntry_frame s).mono (by simp)).trans ((reelDo_frame' _ _ (goIdle_sends _ _ _)).mono (by simp))
    · intro hnone
      obtain ⟨hfilling, hkind, hserial, hsent⟩ := goIdle_of_no_rest ((usedLen_eq_zero_iff rest).mpr hnone) ch c
      exact ⟨hfilling, hkind, hserial, by rw [hsent, reelDo_mail]; rfl⟩
    · intro hlen haddr halign
      have hsome : rest.usedLen ≠ 0 := by
        rw [ne_eq, usedLen_eq_zero_iff]
        tauto
      obtain ⟨hsent, hfilling⟩ := goIdle_of_rest hsome ch c
      exact ⟨by rw [hsent, reelDo_mail]; rfl, hfilling⟩

end Sys2Proof.Machine
end

section
/-! What every step keeps, once for all invariants: a command keeps what depends on pieces of state it may not change; and the parameters and results (R167, R170, R172, R174). -/

namespace Sys2Proof.Machine

/-! ### Keeping -/

/-- A predicate that the pieces of state listed decide. -/
def DependsOn (bs : List Block) (P : State → Prop) : Prop := ∀ s t, (∀ b ∈ bs, b.same s t) → P s → P t

/-- A command keeps what depends on no piece of state that it may change. -/
theorem exec_keeps_of_not_mayChange {bs : List Block} {P : State → Prop} (hP : DependsOn bs P) {c : Instr} {s t : State}
    (h : exec c s = .next t) (hc : ∀ b ∈ bs, b ∉ mayChange c) (hs : P s) : P t :=
  hP s t (fun b hb => exec_frame h b (hc b hb)) hs

/-- What every command keeps, and the queue of commands has no part in, every step keeps. -/
theorem step_keeps {P : State → Prop} (hpending : ∀ s q, P s → P (s.withPending q))
    (hexec : ∀ c s t, exec c s = .next t → P s → P t) {s t : State} (h : step s = .next t) (hs : P s) : P t := by
  obtain rfl | ⟨c, rest, -, hc⟩ := step_cases h
  · exact hs
  · exact hexec c _ t hc (hpending s rest hs)

/-- A command that goes on answers the commit of what it did. -/
theorem next_of_goOn {s u t : State} (h : goOn s u = .next t) : t = commit s u := ((goOn_eq_next s u t).1 h).symm

/-- Every command but PIN_RESET answers what it did with the changed mark following the mirrored values (R177). -/
theorem exec_commit {c : Instr} {s t : State} (hc : ∀ strap, c ≠ .pinReset strap) (h : exec c s = .next t) :
    ∃ u, t = commit s u := by
  cases c with
  | pinReset strap => exact absurd rfl (hc strap)
  | passingRequest r =>
    simp only [exec, execPassingRequest] at h
    split at h
    · exact ⟨_, next_of_goOn h⟩
    · cases h
  | _ => exact ⟨_, next_of_goOn h⟩

/-! ### A block's new state put in place -/

@[simp] theorem trackerDo_eq (s : State) (p : Tracker × List Out) : s.trackerDo p = (s.withTracker p.1).emit p.2 := rfl
@[simp] theorem seatsDo_eq (s : State) (p : Seats × List Out) : s.seatsDo p = (s.withSeats p.1).emit p.2 := rfl
@[simp] theorem noticesDo_eq (s : State) (p : Notices × List Out) : s.noticesDo p = (s.withNotices p.1).emit p.2 := rfl
@[simp] theorem reelDo_eq (s : State) (p : Reel × List Out) : s.reelDo p = (s.withReel p.1).emit p.2 := rfl
@[simp] theorem compDo_eq (s : State) (p : Comp × List Out) : s.compDo p = (s.withComp p.1).emit p.2 := rfl
@[simp] theorem ringDo_eq (s : State) (n : Fin 4) (p : Ring × List Out) :
    s.ringDo n p = (s.withRings (s.rings.set n p.1)).emit p.2 := rfl
@[simp] theorem ringCompDo_eq (s : State) (n : Fin 4) (p : (Ring × Comp) × List Out) :
    s.ringCompDo n p = ((s.withComp p.1.2).withRings (s.rings.set n p.1.1)).emit p.2 := rfl
@[simp] theorem storeSimple_eq (s : State) (p : Simple) (v : BitVec 32) :
    s.storeSimple p v = s.withParams (s.params.setSimple p (s.params.clampSimple p v.toNat)) := rfl
@[simp] theorem storeRing_eq (s : State) (n : Fin 4) (f : RingField) (v : BitVec 32) :
    s.storeRing n f v =
      s.withParams { s.params with ring := s.params.ring.modify n fun r => r.setField f (f.clamp v.toNat) } := rfl
@[simp] theorem paramResult_eq (s : State) (e : Entry) (v : BitVec 32) :
    s.paramResult e v = s.result e.index (s.reportedWord (Index.of e.index))
      (clampOutcome v.toNat (s.storedWord (Index.of e.index))) := rfl

/-! ### Taking an entry -/

/-- An entry is taken only while no result waits and no DAY_OPEN is awaited (R170, R171). -/
theorem free_of_entry {s : State} {e : Entry} (h : s.entry = some e) :
    s.setup.waiting = none ∧ s.setup.dayOpen = none := by
  unfold State.entry State.dataBeat State.setupBeat at h
  split at h
  · rename_i b hb
    split at hb
    · rename_i hfree
      simpa using hfree
    · cases hb
  · cases h

end Sys2Proof.Machine
end

section
/-! The parameter store and the Setup Decoder's results under every step (R167, R170 to R172, R174). -/

namespace Sys2Proof.Machine

/-! ### The parameter store -/

/-- The parameter stores that one command can leave, from the store p. -/
inductive ParamsStep (p : Params) : Params → Prop
  | same : ParamsStep p p
  | reset : ParamsStep p Params.reset
  | simple (which : Simple) (v : Nat) : ParamsStep p (p.setSimple which (p.clampSimple which v))
  | ring (n : Fin 4) (f : RingField) (v : Nat) :
    ParamsStep p { p with ring := p.ring.modify n fun r => r.setField f (f.clamp v) }
  | rest (ch : Fin 8) (len : Bool) (v : BitVec 32) :
    ParamsStep p { p with rest := p.rest.set ch ((p.rest.get ch).store len v) }

theorem softReset_params (s : State) : ParamsStep s.params (softReset s).params := by
  unfold softReset
  split
  · split
    · rw [result_params]; exact .reset
    · exact .same
  · exact .same

theorem policyWrite_params (s : State) : ParamsStep s.params (policyWrite s).params := by
  unfold policyWrite
  split
  · split
    · simpa using .simple _ _
    · exact .same
  · exact .same

theorem autoSoldOutWrite_params (s : State) : ParamsStep s.params (autoSoldOutWrite s).params := by
  unfold autoSoldOutWrite
  split
  · split
    · rw [paramResult_eq, result_params]
      split <;> simpa using .simple _ _
    · exact .same
  · exact .same

theorem restStillWrite_params (s : State) : ParamsStep s.params (restStillWrite s).params := by
  unfold restStillWrite
  split
  · split
    · simpa [State.restOf] using .rest _ _ _
    · exact .same
  · exact .same

theorem ringEnableWrite_params (s : State) : ParamsStep s.params (ringEnableWrite s).params := by
  unfold ringEnableWrite
  split
  · split
    · simpa using .ring _ _ _
    · exact .same
  · exact .same

theorem autoRestartWrite_params (s : State) : ParamsStep s.params (autoRestartWrite s).params := by
  unfold autoRestartWrite
  split
  · split
    · simpa using .ring _ _ _
    · exact .same
  · exact .same

theorem parameterEntry_params (s : State) : ParamsStep s.params (parameterEntry s).params := by
  unfold parameterEntry
  split
  · split
    · simpa using .simple _ _
    · simpa using .ring _ _ _
    · simpa using .same
    · exact .same
  · exact .same

theorem eventEnableWrite_params (s : State) : ParamsStep s.params (eventEnableWrite s).params := by
  unfold eventEnableWrite
  split
  · split
    · simpa using .simple _ _
    · exact .same
  · exact .same

theorem interruptPolarityWrite_params (s : State) : ParamsStep s.params (interruptPolarityWrite s).params := by
  unfold interruptPolarityWrite
  split
  · split
    · simpa using .simple _ _
    · exact .same
  · exact .same

/-- What a command can do to the parameter store. -/
theorem exec_params {c : Instr} {s t : State} (h : exec c s = .next t) : ParamsStep s.params t.params := by
  by_cases hm : Block.params ∈ mayChange c
  · cases c with
    | pinReset strap =>
      simp only [exec, execPinReset, Host.Outcome.next.injEq] at h
      exact h ▸ .reset
    | softReset => rw [next_of_goOn h, commit_params]; exact softReset_params s
    | policyWrite => rw [next_of_goOn h, commit_params]; exact policyWrite_params s
    | autoSoldOutWrite => rw [next_of_goOn h, commit_params]; exact autoSoldOutWrite_params s
    | restStillWrite => rw [next_of_goOn h, commit_params]; exact restStillWrite_params s
    | ringEnableWrite => rw [next_of_goOn h, commit_params]; exact ringEnableWrite_params s
    | autoRestartWrite => rw [next_of_goOn h, commit_params]; exact autoRestartWrite_params s
    | parameterEntry => rw [next_of_goOn h, commit_params]; exact parameterEntry_params s
    | eventEnableWrite => rw [next_of_goOn h, commit_params]; exact eventEnableWrite_params s
    | interruptPolarityWrite => rw [next_of_goOn h, commit_params]; exact interruptPolarityWrite_params s
    | _ => simp [mayChange] at hm
  · have : t.params = s.params := exec_frame h .params hm
    exact this ▸ .same

/-- The range of each parameter of one number, and of each ring's and channel's (R172, R174); ParamsOk of the state that holds the store. -/
def Params.Ok (p : Params) : Prop := ParamsOk { State.reset with params := p }

theorem paramsOk_iff (s : State) : ParamsOk s ↔ s.params.Ok := Iff.rfl

theorem Params.Ok.setSimple {p : Params} (h : p.Ok) (which : Simple) (v : Nat) :
    (p.setSimple which (p.clampSimple which v)).Ok := by
  unfold Params.Ok ParamsOk at *
  cases which <;> simp only [Params.setSimple, Params.clampSimple, clampTo] at *
  case eventEnable =>
    refine ⟨?_, h.2⟩
    simp
  case low => split <;> grind
  all_goals grind

theorem Params.Ok.setRing {p : Params} (h : p.Ok) (n : Fin 4) (f : RingField) (v : Nat) :
    Params.Ok { p with ring := p.ring.modify n fun r => r.setField f (f.clamp v) } := by
  unfold Params.Ok ParamsOk at *
  obtain ⟨h1, h2, h3, h4, h5, h6, h7, h8, h9, h10, h11, h12, h13, hrest, hring⟩ := h
  refine ⟨h1, h2, h3, h4, h5, h6, h7, h8, h9, h10, h11, h12, h13, hrest, fun m => ?_⟩
  by_cases hm : n = m
  · subst hm
    have := hring n
    cases f <;> simp [RingParams.setField, RingField.clamp, clampTo] at * <;> omega
  · simpa [hm] using hring m

theorem Params.Ok.setRest {p : Params} (h : p.Ok) (ch : Fin 8) (len : Bool) (v : BitVec 32) :
    Params.Ok { p with rest := p.rest.set ch ((p.rest.get ch).store len v) } := by
  unfold Params.Ok ParamsOk at *
  obtain ⟨h1, h2, h3, h4, h5, h6, h7, h8, h9, h10, h11, h12, h13, hrest, hring⟩ := h
  refine ⟨h1, h2, h3, h4, h5, h6, h7, h8, h9, h10, h11, h12, h13, fun c => ?_, hring⟩
  rw [Table.get_set]
  split
  · cases len
    · exact hrest ch
    · exact Nat.min_le_left _ _
  · exact hrest c

theorem Params.ok_reset : Params.reset.Ok := by
  simp [Params.Ok, ParamsOk, Params.reset, RestParams.reset, RingParams.reset]

theorem ParamsStep.ok {p q : Params} (h : ParamsStep p q) (hp : p.Ok) : q.Ok := by
  cases h with
  | same => exact hp
  | reset => exact Params.ok_reset
  | simple which v => exact hp.setSimple which v
  | ring n f v => exact hp.setRing n f v
  | rest ch len v => exact hp.setRest ch len v

/-! ### Commands that answer an entry (R165, R170) -/

/-- A command that answers the entry at the head of the setup intake, where that entry is its own: the beat leaves, the index steps, something is done and the result is written. -/
def Answers (s t : State) : Prop :=
  t = s ∨ ∃ e u i v o, s.entry = some e ∧ u.setup = s.setup.stepped ∧ u.intakes = s.takeEntry.intakes ∧
    t = State.result u i v o

theorem Answers.of_result {s u : State} {e : Entry} (h : s.entry = some e) (i : BitVec 10) (v : BitVec 32) (o : Outcome)
    (hu : u.setup = s.setup.stepped := by simp) (hi : u.intakes = s.takeEntry.intakes := by simp) :
    Answers s (u.result i v o) := .inr ⟨e, u, i, v, o, h, hu, hi, rfl⟩

theorem clockSet_answers (s : State) : Answers s (clockSet s) := by
  unfold clockSet
  split
  · split
    · exact .of_result ‹_› _ _ _
    · exact .inl rfl
  · exact .inl rfl

theorem cuePush_answers (s : State) : Answers s (cuePush s) := by
  unfold cuePush
  split
  · split
    · exact .of_result ‹_› _ _ _
    · exact .inl rfl
  · exact .inl rfl

theorem cueCut_answers (s : State) : Answers s (cueCut s) := by
  unfold cueCut
  split
  · split
    · exact .of_result ‹_› _ _ _
    · exact .inl rfl
  · exact .inl rfl

theorem channelStop_answers (s : State) : Answers s (channelStop s) := by
  unfold channelStop
  split
  · split
    · exact .of_result ‹_› _ _ _
    · exact .inl rfl
  · exact .inl rfl

theorem restStillWrite_answers (s : State) : Answers s (restStillWrite s) := by
  unfold restStillWrite
  split
  · split
    · exact .of_result ‹_› _ _ _
    · exact .inl rfl
  · exact .inl rfl

theorem paneWrite_answers (s : State) : Answers s (paneWrite s) := by
  unfold paneWrite
  split
  · split
    · exact .of_result ‹_› _ _ _
    · exact .inl rfl
  · exact .inl rfl

theorem ringEnableWrite_answers (s : State) : Answers s (ringEnableWrite s) := by
  unfold ringEnableWrite
  split
  · split
    · exact .of_result ‹_› _ _ _
    · exact .inl rfl
  · exact .inl rfl

theorem autoRestartWrite_answers (s : State) : Answers s (autoRestartWrite s) := by
  unfold autoRestartWrite
  split
  · split
    · exact .of_result ‹_› _ _ _
    · exact .inl rfl
  · exact .inl rfl

theorem ringRestart_answers (s : State) : Answers s (ringRestart s) := by
  unfold ringRestart
  split
  · split
    · exact .of_result ‹_› _ _ _
    · exact .inl rfl
  · exact .inl rfl

theorem moduleRequest_answers {s : State} {e : Entry} (h : s.entry = some e) (set_ : Bool) (v : BitVec 32) :
    Answers s (s.moduleRequest e set_ v) := .of_result h _ _ _

theorem moduleQuery_answers (s : State) : Answers s (moduleQuery s) := by
  unfold moduleQuery
  split
  · split
    · exact moduleRequest_answers ‹_› _ _
    · exact .inl rfl
  · exact .inl rfl

theorem moduleSet_answers (s : State) : Answers s (moduleSet s) := by
  unfold moduleSet
  split
  · split
    · exact moduleRequest_answers ‹_› _ _
    · exact .inl rfl
  · exact .inl rfl

theorem policyWrite_answers (s : State) : Answers s (policyWrite s) := by
  unfold policyWrite
  split
  · split
    · exact .of_result ‹_› _ _ _
    · exact .inl rfl
  · exact .inl rfl

theorem autoSoldOutWrite_answers (s : State) : Answers s (autoSoldOutWrite s) := by
  unfold autoSoldOutWrite
  split
  · split
    · exact .of_result ‹_› _ _ _ (by split <;> simp) (by split <;> simp)
    · exact .inl rfl
  · exact .inl rfl

theorem parameterEntry_answers (s : State) : Answers s (parameterEntry s) := by
  unfold parameterEntry
  split
  · split
    · exact .of_result ‹_› _ _ _
    · exact .of_result ‹_› _ _ _
    · exact .of_result ‹_› _ _ _
    · exact .inl rfl
  · exact .inl rfl

theorem eventEnableWrite_answers (s : State) : Answers s (eventEnableWrite s) := by
  unfold eventEnableWrite
  split
  · split
    · exact .of_result ‹_› _ _ _
    · exact .inl rfl
  · exact .inl rfl

theorem interruptPolarityWrite_answers (s : State) : Answers s (interruptPolarityWrite s) := by
  unfold interruptPolarityWrite
  split
  · split
    · exact .of_result ‹_› _ _ _
    · exact .inl rfl
  · exact .inl rfl

theorem eventAck_answers (s : State) : Answers s (eventAck s) := by
  unfold eventAck
  split
  · split
    · exact .of_result ‹_› _ _ _
    · exact .inl rfl
  · exact .inl rfl

@[simp] theorem windowMoved_setup (s : State) (p : WindowParam) : (s.windowMoved p).setup = s.setup := by
  cases p <;> simp [State.windowMoved, State.markChanged]
@[simp] theorem windowMoved_intakes (s : State) (p : WindowParam) : (s.windowMoved p).intakes = s.intakes := by
  cases p <;> simp [State.windowMoved, State.markChanged]

theorem windowBaseWrite_answers (s : State) : Answers s (windowBaseWrite s) := by
  unfold windowBaseWrite
  split
  · split
    · dsimp only
      split <;> exact .of_result ‹_› _ _ _
    · exact .inl rfl
  · exact .inl rfl

/-- READ_ENTRY answers its entry, or takes a data beat with no enabled byte (R165, R166). -/
theorem readEntry_answers (s : State) : Answers s (readEntry s) ∨ readEntry s = s.popSetup := by
  unfold readEntry
  split
  · split
    · exact .inl (.of_result ‹_› _ _ _)
    · exact .inl (.inl rfl)
  · split
    · exact .inr rfl
    · exact .inl (.inl rfl)

/-! ### Results (R170, R171) -/

/-- ResultsOk of the Setup Decoder that holds the counts. -/
def Setup.Ok (u : Setup) : Prop :=
  u.outstanding ≤ 4 ∧ (u.waiting.isSome = true → u.outstanding = 4) ∧ (u.dayOpen.isSome = true → u.waiting = none)

theorem resultsOk_iff (s : State) : ResultsOk s ↔ s.setup.Ok := Iff.rfl

/-- A result is issued while none waits: it takes a free place, or is the one held back. -/
theorem Setup.Ok.issueResult {s : State} (h : s.setup.Ok) (hw : s.setup.waiting = none)
    (hd : s.setup.dayOpen = none) (r : Result) : (s.issueResult r).setup.Ok := by
  rw [issueResult_eq]
  unfold Setup.Ok at *
  split <;> simp_all
  omega

theorem Setup.Ok.result {s : State} (h : s.setup.Ok) (hw : s.setup.waiting = none)
    (hd : s.setup.dayOpen = none) (i : BitVec 10) (v : BitVec 32) (o : Outcome) : (s.result i v o).setup.Ok :=
  Setup.Ok.issueResult (s := s.withSetup { s.setup with seq := s.setup.seq + 1 }) h hw hd _

theorem Answers.results {s t : State} (h : Answers s t) (hs : s.setup.Ok) : t.setup.Ok := by
  obtain rfl | ⟨e, u, i, v, o, he, hu, -, rfl⟩ := h
  · exact hs
  · obtain ⟨hw, hd⟩ := free_of_entry he
    exact Setup.Ok.result (hu ▸ hs) (hu ▸ hw) (hu ▸ hd) i v o

theorem dayOpenAnswer_results {s : State} {w0 : DayOpenWait} (hs : s.setup.Ok) (hw : s.setup.dayOpen = some w0)
    (w : DayOpenWait) : (s.dayOpenAnswer w).setup.Ok := by
  obtain ⟨h4, hwait, hday⟩ := hs
  have hnone : s.setup.waiting = none := hday (by simp [hw])
  unfold State.dayOpenAnswer
  split
  · exact ⟨h4, hwait, fun _ => hnone⟩
  · exact Setup.Ok.result (s := s.withSetup { s.setup with dayOpen := none }) ⟨h4, hwait, by simp⟩ hnone rfl _ _ _

theorem dayOpenSeats_results {s : State} (hs : s.setup.Ok) : s.dayOpenSeats.setup.Ok := by
  unfold State.dayOpenSeats
  split
  · exact dayOpenAnswer_results hs ‹_› _
  · exact hs

theorem dayOpenNotices_results {s : State} (hs : s.setup.Ok) : s.dayOpenNotices.setup.Ok := by
  unfold State.dayOpenNotices
  split
  · exact dayOpenAnswer_results hs ‹_› _
  · exact hs

theorem dayOpenComp_results {s : State} (hs : s.setup.Ok) : s.dayOpenComp.setup.Ok := by
  unfold State.dayOpenComp
  split
  · exact dayOpenAnswer_results hs ‹_› _
  · exact hs

theorem seatDayOpen_results {s : State} (hs : s.setup.Ok) : (seatDayOpen s).setup.Ok := by
  unfold seatDayOpen
  split
  · exact dayOpenSeats_results hs
  · exact hs

theorem noticeDayOpen_results {s : State} (hs : s.setup.Ok) : (noticeDayOpen s).setup.Ok := by
  unfold noticeDayOpen
  split
  · exact dayOpenNotices_results (by simpa using hs)
  · exact hs

theorem compositionDayOpen_results {s : State} (hs : s.setup.Ok) : (compositionDayOpen s).setup.Ok := by
  unfold compositionDayOpen
  split
  · exact dayOpenComp_results hs
  · exact hs

theorem dayOpen_results {s : State} (hs : s.setup.Ok) : (dayOpen s).setup.Ok := by
  unfold dayOpen
  split
  · split
    · obtain ⟨hw, -⟩ := free_of_entry ‹_›
      obtain ⟨h4, hwait, -⟩ := hs
      simpa [Setup.Ok, Setup.stepped, hw] using h4
    · exact hs
  · exact hs

theorem resultWriteDone_results {s : State} (hs : s.setup.Ok) : (resultWriteDone s).setup.Ok := by
  obtain ⟨h4, hwait, hday⟩ := hs
  unfold resultWriteDone
  split
  · unfold State.issueWaiting
    split
    · rename_i r hr
      have hr : s.setup.waiting = some r := hr
      have hd : s.setup.dayOpen = none := by
        by_contra hd
        simp [hday (Option.isSome_iff_ne_none.mpr hd)] at hr
      exact Setup.Ok.issueResult
        (s := ((s.withMail _).withSetup { s.setup with outstanding := s.setup.outstanding - 1 }).withSetup
          { s.setup with outstanding := s.setup.outstanding - 1, waiting := none })
        ⟨by show s.setup.outstanding - 1 ≤ 4; omega, by simp, fun _ => rfl⟩ rfl hd r
    · rename_i hr
      have hr : s.setup.waiting = none := hr
      exact ⟨by show s.setup.outstanding - 1 ≤ 4; omega, by simp [hr], fun _ => hr⟩
  · exact ⟨h4, hwait, hday⟩

theorem softReset_results {s : State} (hs : s.setup.Ok) : (softReset s).setup.Ok := by
  unfold softReset
  split
  · split
    · exact Setup.Ok.result (by simp [State.softReset, Setup.softReset, Setup.reset, Setup.Ok]) rfl rfl _ _ _
    · exact hs
  · exact hs

theorem indexBeat_results {s : State} (hs : s.setup.Ok) : (indexBeat s).setup.Ok := by
  unfold indexBeat
  split <;> exact hs

theorem readEntry_results {s : State} (hs : s.setup.Ok) : (readEntry s).setup.Ok := by
  obtain h | h := readEntry_answers s
  · exact h.results hs
  · rw [h]; exact hs

/-- Every command keeps the counts of results. -/
theorem exec_results {c : Instr} {s t : State} (h : exec c s = .next t) (hs : s.setup.Ok) : t.setup.Ok := by
  by_cases hm : Block.setup ∈ mayChange c
  · cases c with
    | pinReset strap =>
      simp only [exec, execPinReset, Host.Outcome.next.injEq] at h
      subst h
      simp [pinReset, State.pinReset, Setup.reset, Setup.Ok]
    | softReset => rw [next_of_goOn h, commit_setup]; exact softReset_results hs
    | dayOpen => rw [next_of_goOn h, commit_setup]; exact dayOpen_results hs
    | clockSet => rw [next_of_goOn h, commit_setup]; exact (clockSet_answers s).results hs
    | seatDayOpen => rw [next_of_goOn h, commit_setup]; exact seatDayOpen_results hs
    | policyWrite => rw [next_of_goOn h, commit_setup]; exact (policyWrite_answers s).results hs
    | autoSoldOutWrite => rw [next_of_goOn h, commit_setup]; exact (autoSoldOutWrite_answers s).results hs
    | noticeDayOpen => rw [next_of_goOn h, commit_setup]; exact noticeDayOpen_results hs
    | cuePush => rw [next_of_goOn h, commit_setup]; exact (cuePush_answers s).results hs
    | cueCut => rw [next_of_goOn h, commit_setup]; exact (cueCut_answers s).results hs
    | channelStop => rw [next_of_goOn h, commit_setup]; exact (channelStop_answers s).results hs
    | restStillWrite => rw [next_of_goOn h, commit_setup]; exact (restStillWrite_answers s).results hs
    | paneWrite => rw [next_of_goOn h, commit_setup]; exact (paneWrite_answers s).results hs
    | compositionDayOpen => rw [next_of_goOn h, commit_setup]; exact compositionDayOpen_results hs
    | ringEnableWrite => rw [next_of_goOn h, commit_setup]; exact (ringEnableWrite_answers s).results hs
    | autoRestartWrite => rw [next_of_goOn h, commit_setup]; exact (autoRestartWrite_answers s).results hs
    | ringRestart => rw [next_of_goOn h, commit_setup]; exact (ringRestart_answers s).results hs
    | moduleQuery => rw [next_of_goOn h, commit_setup]; exact (moduleQuery_answers s).results hs
    | moduleSet => rw [next_of_goOn h, commit_setup]; exact (moduleSet_answers s).results hs
    | indexBeat => rw [next_of_goOn h, commit_setup]; exact indexBeat_results hs
    | parameterEntry => rw [next_of_goOn h, commit_setup]; exact (parameterEntry_answers s).results hs
    | windowBaseWrite => rw [next_of_goOn h, commit_setup]; exact (windowBaseWrite_answers s).results hs
    | resultWriteDone => rw [next_of_goOn h, commit_setup]; exact resultWriteDone_results hs
    | eventEnableWrite => rw [next_of_goOn h, commit_setup]; exact (eventEnableWrite_answers s).results hs
    | interruptPolarityWrite => rw [next_of_goOn h, commit_setup]; exact (interruptPolarityWrite_answers s).results hs
    | eventAck => rw [next_of_goOn h, commit_setup]; exact (eventAck_answers s).results hs
    | readEntry => rw [next_of_goOn h, commit_setup]; exact readEntry_results hs
    | _ => simp [mayChange] at hm
  · have : t.setup = s.setup := exec_frame h .setup hm
    exact this ▸ hs

/-- Settles O11: parameters change only by a clamped write or a reset, and a result is issued only where none is held back. -/
theorem everyStepKeepsTheParametersAndTheResults : Obligations.EveryStepKeepsTheParametersAndTheResults := by
  unfold Obligations.EveryStepKeepsTheParametersAndTheResults
  intro s t h
  exact ⟨step_keeps (P := ParamsOk) (fun _ _ hp => hp) (fun _ _ _ hc => (exec_params hc).ok) h,
    step_keeps (P := ResultsOk) (fun _ _ hr => hr) (fun _ _ _ hc => exec_results hc) h⟩

end Sys2Proof.Machine
end

section
/-! The bounds of the Through Path and its intakes and the window table under every step (R149 to R155, R158, R168); and what holds of every command and right after reset. -/

namespace Sys2Proof.Machine

/-! ### Bounds of the intakes (R155) -/

/-- The intakes within their places (R155). -/
def Intakes.Within (x : Intakes) : Prop := x.setup.length ≤ 4 ∧ x.shows.length ≤ 8 ∧ x.seat.length ≤ 8

/-- The Through Path's own bounds (R149, R151, R152, R158). -/
def Path.Within (p : Path) : Prop :=
  p.queue.length ≤ 16 ∧ (p.held ≠ [] → p.queue.length = 16) ∧ p.responses.length ≤ 32 ∧ p.share ≤ 3 ∧
    p.windows.setupBase = strapBase p.windows.strap

theorem pathOk_iff (s : State) : PathOk s ↔ s.path.Within ∧ s.intakes.Within := by
  unfold PathOk Path.Within Intakes.Within
  tauto

theorem Intakes.Within.tail {x : Intakes} (h : x.Within) :
    Intakes.Within { x with setup := x.setup.tail } := by
  obtain ⟨hsetup, hshows, hseat⟩ := h
  exact ⟨by simp; omega, hshows, hseat⟩

theorem Answers.intakes {s t : State} (h : Answers s t) (hs : s.intakes.Within) : t.intakes.Within := by
  obtain rfl | ⟨e, u, i, v, o, -, -, hu, rfl⟩ := h
  · exact hs
  · rw [result_intakes, hu]
    exact hs.tail

theorem indexBeat_intakes {s : State} (hs : s.intakes.Within) : (indexBeat s).intakes.Within := by
  unfold indexBeat
  split
  · exact hs.tail
  · exact hs

theorem readEntry_intakes {s : State} (hs : s.intakes.Within) : (readEntry s).intakes.Within := by
  obtain h | h := readEntry_answers s
  · exact h.intakes hs
  · rw [h]; exact hs.tail

theorem dayOpen_intakes {s : State} (hs : s.intakes.Within) : (dayOpen s).intakes.Within := by
  unfold dayOpen
  split
  · split
    · simpa using hs.tail
    · exact hs
  · exact hs

theorem controlWordBeat_intakes {s : State} (hs : s.intakes.Within) : (controlWordBeat s).intakes.Within := by
  obtain ⟨hsetup, hshows, hseat⟩ := hs
  unfold controlWordBeat
  split
  · exact ⟨hsetup, hshows, hseat⟩
  · rename_i b rest hb
    have hrest : rest.length ≤ 8 := by rw [hb] at hshows; simp at hshows; omega
    dsimp only
    split
    · exact ⟨hsetup, hrest, hseat⟩
    · simpa [Intakes.Within] using ⟨hsetup, hrest, hseat⟩

theorem seatBeat_intakes {s : State} (hs : s.intakes.Within) : (seatBeat s).intakes.Within := by
  obtain ⟨hsetup, hshows, hseat⟩ := hs
  unfold seatBeat
  split
  · rename_i b rest hb
    have hrest : rest.length ≤ 8 := by rw [hb] at hseat; simp at hseat; omega
    dsimp only
    split
    · simpa [Intakes.Within] using ⟨hsetup, hshows, hrest⟩
    · exact ⟨hsetup, hshows, hrest⟩
  · exact ⟨hsetup, hshows, hseat⟩

theorem producerValueTaken_intakes {s : State} (hs : s.intakes.Within) : (producerValueTaken s).intakes.Within := by
  unfold producerValueTaken
  split
  · simpa [Intakes.Within] using hs
  · exact hs

theorem softReset_intakes {s : State} (hs : s.intakes.Within) : (softReset s).intakes.Within := by
  unfold softReset
  split
  · split
    · simp [State.softReset, Intakes.reset, Intakes.Within]
    · exact hs
  · exact hs

/-- Delivery puts each owner's beats at the tail of its intake (R155). -/
theorem deliver_lengths (p : BitVec 16) (grant : Nat) (bs : List PlacedBeat) (x : Intakes) :
    (bs.foldl (Intakes.deliver p grant) x).setup.length = x.setup.length + beatsTo .setup bs ∧
      (bs.foldl (Intakes.deliver p grant) x).shows.length = x.shows.length + beatsTo .shows bs ∧
      (bs.foldl (Intakes.deliver p grant) x).seat.length = x.seat.length + beatsTo .seat bs := by
  induction bs generalizing x with
  | nil => simp [beatsTo]
  | cons b bs ih =>
    rw [List.foldl_cons]
    obtain ⟨h1, h2, h3⟩ := ih (x.deliver p grant b)
    rw [h1, h2, h3]
    cases hc : b.cls <;> simp [Intakes.deliver, beatsTo, hc] <;> omega

/-- What has room stays within the places (R150, R155). -/
theorem Intakes.Within.deliver {x : Intakes} (h : x.Within) {bs : List PlacedBeat} (hroom : x.hasRoom bs = true)
    (p : BitVec 16) (grant : Nat) : (bs.foldl (Intakes.deliver p grant) x).Within := by
  obtain ⟨hsetup, hshows, hseat⟩ := h
  obtain ⟨h1, h2, h3⟩ := deliver_lengths p grant bs x
  simp only [Intakes.hasRoom, Bool.and_eq_true, decide_eq_true_eq] at hroom
  simp only [setupPlaces, showPlaces, seatPlaces] at hroom
  unfold Intakes.Within
  omega

/-! ### The window table (R152, R153, R168) -/

/-- WindowsOk of the table itself. -/
def Windows.Ok (w : Windows) : Prop :=
  w.passes = true ∧ w.setupBase.toNat % 64 = 0 ∧ w.showBase.toNat % 64 = 0 ∧ w.seatBase.toNat % 64 = 0 ∧
    w.noticeBase.toNat % 64 = 0 ∧ w.statusBase.toNat % 64 = 0 ∧ 1 ≤ w.seatUnits ∧ w.seatUnits ≤ 128

theorem windowsOk_iff (s : State) : WindowsOk s ↔ s.path.windows.Ok := Iff.rfl

/-- A base stored is a multiple of 64: its low six bits are 0 (R168). -/
theorem clampedBase_mod (v : BitVec 32) : (v &&& ~~~ 0x3F#32).toNat % 64 = 0 := by
  have h : (v &&& ~~~ 0x3F#32).extractLsb' 0 6 = 0#6 := by
    ext i hi
    have : i = 0 ∨ i = 1 ∨ i = 2 ∨ i = 3 ∨ i = 4 ∨ i = 5 := by omega
    obtain rfl | rfl | rfl | rfl | rfl | rfl := this <;> simp
  have := congrArg BitVec.toNat h
  simpa using this

theorem Windows.Ok.setParam {w : Windows} (h : w.Ok) (p : WindowParam) (v : BitVec 32)
    (hp : (w.setParam p (p.clamp v)).passes = true) : (w.setParam p (p.clamp v)).Ok := by
  obtain ⟨-, h1, h2, h3, h4, h5, h6, h7⟩ := h
  have hv := clampedBase_mod v
  cases p with
  | showBase => exact ⟨hp, h1, hv, h3, h4, h5, h6, h7⟩
  | seatBase => exact ⟨hp, h1, h2, hv, h4, h5, h6, h7⟩
  | seatSize =>
    have hlo : 1 ≤ clampTo 1 128 v.toNat := by unfold clampTo; omega
    have hhi : clampTo 1 128 v.toNat ≤ 128 := by unfold clampTo; omega
    have : (BitVec.ofNat 32 (clampTo 1 128 v.toNat)).toNat = clampTo 1 128 v.toNat := by
      rw [BitVec.toNat_ofNat]; omega
    refine ⟨hp, h1, h2, h3, h4, h5, ?_, ?_⟩
    · show 1 ≤ (BitVec.ofNat 32 (clampTo 1 128 v.toNat)).toNat
      rw [this]; exact hlo
    · show (BitVec.ofNat 32 (clampTo 1 128 v.toNat)).toNat ≤ 128
      rw [this]; exact hhi
  | noticeBase => exact ⟨hp, h1, h2, h3, hv, h5, h6, h7⟩
  | statusBase => exact ⟨hp, h1, h2, h3, h4, hv, h6, h7⟩

theorem Windows.ok_reset (strap : BitVec 3) : (Windows.reset strap).Ok := by
  unfold Windows.Ok
  revert strap
  decide

/-- After a soft reset SETUP alone can be enabled, where it was (R162). -/
theorem Windows.Ok.softReset {w : Windows} (h : w.Ok) : w.softReset.Ok := by
  obtain ⟨hp, h1, -⟩ := h
  refine ⟨?_, h1, by simp [Windows.softReset]⟩
  simp only [Windows.passes, Bool.and_eq_true, List.all_eq_true, Windows.enabled, List.mem_filter] at hp ⊢
  obtain ⟨-, hreach⟩ := hp
  by_cases h0 : w.setupBase.toNat = 0
  · simp [Windows.softReset, h0, allDisjoint]
  · have := hreach (w.setupBase.toNat, 64) (by simp [h0])
    simpa [Windows.softReset, h0, allDisjoint] using this

/-! ### The Through Path (R149, R151, R158) -/

/-- The bounds do not speak of the class queues. -/
theorem Path.Within.of_bare {p q : Path} (h : q.bare = p.bare) (hp : p.Within) : q.Within := by
  have hb : p.bare.Within := hp
  rw [← h] at hb
  exact hb

theorem Windows.Ok.of_bare {p q : Path} (h : q.bare = p.bare) (hp : p.windows.Ok) : q.windows.Ok := by
  have hb : p.bare.windows.Ok := hp
  rw [← h] at hb
  exact hb

@[simp] theorem emit_bare (s : State) (outs : List Out) : (s.emit outs).path.bare = s.path.bare := by
  rw [emit_path]; rfl
@[simp] theorem result_bare (s : State) (i : BitVec 10) (v : BitVec 32) (o : Outcome) :
    (s.result i v o).path.bare = s.path.bare := result_frame s i v o .port (by simp)
@[simp] theorem windowMoved_bare (s : State) (p : WindowParam) : (s.windowMoved p).path.bare = s.path.bare := by
  cases p <;> simp [State.windowMoved, State.markChanged]

/-- A window parameter's entry changes, of the Through Path, at most the window table, to one that passes the test (R168). -/
theorem windowBaseWrite_bare (s : State) :
    (windowBaseWrite s).path.bare = s.path.bare ∨
      ∃ p v, (s.path.windows.setParam p (p.clamp v)).passes = true ∧
        (windowBaseWrite s).path.bare = { s.path.bare with windows := s.path.windows.setParam p (p.clamp v) } := by
  unfold windowBaseWrite
  split
  · split
    · dsimp only
      split
      · exact .inr ⟨_, _, ‹_›, by simp; rfl⟩
      · exact .inl (by simp)
    · exact .inl rfl
  · exact .inl rfl

theorem windowBaseWrite_path {s : State} (hs : s.path.Within) : (windowBaseWrite s).path.Within := by
  obtain h | ⟨p, v, -, h⟩ := windowBaseWrite_bare s
  · exact hs.of_bare h
  · refine Path.Within.of_bare (p := { s.path with windows := s.path.windows.setParam p (p.clamp v) }) h ?_
    obtain ⟨hq, hh, hr, hsh, hb⟩ := hs
    exact ⟨hq, hh, hr, hsh, by cases p <;> exact hb⟩

theorem windowBaseWrite_windows {s : State} (hs : s.path.windows.Ok) : (windowBaseWrite s).path.windows.Ok := by
  obtain h | ⟨p, v, hpass, h⟩ := windowBaseWrite_bare s
  · exact hs.of_bare h
  · exact Windows.Ok.of_bare (p := { s.path with windows := s.path.windows.setParam p (p.clamp v) }) h
      (hs.setParam p v hpass)

theorem passingRequest_path {s : State} (hs : s.path.Within) (r : PassReq) : (passingRequest r s).path.Within := by
  obtain ⟨hq, hh, hr, hsh, hb⟩ := hs
  unfold passingRequest
  rw [State.withPath_path]
  split
  · refine ⟨by simpa using ‹_›, fun hne => ?_, hr, hsh, hb⟩
    have := hh hne
    omega
  · exact ⟨hq, fun _ => by show s.path.queue.length = 16; omega, hr, hsh, hb⟩

theorem passingRequest_windows (s : State) (r : PassReq) : (passingRequest r s).path.windows = s.path.windows := by
  unfold passingRequest
  split <;> rfl

@[simp] theorem popClass_windows (p : Path) (c : AgentClass) : (p.popClass c).windows = p.windows := by cases c <;> rfl
@[simp] theorem popClass_queue (p : Path) (c : AgentClass) : (p.popClass c).queue = p.queue := by cases c <;> rfl
@[simp] theorem popClass_held (p : Path) (c : AgentClass) : (p.popClass c).held = p.held := by cases c <;> rfl
@[simp] theorem popClass_responses (p : Path) (c : AgentClass) : (p.popClass c).responses = p.responses := by
  cases c <;> rfl

theorem grantPassing_path {s : State} (hs : s.path.Within) (hroom : s.path.responses.length < 32)
    (hne : s.path.queue ≠ []) (r : PassReq) {share : Nat} (hshare : share ≤ 3) :
    (s.grantPassing r share).path.Within := by
  obtain ⟨hq, hh, hr, hsh, hb⟩ := hs
  have hlen : 0 < s.path.queue.length := List.length_pos_iff.2 hne
  refine Path.Within.of_bare (emit_bare _ _) ⟨?_, ?_, ?_, hshare, hb⟩
  · simp [Path.dequeue, Path.grant]; omega
  · simp only [State.withPath_path, Path.grant, Path.dequeue]
    intro hd
    have hheld : 1 < s.path.held.length := by
      by_contra hle
      exact hd (List.drop_eq_nil_of_le (by omega))
    have := hh (List.length_pos_iff.1 (by omega))
    simp; omega
  · simp [Path.dequeue, Path.grant]; omega

theorem grantAgent_path {s : State} (hs : s.path.Within) (hroom : s.path.responses.length < 32) (r : AgentReq) :
    (s.grantAgent r).path.Within := by
  obtain ⟨hq, hh, hr, hsh, hb⟩ := hs
  unfold Path.Within
  simp only [State.grantAgent, State.withPath_path, Path.grant, popClass_queue, popClass_held, popClass_responses,
    popClass_windows, List.length_append, List.length_singleton]
  exact ⟨hq, hh, by omega, by omega, hb⟩

/-- The eligible head is the head of the queue, and its beats have room (R150). -/
theorem of_eligibleHead {s : State} {r : PassReq} (h : s.eligibleHead = some r) :
    s.path.queue.head? = some r ∧ s.intakes.hasRoom (s.path.windows.place r) = true := by
  simpa [State.eligibleHead] using h

/-- What a grant does: nothing, or the eligible head or an agent request is granted, with the list of responses not full (R151, R158). -/
theorem portGrant_cases (s : State) :
    portGrant s = s ∨ s.path.responses.length < 32 ∧
      ((∃ r share, s.eligibleHead = some r ∧ share ≤ 3 ∧ portGrant s = s.grantPassing r share) ∨
        ∃ a, portGrant s = s.grantAgent a) := by
  unfold portGrant
  split
  · exact .inl rfl
  · rename_i hroom
    rw [not_le] at hroom
    split
    · exact .inr ⟨hroom, .inl ⟨_, 0, ‹_›, by omega, rfl⟩⟩
    · exact .inr ⟨hroom, .inr ⟨_, rfl⟩⟩
    · split
      · exact .inr ⟨hroom, .inl ⟨_, _, ‹_›, by omega, rfl⟩⟩
      · exact .inr ⟨hroom, .inr ⟨_, rfl⟩⟩
    · exact .inl rfl

theorem portGrant_path {s : State} (hs : s.path.Within) : (portGrant s).path.Within := by
  obtain h | ⟨hroom, ⟨r, share, hr, hshare, h⟩ | ⟨a, h⟩⟩ := portGrant_cases s <;> rw [h]
  · exact hs
  · obtain ⟨hhead, -⟩ := of_eligibleHead hr
    exact grantPassing_path hs hroom (by rintro hnil; simp [hnil] at hhead) r hshare
  · exact grantAgent_path hs hroom a

theorem portGrant_intakes {s : State} (hs : s.intakes.Within) : (portGrant s).intakes.Within := by
  obtain h | ⟨-, ⟨r, share, hr, -, h⟩ | ⟨a, h⟩⟩ := portGrant_cases s <;> rw [h]
  · exact hs
  · obtain ⟨-, hroom⟩ := of_eligibleHead hr
    simpa [State.grantPassing] using hs.deliver hroom _ _
  · exact hs

theorem portGrant_windows (s : State) : (portGrant s).path.windows = s.path.windows := by
  obtain h | ⟨-, ⟨r, share, -, -, h⟩ | ⟨a, h⟩⟩ := portGrant_cases s <;> rw [h]
  · simp [State.grantPassing, Path.grant, Path.dequeue]
  · simp [State.grantAgent, Path.grant]

/-- Handing out a response changes, of the Through Path, at most what the upstream port answered. -/
theorem respond_bare (s : State) (g : Granted) (data : List Beat) (err : Bool) :
    ∃ up, (s.respond g data err).path.bare = { s.path.bare with upPort := up } := by
  unfold State.respond
  split
  · dsimp only
    split <;> exact ⟨_, rfl⟩
  · exact ⟨_, rfl⟩
  · dsimp only
    split
    · exact ⟨s.path.upPort, by simp; rfl⟩
    · exact ⟨_, rfl⟩

theorem downstreamResponse_path {s : State} (hs : s.path.Within) (data : List Beat) (err : Bool) :
    (downstreamResponse data err s).path.Within := by
  obtain ⟨hq, hh, hr, hsh, hb⟩ := hs
  unfold downstreamResponse
  split
  · exact ⟨hq, hh, hr, hsh, hb⟩
  · split
    · rename_i g rest hg
      obtain ⟨up, h⟩ := respond_bare (s.withPath { s.path with responses := rest }) g data err
      refine Path.Within.of_bare (p := { s.path with responses := rest, upPort := up }) h ⟨hq, hh, ?_, hsh, hb⟩
      rw [hg] at hr
      simp at hr
      show rest.length ≤ 32
      omega
    · exact ⟨hq, hh, hr, hsh, hb⟩

theorem downstreamResponse_windows (s : State) (data : List Beat) (err : Bool) :
    (downstreamResponse data err s).path.windows = s.path.windows := by
  unfold downstreamResponse
  split
  · rfl
  · split
    · obtain ⟨up, h⟩ := respond_bare (s.withPath { s.path with responses := ‹_› }) ‹_› data err
      have hw := congrArg Path.windows h
      exact hw
    · rfl

theorem softReset_path {s : State} (hs : s.path.Within) : (softReset s).path.Within := by
  obtain ⟨hq, hh, hr, hsh, hb⟩ := hs
  unfold softReset
  split
  · split
    · exact Path.Within.of_bare (result_bare _ _ _ _) ⟨hq, hh, by simpa [State.softReset, Path.softReset] using hr,
        Nat.zero_le 3, hb⟩
    · exact ⟨hq, hh, hr, hsh, hb⟩
  · exact ⟨hq, hh, hr, hsh, hb⟩

theorem softReset_windows {s : State} (hs : s.path.windows.Ok) : (softReset s).path.windows.Ok := by
  unfold softReset
  split
  · split
    · rw [result_windows]; exact hs.softReset
    · exact hs
  · exact hs

theorem pinReset_path (strap : BitVec 3) (s : State) : (pinReset strap s).path.Within := by
  simp [pinReset, State.pinReset, Path.reset, Path.Within, Windows.reset]

/-! ### Every command -/

/-- A command that may change the Through Path or its window table keeps both within their bounds. -/
theorem exec_path {c : Instr} {s t : State} (h : exec c s = .next t) :
    (s.path.Within → t.path.Within) ∧ (s.path.windows.Ok → t.path.windows.Ok) := by
  by_cases hm : Block.port ∈ mayChange c
  · cases c with
    | pinReset strap =>
      simp only [exec, execPinReset, Host.Outcome.next.injEq] at h
      exact h ▸ ⟨fun _ => pinReset_path strap s, fun _ => Windows.ok_reset strap⟩
    | softReset => rw [next_of_goOn h, commit_path]; exact ⟨softReset_path, softReset_windows⟩
    | passingRequest r =>
      simp only [exec, execPassingRequest] at h
      split at h
      · rw [next_of_goOn h, commit_path, passingRequest_windows]
        exact ⟨fun hs => passingRequest_path hs r, id⟩
      · cases h
    | portGrant => rw [next_of_goOn h, commit_path, portGrant_windows]; exact ⟨portGrant_path, id⟩
    | downstreamResponse data err =>
      rw [next_of_goOn h, commit_path, downstreamResponse_windows]
      exact ⟨fun hs => downstreamResponse_path hs data err, id⟩
    | windowBaseWrite => rw [next_of_goOn h, commit_path]; exact ⟨windowBaseWrite_path, windowBaseWrite_windows⟩
    | _ => simp [mayChange] at hm
  · have hb : t.path.bare = s.path.bare := exec_frame h .port hm
    exact ⟨Path.Within.of_bare hb, Windows.Ok.of_bare hb⟩

/-- Every command keeps the intakes within their places. -/
theorem exec_intakes {c : Instr} {s t : State} (h : exec c s = .next t) (hs : s.intakes.Within) : t.intakes.Within := by
  by_cases hm : Block.intakes ∈ mayChange c
  · cases c with
    | pinReset strap =>
      simp only [exec, execPinReset, Host.Outcome.next.injEq] at h
      exact h ▸ by simp [pinReset, State.pinReset, Intakes.reset, Intakes.Within]
    | softReset => rw [next_of_goOn h, commit_intakes]; exact softReset_intakes hs
    | dayOpen => rw [next_of_goOn h, commit_intakes]; exact dayOpen_intakes hs
    | clockSet => rw [next_of_goOn h, commit_intakes]; exact (clockSet_answers s).intakes hs
    | controlWordBeat => rw [next_of_goOn h, commit_intakes]; exact controlWordBeat_intakes hs
    | seatBeat => rw [next_of_goOn h, commit_intakes]; exact seatBeat_intakes hs
    | policyWrite => rw [next_of_goOn h, commit_intakes]; exact (policyWrite_answers s).intakes hs
    | producerValueTaken => rw [next_of_goOn h, commit_intakes]; exact producerValueTaken_intakes hs
    | autoSoldOutWrite => rw [next_of_goOn h, commit_intakes]; exact (autoSoldOutWrite_answers s).intakes hs
    | cuePush => rw [next_of_goOn h, commit_intakes]; exact (cuePush_answers s).intakes hs
    | cueCut => rw [next_of_goOn h, commit_intakes]; exact (cueCut_answers s).intakes hs
    | channelStop => rw [next_of_goOn h, commit_intakes]; exact (channelStop_answers s).intakes hs
    | restStillWrite => rw [next_of_goOn h, commit_intakes]; exact (restStillWrite_answers s).intakes hs
    | paneWrite => rw [next_of_goOn h, commit_intakes]; exact (paneWrite_answers s).intakes hs
    | ringEnableWrite => rw [next_of_goOn h, commit_intakes]; exact (ringEnableWrite_answers s).intakes hs
    | autoRestartWrite => rw [next_of_goOn h, commit_intakes]; exact (autoRestartWrite_answers s).intakes hs
    | ringRestart => rw [next_of_goOn h, commit_intakes]; exact (ringRestart_answers s).intakes hs
    | moduleQuery => rw [next_of_goOn h, commit_intakes]; exact (moduleQuery_answers s).intakes hs
    | moduleSet => rw [next_of_goOn h, commit_intakes]; exact (moduleSet_answers s).intakes hs
    | portGrant => rw [next_of_goOn h, commit_intakes]; exact portGrant_intakes hs
    | indexBeat => rw [next_of_goOn h, commit_intakes]; exact indexBeat_intakes hs
    | parameterEntry => rw [next_of_goOn h, commit_intakes]; exact (parameterEntry_answers s).intakes hs
    | windowBaseWrite => rw [next_of_goOn h, commit_intakes]; exact (windowBaseWrite_answers s).intakes hs
    | eventEnableWrite => rw [next_of_goOn h, commit_intakes]; exact (eventEnableWrite_answers s).intakes hs
    | interruptPolarityWrite => rw [next_of_goOn h, commit_intakes]; exact (interruptPolarityWrite_answers s).intakes hs
    | eventAck => rw [next_of_goOn h, commit_intakes]; exact (eventAck_answers s).intakes hs
    | readEntry => rw [next_of_goOn h, commit_intakes]; exact readEntry_intakes hs
    | _ => simp [mayChange] at hm
  · have : t.intakes = s.intakes := exec_frame h .intakes hm
    exact this ▸ hs

/-- Settles O7: a grant delivers only what has room, a request joins only a queue with room, and only a window table that passes its test is stored. -/
theorem everyStepKeepsThePathBounds : Obligations.EveryStepKeepsThePathBounds := by
  unfold Obligations.EveryStepKeepsThePathBounds
  intro s t h
  refine ⟨step_keeps (P := PathOk) (fun _ _ hp => hp) (fun c s t hc => ?_) h,
    step_keeps (P := WindowsOk) (fun _ _ hp => hp) (fun _ _ _ hc => (exec_path hc).2) h⟩
  rw [pathOk_iff, pathOk_iff]
  exact fun ⟨hpath, hintakes⟩ => ⟨(exec_path hc).1 hpath, exec_intakes hc hintakes⟩

/-! ### The part as a whole -/

/-- Settles O1: both are the definition of a step. -/
theorem stepRunsTheFrontCommand : Obligations.StepRunsTheFrontCommand := by
  unfold Obligations.StepRunsTheFrontCommand
  refine ⟨fun c rest s => rfl, fun s hs => ?_⟩
  simp [step, hs]

/-- A command whose operand is a request goes on. -/
theorem exec_completes {c : Instr} (s : State) (hc : ∀ r, c = .passingRequest r → r.wf = true) :
    ∃ t, exec c s = .next t := by
  cases c with
  | passingRequest r => exact ⟨_, by simp only [exec, execPassingRequest, hc r rfl, ite_true]; rfl⟩
  | _ => exact ⟨_, rfl⟩

theorem pending_not_mem_mayChange (c : Instr) : Block.pending ∉ mayChange c := by
  cases c <;> simp [mayChange]

/-- Settles O2: every arm but PASSING_REQUEST's goes on, and no command's frame holds the queue of commands. -/
theorem onlyMalformedRequestsStop : Obligations.OnlyMalformedRequestsStop := by
  unfold Obligations.OnlyMalformedRequestsStop
  refine ⟨fun c s hc => ?_, fun r s hr => ?_⟩
  · obtain ⟨t, ht⟩ := exec_completes s hc
    exact ⟨t, ht, exec_frame ht .pending (pending_not_mem_mayChange c)⟩
  · simp [exec, execPassingRequest, hr]

/-- Settles O3: every command but PIN_RESET answers a commit, which compares the mirrored values. -/
theorem mirrorChangesSetTheMark : Obligations.MirrorChangesSetTheMark := by
  unfold Obligations.MirrorChangesSetTheMark
  intro c s t hc h hne
  obtain ⟨u, rfl⟩ := exec_commit hc h
  rw [commit_mirror] at hne
  simp [commit_eq, Ne.symm hne]

end Sys2Proof.Machine
end

section
/-! The lobby clock and the board order under every step (R1 to R4, R23). -/

namespace Sys2Proof.Machine

/-! ### What the board order reads -/

/-- What the board order reads of an entry (R23). -/
def ShowEntry.boardKey (e : ShowEntry) : Bool × Nat × Nat := (e.state.visible, e.effStart, e.fields.auditorium)

/-- Tables whose entries the board order cannot tell apart have the same order. -/
theorem boardOf_congr {a b : Table 192 ShowEntry} (h : ∀ i, (a.get i).boardKey = (b.get i).boardKey) :
    boardOf a = boardOf b := by
  simp only [ShowEntry.boardKey, Prod.mk.injEq] at h
  have hbefore : boardBefore a = boardBefore b := by
    funext i j
    obtain ⟨-, hi, hi'⟩ := h i
    obtain ⟨-, hj, hj'⟩ := h j
    simp only [boardBefore, hi, hi', hj, hj']
  simp only [boardOf, hbefore, fun i => (h i).1]

theorem boardOf_modify {a : Table 192 ShowEntry} {i : Fin 192} {f : ShowEntry → ShowEntry}
    (h : ∀ e, (f e).boardKey = e.boardKey) : boardOf (a.modify i f) = boardOf a := by
  refine boardOf_congr fun j => ?_
  by_cases hij : i = j
  · subst hij; simp [h]
  · simp [hij]

theorem boardOf_reset : boardOf (Table.replicate 192 ShowEntry.reset) = [] := by
  simp [boardOf, ShowEntry.reset, ShowState.visible]

@[simp] theorem enterFetching_boardKey (e : ShowEntry) : e.enterFetching.boardKey = e.boardKey := by
  unfold ShowEntry.enterFetching
  cases h : e.state <;> simp [ShowEntry.boardKey, h, ShowState.visible]

/-! ### The two invariants of the tracker -/

/-- The clock within its day (R1). -/
def Tracker.ClockOk (t : Tracker) : Prop := t.seconds ≤ 107999 ∧ (t.held = true ↔ t.seconds = 107999)

/-- The board order up to date (R23). -/
def Tracker.BoardOk (t : Tracker) : Prop := t.board = boardOf t.entries

/-- What a tracker operation from t to u keeps. -/
def Tracker.Keeps (t u : Tracker) : Prop := (t.ClockOk → u.ClockOk) ∧ (t.BoardOk → u.BoardOk)

theorem Tracker.Keeps.refl (t : Tracker) : t.Keeps t := ⟨id, id⟩

theorem Tracker.Keeps.trans {t u v : Tracker} (h : t.Keeps u) (k : u.Keeps v) : t.Keeps v :=
  ⟨k.1 ∘ h.1, k.2 ∘ h.2⟩

/-- What leaves the clock as it stands and brings the order up to date. -/
theorem Tracker.Keeps.of_settled {t u : Tracker} (hsec : u.seconds = t.seconds) (hheld : u.held = t.held)
    (hboard : u.board = boardOf u.entries) : t.Keeps u := by
  refine ⟨fun h => ?_, fun _ => hboard⟩
  unfold Tracker.ClockOk at *
  rwa [hsec, hheld]

/-- What leaves the clock and the order as they stand, and every entry as the order reads it. -/
theorem Tracker.Keeps.of_unread {t u : Tracker} (hsec : u.seconds = t.seconds) (hheld : u.held = t.held)
    (hboard : u.board = t.board) (hkeys : ∀ i, (u.entries.get i).boardKey = (t.entries.get i).boardKey) :
    t.Keeps u := by
  refine ⟨fun h => ?_, fun h => ?_⟩
  · unfold Tracker.ClockOk at *
    rwa [hsec, hheld]
  · unfold Tracker.BoardOk at *
    rw [hboard, h, boardOf_congr hkeys]

/-- An entry changed in what the order does not read. -/
theorem Tracker.Keeps.of_modify (t : Tracker) (i : Fin 192) (f : ShowEntry → ShowEntry) (n : Nat)
    (h : ∀ e, (f e).boardKey = e.boardKey) : t.Keeps { t with entries := t.entries.modify i f, fetchCount := n } := by
  refine .of_unread rfl rfl rfl fun j => ?_
  by_cases hij : i = j
  · subst hij; simp [h]
  · simp [hij]

/-! ### The tracker's operations -/

theorem settle_keeps (p : Tracker × List Out) : p.1.Keeps (Tracker.settle p).1 := .of_settled rfl rfl rfl

theorem evaluateAll_keeps (t : Tracker) (g d : Nat) : t.Keeps (t.evaluateAll g d).1 := .of_settled rfl rfl rfl

theorem issueRecord_keeps (t : Tracker) (w : Windows) (i : Fin 192) : t.Keeps (t.issueRecord w i).1 :=
  .of_modify t i _ _ fun _ => rfl

theorem issueTitle_keeps (t : Tracker) (i : Fin 192) : t.Keeps (t.issueTitle i).1 := .of_modify t i _ _ fun _ => rfl

theorem startFetch_keeps (t : Tracker) (w : Windows) (i : Fin 192) : t.Keeps (t.startFetch w i).1 :=
  (Tracker.Keeps.of_modify t i _ t.fetchCount enterFetching_boardKey).trans (issueRecord_keeps _ w i)

theorem refetch_keeps (t : Tracker) (w : Windows) (i : Fin 192) : t.Keeps (t.refetch w i).1 := by
  have hflag := Tracker.Keeps.of_modify t i (fun e => { e with refetch := false }) t.fetchCount fun _ => rfl
  unfold Tracker.refetch
  split
  · dsimp only
    split
    · exact hflag
    · exact hflag.trans (startFetch_keeps _ w i)
  · exact .refl t

theorem controlBeat_keeps (t : Tracker) (w : Windows) (i : Fin 192) : t.Keeps (t.controlBeat w i).1 := by
  unfold Tracker.controlBeat
  split
  · exact startFetch_keeps t w i
  · exact .of_modify t i _ t.fetchCount fun _ => rfl

theorem afterRecord_keeps (t : Tracker) (w : Windows) (i : Fin 192) (title : Bool) :
    t.Keeps (t.afterRecord w i title).1 := by
  unfold Tracker.afterRecord
  split
  · exact issueTitle_keeps t i
  · exact refetch_keeps t w i

theorem recordDone_keeps (t : Tracker) (w : Windows) (x : EvalAt) (i : Fin 192) (bs : List Byte) (err : Bool) :
    t.Keeps (t.recordDone w x i bs err).1 := by
  unfold Tracker.recordDone andThen
  dsimp only
  refine Tracker.Keeps.trans ?_ (afterRecord_keeps _ w i _)
  exact .of_settled rfl rfl rfl

theorem titleDone_keeps (t : Tracker) (w : Windows) (i : Fin 192) (bs : List Byte) (err : Bool) :
    t.Keeps (t.titleDone w i bs err).1 :=
  (Tracker.Keeps.of_modify t i (fun e => { e with
    fetch := .none
    title := if err then e.title else textOf e.fields.titleAddr e.fields.titleLen bs }) t.fetchCount
    fun _ => rfl).trans (refetch_keeps _ w i)

theorem changeShow_keeps (t : Tracker) (i : Fin 192) (e : ShowEntry) : t.Keeps (t.changeShow i e).1 :=
  .of_settled rfl rfl rfl

theorem delayEffect_keeps (t : Tracker) (x : EvalAt) (id m : Nat) : t.Keeps (t.delayEffect x id m).1 := by
  unfold Tracker.delayEffect
  split
  · exact .refl t
  · dsimp only
    split
    · split
      · exact .refl t
      · exact changeShow_keeps t _ _
    · exact .refl t

theorem undelayEffect_keeps (t : Tracker) (x : EvalAt) (id m : Nat) : t.Keeps (t.undelayEffect x id m).1 := by
  unfold Tracker.undelayEffect
  split
  · exact .refl t
  · dsimp only
    split
    · exact changeShow_keeps t _ _
    · exact .refl t

theorem cancelEffect_keeps (t : Tracker) (id : Nat) : t.Keeps (t.cancelEffect id).1 := by
  unfold Tracker.cancelEffect
  split
  · exact .refl t
  · dsimp only
    split
    · exact .of_settled rfl rfl rfl
    · exact .refl t

theorem tick_keeps (t : Tracker) : t.Keeps t.tick := by
  unfold Tracker.tick
  split
  · exact .of_unread rfl rfl rfl fun _ => rfl
  · exact .refl t

/-- A second completed below the last one: the clock is held exactly on reaching it (R1). -/
theorem advance_keeps {t : Tracker} (h : t.seconds < lastSecond) : t.Keeps t.advance.1 := by
  refine ⟨fun ⟨hle, hheld⟩ => ?_, fun hb => hb⟩
  unfold lastSecond at h
  have hfalse : t.held = false := by
    rw [Bool.eq_false_iff, ne_eq, hheld]
    omega
  refine ⟨?_, ?_⟩
  · show t.seconds + 1 ≤ 107999
    omega
  · simp [Tracker.advance, hfalse, lastSecond]

theorem setClock_clockOk (t : Tracker) (v : Nat) : (t.setClock v).ClockOk := by
  simp [Tracker.setClock, Tracker.ClockOk, lastSecond]

theorem clockSet_keeps (t : Tracker) (g d v : Nat) : t.Keeps (t.clockSet g d v).1 :=
  ⟨fun _ => (evaluateAll_keeps (t.setClock v) g d).1 (setClock_clockOk t v), fun _ => rfl⟩

theorem boundary_keeps (t : Tracker) (g d : Nat) : t.Keeps (t.boundary g d).1 := .of_settled rfl rfl rfl

theorem trackerDayOpen_keeps (t : Tracker) (v : Nat) : t.Keeps (t.dayOpen v).1 :=
  ⟨fun _ => setClock_clockOk t v, fun _ => boardOf_reset.symm⟩

/-! ### The commands -/

/-- Sending writes no more of an entry than its seat status and bound slot. -/
theorem emit_keeps (s : State) (outs : List Out) : s.tracker.Keeps (s.emit outs).tracker := by
  refine .of_unread (emit_seconds s outs) (emit_clockHeld s outs) (emit_board s outs) fun i => ?_
  obtain ⟨st, sl, h⟩ := emit_entry s outs i
  rw [h]; rfl

/-- What leaves the clock and the entries but for their seat fields keeps both. -/
theorem Frame.keeps {bs : List Block} {s t : State} (h : Frame bs s t) (hclock : Block.clock ∉ bs)
    (hentries : Block.entries ∉ bs) : s.tracker.Keeps t.tracker := by
  have hbare : t.tracker.bare = s.tracker.bare := h .clock hclock
  have hent : ∀ i, (t.tracker.entries.get i).bare = (s.tracker.entries.get i).bare := h .entries hentries
  have hsec := congrArg Tracker.seconds hbare
  have hheld := congrArg Tracker.held hbare
  have hboard := congrArg Tracker.board hbare
  have hkeys := fun i => congrArg ShowEntry.boardKey (hent i)
  exact .of_unread hsec hheld hboard hkeys

/-- A tracker operation put in place. -/
theorem Tracker.Keeps.trackerDo {t : Tracker} {p : Tracker × List Out} (h : t.Keeps p.1) (s : State) :
    t.Keeps (s.trackerDo p).tracker := h.trans (emit_keeps (s.withTracker p.1) p.2)

theorem secondAdvance_keeps (s : State) : s.tracker.Keeps (secondAdvance s).tracker := by
  unfold secondAdvance
  split
  · rename_i h
    exact (advance_keeps h.2).trackerDo _
  · exact .refl _

theorem takeOutstanding_keeps (s : State) : s.tracker.Keeps s.takeOutstanding.tracker := by
  have hon := (alertLineAsserted_frame (secondAdvance s)).keeps (by simp) (by simp)
  have hoff := (alertLineDeasserted_frame (alertLineAsserted (secondAdvance s))).keeps (by simp) (by simp)
  have hhush := (hushLineChange_frame (alertLineDeasserted (alertLineAsserted (secondAdvance s)))).keeps (by simp) (by simp)
  exact (((secondAdvance_keeps s).trans hon).trans hoff).trans hhush

theorem millisecondTick_keeps (a b : Bool) (s : State) : s.tracker.Keeps (millisecondTick a b s).tracker :=
  (takeOutstanding_keeps s).trans (tick_keeps _)

theorem minuteBoundary_keeps (s : State) : s.tracker.Keeps (minuteBoundary s).tracker := by
  unfold minuteBoundary
  split
  · exact (boundary_keeps _ _ _).trackerDo _
  · exact .refl _

theorem dayOpen_keeps (s : State) : s.tracker.Keeps (dayOpen s).tracker := by
  unfold dayOpen
  split
  · split
    · dsimp only
      refine Tracker.Keeps.trans ?_ ((trackerDayOpen_keeps _ _).trackerDo _)
      exact emit_keeps ((State.withSetup s.takeEntry _).withMail _) _
    · exact .refl _
  · exact .refl _

theorem clockSet_command_keeps (s : State) : s.tracker.Keeps (clockSet s).tracker := by
  unfold clockSet
  split
  · split
    · rw [result_tracker]
      exact (clockSet_keeps _ _ _ _).trackerDo _
    · exact .refl _
  · exact .refl _

theorem controlWordBeat_keeps (s : State) : s.tracker.Keeps (controlWordBeat s).tracker := by
  unfold controlWordBeat
  split
  · exact .refl _
  · dsimp only
    split
    · exact .refl _
    · exact (controlBeat_keeps _ _ _).trackerDo _

theorem recordFetchDone_keeps (s : State) : s.tracker.Keeps (recordFetchDone s).tracker := by
  unfold recordFetchDone
  split
  · dsimp only
    split
    · exact (recordDone_keeps _ _ _ _ _ _).trackerDo _
    · exact .refl _
  · exact .refl _

theorem titleFetchDone_keeps (s : State) : s.tracker.Keeps (titleFetchDone s).tracker := by
  unfold titleFetchDone
  split
  · dsimp only
    split
    · exact (titleDone_keeps _ _ _ _ _).trackerDo _
    · exact .refl _
  · exact .refl _

theorem delayEffect_command_keeps (s : State) : s.tracker.Keeps (delayEffect s).tracker := by
  unfold delayEffect
  split
  · exact (delayEffect_keeps _ _ _ _).trackerDo _
  · exact .refl _

theorem undelayEffect_command_keeps (s : State) : s.tracker.Keeps (undelayEffect s).tracker := by
  unfold undelayEffect
  split
  · exact (undelayEffect_keeps _ _ _ _).trackerDo _
  · exact .refl _

theorem cancelEffect_command_keeps (s : State) : s.tracker.Keeps (cancelEffect s).tracker := by
  unfold cancelEffect
  split
  · exact (cancelEffect_keeps _ _).trackerDo _
  · exact .refl _

theorem reset_keeps (t : Tracker) : t.Keeps Tracker.reset :=
  ⟨fun _ => by simp [Tracker.reset, Tracker.ClockOk], fun _ => boardOf_reset.symm⟩

theorem softReset_keeps (s : State) : s.tracker.Keeps (softReset s).tracker := by
  unfold softReset
  split
  · split
    · rw [result_tracker]
      exact reset_keeps _
    · exact .refl _
  · exact .refl _

/-- Every command keeps the clock within its day and the board order up to date. -/
theorem exec_clock_board {c : Instr} {s t : State} (h : exec c s = .next t) : s.tracker.Keeps t.tracker := by
  by_cases hm : Block.clock ∈ mayChange c ∨ Block.entries ∈ mayChange c
  · cases c with
    | pinReset strap =>
      simp only [exec, execPinReset, Host.Outcome.next.injEq] at h
      exact h ▸ reset_keeps _
    | softReset => rw [next_of_goOn h, commit_tracker]; exact softReset_keeps s
    | millisecondTick a b => rw [next_of_goOn h, commit_tracker]; exact millisecondTick_keeps a b s
    | secondAdvance => rw [next_of_goOn h, commit_tracker]; exact secondAdvance_keeps s
    | minuteBoundary => rw [next_of_goOn h, commit_tracker]; exact minuteBoundary_keeps s
    | dayOpen => rw [next_of_goOn h, commit_tracker]; exact dayOpen_keeps s
    | clockSet => rw [next_of_goOn h, commit_tracker]; exact clockSet_command_keeps s
    | controlWordBeat => rw [next_of_goOn h, commit_tracker]; exact controlWordBeat_keeps s
    | recordFetchDone => rw [next_of_goOn h, commit_tracker]; exact recordFetchDone_keeps s
    | titleFetchDone => rw [next_of_goOn h, commit_tracker]; exact titleFetchDone_keeps s
    | delayEffect => rw [next_of_goOn h, commit_tracker]; exact delayEffect_command_keeps s
    | undelayEffect => rw [next_of_goOn h, commit_tracker]; exact undelayEffect_command_keeps s
    | cancelEffect => rw [next_of_goOn h, commit_tracker]; exact cancelEffect_command_keeps s
    | _ => simp [mayChange] at hm
  · rw [not_or] at hm
    exact (exec_frame h).keeps hm.1 hm.2

/-- Settles O8: the tracker changes what the board order reads only in operations that settle the order. -/
theorem everyStepKeepsTheClockAndTheBoard : Obligations.EveryStepKeepsTheClockAndTheBoard := by
  unfold Obligations.EveryStepKeepsTheClockAndTheBoard
  intro s t h
  exact ⟨step_keeps (P := ClockOk) (fun _ _ hp => hp) (fun _ _ _ hc => (exec_clock_board hc).1) h,
    step_keeps (P := BoardOk) (fun _ _ hp => hp) (fun _ _ _ hc => (exec_clock_board hc).2) h⟩

end Sys2Proof.Machine
end

section
/-! The trailer channels under every step (R80, R81, R86, R88, R93): ranks and state fit together, numbers and counts stay within their bounds. -/

namespace Sys2Proof.Machine

/-! ### A step taken for each member of a list -/

/-- What every single step keeps, the steps together keep. -/
theorem forAll_keeps {σ α : Type} {P : σ → Prop} {f : α → σ → σ × List Out} (h : ∀ a x, P x → P (f a x).1)
    (xs : List α) {x : σ} (hx : P x) : P (forAll xs f x).1 := by
  have (p : σ × List Out) (hp : P p.1) : P (xs.foldl (fun p a => andThen p (f a)) p).1 := by
    induction xs generalizing p with
    | nil => exact hp
    | cons a xs ih => exact ih _ (h a p.1 hp)
  exact this (x, []) hx

/-! ### What a channel's invariant says -/

/-- The numbers a channel keeps are at most its load count, and its counts within their bounds (R80, R81, R88, R93). -/
def Channel.Counted (c : Channel) : Prop :=
  (c.nos.current ≤ c.loads ∧ c.nos.next ≤ c.loads ∧ c.nos.pointer ≤ c.loads ∧ c.nos.frame ≤ c.loads ∧
    c.nos.rest ≤ c.loads) ∧ c.skips ≤ 3 ∧ c.late ≤ 65535

/-- A channel that plays: not IDLE, a cue in its current rank. -/
def Channel.Busy (c : Channel) : Prop := c.state ≠ .idle ∧ c.current ≠ .empty ∧ c.Counted

theorem Channel.Busy.ok {c : Channel} (h : c.Busy) : c.ok := by
  obtain ⟨hstate, hcur, hnos, hcounts⟩ := h
  exact ⟨⟨fun h => absurd h hstate, fun h => absurd h hcur⟩, fun _ => hcur, hnos, hcounts⟩

theorem Channel.ok.counted {c : Channel} (h : c.ok) : c.Counted := ⟨h.2.2.1, h.2.2.2⟩

theorem Channel.ok.busy {c : Channel} (h : c.ok) (hstate : c.state ≠ .idle) : c.Busy :=
  ⟨hstate, fun hcur => hstate (h.1.2 hcur), h.counted⟩

theorem Channel.ok.busy_of_current {c : Channel} (h : c.ok) (hcur : c.current ≠ .empty) : c.Busy :=
  ⟨fun hstate => hcur (h.1.1 hstate), hcur, h.counted⟩

/-- What leaves state and ranks as they stand. -/
theorem Channel.ok.of_same {c d : Channel} (h : c.ok) (hstate : d.state = c.state) (hcur : d.current = c.current)
    (hnext : d.next = c.next) (hd : d.Counted) : d.ok := by
  obtain ⟨hidle, hrank, -⟩ := h
  exact ⟨by rw [hstate, hcur]; exact hidle, by rw [hnext, hcur]; exact hrank, hd.1, hd.2⟩

/-! ### Load numbers and fetches -/

theorem Channel.Counted.number {c : Channel} (h : c.Counted) (p : Purpose) : (c.number p).Counted := by
  obtain ⟨⟨h1, h2, h3, h4, h5⟩, hskips, hlate⟩ := h
  refine ⟨?_, hskips, hlate⟩
  cases p <;> simp [LoadNos.set] <;> omega

theorem Channel.Counted.abandonFill {c : Channel} (h : c.Counted) : c.abandonFill.Counted := by
  unfold Channel.abandonFill
  split
  · exact h
  · exact h.number _

@[simp] theorem abandonFill_state (c : Channel) : c.abandonFill.state = c.state := by rw [abandonFill_eq]
@[simp] theorem abandonFill_current (c : Channel) : c.abandonFill.current = c.current := by rw [abandonFill_eq]
@[simp] theorem abandonFill_next (c : Channel) : c.abandonFill.next = c.next := by rw [abandonFill_eq]
@[simp] theorem abandonFill_skips (c : Channel) : c.abandonFill.skips = c.skips := by rw [abandonFill_eq]

theorem Channel.Busy.abandonFill {c : Channel} (h : c.Busy) : c.abandonFill.Busy :=
  ⟨by rw [abandonFill_state]; exact h.1, by rw [abandonFill_current]; exact h.2.1, h.2.2.abandonFill⟩

theorem Channel.Busy.fetch {c : Channel} (h : c.Busy) (q : Cue) (k : Nat) (what : FillFor) :
    (c.fetch q k what).Busy := by
  obtain ⟨hstate, hcur, hcount⟩ := h
  unfold Channel.fetch
  split
  · exact ⟨hstate, hcur, hcount.number .pointer⟩
  · exact ⟨hstate, hcur, hcount.number .frame⟩

theorem Channel.Counted.dropLoad {c : Channel} (h : c.Counted) (p : Purpose) (r : Rank) : (c.dropLoad p r).Counted := by
  cases r with
  | loading a => exact h.number p
  | empty => exact h
  | ready a q => exact h

theorem Channel.ok.showRest {c : Channel} (h : c.ok) (ch : Fin 8) (rest : RestParams) : (c.showRest ch rest).1.ok := by
  unfold Channel.showRest
  split
  · exact h
  · exact h.of_same rfl rfl rfl (h.counted.number .rest)

/-- Whatever a channel was, IDLE it fits together. -/
theorem Channel.Counted.goIdle {c : Channel} (h : c.Counted) (ch : Fin 8) (rest : RestParams) :
    (c.goIdle ch rest).1.ok := by
  have hn := ((h.abandonFill.dropLoad .current c.current).dropLoad .next c.next)
  refine Channel.ok.showRest ?_ ch rest
  exact ⟨by simp, by simp, hn.1, Nat.zero_le 3, hn.2.2⟩

/-! ### Cue loads -/

theorem Channel.Counted.loadCurrent {c : Channel} (h : c.Counted) (hstate : c.state ≠ .idle) (ch : Fin 8)
    (rest : RestParams) (a : Addr) : (c.loadCurrent ch rest a).1.ok := by
  unfold Channel.loadCurrent
  split
  · exact Channel.Busy.ok ⟨hstate, by simp, h.number .current⟩
  · exact h.goIdle ch rest

theorem Channel.Busy.loadNext {c : Channel} (h : c.Busy) (ch : Fin 8) (a : Addr) : (c.loadNext ch a).1.Busy := by
  unfold Channel.loadNext
  split
  · exact ⟨h.1, h.2.1, h.2.2.number .next⟩
  · exact h

theorem Channel.Counted.carry {c : Channel} (h : c.Counted) (hstate : c.state ≠ .idle) (hnext : c.next ≠ .empty) :
    c.carry.Busy := by
  obtain ⟨⟨h1, h2, h3, h4, h5⟩, hcounts⟩ := h.abandonFill
  refine ⟨by simpa [Channel.carry, Channel.number] using hstate, by simpa [Channel.carry, Channel.number] using hnext, ?_⟩
  have hn : Channel.Counted { c.abandonFill with
      current := c.abandonFill.next, next := .empty, periodsLeft := 0
      nos := { c.abandonFill.nos with current := c.abandonFill.nos.next } } := ⟨⟨h2, h2, h3, h4, h5⟩, hcounts⟩
  exact hn.number .next

/-! ### Stale cues -/

theorem Channel.Busy.beginFresh {c : Channel} (h : c.Busy) (q : Cue) : (c.beginFresh q).1.Busy :=
  h.abandonFill.fetch q 0 (.frame 0)

theorem Channel.Counted.skip {c : Channel} (h : c.Counted) (hstate : c.state ≠ .idle) (ch : Fin 8) (rest : RestParams)
    (q : Cue) {promoted : Channel → Channel × List Out} (hp : ∀ c : Channel, c.Busy → (promoted c).1.ok) :
    (c.skip ch rest q promoted).1.ok := by
  unfold Channel.skip
  split
  · exact h.goIdle ch rest
  · rename_i hlt
    have hn : Channel.Counted { c.abandonFill with skips := c.skips + 1 } :=
      ⟨h.abandonFill.1, by show c.skips + 1 ≤ 3; omega, h.abandonFill.2.2⟩
    have hs : c.abandonFill.state ≠ .idle := by rwa [abandonFill_state]
    dsimp only
    split
    · rename_i a hnext
      exact (hn.carry hs (by simp only; rw [hnext]; simp)).ok
    · exact hp _ ⟨hs, by simp, hn⟩
    · split
      · exact hn.loadCurrent hs ch rest _
      · exact hn.goIdle ch rest

theorem Channel.Busy.judgeWith {c : Channel} (h : c.Busy) (s : State) (ch : Fin 8) (rest : RestParams)
    {promoted : Channel → Channel × List Out} {begin_ : Cue → Channel → Channel × List Out}
    (hp : ∀ c : Channel, c.Busy → (promoted c).1.ok) (hb : ∀ (q : Cue) (c : Channel), c.Busy → (begin_ q c).1.ok) :
    (c.judgeWith s ch rest promoted begin_).1.ok := by
  unfold Channel.judgeWith
  split
  · split
    · exact h.2.2.skip h.1 ch rest _ hp
    · exact hb _ _ ⟨h.1, h.2.1, h.2.2.1, Nat.zero_le 3, h.2.2.2.2⟩
  · exact h.ok

theorem Channel.Busy.judge {c : Channel} (h : c.Busy) (s : State) (ch : Fin 8) (rest : RestParams)
    {begin_ : Cue → Channel → Channel × List Out} (hb : ∀ (q : Cue) (c : Channel), c.Busy → (begin_ q c).1.ok) :
    (c.judge s ch rest begin_).1.ok :=
  h.judgeWith s ch rest (fun _ hc => hc.judgeWith s ch rest (fun _ hd => hd.ok) fun q _ hd => (hd.beginFresh q).ok) hb

theorem Channel.Busy.judgeFresh {c : Channel} (h : c.Busy) (s : State) (ch : Fin 8) (rest : RestParams) :
    (c.judge s ch rest Channel.beginFresh).1.ok := h.judge s ch rest fun q _ hc => (hc.beginFresh q).ok

theorem Channel.Counted.badCurrent {c : Channel} (h : c.Counted) (hstate : c.state ≠ .idle) (s : State) (ch : Fin 8)
    (rest : RestParams) : (c.badCurrent s ch rest).1.ok := by
  unfold Channel.badCurrent andThen
  dsimp only
  split
  · exact Channel.Counted.goIdle (c := { c with current := .empty }) h ch rest
  · exact (h.carry hstate (by rw [‹c.next = _›]; simp)).ok
  · exact Channel.Busy.judgeFresh (c := { c with current := .ready _ _, next := .empty }) ⟨hstate, by simp, h⟩ s ch rest

theorem Channel.ok.loadDone {c : Channel} (h : c.ok) (s : State) (ch : Fin 8) (rest : RestParams) (no : Nat)
    (bs : List Byte) (err : Bool) : (c.loadDone s ch rest no bs err).1.ok := by
  unfold Channel.loadDone
  dsimp only
  split
  · rename_i a _ _ hcur
    have hb : c.Busy := h.busy_of_current (by rw [hcur]; simp)
    split
    · exact Channel.Busy.judgeFresh (c := { c with current := .ready _ _ }) ⟨hb.1, by simp, hb.2.2⟩ s ch rest
    · exact hb.2.2.badCurrent hb.1 s ch rest
  · rename_i hnext _
    have hcur : c.current ≠ .empty := h.2.1 (by rw [hnext]; simp)
    have hb : c.Busy := h.busy_of_current hcur
    split
    · exact Channel.Busy.ok ⟨hb.1, hcur, hb.2.2⟩
    · exact Channel.Busy.ok ⟨hb.1, hcur, hb.2.2⟩
  · exact h

/-! ### Slots and segments -/

theorem Channel.Busy.segmentStart {c : Channel} (h : c.Busy) (ch : Fin 8) (q : Cue) : (c.segmentStart ch q).1.Busy := by
  unfold Channel.segmentStart
  dsimp only
  split
  · split
    · exact Channel.Busy.loadNext (c := { c with repeatsLeft := q.repeats }) h ch _
    · exact h
  · exact h

theorem Channel.Busy.prefetch {c : Channel} (h : c.Busy) (q : Cue) : (c.prefetch q).Busy := by
  unfold Channel.prefetch
  dsimp only
  split
  · exact h.abandonFill.fetch _ _ _
  · split
    · exact h.abandonFill.fetch _ _ _
    · split
      · exact h.abandonFill.fetch _ _ _
      · split
        · exact h.abandonFill.fetch _ _ _
        · exact h.abandonFill

theorem sat16_le (n : Nat) : sat16 n ≤ 65535 := Nat.min_le_right _ _

theorem Channel.Busy.showOrDrop {c : Channel} (h : c.Busy) (ch : Fin 8) : (c.showOrDrop ch).1.Busy := by
  unfold Channel.showOrDrop
  split
  · exact h
  · exact ⟨h.abandonFill.1, h.abandonFill.2.1, h.abandonFill.2.2.1, h.abandonFill.2.2.2.1, sat16_le c.late⟩

theorem Channel.Busy.slot {c : Channel} (h : c.Busy) (ch : Fin 8) (q : Cue) (k : Nat) (starts : Bool) :
    (c.slot ch q k starts).1.Busy := by
  have hshown := h.showOrDrop ch
  unfold Channel.slot andThen
  dsimp only
  refine Channel.Busy.prefetch ?_ q
  have hn : Channel.Busy { (c.showOrDrop ch).1 with
      position := k, periodsLeft := q.multiple
      state := if (c.showOrDrop ch).1.state = .starting then .running else (c.showOrDrop ch).1.state } := by
    refine ⟨?_, hshown.2.1, hshown.2.2⟩
    dsimp only
    split
    · simp
    · exact hshown.1
  split
  · exact hn.segmentStart ch q
  · exact hn

theorem Channel.Busy.awaitedBoundary {c : Channel} (h : c.Busy) (ch : Fin 8) (q : Cue) :
    (c.awaitedBoundary ch q).1.Busy := by
  unfold Channel.awaitedBoundary
  split
  · exact h
  · exact h.slot _ _ _ _

theorem Channel.Busy.follow {c : Channel} (h : c.Busy) (ch : Fin 8) (ofNext resume : Bool) (q : Cue) :
    (c.follow ch ofNext resume q).1.Busy := by
  unfold Channel.follow
  have hkept : Channel.Busy { c with fillFor := .frame 0, awaited := true, begins := true } := h
  split
  · dsimp only
    split
    · exact hkept
    · split
      · exact hkept.awaitedBoundary ch q
      · exact h.slot _ _ _ _
  · exact h.beginFresh q

theorem Channel.Counted.segmentEnd {c : Channel} (h : c.Counted) (hstate : c.state ≠ .idle) (s : State) (ch : Fin 8)
    (rest : RestParams) (command : Bool) : (c.segmentEnd s ch rest command).1.ok := by
  have hn : Channel.Counted { c with periodsLeft := 0, resume := false } := h
  have hlast : (match c.next with
      | .loading _ => (Channel.carry { c with periodsLeft := 0, resume := false }, [])
      | _ => Channel.goIdle ch rest { c with periodsLeft := 0, resume := false }).1.ok := by
    split
    · exact (hn.carry hstate (by simp only; rw [‹c.next = _›]; simp)).ok
    · exact hn.goIdle ch rest
  unfold Channel.segmentEnd
  dsimp only
  split
  · exact Channel.Busy.judge
      (c := { c with periodsLeft := 0, resume := false, current := .ready _ _, next := .empty })
      ⟨hstate, by simp, hn⟩ s ch rest fun q _ hc => (hc.follow ch true _ q).ok
  · split
    · rename_i hcur
      split
      · exact Channel.Busy.judge (c := { c with periodsLeft := 0, resume := false }) ⟨hstate, by rw [hcur]; simp, hn⟩ s ch rest
          fun q _ hc => (hc.follow ch false _ q).ok
      · exact hlast
    · exact hlast

theorem Channel.Busy.due {c : Channel} (h : c.Busy) (ch : Fin 8) (q : Cue) (k : Nat) : (c.due ch q k).1.Busy := by
  unfold Channel.due
  split
  · exact Channel.Busy.awaitedBoundary (c := { c with resume := false, awaited := true, begins := false }) h ch q
  · exact h.slot _ _ _ _

theorem Channel.Busy.runOut {c : Channel} (h : c.Busy) (s : State) (ch : Fin 8) (rest : RestParams) (q : Cue) :
    (c.runOut s ch rest q).1.ok := by
  unfold Channel.runOut
  split
  · exact (h.due _ _ _).ok
  · split
    · exact (Channel.Busy.due (c := { c with repeatsLeft := c.repeatsLeft - 1 }) h _ _ _).ok
    · exact h.2.2.segmentEnd h.1 _ _ _ _

theorem Channel.Busy.takeCut {c : Channel} (h : c.Busy) (s : State) (ch : Fin 8) (rest : RestParams) (cause : Cut) :
    (c.takeCut s ch rest cause).1.ok := by
  unfold Channel.takeCut
  dsimp only
  split
  · exact Channel.Counted.segmentEnd (c := { c.number .current with cut := none, current := .empty })
      (h.2.2.number .current) h.1 _ _ _ _
  · exact Channel.Counted.segmentEnd (c := { c with cut := none }) h.2.2 h.1 _ _ _ _

theorem Channel.ok.boundary {c : Channel} (h : c.ok) (s : State) (ch : Fin 8) (rest : RestParams) :
    (c.boundary s ch rest).1.ok := by
  unfold Channel.boundary
  split
  · exact h
  · rename_i hstate
    have hb := h.busy hstate
    split
    · exact hb.takeCut _ _ _ _
    · split
      · exact h
      · split
        · split
          · exact (hb.awaitedBoundary _ _).ok
          · split
            · dsimp only
              split
              · exact Channel.Busy.runOut (c := { c with periodsLeft := c.periodsLeft - 1 }) hb _ _ _ _
              · exact h
            · exact h
        · exact h

/-! ### Commands, hush and notes -/

theorem Channel.ok.push {c : Channel} (h : c.ok) (ch : Fin 8) (rest : RestParams) (hush : Bool) (a : Addr) :
    (c.push ch rest hush a).1.ok := by
  unfold Channel.push
  split
  · refine Channel.Counted.loadCurrent (c := { c.abandonFill with
      state := if hush then .held else .starting, shownMark := false }) h.counted.abandonFill ?_ ch rest a
    dsimp only
    split <;> simp
  · rename_i hstate
    split
    · exact ((h.busy hstate).loadNext ch a).ok
    · exact h

theorem Channel.ok.cutNow {c : Channel} (h : c.ok) : c.cutNow.ok := by
  unfold Channel.cutNow
  split
  · exact h
  · exact h

theorem Channel.ok.stop {c : Channel} (h : c.ok) (ch : Fin 8) (rest : RestParams) : (c.stop ch rest).1.ok := by
  unfold Channel.stop
  split
  · exact h
  · exact h.counted.goIdle ch rest

theorem Channel.ok.showNote {c : Channel} (h : c.ok) (n : ShowNote) : (c.showNote n).ok := by
  unfold Channel.showNote
  split
  · split
    · exact h
    · exact h
  · exact h

theorem Channel.ok.hold {c : Channel} (h : c.ok) : c.hold.ok := by
  unfold Channel.hold
  split
  · have hb := h.busy (by rw [‹c.state = _›]; simp)
    exact Channel.Busy.ok ⟨by simp, hb.2⟩
  · have hb := h.busy (by rw [‹c.state = _›]; simp)
    exact Channel.Busy.ok ⟨by simp, hb.2⟩
  · exact h

theorem Channel.ok.unhold {c : Channel} (h : c.ok) : c.unhold.ok := by
  unfold Channel.unhold
  split
  · have hb := h.busy (by rw [‹c.state = _›]; simp)
    split
    · split
      · exact Channel.Busy.ok ⟨by simp, hb.2⟩
      · exact Channel.Busy.ok ⟨by simp, hb.2⟩
    · exact Channel.Busy.ok ⟨by simp, hb.2⟩
  · exact h

/-! ### Reads -/

theorem Channel.ok.readOut {c : Channel} (h : c.ok) (ch : Fin 8) : (c.readOut ch).1.ok := by
  unfold Channel.readOut
  split
  · exact h
  · exact h

theorem Channel.ok.pointerDone {c : Channel} (h : c.ok) (no : Nat) (bs : List Byte) (err : Bool) :
    (c.pointerDone no bs err).ok := by
  unfold Channel.pointerDone
  split
  · split
    · dsimp only
      split
      · exact h
      · exact h.of_same rfl rfl rfl (h.counted.number .frame)
    · exact h
  · exact h

theorem Channel.ok.store {c : Channel} (h : c.ok) (data : List Beat) : (c.store data).ok := by
  unfold Channel.store
  dsimp only
  split
  · exact h
  · exact h

theorem Channel.ok.frameDone {c : Channel} (h : c.ok) (no : Nat) (data : List Beat) (err : Bool) :
    (c.frameDone no data err).ok := by
  unfold Channel.frameDone
  split
  · split
    · exact h
    · exact h.store data
  · exact h

theorem Channel.ok.restDone {c : Channel} (h : c.ok) (ch : Fin 8) (no : Nat) (data : List Beat) (err : Bool) :
    (c.restDone ch no data err).1.ok := by
  unfold Channel.restDone
  split
  · split
    · exact h
    · dsimp only
      split
      · exact h.store data
      · exact h.store data
  · exact h

theorem Channel.ok_reset : Channel.reset.ok := by
  simp [Channel.ok, Channel.reset, LoadNos.zero]

/-! ### The player -/

/-- ReelOk of the player itself. -/
def Reel.Ok (q : Reel) : Prop := (∀ ch, (q.channels.get ch).ok) ∧ q.inFlight ≤ 8

theorem reelOk_iff (s : State) : ReelOk s ↔ s.reel.Ok := Iff.rfl

theorem Reel.Ok.onChannel {q : Reel} (h : q.Ok) (ch : Fin 8) {f : Channel → Channel × List Out}
    (hf : ∀ c : Channel, c.ok → (f c).1.ok) : (q.onChannel ch f).1.Ok := by
  refine ⟨fun k => ?_, h.2⟩
  simp only [Reel.onChannel, Table.get_set]
  split
  · exact hf _ (h.1 ch)
  · exact h.1 k

theorem Reel.Ok.mapChannels {q : Reel} (h : q.Ok) {f : Channel → Channel} (hf : ∀ c : Channel, c.ok → (f c).ok) :
    (q.mapChannels f).Ok := by
  refine ⟨fun k => ?_, h.2⟩
  rw [Reel.mapChannels, Table.get_map]
  exact hf _ (h.1 k)

theorem Reel.Ok.landed {q : Reel} (h : q.Ok) : q.landed.Ok := ⟨h.1, (Nat.sub_le _ _).trans h.2⟩

theorem Reel.Ok.issueRead {q : Reel} (h : q.Ok) : q.issueRead.1.Ok := by
  unfold Reel.issueRead
  split
  · exact h
  · split
    · exact Reel.Ok.onChannel (q := { q with inFlight := q.inFlight + 1, lastServed := _ })
        ⟨h.1, by show q.inFlight + 1 ≤ 8; omega⟩ _ fun c hc => hc.readOut _
    · exact h

theorem Reel.Ok.boundary {q : Reel} (h : q.Ok) (s : State) : (q.boundary s).1.Ok :=
  forAll_keeps (fun _ _ hx => hx.onChannel _ fun _ hc => hc.boundary _ _ _) _ h

theorem Reel.ok_reset : Reel.reset.Ok := ⟨fun ch => by simp [Reel.reset, Channel.ok_reset], Nat.zero_le 8⟩

/-! ### The commands -/

theorem cuePush_reel {s : State} (h : s.reel.Ok) : (cuePush s).reel.Ok := by
  unfold cuePush
  split
  · split
    · simpa using h.onChannel _ fun _ hc => hc.push _ _ _ _
    · exact h
  · exact h

theorem cueCut_reel {s : State} (h : s.reel.Ok) : (cueCut s).reel.Ok := by
  unfold cueCut
  split
  · split
    · simpa using h.onChannel _ fun _ hc => hc.cutNow
    · exact h
  · exact h

theorem channelStop_reel {s : State} (h : s.reel.Ok) : (channelStop s).reel.Ok := by
  unfold channelStop
  split
  · split
    · simpa using h.onChannel _ fun _ hc => hc.stop _ _
    · exact h
  · exact h

theorem cueLoadDone_reel {s : State} (h : s.reel.Ok) : (cueLoadDone s).reel.Ok := by
  unfold cueLoadDone
  split
  · simpa using h.onChannel _ fun _ hc => hc.loadDone _ _ _ _ _ _
  · exact h

theorem frameReadIssue_reel {s : State} (h : s.reel.Ok) : (frameReadIssue s).reel.Ok := by
  simpa [frameReadIssue] using h.issueRead

theorem pointerReadDone_reel {s : State} (h : s.reel.Ok) : (pointerReadDone s).reel.Ok := by
  unfold pointerReadDone
  split
  · simpa using h.landed.onChannel _ fun _ hc => hc.pointerDone _ _ _
  · exact h

theorem frameReadDone_reel {s : State} (h : s.reel.Ok) : (frameReadDone s).reel.Ok := by
  unfold frameReadDone
  split
  · simpa using h.landed.onChannel _ fun _ hc => hc.frameDone _ _ _
  · exact h

theorem restReadDone_reel {s : State} (h : s.reel.Ok) : (restReadDone s).reel.Ok := by
  unfold restReadDone
  split
  · simpa using h.landed.onChannel _ fun _ hc => hc.restDone _ _ _ _
  · exact h

theorem reelPeriodBoundary_reel {s : State} (h : s.reel.Ok) : (reelPeriodBoundary s).reel.Ok := by
  unfold reelPeriodBoundary
  split
  · simpa using h.boundary s
  · exact h

theorem reelShowChangedNote_reel {s : State} (h : s.reel.Ok) : (reelShowChangedNote s).reel.Ok := by
  unfold reelShowChangedNote
  split
  · exact h.mapChannels fun _ hc => hc.showNote _
  · exact h

theorem hushAsserted_reel {s : State} (h : s.reel.Ok) : (hushAsserted s).reel.Ok := by
  unfold hushAsserted
  split
  · exact h.mapChannels fun _ hc => hc.hold
  · exact h

theorem hushReleased_reel {s : State} (h : s.reel.Ok) : (hushReleased s).reel.Ok := by
  unfold hushReleased
  split
  · exact h.mapChannels fun _ hc => hc.unhold
  · exact h

theorem restStillWrite_reel {s : State} (h : s.reel.Ok) : (restStillWrite s).reel.Ok := by
  unfold restStillWrite
  split
  · split
    · have hrest (ch : Fin 8) (rest : RestParams) (c : Channel) (hc : c.ok) :
          (if c.state = .idle then c.abandonFill.showRest ch rest else (c, [])).1.ok := by
        split
        · exact (hc.of_same (abandonFill_state c) (abandonFill_current c) (abandonFill_next c)
            hc.counted.abandonFill).showRest ch rest
        · exact hc
      simpa using h.onChannel _ (hrest _ _)
    · exact h
  · exact h

theorem softReset_reel {s : State} (h : s.reel.Ok) : (softReset s).reel.Ok := by
  unfold softReset
  split
  · split
    · rw [result_reel]; exact Reel.ok_reset
    · exact h
  · exact h

/-- Every command keeps the channels. -/
theorem exec_reel {c : Instr} {s t : State} (h : exec c s = .next t) (hs : s.reel.Ok) : t.reel.Ok := by
  by_cases hm : Block.reel ∈ mayChange c
  · cases c with
    | pinReset strap =>
      simp only [exec, execPinReset, Host.Outcome.next.injEq] at h
      exact h ▸ Reel.ok_reset
    | softReset => rw [next_of_goOn h, commit_reel]; exact softReset_reel hs
    | cuePush => rw [next_of_goOn h, commit_reel]; exact cuePush_reel hs
    | cueCut => rw [next_of_goOn h, commit_reel]; exact cueCut_reel hs
    | channelStop => rw [next_of_goOn h, commit_reel]; exact channelStop_reel hs
    | cueLoadDone => rw [next_of_goOn h, commit_reel]; exact cueLoadDone_reel hs
    | frameReadIssue => rw [next_of_goOn h, commit_reel]; exact frameReadIssue_reel hs
    | pointerReadDone => rw [next_of_goOn h, commit_reel]; exact pointerReadDone_reel hs
    | frameReadDone => rw [next_of_goOn h, commit_reel]; exact frameReadDone_reel hs
    | restReadDone => rw [next_of_goOn h, commit_reel]; exact restReadDone_reel hs
    | reelPeriodBoundary => rw [next_of_goOn h, commit_reel]; exact reelPeriodBoundary_reel hs
    | reelShowChangedNote => rw [next_of_goOn h, commit_reel]; exact reelShowChangedNote_reel hs
    | hushAsserted => rw [next_of_goOn h, commit_reel]; exact hushAsserted_reel hs
    | hushReleased => rw [next_of_goOn h, commit_reel]; exact hushReleased_reel hs
    | restStillWrite => rw [next_of_goOn h, commit_reel]; exact restStillWrite_reel hs
    | _ => simp [mayChange] at hm
  · have : t.reel = s.reel := exec_frame h .reel hm
    exact this ▸ hs

end Sys2Proof.Machine
end

section
/-! The rings under every step (R117 to R123, R131, R137): state, train, timers and module slots fit together, and a ring is OFF exactly while its enable is clear. -/

namespace Sys2Proof.Machine

/-! ### Every slot in turn -/

/-- A step at each slot that reads and changes that slot alone, taken for all slots in order, changes each slot as it stood and sends in slot order. -/
theorem forAll_onSlot {f : Fin 8 → Ring → Ring × List Out} (g : Fin 8 → ModSlot → ModSlot)
    (o : Fin 8 → ModSlot → List Out)
    (hf : ∀ k r, f k r = ({ r with slots := r.slots.modify k (g k) }, o k (r.slots.get k))) (r : Ring) :
    forAll (allFin 8) f r =
      ({ r with slots := r.slots.mapFin g }, (allFin 8).flatMap fun k => o k (r.slots.get k)) := by
  have key (ks : List (Fin 8)) (hks : ks.Nodup) (x : Ring) (hx : ∀ k ∈ ks, x.slots.get k = r.slots.get k)
      (outs : List Out) :
      ks.foldl (fun p a => andThen p (f a)) (x, outs) =
        ({ x with slots := x.slots.mapFin fun k m => if k ∈ ks then g k m else m },
          outs ++ ks.flatMap fun k => o k (r.slots.get k)) := by
    induction ks generalizing x outs with
    | nil =>
      have : (x.slots.mapFin fun _ m => m) = x.slots := by ext i; simp
      simp [this]
    | cons k ks ih =>
      obtain ⟨hk, hks'⟩ := List.nodup_cons.1 hks
      rw [List.foldl_cons, andThen, hf]
      dsimp only
      rw [ih hks' _ fun j hj => ?_]
      · rw [hx k List.mem_cons_self]
        simp only [List.flatMap_cons, List.append_assoc, Prod.mk.injEq, and_true]
        congr 1
        ext i
        by_cases hi : k = i
        · subst hi; simp [hk]
        · simp [hi, Ne.symm hi]
      · have : k ≠ j := fun h => hk (h ▸ hj)
        simp [this, hx j (List.mem_cons_of_mem k hj)]
  have := key (allFin 8) (List.nodup_finRange 8) r (fun _ _ => rfl) []
  simpa [forAll, allFin] using this

/-- A slot unchanged, as a change. -/
theorem modify_id (t : Table 8 ModSlot) (k : Fin 8) : t.modify k (fun m => m) = t := by simp [Table.modify]

/-- A step that changes a slot where a condition on it holds, and else nothing. -/
theorem ite_onSlot (r : Ring) (k : Fin 8) (p : Prop) [Decidable p] (g : ModSlot → ModSlot) (o : List Out) :
    (if p then (r.onSlot k g, o) else (r, [])) =
      ({ r with slots := r.slots.modify k fun m => if p then g m else m }, if p then o else []) := by
  split
  · rfl
  · rw [modify_id]

/-- A slot of a ring that enters LOCKING or goes OFF: ABSENT (R118, R119). -/
def ModSlot.cleared (m : ModSlot) : ModSlot := if m.state = .absent then m else ModSlot.reset

/-- A slot of a ring that faults: LOST where it took content (R121). -/
def ModSlot.faulted (m : ModSlot) : ModSlot := if m.taking then { m with state := .lost } else m

/-- Every slot becomes ABSENT, reported in position order where it was not (R137). -/
theorem clearSlots_eq (n : Fin 4) (r : Ring) :
    r.clearSlots n = ({ r with slots := r.slots.map ModSlot.cleared },
      (allFin 8).flatMap fun k => if (r.slots.get k).state = .absent then [] else [reportOut n k .absent]) := by
  unfold Ring.clearSlots
  rw [forAll_onSlot (fun _ => ModSlot.cleared) fun k m => if m.state = .absent then [] else [reportOut n k .absent]]
  · congr 2
    ext i
    simp
  · intro k x
    by_cases h : (x.slots.get k).state = .absent
    · simp [h, Table.modify, ModSlot.cleared]
    · simp [h, Ring.onSlot, Table.modify, ModSlot.cleared]

/-- Every slot that took content becomes LOST, reported in position order (R121, R141). -/
theorem loseSlots_eq (n : Fin 4) (r : Ring) :
    r.loseSlots n = ({ r with slots := r.slots.map ModSlot.faulted },
      (allFin 8).flatMap fun k => if (r.slots.get k).taking then [reportOut n k .lost] else []) := by
  unfold Ring.loseSlots
  rw [forAll_onSlot (fun _ => ModSlot.faulted) fun k m => if m.taking then [reportOut n k .lost] else []]
  · congr 2
    ext i
    simp
  · intro k x
    by_cases h : (x.slots.get k).taking = true
    · simp [h, Ring.onSlot, Table.modify, ModSlot.faulted]
    · simp [h, Table.modify, ModSlot.faulted]

/-! ### What a ring's invariant reads -/

/-- What a ring's invariant reads: its state, whether it has a train, its timers and countdown, and the states of its slots. -/
def Ring.shape (r : Ring) : RingState × Bool × Bool × Bool × Bool × Bool × Table 8 ModState :=
  (r.state, r.flight.isSome, r.returnTimer.isSome, r.lockTimer.isSome, r.restartTimer.isSome, r.shift.isSome,
    r.slots.map ModSlot.state)

theorem shape_slot {r x : Ring} (h : x.shape = r.shape) (k : Fin 8) : (x.slots.get k).state = (r.slots.get k).state := by
  have := congrArg (fun sh => sh.2.2.2.2.2.2.get k) h
  simpa [Ring.shape] using this

theorem taking_iff (m : ModSlot) : m.taking = true ↔ m.state = .ready ∨ m.state = .live := by
  unfold ModSlot.taking
  cases m.state <;> simp

/-- Rings of one shape fit together alike. -/
theorem Ring.ok.of_shape {r x : Ring} (h : r.ok) (hx : x.shape = r.shape) : x.ok := by
  have hslot := shape_slot hx
  simp only [Ring.shape, Prod.mk.injEq] at hx
  obtain ⟨hstate, hflight, hreturn, hlock, hrestart, hshift, -⟩ := hx
  simp only [Ring.ok, taking_iff] at h ⊢
  simp only [hstate, hflight, hreturn, hlock, hrestart, hshift, hslot]
  exact h

/-- A slot changed where its state stays. -/
theorem onSlot_shape {r : Ring} {k : Fin 8} {f : ModSlot → ModSlot} (hf : ∀ m, (f m).state = m.state) :
    (r.onSlot k f).shape = r.shape := by
  have : (r.slots.modify k f).map ModSlot.state = r.slots.map ModSlot.state := by
    ext i
    by_cases hi : k = i
    · subst hi; simp [hf]
    · simp [hi]
  simp only [Ring.shape, Ring.onSlot, this]

/-! ### The query slot -/

theorem endQuery_shape (n : Fin 4) (o : QueryOutcome) (v : BitVec 32) (r : Ring) : (r.endQuery n o v).1.shape = r.shape := by
  unfold Ring.endQuery
  split <;> rfl

theorem settleQuery_shape (n : Fin 4) (cars : List ReturnedCar) (r : Ring) : (r.settleQuery n cars).1.shape = r.shape := by
  unfold Ring.settleQuery
  split
  · split
    · exact endQuery_shape _ _ _ _
    · rfl
  · rfl

theorem request_shape (set_ : Bool) (k : Fin 8) (x : BitVec 4) (v : BitVec 32) (r : Ring) :
    (r.request set_ k x v).1.shape = r.shape := by
  unfold Ring.request
  split <;> rfl

theorem judgeTimeout_shape (p : RingParams) (n : Fin 4) (r : Ring) : (r.judgeTimeout p n).1.shape = r.shape := by
  unfold Ring.judgeTimeout
  split
  · exact endQuery_shape _ _ _ _
  · rfl

/-! ### Coming up and going down -/

@[simp] theorem cleared_state (m : ModSlot) : m.cleared.state = .absent := by
  unfold ModSlot.cleared
  split
  · assumption
  · rfl

@[simp] theorem faulted_not_taking (m : ModSlot) : m.faulted.taking = false := by
  unfold ModSlot.faulted
  split
  · rfl
  · simp_all

/-- A ring without a train or slots that are not ABSENT, whose timers fit its state. -/
theorem Ring.ok.of_cleared {r : Ring} (hflight : r.flight = none) (hreturn : r.returnTimer = none)
    (hlock : r.lockTimer.isSome = true → r.state = .locking) (hrestart : r.restartTimer = none)
    (hshift : r.shift.isSome = true → r.state.takesBoundaries = true) (hslots : ∀ k, (r.slots.get k).state = .absent) :
    r.ok := by
  simpa [Ring.ok, hflight, hreturn, hrestart, hslots, taking_iff] using ⟨hlock, hshift⟩

/-- LOCKING entered: every slot ABSENT, the lock timer loaded, no train (R119). -/
theorem enterLocking_eq (p : RingParams) (n : Fin 4) (r : Ring) :
    r.enterLocking p n =
      ({ r with
          state := .locking, errors := 0, period := 0, lockTimer := some p.lockLimit, restartTimer := none
          flight := none, returnTimer := none, slots := r.slots.map ModSlot.cleared },
        (allFin 8).flatMap fun k => if (r.slots.get k).state = .absent then [] else [reportOut n k .absent]) := by
  unfold Ring.enterLocking andThen
  simp only [clearSlots_eq, List.append_nil]

theorem enterLocking_state (p : RingParams) (n : Fin 4) (r : Ring) : (r.enterLocking p n).1.state = .locking := by
  rw [enterLocking_eq]

theorem enterLocking_ok (p : RingParams) (n : Fin 4) (r : Ring) : (r.enterLocking p n).1.ok := by
  rw [enterLocking_eq]
  exact .of_cleared rfl rfl (fun _ => rfl) rfl (fun _ => rfl) fun k => by simp

theorem goOff_shape (n : Fin 4) (r : Ring) :
    (r.goOff n).1.shape = Ring.shape { r with
      state := .off, flight := none, returnTimer := none, lockTimer := none, restartTimer := none, shift := none
      slots := r.slots.map ModSlot.cleared } := by
  unfold Ring.goOff andThen
  dsimp only
  rw [endQuery_shape, clearSlots_eq]
  rfl

theorem shape_state {r x : Ring} (h : x.shape = r.shape) : x.state = r.state := congrArg (·.1) h

theorem goOff_state (n : Fin 4) (r : Ring) : (r.goOff n).1.state = .off := shape_state (goOff_shape n r)

theorem goOff_ok (n : Fin 4) (r : Ring) : (r.goOff n).1.ok := by
  refine Ring.ok.of_shape ?_ (goOff_shape n r)
  exact .of_cleared rfl rfl (fun h => by simp at h) rfl (fun h => by simp at h) fun k => by simp

theorem fault_shape (p : RingParams) (n : Fin 4) (r : Ring) :
    (r.fault p n).1.shape = Ring.shape { r with
      state := .fault, shift := none, returnTimer := none, lockTimer := none
      restartTimer := if p.autoRestart then some (p.restartDelay * 1000) else none
      slots := r.slots.map ModSlot.faulted } := by
  unfold Ring.fault andThen
  dsimp only
  rw [endQuery_shape, loseSlots_eq]

theorem fault_state (p : RingParams) (n : Fin 4) (r : Ring) : (r.fault p n).1.state = .fault :=
  shape_state (fault_shape p n r)

/-- A ring faults without a train in flight. -/
theorem fault_ok (p : RingParams) (n : Fin 4) {r : Ring} (hflight : r.flight = none) : (r.fault p n).1.ok := by
  refine Ring.ok.of_shape ?_ (fault_shape p n r)
  simp [Ring.ok, hflight]

theorem enableWrite_ok {r : Ring} (h : r.ok) (p : RingParams) (n : Fin 4) (old new : Bool) :
    (r.enableWrite p n old new).1.ok := by
  unfold Ring.enableWrite
  split
  · split
    · exact enterLocking_ok p n r
    · exact h
  · split
    · exact goOff_ok n r
    · exact h

/-- The enable written, the ring is OFF exactly while it is clear (R118). -/
theorem enableWrite_off {r : Ring} {old new : Bool} (h : r.state = .off ↔ old = false) (p : RingParams) (n : Fin 4) :
    (r.enableWrite p n old new).1.state = .off ↔ new = false := by
  unfold Ring.enableWrite
  cases old <;> cases new <;> simp_all [enterLocking_state, goOff_state]

theorem autoRestartWrite_ok {r : Ring} (h : r.ok) (p : RingParams) (old new : Bool) :
    (r.autoRestartWrite p old new).ok := by
  unfold Ring.autoRestartWrite
  split
  · rename_i hfault
    obtain ⟨h1, h2, h3, h4, h5, h6, h7⟩ := h
    split
    · exact ⟨h1, h2, h3, fun _ => hfault, h5, h6, h7⟩
    · split
      · exact ⟨h1, h2, h3, fun _ => hfault, h5, h6, h7⟩
      · exact ⟨h1, h2, h3, h4, h5, h6, h7⟩
  · exact h

theorem autoRestartWrite_state (r : Ring) (p : RingParams) (old new : Bool) :
    (r.autoRestartWrite p old new).state = r.state := by
  unfold Ring.autoRestartWrite
  split
  · split
    · rfl
    · split <;> rfl
  · rfl

theorem restart_shape (p : RingParams) (n : Fin 4) (r : Ring) :
    (r.restart p n).1.shape = (r.enterLocking p n).1.shape := by
  unfold Ring.restart andThen
  dsimp only
  rw [endQuery_shape]

theorem restart_ok (p : RingParams) (n : Fin 4) (r : Ring) : (r.restart p n).1.ok :=
  (enterLocking_ok p n r).of_shape (restart_shape p n r)

theorem restart_state (p : RingParams) (n : Fin 4) (r : Ring) : (r.restart p n).1.state = .locking :=
  (shape_state (restart_shape p n r)).trans (enterLocking_state p n r)

@[simp] theorem send_state (r : Ring) (p : RingParams) (period : Nat) (cars : List Car) :
    (r.send p period cars).state = r.state := rfl

/-- A train goes out while the ring runs or enumerates (R126, R131). -/
theorem send_ok {r : Ring} (h : r.ok) (hstate : r.state = .enumerating ∨ r.state = .running) (p : RingParams)
    (period : Nat) (cars : List Car) : (r.send p period cars).ok := by
  obtain ⟨-, -, h3, h4, h5, h6, h7⟩ := h
  exact ⟨fun _ => hstate, rfl, h3, h4, h5, h6, h7⟩

theorem locked_ok {r : Ring} (h : r.ok) (p : RingParams) (period : Nat) : (r.locked p period).ok := by
  unfold Ring.locked
  split
  · rename_i hlocking
    obtain ⟨h1, h2, h3, h4, h5, h6, h7⟩ := h
    simp only [hlocking, reduceCtorEq, or_self, imp_false, ne_eq, Decidable.not_not] at h1 h4 h6 h7
    refine send_ok ?_ (.inl rfl) p period _
    exact ⟨fun _ => .inl rfl, h2, by simp, by simpa using h4, fun _ => rfl, fun k hk => absurd hk (h6 k),
      fun k hk => absurd (h7 k) hk⟩
  · exact h

theorem locked_off (r : Ring) (p : RingParams) (period : Nat) : (r.locked p period).state = .off ↔ r.state = .off := by
  unfold Ring.locked
  split
  · simp_all [Ring.sendEnum, Ring.send]
  · rfl

theorem lockExpiry_ok {r : Ring} (h : r.ok) (p : RingParams) (n : Fin 4) : (r.lockExpiry p n).1.ok := by
  unfold Ring.lockExpiry
  split
  · rename_i hlocking
    refine fault_ok p n ?_
    by_contra hne
    have := h.1 (Option.isSome_iff_ne_none.2 hne)
    simp [hlocking.1] at this
  · exact h

theorem lockExpiry_off (r : Ring) (p : RingParams) (n : Fin 4) : (r.lockExpiry p n).1.state = .off ↔ r.state = .off := by
  unfold Ring.lockExpiry
  split
  · simp_all [fault_state]
  · rfl

theorem restartExpiry_ok {r : Ring} (h : r.ok) (p : RingParams) (n : Fin 4) : (r.restartExpiry p n).1.ok := by
  unfold Ring.restartExpiry
  split
  · exact enterLocking_ok p n r
  · exact h

theorem restartExpiry_off (r : Ring) (p : RingParams) (n : Fin 4) :
    (r.restartExpiry p n).1.state = .off ↔ r.state = .off := by
  unfold Ring.restartExpiry
  split
  · simp_all [enterLocking_state]
  · rfl

/-! ### Assembly -/

/-- What every member's step keeps, a fold keeps. -/
theorem foldl_keeps {σ α : Type} {P : σ → Prop} {f : σ → α → σ} (h : ∀ a x, P x → P (f x a)) (xs : List α) {x : σ}
    (hx : P x) : P (xs.foldl f x) := by
  induction xs generalizing x with
  | nil => exact hx
  | cons a xs ih => exact ih (h a x hx)

/-- A candidate leaves the ring's shape as what entering or passing over does to it. -/
theorem offer_shape {c : Car} {enters passed : Assembly → Assembly} {a : Assembly} {r : Ring}
    (henters : (enters a).ring.shape = r.shape) (hpassed : (passed a).ring.shape = r.shape) :
    (a.offer c enters passed).ring.shape = r.shape := by
  unfold Assembly.offer
  split
  · exact henters
  · exact hpassed

theorem skipFrames_shape (ks : List (Fin 8)) (r : Ring) : (r.skipFrames ks).shape = r.shape := by
  refine foldl_keeps (P := fun x : Ring => x.shape = r.shape) (fun k x hx => ?_) ks rfl
  have hslot := onSlot_shape (r := x) (k := k) (f := fun m => { m with frameSkips := sat16 m.frameSkips }) fun _ => rfl
  exact hslot.trans hx

variable {s : State} {n : Fin 4} {r : Ring} {a : Assembly}

theorem alerts_shape (h : a.ring.shape = r.shape) : (a.alerts s n).ring.shape = r.shape := by
  refine foldl_keeps (P := fun a : Assembly => a.ring.shape = r.shape) (fun k a h => ?_) _ h
  dsimp only
  split
  · exact offer_shape h h
  · exact h

theorem controls_shape (h : a.ring.shape = r.shape) : a.controls.ring.shape = r.shape := by
  unfold Assembly.controls
  refine foldl_keeps (P := fun a : Assembly => a.ring.shape = r.shape) (fun k a h => ?_) _ ?_
  · dsimp only
    split
    · have hslot := onSlot_shape (r := a.ring) (k := k) (f := fun m => { m with probePending := false }) fun _ => rfl
      exact offer_shape (hslot.trans h) h
    · exact h
  · split
    · exact offer_shape h h
    · exact h

theorem frames_shape (h : a.ring.shape = r.shape) : (a.frames s n).ring.shape = r.shape := by
  refine foldl_keeps (P := fun a : Assembly => a.ring.shape = r.shape) (fun ch a h => ?_) _ h
  split
  · exact h
  · exact offer_shape h ((skipFrames_shape _ _).trans h)

theorem items_shape (kind : PaneKind) (car : Comp → Fin 128 → Car) (h : a.ring.shape = r.shape) :
    (a.items s n kind car).ring.shape = r.shape := by
  refine foldl_keeps (P := fun a : Assembly => a.ring.shape = r.shape) (fun k a h => ?_) _ h
  refine foldl_keeps (P := fun a : Assembly => a.ring.shape = r.shape) (fun p a h => ?_) _ h
  dsimp only
  split
  · exact offer_shape h h
  · exact h

theorem rows_shape (h : a.ring.shape = r.shape) : (a.rows s n).ring.shape = r.shape := by
  refine foldl_keeps (P := fun a : Assembly => a.ring.shape = r.shape) (fun k a h => ?_) _ h
  refine foldl_keeps (P := fun a : Assembly => a.ring.shape = r.shape) (fun p a h => ?_) _ h
  refine foldl_keeps (P := fun a : Assembly => a.ring.shape = r.shape) (fun x a h => ?_) _ h
  split
  · exact offer_shape h h
  · exact h

/-- Assembling a train leaves the ring's shape. -/
theorem assemble_shape (s : State) (n : Fin 4) (budget : Nat) (r : Ring) (q : Comp) :
    (assemble s n budget r q).ring.shape = r.shape :=
  items_shape _ _ (rows_shape (items_shape _ _ (frames_shape (controls_shape (alerts_shape rfl)))))

/-! ### Boundaries -/

theorem countPeriod_shape (r : Ring) : r.countPeriod.shape = r.shape := by
  unfold Ring.countPeriod Ring.shape
  congr 6
  ext i
  simp only [Table.get_map]
  split <;> rfl

theorem boundary_ok {x : Ring × Comp} (h : x.1.ok) (s : State) (p : RingParams) (n : Fin 4) :
    (Ring.boundary s p n x).1.1.ok := by
  unfold Ring.boundary
  split
  · rename_i hstate
    dsimp only
    have hcount := h.of_shape (countPeriod_shape x.1)
    split
    · exact hcount
    · have hshape := (assemble_shape s n p.budget (x.1.countPeriod.judgeTimeout p n).1 x.2).trans
        (judgeTimeout_shape p n _)
      exact send_ok (hcount.of_shape hshape) (.inr ((shape_state hshape).trans hstate)) _ _ _
  · rename_i hstate
    split
    · exact h
    · exact send_ok h (.inl hstate) _ _ _
  · exact h
  · exact h
  · exact h

theorem boundary_state (s : State) (p : RingParams) (n : Fin 4) (x : Ring × Comp) :
    (Ring.boundary s p n x).1.1.state = x.1.state := by
  unfold Ring.boundary
  split
  · dsimp only
    split
    · rfl
    · have hstate := shape_state ((assemble_shape s n p.budget (x.1.countPeriod.judgeTimeout p n).1 x.2).trans
        (judgeTimeout_shape p n _))
      rw [send_state]
      exact hstate
  · split <;> rfl
  all_goals rfl

/-- A ring without a countdown. -/
theorem Ring.ok.unshift {r : Ring} (h : r.ok) : Ring.ok { r with shift := none } := by
  obtain ⟨h1, h2, h3, h4, -, h6, h7⟩ := h
  exact ⟨h1, h2, h3, h4, by simp, h6, h7⟩

theorem unshifted_ok {x : Ring × Comp} (h : x.1.ok) (s : State) (p : RingParams) (n : Fin 4) :
    (Ring.unshifted s p n x).1.1.ok := by
  unfold Ring.unshifted
  split
  · rename_i htakes
    split
    · exact boundary_ok (x := ({ x.1 with shift := none }, x.2)) h.unshift s p n
    · obtain ⟨h1, h2, h3, h4, -, h6, h7⟩ := h
      exact ⟨h1, h2, h3, h4, fun _ => htakes, h6, h7⟩
  · exact h

theorem unshifted_state (s : State) (p : RingParams) (n : Fin 4) (x : Ring × Comp) :
    (Ring.unshifted s p n x).1.1.state = x.1.state := by
  unfold Ring.unshifted
  split
  · split
    · exact boundary_state s p n _
    · rfl
  · rfl

/-! ### Settlement of returns -/

/-- A ring that runs with its train landed, whatever its slots. -/
def Ring.Landed (r : Ring) : Prop :=
  r.state = .running ∧ r.flight = none ∧ r.returnTimer = none ∧ r.lockTimer = none ∧ r.restartTimer = none

theorem Ring.Landed.ok {r : Ring} (h : r.Landed) : r.ok := by
  obtain ⟨hstate, hflight, hreturn, hlock, hrestart⟩ := h
  simp [Ring.ok, hstate, hflight, hreturn, hlock, hrestart, RingState.takesBoundaries]

theorem endQuery_landed {r : Ring} (h : r.Landed) (n : Fin 4) (o : QueryOutcome) (v : BitVec 32) :
    (r.endQuery n o v).1.Landed := by
  unfold Ring.endQuery
  split <;> exact h

theorem settleQuery_landed {r : Ring} (h : r.Landed) (n : Fin 4) (cars : List ReturnedCar) :
    (r.settleQuery n cars).1.Landed := by
  unfold Ring.settleQuery
  split
  · split
    · exact endQuery_landed h _ _ _
    · exact h
  · exact h

theorem goLive_landed {r : Ring} (h : r.Landed) (s : State) (n : Fin 4) (cars : List ReturnedCar) (k : Fin 8) :
    (r.goLive s n cars k).1.Landed := by
  unfold Ring.goLive
  split <;> exact h

theorem walk_landed {r : Ring} (h : r.Landed) (limit : Nat) (n : Fin 4) (cars : List ReturnedCar) (k : Fin 8) :
    (r.walk limit n cars k).1.Landed := by
  unfold Ring.walk
  dsimp only
  split
  · exact h
  · split
    · exact h
    · unfold andThen Ring.endQueryOf
      dsimp only
      have hlost : Ring.Landed (r.onSlot k fun m =>
          { m with state := .lost, lossPeriod := r.period, probePending := false, missed := 0 }) := h
      split
      · exact endQuery_landed hlost _ _ _
      · exact hlost

theorem rejoin_landed {r : Ring} (h : r.Landed) (n : Fin 4) (cars : List ReturnedCar) (k : Fin 8) :
    (r.rejoin n cars k).1.Landed := by
  unfold Ring.rejoin
  split <;> exact h

/-- Handing a train's cars over leaves the ring RUNNING, its train landed (R134, R135, R140 to R144). -/
theorem handOver_landed {r : Ring} (h : r.Landed) (s : State) (p : RingParams) (n : Fin 4) (cars : List ReturnedCar) :
    (r.handOver s p n cars).1.Landed := by
  unfold Ring.handOver andThen
  dsimp only
  exact forAll_keeps (P := Ring.Landed) (fun k x hx => rejoin_landed hx n cars k) _
    (forAll_keeps (P := Ring.Landed) (fun k x hx => walk_landed hx p.lossLimit n cars k) _
      (forAll_keeps (P := Ring.Landed) (fun k x hx => goLive_landed hx s n cars k) _ (settleQuery_landed h n cars)))

theorem fill_landed {r : Ring} (h : r.Landed) (n : Fin 4) (cars : List ReturnedCar) : (r.fill n cars).1.Landed := by
  unfold Ring.fill
  refine forAll_keeps (P := Ring.Landed) (fun k x hx => ?_) _ h
  split
  · split <;> exact hx
  · exact hx

/-- Outside ENUMERATING a ring with a train in flight runs, and lands it. -/
theorem landed_of_flight {r : Ring} (h : r.ok) {f : Flight} (hf : r.flight = some f) (hne : r.state ≠ .enumerating)
    (o : TrainOutcome) (errors : Nat) : Ring.Landed { r.landed o with errors := errors } := by
  obtain ⟨h1, -, h3, h4, -⟩ := h
  have hstate : r.state = .running := (h1 (by simp [hf])).resolve_left hne
  simp [hstate] at h3 h4
  exact ⟨hstate, rfl, rfl, h3, h4⟩

theorem goodReturn_landed {r : Ring} (h : r.ok) {f : Flight} (hf : r.flight = some f) (s : State) (p : RingParams)
    (n : Fin 4) (bs : List Byte) : (r.goodReturn s p n f bs).1.Landed := by
  unfold Ring.goodReturn
  dsimp only
  split
  · rename_i hstate
    have hstate : r.state = .enumerating := hstate
    obtain ⟨-, -, h3, h4, -⟩ := h
    simp [hstate] at h3 h4
    exact fill_landed (r := { r.landed .good with errors := 0, state := .running }) ⟨rfl, rfl, rfl, h3, h4⟩ n _
  · rename_i hstate
    exact handOver_landed (landed_of_flight h hf hstate _ _) s p n _

/-- A failed or missing train lands, and at the fault limit the ring faults (R135). -/
theorem badReturn_ok {r : Ring} (h : r.ok) {f : Flight} (hf : r.flight = some f) (s : State) (p : RingParams)
    (n : Fin 4) (o : TrainOutcome) (kind : EventKind) :
    (r.badReturn s p n o kind f).1.ok ∧ (r.badReturn s p n o kind f).1.state ≠ .off := by
  have fate {x : Ring} (hx : x.ok) (hflight : x.flight = none) (hon : x.state ≠ .off) :
      (if p.faultLimit ≤ x.errors then x.fault p n else (x, [])).1.ok ∧
        (if p.faultLimit ≤ x.errors then x.fault p n else (x, [])).1.state ≠ .off := by
    split
    · exact ⟨fault_ok p n hflight, by simp [fault_state]⟩
    · exact ⟨hx, hon⟩
  unfold Ring.badReturn andThen
  dsimp only
  have handed (hstate : r.state ≠ .enumerating) :=
    handOver_landed (landed_of_flight h hf hstate o (min (r.errors + 1) 255)) s p n f.notAccepted
  refine fate ?_ ?_ ?_ <;> split
  all_goals rename_i hstate
  · obtain ⟨-, -, h3, h4, h5, h6, h7⟩ := h
    exact ⟨by simp [Ring.landed], rfl, h3, h4, h5, h6, h7⟩
  · exact (handed hstate).ok
  · rfl
  · obtain ⟨-, hflight, -⟩ := handed hstate
    rw [hflight]
  · have hstate : r.state = .enumerating := hstate
    show r.state ≠ .off
    simp [hstate]
  · rw [(handed hstate).1]
    simp

/-- A ring with a train in flight is not OFF. -/
theorem on_of_flight {r : Ring} (h : r.ok) {f : Flight} (hf : r.flight = some f) : r.state ≠ .off := by
  obtain hs | hs := h.1 (by simp [hf]) <;> simp [hs]

theorem returned_ok {r : Ring} (h : r.ok) (s : State) (p : RingParams) (n : Fin 4) (bs : List Byte) :
    (r.returned s p n bs).1.ok ∧ ((r.returned s p n bs).1.state = .off ↔ r.state = .off) := by
  unfold Ring.returned
  split
  · rename_i f hf
    have hon := on_of_flight h hf
    split
    · exact ⟨h, Iff.rfl⟩
    · split
      · have hl := goodReturn_landed h hf s p n bs
        exact ⟨hl.ok, by simp [hl.1, hon]⟩
      · obtain ⟨hok, hbad⟩ := badReturn_ok h hf s p n .checkFail .checkFail
        exact ⟨hok, by simp [hbad, hon]⟩
  · exact ⟨h, Iff.rfl⟩

theorem returnExpiry_ok {r : Ring} (h : r.ok) (s : State) (p : RingParams) (n : Fin 4) :
    (r.returnExpiry s p n).1.ok ∧ ((r.returnExpiry s p n).1.state = .off ↔ r.state = .off) := by
  unfold Ring.returnExpiry
  split
  · rename_i f hf
    split
    · obtain ⟨hok, hbad⟩ := badReturn_ok h hf s p n .missing .trainMissing
      exact ⟨hok, by simp [hbad, on_of_flight h hf]⟩
    · exact ⟨h, Iff.rfl⟩
  · exact ⟨h, Iff.rfl⟩

theorem tick_shape (r : Ring) : r.tick.shape = r.shape := by
  simp [Ring.shape, Ring.tick, tickTimer]

theorem Ring.ok_reset : Ring.reset.ok := by
  simp [Ring.ok, Ring.reset, ModSlot.reset, taking_iff]

/-! ### The commands -/

/-- The rings of a state with the enables that rule them (R117, R118). -/
def RingsFit (rings : Table 4 Ring) (params : Table 4 RingParams) : Prop :=
  ∀ n, (rings.get n).ok ∧ ((rings.get n).state = .off ↔ (params.get n).enable = false)

theorem ringsOk_iff (s : State) : RingsOk s ↔ RingsFit s.rings s.params.ring := Iff.rfl

/-- One ring changed, OFF as before. -/
theorem RingsFit.set {rings : Table 4 Ring} {params : Table 4 RingParams} (h : RingsFit rings params) {n : Fin 4}
    {r : Ring} (hr : r.ok) (hoff : r.state = .off ↔ (rings.get n).state = .off) : RingsFit (rings.set n r) params := by
  intro k
  rw [Table.get_set]
  split
  · rename_i hk
    exact ⟨hr, hoff.trans (hk ▸ (h n).2)⟩
  · exact h k

/-- One ring and its parameters changed. -/
theorem RingsFit.set_modify {rings : Table 4 Ring} {params : Table 4 RingParams} (h : RingsFit rings params) {n : Fin 4}
    {r : Ring} {f : RingParams → RingParams} (hr : r.ok) (hoff : r.state = .off ↔ (f (params.get n)).enable = false) :
    RingsFit (rings.set n r) (params.modify n f) := by
  intro k
  by_cases hk : n = k
  · subst hk; simpa using ⟨hr, hoff⟩
  · simpa [hk] using h k

/-- A field of a ring's parameters other than its enable changed. -/
theorem RingsFit.setField {rings : Table 4 Ring} {params : Table 4 RingParams} (h : RingsFit rings params) (n : Fin 4)
    {f : RingField} (hf : f ≠ .enable) (v : Nat) : RingsFit rings (params.modify n fun p => p.setField f v) := by
  intro k
  by_cases hk : n = k
  · subst hk
    have : ((params.get n).setField f v).enable = (params.get n).enable := by cases f <;> simp_all [RingParams.setField]
    simpa [this] using h n
  · simpa [hk] using h k

end Sys2Proof.Machine
end

section
/-! The rings and their enables under every command (R117, R118), and with them the channels. -/

namespace Sys2Proof.Machine

@[simp] theorem setSimple_ring (p : Params) (which : Simple) (v : Nat) : (p.setSimple which v).ring = p.ring := by
  cases which <;> rfl

/-- The row of a ring parameter that has none of its own is not that of the enable (R166). -/
theorem ne_enable_of_plainRing {e : Entry} {n : Fin 4} {f : RingField} (h : e.row = .plainRing n f) : f ≠ .enable := by
  rintro rfl
  unfold Entry.row at h
  generalize Index.of e.index = i at h
  by_cases hm : e.mask = 0#32
  · cases i <;> simp [hm] at h
  · cases i with
    | simple p => cases p <;> simp [hm, simpleRow] at h
    | ring m g => cases g <;> simp [hm] at h
    | control => by_cases hb : e.argument[0] = true <;> simp [hm, hb] at h
    | _ => simp [hm] at h

theorem policyWrite_ringsOk {s : State} (h : RingsOk s) : RingsOk (policyWrite s) := by
  unfold policyWrite
  split
  · split
    · simpa [ringsOk_iff] using h
    · exact h
  · exact h

theorem autoSoldOutWrite_ringsOk {s : State} (h : RingsOk s) : RingsOk (autoSoldOutWrite s) := by
  unfold autoSoldOutWrite
  split
  · split
    · dsimp only
      split <;> simpa [ringsOk_iff] using h
    · exact h
  · exact h

theorem restStillWrite_ringsOk {s : State} (h : RingsOk s) : RingsOk (restStillWrite s) := by
  unfold restStillWrite
  split
  · split
    · simpa [ringsOk_iff] using h
    · exact h
  · exact h

theorem parameterEntry_ringsOk {s : State} (h : RingsOk s) : RingsOk (parameterEntry s) := by
  unfold parameterEntry
  split
  · split
    · simpa [ringsOk_iff] using h
    · rename_i hrow
      simpa [ringsOk_iff] using RingsFit.setField h _ (ne_enable_of_plainRing hrow) _
    · simpa [ringsOk_iff] using h
    · exact h
  · exact h

theorem eventEnableWrite_ringsOk {s : State} (h : RingsOk s) : RingsOk (eventEnableWrite s) := by
  unfold eventEnableWrite
  split
  · split
    · simpa [ringsOk_iff] using h
    · exact h
  · exact h

theorem interruptPolarityWrite_ringsOk {s : State} (h : RingsOk s) : RingsOk (interruptPolarityWrite s) := by
  unfold interruptPolarityWrite
  split
  · split
    · simpa [ringsOk_iff] using h
    · exact h
  · exact h

theorem ringEnableWrite_ringsOk {s : State} (h : RingsOk s) : RingsOk (ringEnableWrite s) := by
  unfold ringEnableWrite
  split
  · split
    · rename_i n _
      rw [ringsOk_iff]
      simp only [paramResult_eq, result_rings, result_params, ringDo_eq, emit_rings, emit_params, State.withRings_rings,
        State.withRings_params, storeRing_eq, State.withParams_params, takeEntry_params]
      refine RingsFit.set_modify h (enableWrite_ok (h n).1 _ _ _ _) ?_
      simpa [State.ringParams] using enableWrite_off (h n).2 _ _
    · exact h
  · exact h

theorem autoRestartWrite_ringsOk {s : State} (h : RingsOk s) : RingsOk (autoRestartWrite s) := by
  unfold autoRestartWrite
  split
  · split
    · rename_i n _
      rw [ringsOk_iff]
      simp only [paramResult_eq, result_rings, result_params, ringDo_eq, emit_rings, emit_params, State.withRings_rings,
        State.withRings_params, storeRing_eq, State.withParams_params, takeEntry_params]
      refine RingsFit.set_modify h (autoRestartWrite_ok (h n).1 _ _ _) ?_
      rw [autoRestartWrite_state]
      exact (h n).2
    · exact h
  · exact h

theorem ringDo_ringsOk {s : State} (h : RingsOk s) {n : Fin 4} {p : Ring × List Out} (hok : p.1.ok)
    (hoff : p.1.state = .off ↔ (s.rings.get n).state = .off) : RingsOk (s.ringDo n p) := by
  simpa [ringsOk_iff] using RingsFit.set h hok hoff

theorem ringCompDo_ringsOk {s : State} (h : RingsOk s) {n : Fin 4} {p : (Ring × Comp) × List Out} (hok : p.1.1.ok)
    (hoff : p.1.1.state = .off ↔ (s.rings.get n).state = .off) : RingsOk (s.ringCompDo n p) := by
  simpa [ringsOk_iff] using RingsFit.set h hok hoff

theorem result_ringsOk {s : State} (h : RingsOk s) (i : BitVec 10) (v : BitVec 32) (o : Outcome) :
    RingsOk (s.result i v o) := by
  simpa [ringsOk_iff] using h

theorem ringRestart_ringsOk {s : State} (h : RingsOk s) : RingsOk (ringRestart s) := by
  unfold ringRestart
  split
  · rename_i e _
    split
    · refine result_ringsOk (ringDo_ringsOk (s := s.takeEntry) h ?_ ?_) _ _ _
      · split
        · exact restart_ok _ _ _
        · exact (h _).1
      · split
        · rename_i hen
          have hen : (s.params.ring.get (argRing e.argument)).enable = true := hen
          show _ ↔ (s.rings.get (argRing e.argument)).state = .off
          rw [(h _).2]
          simp [restart_state, hen]
        · exact Iff.rfl
    · exact h
  · exact h

theorem moduleRequest_ringsOk {s : State} (h : RingsOk s) (e : Entry) (set_ : Bool) (v : BitVec 32) :
    RingsOk (s.moduleRequest e set_ v) := by
  refine result_ringsOk (ringDo_ringsOk (s := s.takeEntry) h ?_ ?_) _ _ _
  · exact (h _).1.of_shape (request_shape _ _ _ _ _)
  · rw [shape_state (request_shape _ _ _ _ _)]
    rfl

theorem moduleQuery_ringsOk {s : State} (h : RingsOk s) : RingsOk (moduleQuery s) := by
  unfold moduleQuery
  split
  · split
    · exact moduleRequest_ringsOk h _ _ _
    · exact h
  · exact h

theorem moduleSet_ringsOk {s : State} (h : RingsOk s) : RingsOk (moduleSet s) := by
  unfold moduleSet
  split
  · split
    · exact moduleRequest_ringsOk h _ _ _
    · exact h
  · exact h

theorem ringUnshiftedBoundary_ringsOk {s : State} (h : RingsOk s) (n : Fin 4) : RingsOk (ringUnshiftedBoundary n s) := by
  unfold ringUnshiftedBoundary
  split
  · have hok := unshifted_ok (x := (s.rings.get n, s.comp)) (h n).1 s (s.ringParams n) n
    have hstate := unshifted_state s (s.ringParams n) n (s.rings.get n, s.comp)
    exact ringCompDo_ringsOk (s := s.withTime { s.time with dueRing := s.time.dueRing.modify n fun n => n - 1 }) h hok
      (by rw [hstate]; rfl)
  · exact h

theorem ringBoundary_ringsOk {s : State} (h : RingsOk s) (n : Fin 4) : RingsOk (ringBoundary n s) := by
  unfold ringBoundary
  dsimp only
  split
  · refine ringCompDo_ringsOk h (boundary_ok (x := ({ s.rings.get n with shift := none }, s.comp)) (h n).1.unshift s _ n) ?_
    rw [boundary_state]
  · exact h

theorem millisecondTick_ringsOk {s : State} (h : RingsOk s) (a b : Bool) : RingsOk (millisecondTick a b s) := by
  have hrings : s.takeOutstanding.rings = s.rings := by
    have h1 : (secondAdvance s).rings = s.rings := secondAdvance_frame s .rings (by simp)
    have h2 : (alertLineAsserted _).rings = _ := alertLineAsserted_frame (secondAdvance s) .rings (by simp)
    have h3 : (alertLineDeasserted _).rings = _ :=
      alertLineDeasserted_frame (alertLineAsserted (secondAdvance s)) .rings (by simp)
    have h4 : (hushLineChange _).rings = _ :=
      hushLineChange_frame (alertLineDeasserted (alertLineAsserted (secondAdvance s))) .rings (by simp)
    exact h4.trans (h3.trans (h2.trans h1))
  have hparams : (millisecondTick a b s).params = s.params := millisecondTick_frame a b s .params (by simp)
  rw [ringsOk_iff, hparams]
  intro n
  have hn : (millisecondTick a b s).rings.get n = (s.rings.get n).tick := by
    show (s.takeOutstanding.rings.map Ring.tick).get n = _
    rw [hrings, Table.get_map]
  rw [hn]
  exact ⟨(h n).1.of_shape (tick_shape _), (h n).2⟩

theorem ringsOk_reset {s : State} (hrings : s.rings = Table.replicate 4 Ring.reset) (hparams : s.params = Params.reset) :
    RingsOk s := by
  intro n
  rw [hrings, hparams, Table.get_replicate]
  exact ⟨Ring.ok_reset, by simp [Params.reset, Ring.reset, RingParams.reset]⟩

theorem softReset_ringsOk {s : State} (h : RingsOk s) : RingsOk (softReset s) := by
  unfold softReset
  split
  · split
    · exact ringsOk_reset (by rw [result_rings]; rfl) (by rw [result_params]; rfl)
    · exact h
  · exact h

theorem commit_ringsOk {s t : State} (h : RingsOk t) : RingsOk (commit s t) := by
  simpa [ringsOk_iff] using h

/-- Every command keeps the rings. -/
theorem exec_ringsOk {c : Instr} {s t : State} (hc : exec c s = .next t) (h : RingsOk s) : RingsOk t := by
  by_cases hm : Block.rings ∈ mayChange c ∨ Block.params ∈ mayChange c
  · cases c with
    | pinReset strap =>
      simp only [exec, execPinReset, Host.Outcome.next.injEq] at hc
      exact hc ▸ ringsOk_reset rfl rfl
    | softReset => exact next_of_goOn hc ▸ commit_ringsOk (softReset_ringsOk h)
    | millisecondTick a b => exact next_of_goOn hc ▸ commit_ringsOk (millisecondTick_ringsOk h a b)
    | policyWrite => exact next_of_goOn hc ▸ commit_ringsOk (policyWrite_ringsOk h)
    | autoSoldOutWrite => exact next_of_goOn hc ▸ commit_ringsOk (autoSoldOutWrite_ringsOk h)
    | restStillWrite => exact next_of_goOn hc ▸ commit_ringsOk (restStillWrite_ringsOk h)
    | ringEnableWrite => exact next_of_goOn hc ▸ commit_ringsOk (ringEnableWrite_ringsOk h)
    | lockIndication n =>
      exact next_of_goOn hc ▸ commit_ringsOk (ringDo_ringsOk h (locked_ok (h n).1 _ _) (locked_off _ _ _))
    | lockTimerExpiry n =>
      exact next_of_goOn hc ▸ commit_ringsOk (ringDo_ringsOk h (lockExpiry_ok (h n).1 _ _) (lockExpiry_off _ _ _))
    | restartTimerExpiry n =>
      exact next_of_goOn hc ▸ commit_ringsOk (ringDo_ringsOk h (restartExpiry_ok (h n).1 _ _) (restartExpiry_off _ _ _))
    | autoRestartWrite => exact next_of_goOn hc ▸ commit_ringsOk (autoRestartWrite_ringsOk h)
    | ringRestart => exact next_of_goOn hc ▸ commit_ringsOk (ringRestart_ringsOk h)
    | ringUnshiftedBoundary n => exact next_of_goOn hc ▸ commit_ringsOk (ringUnshiftedBoundary_ringsOk h n)
    | ringBoundary n => exact next_of_goOn hc ▸ commit_ringsOk (ringBoundary_ringsOk h n)
    | trainReturn n bs =>
      obtain ⟨hok, hoff⟩ := returned_ok (h n).1 s (s.ringParams n) n bs
      exact next_of_goOn hc ▸ commit_ringsOk (ringDo_ringsOk h hok hoff)
    | returnTimerExpiry n =>
      obtain ⟨hok, hoff⟩ := returnExpiry_ok (h n).1 s (s.ringParams n) n
      exact next_of_goOn hc ▸ commit_ringsOk (ringDo_ringsOk h hok hoff)
    | moduleQuery => exact next_of_goOn hc ▸ commit_ringsOk (moduleQuery_ringsOk h)
    | moduleSet => exact next_of_goOn hc ▸ commit_ringsOk (moduleSet_ringsOk h)
    | parameterEntry => exact next_of_goOn hc ▸ commit_ringsOk (parameterEntry_ringsOk h)
    | eventEnableWrite => exact next_of_goOn hc ▸ commit_ringsOk (eventEnableWrite_ringsOk h)
    | interruptPolarityWrite => exact next_of_goOn hc ▸ commit_ringsOk (interruptPolarityWrite_ringsOk h)
    | _ => simp [mayChange] at hm
  · rw [not_or] at hm
    have hrings : t.rings = s.rings := exec_frame hc .rings hm.1
    have hparams : t.params = s.params := exec_frame hc .params hm.2
    rw [ringsOk_iff, hrings, hparams]
    exact h

/-- Settles O10: each event of a ring takes it from one fitting shape to another, and each event of a channel leaves it IDLE and cleared or busy with its numbers counted. -/
theorem everyStepKeepsTheRings : Obligations.EveryStepKeepsTheRings := by
  unfold Obligations.EveryStepKeepsTheRings
  intro s t h
  exact ⟨step_keeps (P := RingsOk) (fun _ _ hr => hr) (fun _ _ _ hc => exec_ringsOk hc) h,
    step_keeps (P := ReelOk) (fun _ _ hr => hr) (fun _ _ _ hc => exec_reel hc) h⟩

end Sys2Proof.Machine
end

section
/-! The two resets: what they leave, and the invariants right after pin reset. -/

namespace Sys2Proof.Machine

/-! ### The invariants right after reset -/

theorem reset_slot (i : Fin 64) : (State.reset.seats.slots.get i) = SeatSlot.reset :=
  Table.get_replicate _ i

theorem SeatSlot.ok_reset : SeatSlot.reset.ok := by
  simp [SeatSlot.ok, SeatSlot.reset, mapBeats, Figure.none]

theorem pathOk_reset : PathOk State.reset := by
  simp [PathOk, State.reset, State.pinReset, Path.reset, Intakes.reset, Windows.reset]

theorem noticesOk_reset : NoticesOk State.reset := by
  simp [NoticesOk, State.reset, State.pinReset, Notices.reset, Mail.empty, Tracker.reset, ShowEntry.reset, ShowFields.zero]

theorem seatsOk_reset : SeatsOk State.reset := by
  simp [SeatsOk, State.reset, State.pinReset, Seats.reset, SeatSlot.ok_reset, Mail.empty, Tracker.reset, ShowEntry.reset,
    ShowFields.zero]
  simp [SeatSlot.reset]

theorem talliesOk_reset : TalliesOk State.reset := fun i => by
  rw [reset_slot]
  rfl

/-- Settles O6. -/
theorem resetMeetsTheInvariants : Obligations.ResetMeetsTheInvariants := by
  refine ⟨pathOk_reset, ?_, ?_, noticesOk_reset, ringsOk_reset rfl rfl, Params.ok_reset, ?_, Windows.ok_reset 0, seatsOk_reset,
    talliesOk_reset, Reel.ok_reset⟩
  · simp [ClockOk, State.reset, State.pinReset, Tracker.reset]
  · exact boardOf_reset.symm
  · simp [ResultsOk, State.reset, State.pinReset, Setup.reset]

/-! ### Pin reset -/

theorem pinReset_lineActive (strap : BitVec 3) (s : State) : (pinReset strap s).lineActive = false := by
  simp [State.lineActive, pinReset, State.pinReset, Events.reset]

/-- Settles O4. -/
theorem pinResetPlacesEveryBlock : Obligations.PinResetPlacesEveryBlock := fun strap s => by
  refine ⟨pinReset strap s, rfl, pinReset_frame strap s, rfl, rfl, rfl, rfl, rfl, rfl, rfl, rfl, rfl, rfl, rfl, rfl, rfl, rfl,
    rfl, rfl, rfl, rfl, rfl, ?_, ?_, rfl, rfl, rfl, rfl, rfl, rfl, rfl, rfl, ?_, rfl, ?_, ?_, rfl, ?_, rfl, rfl, rfl, rfl, ?_, ?_⟩
  · exact fun i => by rw [show (pinReset strap s).tracker.entries.get i = ShowEntry.reset from Table.get_replicate _ i]; exact ⟨rfl, rfl⟩
  · exact fun i => by rw [show (pinReset strap s).seats.slots.get i = SeatSlot.reset from Table.get_replicate _ i]; exact ⟨rfl, rfl⟩
  · exact fun c => by rw [show (pinReset strap s).reel.channels.get c = Channel.reset from Table.get_replicate _ c]; exact ⟨rfl, rfl⟩
  · exact fun i => by rw [show (pinReset strap s).comp.panes.get i = Pane.reset from Table.get_replicate _ i]; exact ⟨rfl, rfl⟩
  · exact fun n => by
      rw [show (pinReset strap s).rings.get n = Ring.reset from Table.get_replicate _ n]
      exact ⟨rfl, rfl, fun k => by simp [Ring.reset, ModSlot.reset]⟩
  · exact fun k => Table.get_replicate _ k
  · exact pinReset_lineActive strap s
  · rw [State.lineHigh, pinReset_lineActive]; rfl

/-! ### Soft reset -/

theorem row_of_softReset {e : Entry} (hi : e.index = 0) (hb : e.argument.getLsbD 0 = true) : e.row = .softReset := by
  have hm : e.mask ≠ 0#32 := fun h => by simp [Entry.argument, h] at hb
  have hc : Index.of 0#10 = .control := rfl
  simp [Entry.row, hi, hb, hm, hc]

theorem softReset_eq {s : State} {e : Entry} (he : s.entry = some e) (hi : e.index = 0) (hb : e.argument.getLsbD 0 = true) :
    softReset s = s.softReset.result 0 0 .applied := by
  simp [softReset, he, row_of_softReset hi hb]

theorem commit_events_of_changed {s t : State} (h : t.events.changed = true) : (commit s t).events = t.events := by
  unfold commit
  split
  · rfl
  · simp [State.markChanged, ← h]

/-- Settles O5. -/
theorem softResetReturnsEveryBlock : Obligations.SoftResetReturnsEveryBlock := fun s e he hi hb => by
  refine ⟨_, rfl, exec_frame (c := .softReset) rfl, ?_⟩
  rw [softReset_eq he hi hb]
  rw [commit_events_of_changed (by simp [State.softReset, Events.softReset])]
  simp only [commit_params, commit_tracker, commit_seats, commit_notices, commit_reel, commit_comp, commit_rings, commit_mail,
    commit_intakes, commit_path, commit_setup]
  refine ⟨rfl, rfl, rfl, rfl, rfl, rfl, rfl, rfl, rfl, rfl, rfl, rfl, List.map_congr_left fun g _ => ?_, rfl, rfl, rfl, rfl, rfl, rfl,
    rfl, rfl, rfl⟩
  obtain ⟨source, write, beats, grant⟩ := g
  cases source <;> rfl
end Sys2Proof.Machine
end

section
/-! What is posted: each inbox after a list of sendings, and the state after sendings that write no seat field. -/

namespace Sys2Proof.Machine

/-! ### What a sending brings each inbox -/

@[simp] def Out.event? : Out → Option EventKind
  | .event k => some k
  | _ => none
@[simp] def Out.seats? : Out → Option SeatMsg
  | .seats m => some m
  | _ => none
@[simp] def Out.notices? : Out → Option NoticeMsg
  | .notices m => some m
  | _ => none
@[simp] def Out.reel? : Out → Option ShowNote
  | .reel n => some n
  | _ => none
@[simp] def Out.comp? : Out → Option CompMsg
  | .comp m => some m
  | _ => none
@[simp] def Out.seatsNote? : Out → Option SeatsNote
  | .seatsNote n => some n
  | _ => none
@[simp] def Out.effect? : Out → Option Effect
  | .effect e => some e
  | _ => none
@[simp] def Out.noticeNote? : Out → Option NoticeNote
  | .noticeNote n => some n
  | _ => none
@[simp] def Out.hush? : Out → Option Bool
  | .hush b => some b
  | _ => none
@[simp] def Out.bannerReport? : Out → Option BannerReport
  | .bannerReport r => some r
  | _ => none
@[simp] def Out.channelNote? : Out → Option ChannelNote
  | .channelNote n => some n
  | _ => none
@[simp] def Out.moduleReport? : Out → Option ModuleReport
  | .moduleReport r => some r
  | _ => none
@[simp] def Out.settlement? : Out → Option Settlement
  | .settlement t => some t
  | _ => none

/-- Each inbox takes what is for it, in the order it is sent. -/
theorem posts_eq (m : Mail) (outs : List Out) :
    m.posts outs =
      { m with
        events := m.events ++ outs.filterMap Out.event?
        toSeats := m.toSeats ++ outs.filterMap Out.seats?
        toNotices := m.toNotices ++ outs.filterMap Out.notices?
        toReel := m.toReel ++ outs.filterMap Out.reel?
        toComp := m.toComp ++ outs.filterMap Out.comp?
        seatsToComp := m.seatsToComp ++ outs.filterMap Out.seatsNote?
        seatsToNotices := m.seatsToNotices ++ outs.filterMap Out.seatsNote?
        effects := m.effects ++ outs.filterMap Out.effect?
        noticesToComp := m.noticesToComp ++ outs.filterMap Out.noticeNote?
        hush := m.hush ++ outs.filterMap Out.hush?
        bannerReports := m.bannerReports ++ outs.filterMap Out.bannerReport?
        channelNotes := m.channelNotes ++ outs.filterMap Out.channelNote?
        moduleReports := m.moduleReports ++ outs.filterMap Out.moduleReport?
        settlements := m.settlements ++ outs.filterMap Out.settlement? } := by
  induction outs generalizing m with
  | nil => simp [Mail.posts]
  | cons o outs ih =>
    rw [show m.posts (o :: outs) = (m.post o).posts outs from rfl, ih]
    cases o <;>
      simp [List.filterMap_cons, Mail.post, Out.event?, Out.seats?, Out.notices?, Out.reel?, Out.comp?, Out.seatsNote?, Out.effect?, Out.noticeNote?,
        Out.hush?, Out.bannerReport?, Out.channelNote?, Out.moduleReport?, Out.settlement?]

theorem posts_append (m : Mail) (a b : List Out) : m.posts (a ++ b) = (m.posts a).posts b := by
  simp [Mail.posts]

@[simp] theorem posts_nil (m : Mail) : m.posts [] = m := rfl

theorem posts_cons (m : Mail) (o : Out) (outs : List Out) : m.posts (o :: outs) = (m.post o).posts outs := rfl

/-! ### Sendings that write no seat field -/

theorem emit_keeps_tracker {bs : List Block} {outs : List Out} (h : Sends bs outs) (hbs : Block.seatFields ∉ bs) (s : State) :
    (s.emit outs).tracker = s.tracker := by
  induction outs generalizing s with
  | nil => rfl
  | cons o outs ih =>
    rw [sends_cons] at h
    obtain ⟨ho, hrest⟩ := h
    rw [emit_cons, ih hrest]
    cases o with
    | entrySeat => exact absurd ho hbs
    | entryStatus => exact absurd ho hbs
    | _ => rfl

/-- Sendings to inboxes alone. -/
theorem emit_posts {outs : List Out} (h : Sends [.mail] outs) (s : State) : s.emit outs = s.withMail (s.mail.posts outs) := by
  induction outs generalizing s with
  | nil => rfl
  | cons o outs ih =>
    rw [sends_cons] at h
    obtain ⟨ho, hrest⟩ := h
    rw [emit_cons, ih hrest, posts_cons]
    cases o <;> simp_all [Out.block] <;> rfl

/-! ### Lists of sendings -/

/-- What each member brings, where only the members with a mark bring anything. -/
theorem flatMap_eq_filter_flatMap {α β : Type} (p : α → Bool) {f g : α → List β}
    (h : ∀ x, f x = if p x then g x else []) (xs : List α) : xs.flatMap f = (xs.filter p).flatMap g := by
  induction xs with
  | nil => rfl
  | cons x xs ih =>
    rw [List.flatMap_cons, h, ih]
    cases hx : p x <;> simp [hx]

end Sys2Proof.Machine
end

section
/-! The lobby clock at the tracker: what each of its commands does (R1 to R4, R7, R8, R22 to R24, R171). -/

namespace Sys2Proof.Machine

/-! ### SECOND_ADVANCE -/

/-- Settles O13, by the two cases of the command's guard. -/
theorem secondAdvanceMovesTheClock : Obligations.SecondAdvanceMovesTheClock := fun s => by
  constructor
  · intro hm hs
    have hdue : decide ((s.tracker.seconds + 1) % 60 = 0) = decide (60 ∣ s.tracker.seconds + 1) :=
      decide_eq_decide.2 (Nat.dvd_iff_mod_eq_zero ..).symm
    have hlast : (s.tracker.seconds + 1 = lastSecond) = (s.tracker.seconds = 107998) := by
      unfold lastSecond; exact propext (by omega)
    have hguard : 1000 ≤ s.tracker.millis ∧ s.tracker.seconds < lastSecond := ⟨hm, hs⟩
    simp only [exec, execSecondAdvance, goOn, secondAdvance, if_pos hguard, trackerDo_eq]
    rw [emit_posts (advance_sends _)]
    simp only [Tracker.advance, State.withTracker, State.withMail, hdue, hlast]
    by_cases h : s.tracker.seconds = 107998
    · simp [h, posts_cons, Mail.post]
    · simp [h]
  · intro h
    have hguard : ¬ (1000 ≤ s.tracker.millis ∧ s.tracker.seconds < lastSecond) := by unfold lastSecond; omega
    simp [exec, execSecondAdvance, secondAdvance, if_neg hguard]

/-! ### Positions at which two orders differ -/

/-- No position, where the lists agree. -/
theorem firstDiff_eq_none {α : Type} [DecidableEq α] : ∀ {a b : List α}, firstDiff a b = none → a = b
  | [], [], _ => rfl
  | x :: xs, y :: ys, h => by
    by_cases hxy : x = y
    · rw [firstDiff, if_pos hxy, Option.map_eq_none_iff] at h
      rw [hxy, firstDiff_eq_none h]
    · simp [firstDiff, hxy] at h
  | [], _ :: _, h => by simp [firstDiff] at h
  | _ :: _, [], h => by simp [firstDiff] at h

/-- The first position at which the lists differ. -/
theorem firstDiff_eq_some {α : Type} [DecidableEq α] :
    ∀ {a b : List α} {q : Nat}, firstDiff a b = some q → a[q]? ≠ b[q]? ∧ ∀ p < q, a[p]? = b[p]?
  | [], [], _, h => by simp [firstDiff] at h
  | x :: xs, y :: ys, q, h => by
    by_cases hxy : x = y
    · rw [firstDiff, if_pos hxy, Option.map_eq_some_iff] at h
      obtain ⟨r, hr, rfl⟩ := h
      obtain ⟨hne, heq⟩ := firstDiff_eq_some hr
      refine ⟨by simpa using hne, fun p hp => ?_⟩
      cases p with
      | zero => simp [hxy]
      | succ p => simpa using heq p (by omega)
    · simp only [firstDiff, if_neg hxy, Option.some.injEq] at h
      subst h
      simpa using hxy
  | [], _ :: _, _, h => by
    simp only [firstDiff, Option.some.injEq] at h
    subst h
    simp
  | _ :: _, [], _, h => by
    simp only [firstDiff, Option.some.injEq] at h
    subst h
    simp

theorem boardOuts_of_eq (a : List (Fin 192)) : boardOuts a a = [] := by
  unfold boardOuts
  split
  · rename_i q h
    exact absurd rfl (firstDiff_eq_some h).1
  · rfl

/-- The board-order notes of an event are those that its two board orders call for (R23). -/
theorem boardOuts_noted (s t : State) :
    ∃ order, BoardNoted s t order ∧ boardOuts s.tracker.board t.tracker.board = order.map .comp := by
  unfold boardOuts
  split
  · rename_i q h
    obtain ⟨hne, heq⟩ := firstDiff_eq_some h
    exact ⟨[.board q], .inr ⟨q, rfl, hne, heq⟩, rfl⟩
  · rename_i h
    exact ⟨[], .inl ⟨(firstDiff_eq_none h).symm, rfl⟩, rfl⟩

/-! ### Evaluating every show (R2, R7, R8) -/

/-- Evaluation changes an entry's state and, by it, its cancel minute alone. -/
theorem evaluate_eq (c g d : Nat) (e : ShowEntry) :
    e.evaluate c g d =
      { e with
        state := (e.evaluate c g d).state
        cancelMinute := if e.state.visible ∧ (e.evaluate c g d).state ≠ .cancelled then none else e.cancelMinute } := by
  unfold ShowEntry.evaluate ShowEntry.moveTo
  by_cases h : e.state.visible = true
  · by_cases h' : evalState c g d e = .cancelled <;> simp [h, h']
  · simp [h]

theorem targetOf_cases (c e o g : Nat) :
    targetOf c e o g = .onSale ∨ targetOf c e o g = .closing ∨ targetOf c e o g = .started ∨ targetOf c e o g = .retired := by
  unfold targetOf
  split_ifs <;> simp

/-- Where evaluation can take a show from each state it may be in. -/
theorem evaluate_state_cases (c g d : Nat) (e : ShowEntry) :
    (e.evaluate c g d).state = e.state ∨
      e.state.selling = true ∧ ((e.evaluate c g d).state.selling = true ∨ (e.evaluate c g d).state = .retired) ∨
      e.state = .cancelled ∧ (e.evaluate c g d).state = .retired := by
  have htarget := targetOf_cases c e.effStart e.fields.closeOffset g
  unfold ShowEntry.evaluate ShowEntry.moveTo evalState cancelTarget
  cases h : e.state with
  | onSale => rcases htarget with k | k | k | k <;> simp [k, ShowState.visible, ShowState.selling]
  | closing => rcases htarget with k | k | k | k <;> simp [k, ShowState.visible, ShowState.selling]
  | started =>
    by_cases k : targetOf c e.effStart e.fields.closeOffset g = .retired <;> simp [k, ShowState.visible, ShowState.selling]
  | cancelled =>
    by_cases k : e.cancelMinute.getD 0 + d ≤ c <;> simp [k, ShowState.visible, ShowState.selling]
  | _ => simp [h, ShowState.visible]

/-- A show that evaluation has moved sends its RELEASE where it was selling or started with seats tracked and has retired (R22). -/
theorem seatOuts_evaluate (c g d : Nat) (i : Fin 192) (e : ShowEntry) :
    seatOuts i e (e.evaluate c g d) =
      if e.fields.seatsTracked = true ∧ e.state.selling = true ∧ (e.evaluate c g d).state = .retired then
        [.seats (.release i)] else [] := by
  have hfields : (e.evaluate c g d).fields = e.fields := by rw [evaluate_eq]
  simp only [seatOuts, ShowEntry.wants, hfields]
  rcases evaluate_state_cases c g d e with h | ⟨ho, hn | hn⟩ | ⟨ho, hn⟩
  · have hnot : ¬ (e.state.selling = true ∧ e.state = .retired) := fun ⟨k, k'⟩ => by simp [k', ShowState.selling] at k
    cases ht : e.fields.seatsTracked <;> cases ho : e.state.selling <;> simp_all
  · have hnot : (e.evaluate c g d).state ≠ .retired := fun k => by simp [k, ShowState.selling] at hn
    cases ht : e.fields.seatsTracked <;> simp [ho, hn, hnot]
  · cases ht : e.fields.seatsTracked <;> simp [hn, ShowState.selling]
  · cases ht : e.fields.seatsTracked <;> simp [ho, hn, ShowState.selling]

/-- A show that evaluation has moved sends its one note, with STATE alone (R24). -/
theorem diffNote_evaluate (c g d : Nat) (i : Fin 192) (e : ShowEntry) :
    diffNote i e (e.evaluate c g d) =
      if (e.evaluate c g d).state ≠ e.state then
        noteOuts { slot := i, id := e.fields.id, old := e.state, new := (e.evaluate c g d).state, change := stateOnly }
      else [] := by
  have he := evaluate_eq c g d e
  have hid : (e.evaluate c g d).state ≠ e.state → (e.evaluate c g d).id = e.fields.id := fun hne => by
    rw [he]
    unfold ShowEntry.id
    rcases evaluate_state_cases c g d e with h | ⟨-, hn | hn⟩ | ⟨-, hn⟩
    · exact absurd h hne
    · cases k : (e.evaluate c g d).state <;> simp_all [ShowState.selling]
    · simp [hn]
    · simp [hn]
  have hchanges : changesOf e (e.evaluate c g d) =
      { state := decide (e.state ≠ (e.evaluate c g d).state), start := false, title := false, display := false,
        removed := false } := by
    conv_lhs => rw [he]
    simp [changesOf]
  by_cases h : (e.evaluate c g d).state = e.state
  · simp [diffNote, hchanges, h, ChangeSet.nothing]
  · simp [diffNote, hchanges, h, Ne.symm h, ChangeSet.nothing, hid h, stateOnly]

/-- The requests and notes of one show that evaluation may have moved between s and t (R22, R24). -/
def moveOuts (s t : State) (i : Fin 192) : List Out :=
  (if (s.tracker.entries.get i).fields.seatsTracked = true ∧ (s.tracker.entries.get i).state.selling = true ∧
      (t.tracker.entries.get i).state = .retired then [.seats (.release i)] else []) ++ noteOuts (moveNote s t i)

theorem evaluate_outs {s t : State} {c g d : Nat} {i : Fin 192}
    (h : t.tracker.entries.get i = (s.tracker.entries.get i).evaluate c g d) :
    seatOuts i (s.tracker.entries.get i) (t.tracker.entries.get i) ++
        diffNote i (s.tracker.entries.get i) (t.tracker.entries.get i) =
      if decide ((t.tracker.entries.get i).state ≠ (s.tracker.entries.get i).state) = true then moveOuts s t i else [] := by
  have hseats := seatOuts_evaluate c g d i (s.tracker.entries.get i)
  have hnote := diffNote_evaluate c g d i (s.tracker.entries.get i)
  rw [← h] at hseats hnote
  rw [hseats, hnote]
  by_cases hs : (t.tracker.entries.get i).state = (s.tracker.entries.get i).state
  · have hnot : ¬ ((s.tracker.entries.get i).state.selling = true ∧ (s.tracker.entries.get i).state = .retired) :=
      fun ⟨k, k'⟩ => by simp [k', ShowState.selling] at k
    simp [hs, hnot]
  · simp [hs, moveOuts, moveNote]

/-- CLOCK_HELD goes to the Event Unit alone. -/
theorem heldOuts_posts (m : Mail) (v : Nat) :
    m.posts (heldOuts v) = { m with events := m.events ++ if 107999 ≤ v then [.clockHeld] else [] } := by
  unfold heldOuts lastSecond
  by_cases h : 107999 ≤ v
  · simp [h, posts_cons, Mail.post]
  · have h' : min v 107999 ≠ 107999 := by omega
    simp [h, h']

/-- The requests and notes of the shows that have moved, in slot order. -/
theorem moveOuts_posts (m : Mail) (s t : State) (moved : List (Fin 192)) :
    m.posts (moved.flatMap (moveOuts s t)) =
      { m with
        toSeats := m.toSeats ++ moved.flatMap fun i =>
          (if (s.tracker.entries.get i).fields.seatsTracked = true ∧ (s.tracker.entries.get i).state.selling = true ∧
              (t.tracker.entries.get i).state = .retired then [.release i] else []) ++ [.note (moveNote s t i)]
        toNotices := m.toNotices ++ moved.map (fun i => .note (moveNote s t i))
        toReel := m.toReel ++ moved.map (moveNote s t)
        toComp := m.toComp ++ moved.map (fun i => .note (moveNote s t i)) } := by
  induction moved generalizing m with
  | nil => simp
  | cons i moved ih =>
    rw [List.flatMap_cons, posts_append, ih]
    unfold moveOuts
    split <;> simp_all [posts_cons, Mail.post, noteOuts]

/-- A list of messages to the Composition Unit. -/
theorem compOuts_posts (m : Mail) (xs : List CompMsg) : m.posts (xs.map .comp) = { m with toComp := m.toComp ++ xs } := by
  induction xs generalizing m with
  | nil => simp
  | cons x xs ih => rw [List.map_cons, posts_cons, ih]; simp [Mail.post]

/-- What the evaluation of every show sends, with CLOCK_HELD and the minute note after it. -/
theorem evaluationSent_of {s t : State} {c g d v minute : Nat}
    (hentries : ∀ i, t.tracker.entries.get i = (s.tracker.entries.get i).evaluate c g d)
    (hmail : t.mail = s.mail.posts
      (((allFin 192).flatMap fun i =>
          seatOuts i (s.tracker.entries.get i) (t.tracker.entries.get i) ++
            diffNote i (s.tracker.entries.get i) (t.tracker.entries.get i)) ++
        boardOuts s.tracker.board t.tracker.board ++ heldOuts v ++ minuteOuts minute)) :
    EvaluationSent s t minute ∧ t.mail.events = s.mail.events ++ if 107999 ≤ v then [.clockHeld] else [] := by
  obtain ⟨order, horder, houts⟩ := boardOuts_noted s t
  rw [houts, flatMap_eq_filter_flatMap _ fun i => evaluate_outs (hentries i), posts_append, posts_append, posts_append,
    moveOuts_posts, compOuts_posts, heldOuts_posts] at hmail
  simp only [minuteOuts, posts_cons, Mail.post, posts_nil] at hmail
  refine ⟨⟨_, order, rfl, horder, ?_⟩, ?_⟩
  · rw [hmail]
  · rw [hmail]

theorem EvaluationSent.commit {s t : State} {minute : Nat} (h : EvaluationSent s t minute) (u : State) :
    EvaluationSent s (Machine.commit u t) minute := by
  unfold EvaluationSent BoardNoted moveNote at *
  rw [commit_tracker, commit_mail]
  exact h

/-- What a tracker event that evaluates every show leaves of the tracker and of the inboxes. -/
theorem trackerDo_mail {p : Tracker × List Out} (h : Sends [.mail] p.2) (s : State) :
    (s.trackerDo p).tracker = p.1 ∧ (s.trackerDo p).mail = s.mail.posts p.2 := by
  rw [trackerDo_eq, emit_posts h]
  exact ⟨rfl, rfl⟩

theorem evaluateAll_entries (t : Tracker) (g d : Nat) (i : Fin 192) :
    (t.evaluateAll g d).1.entries.get i = (t.entries.get i).evaluate t.minute g d := by
  simp [Tracker.evaluateAll, Tracker.settle]

theorem frame_trackerDo {p : Tracker × List Out} (h : Sends [.mail] p.2) (s : State)
    (hseat : ∀ i, (p.1.entries.get i).seatStatus = (s.tracker.entries.get i).seatStatus ∧
      (p.1.entries.get i).boundSlot = (s.tracker.entries.get i).boundSlot) :
    Frame [.clock, .entries, .mail] s (s.trackerDo p) := by
  rw [trackerDo_eq, emit_posts h]
  intro b hb
  cases b <;> simp_all [Block.same]

theorem evaluate_seatFields (c g d : Nat) (e : ShowEntry) :
    (e.evaluate c g d).seatStatus = e.seatStatus ∧ (e.evaluate c g d).boundSlot = e.boundSlot := by
  rw [evaluate_eq]
  exact ⟨rfl, rfl⟩

/-! ### The state that evaluation gives, by the state before (R7, R8) -/

theorem evaluate_of_sellingNow {c g d : Nat} {e : ShowEntry} (h : e.state = .onSale ∨ e.state = .closing) :
    (e.evaluate c g d).state =
      if c + e.fields.closeOffset < e.effStart then .onSale
      else if c < e.effStart then .closing
      else if c < e.effStart + g then .started else .retired := by
  rcases h with h | h <;> simp [ShowEntry.evaluate, ShowEntry.moveTo, evalState, targetOf, h, ShowState.visible]

theorem evaluate_of_started {c g d : Nat} {e : ShowEntry} (h : e.state = .started) :
    (e.evaluate c g d).state = if e.effStart + g ≤ c then .retired else .started := by
  have htarget : targetOf c e.effStart e.fields.closeOffset g = .retired ↔ e.effStart + g ≤ c := by
    unfold targetOf
    split_ifs <;> simp <;> omega
  simp [ShowEntry.evaluate, ShowEntry.moveTo, evalState, h, ShowState.visible, htarget]

theorem evaluate_of_cancelled {c g d : Nat} {e : ShowEntry} (h : e.state = .cancelled) :
    (e.evaluate c g d).state = if e.cancelMinute.getD 0 + d ≤ c then .retired else .cancelled := by
  simp [ShowEntry.evaluate, ShowEntry.moveTo, evalState, cancelTarget, h, ShowState.visible]

theorem evaluate_of_not_visible {c g d : Nat} {e : ShowEntry} (h : e.state.visible = false) : e.evaluate c g d = e := by
  simp [ShowEntry.evaluate, h]

/-- Settles O14. -/
theorem minuteBoundaryEvaluatesEveryShow : Obligations.MinuteBoundaryEvaluatesEveryShow := fun s hdue => by
  have hrun : minuteBoundary s = s.trackerDo (s.tracker.boundary s.params.grace s.params.cancelDisplay) := by
    simp [minuteBoundary, hdue]
  obtain ⟨htracker, hmail⟩ := trackerDo_mail (boundary_sends s.tracker s.params.grace s.params.cancelDisplay) s
  rw [← hrun] at htracker hmail
  have hentries : ∀ i, (minuteBoundary s).tracker.entries.get i =
      (s.tracker.entries.get i).evaluate (s.tracker.seconds / 60) s.params.grace s.params.cancelDisplay := fun i => by
    rw [htracker]
    exact evaluateAll_entries _ _ _ _
  obtain ⟨hsent, hevents⟩ := evaluationSent_of (v := 0) (minute := s.tracker.seconds / 60) hentries (by
    rw [hmail, htracker]
    simp [Tracker.boundary, Tracker.evaluateAll, Tracker.settle, Tracker.minute, heldOuts, lastSecond])
  have hframe : Frame [.clock, .entries, .mail] s (minuteBoundary s) := by
    rw [hrun]
    refine frame_trackerDo (boundary_sends _ _ _) s fun i => ?_
    rw [← htracker, hentries]
    exact evaluate_seatFields _ _ _ _
  refine ⟨_, rfl, hframe.commit, ?_⟩
  simp only [BoardOk, commit_tracker, commit_mail]
  refine ⟨by rw [htracker]; rfl, by rw [htracker]; rfl, by rw [htracker]; rfl, by rw [htracker]; rfl, by rw [htracker]; rfl,
    by rw [htracker]; rfl, ?_, ?_, ?_⟩
  · rintro i e rfl
    exact ⟨_, (hentries i).trans (evaluate_eq ..), evaluate_of_sellingNow, evaluate_of_started, evaluate_of_cancelled, fun h =>
      by rw [evaluate_of_not_visible h]⟩
  · exact hsent.commit s
  · simpa using hevents

/-! ### CLOCK_SET -/

theorem row_of_clockSet {e : Entry} (hi : e.index = 2) (hm : e.mask ≠ 0) : e.row = .clockSet := by
  have hm' : e.mask ≠ 0#32 := hm
  have hc : Index.of 2#10 = .clockSet := rfl
  simp [Entry.row, hi, hm', hc]

theorem clockOutcome_eq (v : Nat) : clockOutcome v = if 107999 < v then .clamped else .applied := rfl

theorem setClock_held (t : Tracker) (v : Nat) : (t.setClock v).held = decide (107999 ≤ v) := by
  simp only [Tracker.setClock, lastSecond]
  exact decide_eq_decide.2 (by omega)

theorem clockSet_outs (t : Tracker) (g d v : Nat) :
    (t.clockSet g d v).2 =
      ((allFin 192).flatMap fun i =>
          seatOuts i (t.entries.get i) ((t.clockSet g d v).1.entries.get i) ++
            diffNote i (t.entries.get i) ((t.clockSet g d v).1.entries.get i)) ++
        boardOuts t.board (t.clockSet g d v).1.board ++ heldOuts v ++ minuteOuts (min v 107999 / 60) := by
  simp [Tracker.clockSet, Tracker.evaluateAll, Tracker.settle, Tracker.minute, Tracker.setClock, lastSecond]

/-- Settles O15. -/
theorem clockSetMovesTheClock : Obligations.ClockSetMovesTheClock := fun s e he hi hm => by
  have hsends := clockSet_sends s.tracker s.params.grace s.params.cancelDisplay e.argument.toNat
  obtain ⟨htracker, hmail⟩ := trackerDo_mail hsends s.takeEntry
  have hrun : clockSet s = (s.takeEntry.trackerDo
      (s.tracker.clockSet s.params.grace s.params.cancelDisplay e.argument.toNat)).result e.index e.argument
        (clockOutcome e.argument.toNat) := by
    simp only [clockSet, he, row_of_clockSet hi hm]
  have hentries : ∀ i,
      (s.tracker.clockSet s.params.grace s.params.cancelDisplay e.argument.toNat).1.entries.get i =
        (s.tracker.entries.get i).evaluate (min e.argument.toNat 107999 / 60) s.params.grace s.params.cancelDisplay := fun i =>
    evaluateAll_entries _ _ _ _
  have hframe : Frame [.clock, .entries, .mail] s.takeEntry (s.takeEntry.trackerDo
      (s.tracker.clockSet s.params.grace s.params.cancelDisplay e.argument.toNat)) := by
    refine frame_trackerDo hsends s.takeEntry fun i => ?_
    rw [hentries]
    exact evaluate_seatFields _ _ _ _
  generalize hu : s.takeEntry.trackerDo (s.tracker.clockSet s.params.grace s.params.cancelDisplay e.argument.toNat) = u at *
  obtain ⟨hsent, hevents⟩ := evaluationSent_of (s := s) (t := u) (v := e.argument.toNat) (minute := min e.argument.toNat 107999 / 60)
    (by rw [htracker]; exact hentries) (by rw [hmail, htracker, takeEntry_mail]; exact congrArg _ (clockSet_outs ..))
  refine ⟨_, u, rfl, by rw [hrun, clockOutcome_eq], hframe, ?_, ?_, ?_, ?_, ?_, ?_, ?_, hevents, ?_, hsent⟩
  all_goals simp only [BoardOk, htracker]
  · rfl
  · rfl
  · rfl
  · rfl
  · rfl
  · rfl
  · exact setClock_held s.tracker _
  · exact hentries

/-! ### DAY_OPEN at the tracker -/

theorem row_of_dayOpen {e : Entry} (hi : e.index = 1) (hm : e.mask ≠ 0) : e.row = .dayOpen := by
  have hm' : e.mask ≠ 0#32 := hm
  have hc : Index.of 1#10 = .dayOpen := rfl
  simp [Entry.row, hi, hm', hc]

theorem index_of_entry {s : State} {e : Entry} (h : s.entry = some e) : e.index = s.setup.index := by
  unfold State.entry at h
  split at h
  · split at h
    · cases h
    · cases h; rfl
  · cases h

/-- A list of show-changed notes to their four recipients (R24). -/
theorem noteOuts_posts (m : Mail) (notes : List ShowNote) :
    m.posts (notes.flatMap noteOuts) =
      { m with
        toSeats := m.toSeats ++ notes.map .note
        toNotices := m.toNotices ++ notes.map .note
        toReel := m.toReel ++ notes
        toComp := m.toComp ++ notes.map .note } := by
  induction notes generalizing m with
  | nil => simp
  | cons n notes ih =>
    rw [List.flatMap_cons, posts_append, ih]
    simp [noteOuts, posts_cons, Mail.post]

theorem id_of_live {e : ShowEntry} (h : e.state.live = true) : e.id = if e.state = .fetching then 0 else e.fields.id := by
  unfold ShowEntry.id
  cases k : e.state <;> simp_all [ShowState.live]

/-- The REMOVED notes of DAY_OPEN (R3): one for each formerly live show, in slot order. -/
def goneNotes (t : Tracker) : List ShowNote :=
  ((allFin 192).filter fun i => (t.entries.get i).state.live).map (fun i =>
    { slot := i, id := if (t.entries.get i).state = .fetching then 0 else (t.entries.get i).fields.id
      old := (t.entries.get i).state, new := .free
      change := { state := false, start := false, title := false, display := false, removed := true } })

theorem trackerDayOpen_outs (t : Tracker) (v : Nat) :
    (t.dayOpen v).2 =
      (goneNotes t).flatMap noteOuts ++ boardOuts t.board [] ++ heldOuts v ++ minuteOuts (min v 107999 / 60) := by
  have hgone : ((allFin 192).flatMap fun i =>
      if (t.entries.get i).state.live then
        noteOuts { slot := i, id := (t.entries.get i).id, old := (t.entries.get i).state, new := .free, change := removedSet }
      else []) = (goneNotes t).flatMap noteOuts := by
    rw [flatMap_eq_filter_flatMap (fun i => (t.entries.get i).state.live) fun i => rfl, goneNotes, List.flatMap_map]
    refine List.flatMap_congr fun i hi => ?_
    rw [id_of_live (List.mem_filter.1 hi).2]
    rfl
  simp only [Tracker.dayOpen, hgone]
  rfl


/-- DAY_OPEN as it stands before the other units, before the tracker takes it (R171). -/
def State.dayOpenStands (s : State) (e : Entry) : State :=
  ((s.takeEntry.withSetup
    { s.takeEntry.setup with
      dayOpen := some
        { index := e.index, value := e.argument, outcome := clockOutcome e.argument.toNat, seats := true, notices := true,
          comp := true } }).withMail { s.mail with dayOpenNotices := true, dayOpenComp := true }).emit [.seats .dayOpen]

theorem dayOpen_eq {s : State} {e : Entry} (he : s.entry = some e) (hi : e.index = 1) (hm : e.mask ≠ 0) :
    dayOpen s = (s.dayOpenStands e).trackerDo (s.tracker.dayOpen e.argument.toNat) := by
  simp only [dayOpen, he, row_of_dayOpen hi hm]
  rfl

theorem dayOpen_waits {s : State} {e : Entry} (he : s.entry = some e) (hi : e.index = 1) (hm : e.mask ≠ 0) :
    (dayOpen s).setup = { s.setup with
      index := if s.setup.step then 2 else 1
      dayOpen := some
        { index := 1, value := e.argument, outcome := if 107999 < e.argument.toNat then .clamped else .applied
          seats := true, notices := true, comp := true } } := by
  have hindex : s.setup.index = 1 := (index_of_entry he).symm.trans hi
  rw [dayOpen_eq he hi hm, trackerDo_eq, emit_setup, ← clockOutcome_eq]
  simp [State.dayOpenStands, Setup.stepped, hindex, hi]

theorem dayOpen_takes {s : State} {e : Entry} (he : s.entry = some e) (hi : e.index = 1) (hm : e.mask ≠ 0) :
    (dayOpen s).intakes = { s.intakes with setup := s.intakes.setup.tail } := by
  rw [dayOpen_eq he hi hm, trackerDo_eq, emit_intakes]
  rfl

theorem dayOpen_tracker {s : State} {e : Entry} (he : s.entry = some e) (hi : e.index = 1) (hm : e.mask ≠ 0) :
    (dayOpen s).tracker = (s.tracker.dayOpen e.argument.toNat).1 := by
  rw [dayOpen_eq he hi hm]
  exact (trackerDo_mail (trackerDayOpen_sends _ _) _).1

theorem dayOpen_mail {s : State} {e : Entry} (he : s.entry = some e) (hi : e.index = 1) (hm : e.mask ≠ 0) {order : List CompMsg}
    (horder : boardOuts s.tracker.board [] = order.map .comp) :
    (dayOpen s).mail = { s.mail with
      events := s.mail.events ++ if 107999 ≤ e.argument.toNat then [.clockHeld] else []
      toSeats := s.mail.toSeats ++ .dayOpen :: (goneNotes s.tracker).map .note
      toNotices := s.mail.toNotices ++ (goneNotes s.tracker).map .note ++ [.minute (min e.argument.toNat 107999 / 60)]
      toReel := s.mail.toReel ++ goneNotes s.tracker
      toComp := s.mail.toComp ++ (goneNotes s.tracker).map .note ++ order ++ [.minute (min e.argument.toNat 107999 / 60)]
      dayOpenNotices := true, dayOpenComp := true } := by
  rw [dayOpen_eq he hi hm, (trackerDo_mail (trackerDayOpen_sends _ _) _).2, trackerDayOpen_outs, horder, posts_append, posts_append,
    posts_append, noteOuts_posts, compOuts_posts, heldOuts_posts]
  simp [minuteOuts, posts_cons, Mail.post, State.dayOpenStands, emit_mail]

/-- Settles O16. -/
theorem dayOpenFreesEveryShow : Obligations.DayOpenFreesEveryShow := fun s e he hi hm => by
  have htracker := dayOpen_tracker he hi hm
  have hsetup := dayOpen_waits he hi hm
  have hintakes := dayOpen_takes he hi hm
  obtain ⟨order, horder, houts⟩ := boardOuts_noted s (dayOpen s)
  have hmail := dayOpen_mail he hi hm (order := order) (by rw [← houts, htracker]; rfl)
  refine ⟨_, rfl, exec_frame (c := .dayOpen) rfl, ?_⟩
  simp only [commit_tracker, commit_mail, commit_setup, commit_intakes, htracker]
  refine ⟨fun i => rfl, rfl, rfl, rfl, rfl, setClock_held s.tracker _, rfl, rfl, ⟨_, order, ?_, rfl, hmail⟩, hsetup, ?_, ?_, ?_⟩
  · unfold BoardNoted at *
    rw [commit_tracker]
    exact horder
  · simp [State.setupBeat, hsetup]
  · rw [hintakes]
  · rw [hintakes]

end Sys2Proof.Machine
end

section
/-! DAY_OPEN at the other units, and its answer (R28, R69, R116, R171). -/

namespace Sys2Proof.Machine

/-- DAY_OPEN's mark cleared for one unit: while another has still to take the command it waits on, and with the last its result is written (R171). -/
theorem dayOpenAnswer_cases {s u t : State} {f : DayOpenWait → DayOpenWait}
    (hf : ∀ w, (f w).index = w.index ∧ (f w).value = w.value ∧ (f w).outcome = w.outcome) (hu : u.setup = s.setup)
    (hnone : u.setup.dayOpen = none → t = u) (hsome : ∀ w, u.setup.dayOpen = some w → t = u.dayOpenAnswer (f w)) :
    (s.setup.dayOpen = none → t = u) ∧
      ∀ w, s.setup.dayOpen = some w →
        ((f w).seats = true ∨ (f w).notices = true ∨ (f w).comp = true →
          t = u.withSetup { s.setup with dayOpen := some (f w) }) ∧
        ((f w).seats = false → (f w).notices = false → (f w).comp = false →
          t = (u.withSetup { s.setup with dayOpen := none }).result w.index w.value w.outcome) := by
  rw [← hu]
  refine ⟨hnone, fun w hw => ?_⟩
  obtain ⟨hindex, hvalue, houtcome⟩ := hf w
  rw [hsome w hw, State.dayOpenAnswer]
  refine ⟨fun h => ?_, fun h1 h2 h3 => ?_⟩
  · rw [if_pos (by simpa [or_assoc] using h)]
  · rw [if_neg (by simp [h1, h2, h3]), hindex, hvalue, houtcome]

/-- The notices that DAY_OPEN drops: all but the house alert (R69). -/
theorem remove_all_but_house (q : Notices) :
    ((∀ n ∈ q.list, n.ident = houseId) → q.remove (fun n => decide (n.ident ≠ houseId)) = (q, [])) ∧
      ((∃ n ∈ q.list, n.ident ≠ houseId) →
        q.remove (fun n => decide (n.ident ≠ houseId)) =
          q.change (q.list.filter fun n => decide (n.ident = houseId))
            ((q.list.filter fun n => decide (n.ident ≠ houseId)).map Notice.mask)) := by
  unfold Notices.remove
  constructor
  · intro h
    rw [if_neg (by simpa using h)]
  · intro h
    rw [if_pos (by simpa using h)]
    have hkept : (fun n : Notice => !decide (n.ident ≠ houseId)) = fun n => decide (n.ident = houseId) := by
      funext n
      simp
    rw [hkept]

/-- A pane at DAY_OPEN, by its kind (R116). -/
theorem paneDayOpen_cases (p : Pane) :
    (p.kind = .board → p.dayOpen = { p with
        list := [], page := 0, timer := p.dwell * 1000
        rowItems := p.rowItems.map fun x => { x with dirty := true } }) ∧
      (p.kind = .banner ∨ p.kind = .clock → p.dayOpen = { p with item := { p.item with dirty := true } }) ∧
      (p.kind = .none ∨ p.kind = .reel → p.dayOpen = p) := by
  refine ⟨fun h => ?_, ?_, ?_⟩
  · simp only [Pane.dayOpen, Pane.mapItems, Pane.loadTimer, h]
    rfl
  · rintro (h | h) <;> simp [Pane.dayOpen, Pane.mapItems, h, Item.mark]
  · rintro (h | h) <;> simp [Pane.dayOpen, Pane.mapItems, h]

/-- Settles O17. -/
theorem unitsTakeDayOpen : Obligations.UnitsTakeDayOpen := fun s answers hanswers => by
  refine ⟨fun rest hrest => ?_, fun hdue => ?_, fun hdue => ?_⟩
  · have hrun : seatDayOpen s = (s.popSeatMsg.withSeats s.seats.dayOpen).dayOpenSeats := by simp only [seatDayOpen, hrest]
    refine ⟨seatDayOpen s, s.popSeatMsg.withSeats s.seats.dayOpen, rfl, (hanswers _ _ _).2 ?_, ?_⟩
    · rw [hrun]
      refine dayOpenAnswer_cases (fun w => ⟨rfl, rfl, rfl⟩) rfl (fun h => ?_) fun w h => ?_
      · simp only [State.dayOpenSeats, h]
      · simp only [State.dayOpenSeats, h]
    · simp only [State.popSeatMsg, hrest]
      rfl
  · have hrun : noticeDayOpen s = ((s.withMail { s.mail with dayOpenNotices := false }).noticesDo
        (s.notices.remove fun n => decide (n.ident ≠ houseId))).dayOpenNotices := by simp only [noticeDayOpen, if_pos hdue]
    have hremove := remove_all_but_house s.notices
    refine ⟨noticeDayOpen s, s.notices.remove fun n => decide (n.ident ≠ houseId), rfl, (hanswers _ _ _).2 ?_, hremove⟩
    rw [hrun]
    refine dayOpenAnswer_cases (fun w => ⟨rfl, rfl, rfl⟩) (emit_setup _ _) (fun h => ?_) fun w h => ?_
    · simp only [State.dayOpenNotices, noticesDo_eq, h]
    · simp only [State.dayOpenNotices, noticesDo_eq, h]
  · have hrun : compositionDayOpen s =
        ((s.withMail { s.mail with dayOpenComp := false }).withComp s.comp.dayOpen).dayOpenComp := by
      simp only [compositionDayOpen, if_pos hdue]
    refine ⟨compositionDayOpen s, s.comp.dayOpen, rfl, (hanswers _ _ _).2 ?_, ?_, fun sc => ?_, rfl⟩
    · rw [hrun]
      refine dayOpenAnswer_cases (fun w => ⟨rfl, rfl, rfl⟩) rfl (fun h => ?_) fun w h => ?_
      · simp only [State.dayOpenComp, h]
      · simp only [State.dayOpenComp, h]
    · rintro i p rfl
      rw [show s.comp.dayOpen.panes.get i = (s.comp.panes.get i).dayOpen from Table.get_map ..]
      exact paneDayOpen_cases _
    · simp [Comp.dayOpen, Item.mark]

end Sys2Proof.Machine
end

section
/-! MILLISECOND_TICK: every timer counts, after a second and line changes still outstanding have been taken (R1, R71, R74, R105, R124). -/

namespace Sys2Proof.Machine

/-! ### What a tick takes first -/

/-- No second and no line change is outstanding. -/
def State.NothingOutstanding (s : State) : Prop :=
  (s.tracker.millis < 1000 ∨ lastSecond ≤ s.tracker.seconds) ∧ s.notices.alertLine.due = false ∧
    s.notices.hushLine.due = false

theorem secondAdvance_of_not_due {s : State} (h : s.tracker.millis < 1000 ∨ lastSecond ≤ s.tracker.seconds) :
    secondAdvance s = s := by
  rw [secondAdvance, if_neg (by omega)]

theorem alertLineAsserted_of_not_due {s : State} (h : s.notices.alertLine.due = false) : alertLineAsserted s = s := by
  simp [alertLineAsserted, h]

theorem alertLineDeasserted_of_not_due {s : State} (h : s.notices.alertLine.due = false) : alertLineDeasserted s = s := by
  simp [alertLineDeasserted, h]

theorem hushLineChange_of_not_due {s : State} (h : s.notices.hushLine.due = false) : hushLineChange s = s := by
  simp [hushLineChange, h]

theorem takeOutstanding_of_nothing {s : State} (h : s.NothingOutstanding) : s.takeOutstanding = s := by
  obtain ⟨hsec, halert, hhush⟩ := h
  rw [State.takeOutstanding, secondAdvance_of_not_due hsec, alertLineAsserted_of_not_due halert,
    alertLineDeasserted_of_not_due halert, hushLineChange_of_not_due hhush]

theorem secondAdvance_clears (s : State) :
    (secondAdvance s).tracker.millis < 1000 ∨ lastSecond ≤ (secondAdvance s).tracker.seconds := by
  unfold secondAdvance
  split
  · exact .inl (by simp [Tracker.advance])
  · omega

theorem change_lines (l : List Notice) (m : List (BitVec 32)) (q : Notices) :
    (q.change l m).1.alertLine = q.alertLine ∧ (q.change l m).1.hushLine = q.hushLine := ⟨rfl, rfl⟩

theorem enterHouse_lines (q : Notices) : q.enterHouse.1.alertLine = q.alertLine ∧ q.enterHouse.1.hushLine = q.hushLine := by
  unfold Notices.enterHouse
  split <;> exact ⟨rfl, rfl⟩

theorem remove_lines (p : Notice → Bool) (q : Notices) :
    (q.remove p).1.alertLine = q.alertLine ∧ (q.remove p).1.hushLine = q.hushLine := by
  unfold Notices.remove
  split <;> exact ⟨rfl, rfl⟩

theorem noticesDo_tracker {p : Notices × List Out} (h : Sends [.mail] p.2) (s : State) :
    (s.noticesDo p).tracker = s.tracker ∧ (s.noticesDo p).notices = p.1 := by
  rw [noticesDo_eq, emit_posts h]
  exact ⟨rfl, rfl⟩

theorem alertOn_lines (q : Notices) : q.alertOn.1.alertLine = q.alertLine.flip ∧ q.alertOn.1.hushLine = q.hushLine :=
  enterHouse_lines _

theorem alertOff_lines (q : Notices) : q.alertOff.1.alertLine = q.alertLine.flip ∧ q.alertOff.1.hushLine = q.hushLine :=
  remove_lines _ _

theorem alertLineAsserted_lines (s : State) :
    (alertLineAsserted s).tracker = s.tracker ∧ (alertLineAsserted s).notices.hushLine = s.notices.hushLine ∧
      (s.notices.alertLine.level = false → (alertLineAsserted s).notices.alertLine.due = false) ∧
      (s.notices.alertLine.level = true → (alertLineAsserted s).notices.alertLine = s.notices.alertLine) := by
  unfold alertLineAsserted
  split
  · rename_i hguard
    obtain ⟨htracker, hnotices⟩ := noticesDo_tracker (p := s.notices.alertOn) (enterHouse_sends _) s
    obtain ⟨halert, hhush⟩ := alertOn_lines s.notices
    simp only [Bool.and_eq_true, Bool.not_eq_true'] at hguard
    rw [htracker, hnotices, halert, hhush]
    exact ⟨rfl, rfl, fun _ => rfl, fun h => by simp [hguard.2] at h⟩
  · rename_i hguard
    simp only [Bool.and_eq_true, Bool.not_eq_true', not_and, Bool.not_eq_false] at hguard
    refine ⟨rfl, rfl, fun h => ?_, fun _ => rfl⟩
    by_contra hdue
    simp [hguard (by simpa using hdue)] at h

theorem alertLineDeasserted_lines (s : State) :
    (alertLineDeasserted s).tracker = s.tracker ∧ (alertLineDeasserted s).notices.hushLine = s.notices.hushLine ∧
      (s.notices.alertLine.level = true ∨ s.notices.alertLine.due = false →
        (alertLineDeasserted s).notices.alertLine.due = false) := by
  unfold alertLineDeasserted
  split
  · obtain ⟨htracker, hnotices⟩ := noticesDo_tracker (p := s.notices.alertOff) (remove_sends _ _) s
    obtain ⟨halert, hhush⟩ := alertOff_lines s.notices
    rw [htracker, hnotices, halert, hhush]
    exact ⟨rfl, rfl, fun _ => rfl⟩
  · rename_i hguard
    simp only [Bool.and_eq_true, not_and, Bool.not_eq_true] at hguard
    refine ⟨rfl, rfl, fun h => ?_⟩
    by_contra hdue
    rcases h with h | h
    · simp [hguard (by simpa using hdue)] at h
    · exact hdue h

theorem hushLineChange_lines (s : State) :
    (hushLineChange s).tracker = s.tracker ∧ (hushLineChange s).notices.alertLine = s.notices.alertLine ∧
      (hushLineChange s).notices.hushLine.due = false := by
  unfold hushLineChange
  split
  · obtain ⟨htracker, hnotices⟩ := noticesDo_tracker (p := s.notices.hushChange) (by simp [Notices.hushChange, Out.block]) s
    rw [htracker, hnotices]
    exact ⟨rfl, rfl, rfl⟩
  · rename_i h
    exact ⟨rfl, rfl, by simpa using h⟩

/-- After the outstanding second and line changes have been taken none is outstanding. -/
theorem takeOutstanding_clears (s : State) : s.takeOutstanding.NothingOutstanding := by
  have hsec := secondAdvance_clears s
  obtain ⟨hclock, -, hlow, hhigh⟩ := alertLineAsserted_lines (secondAdvance s)
  obtain ⟨hclock', -, hdue⟩ := alertLineDeasserted_lines (alertLineAsserted (secondAdvance s))
  obtain ⟨hclock'', halert, hhush⟩ := hushLineChange_lines (alertLineDeasserted (alertLineAsserted (secondAdvance s)))
  unfold State.NothingOutstanding State.takeOutstanding
  rw [hclock'', hclock', hclock, halert]
  refine ⟨hsec, hdue ?_, hhush⟩
  cases hlevel : (secondAdvance s).notices.alertLine.level with
  | false => exact .inr (hlow hlevel)
  | true => exact .inl (by rw [hhigh hlevel, hlevel])

/-! ### No command of a tick reads the changed mark -/

/-- The state with its changed mark given. -/
def State.withChanged (b : Bool) (s : State) : State := s.withEvents { s.events with changed := b }

theorem commit_withChanged (s t : State) : ∃ b, commit s t = t.withChanged b := ⟨_, commit_eq s t⟩

theorem alike_withChanged (s : State) (a b : Bool) : Alike (s.withChanged a) (s.withChanged b) := rfl

theorem emit_withChanged (b : Bool) (s : State) (outs : List Out) : (s.withChanged b).emit outs = (s.emit outs).withChanged b := by
  induction outs generalizing s with
  | nil => rfl
  | cons o outs ih => rw [emit_cons, emit_cons, ← ih]; rfl

theorem secondAdvance_withChanged (b : Bool) (s : State) : secondAdvance (s.withChanged b) = (secondAdvance s).withChanged b := by
  simp only [secondAdvance, trackerDo_eq, apply_ite (State.withChanged b), ← emit_withChanged]
  rfl

theorem alertLineAsserted_withChanged (b : Bool) (s : State) :
    alertLineAsserted (s.withChanged b) = (alertLineAsserted s).withChanged b := by
  simp only [alertLineAsserted, noticesDo_eq, apply_ite (State.withChanged b), ← emit_withChanged]
  rfl

theorem alertLineDeasserted_withChanged (b : Bool) (s : State) :
    alertLineDeasserted (s.withChanged b) = (alertLineDeasserted s).withChanged b := by
  simp only [alertLineDeasserted, noticesDo_eq, apply_ite (State.withChanged b), ← emit_withChanged]
  rfl

theorem hushLineChange_withChanged (b : Bool) (s : State) : hushLineChange (s.withChanged b) = (hushLineChange s).withChanged b := by
  simp only [hushLineChange, noticesDo_eq, apply_ite (State.withChanged b), ← emit_withChanged]
  rfl

theorem takeOutstanding_withChanged (b : Bool) (s : State) :
    (s.withChanged b).takeOutstanding = s.takeOutstanding.withChanged b := by
  simp only [State.takeOutstanding, secondAdvance_withChanged, alertLineAsserted_withChanged, alertLineDeasserted_withChanged,
    hushLineChange_withChanged]

theorem withChanged_withChanged (a b : Bool) (s : State) : (s.withChanged a).withChanged b = s.withChanged b := rfl

/-- The four commands taken one after the other do what a tick takes first. -/
theorem takeOutstanding_of_commands {s s1 s2 s3 s4 : State} (h1 : exec .secondAdvance s = .next s1)
    (h2 : exec .alertLineAsserted s1 = .next s2) (h3 : exec .alertLineDeasserted s2 = .next s3)
    (h4 : exec .hushLineChange s3 = .next s4) : ∃ b, s4 = s.takeOutstanding.withChanged b := by
  obtain ⟨b1, k1⟩ := commit_withChanged s (secondAdvance s)
  obtain ⟨b2, k2⟩ := commit_withChanged s1 (alertLineAsserted s1)
  obtain ⟨b3, k3⟩ := commit_withChanged s2 (alertLineDeasserted s2)
  obtain ⟨b4, k4⟩ := commit_withChanged s3 (hushLineChange s3)
  have e1 := (next_of_goOn h1).trans k1
  have e2 := (next_of_goOn h2).trans k2
  have e3 := (next_of_goOn h3).trans k3
  have e4 := (next_of_goOn h4).trans k4
  refine ⟨b4, ?_⟩
  rw [e4, e3, e2, e1]
  simp only [alertLineAsserted_withChanged, alertLineDeasserted_withChanged, hushLineChange_withChanged, withChanged_withChanged]
  rfl

/-- A tick counts after the outstanding commands as it would have taken them itself. -/
theorem millisecondTick_after_commands {a h : Bool} {s s1 s2 s3 s4 t : State} (h1 : exec .secondAdvance s = .next s1)
    (h2 : exec .alertLineAsserted s1 = .next s2) (h3 : exec .alertLineDeasserted s2 = .next s3)
    (h4 : exec .hushLineChange s3 = .next s4) (h5 : exec (.millisecondTick a h) s4 = .next t) :
    ∃ u, exec (.millisecondTick a h) s = .next u ∧ Alike u t := by
  obtain ⟨b, h4'⟩ := takeOutstanding_of_commands h1 h2 h3 h4
  obtain ⟨c, k⟩ := commit_withChanged s4 (millisecondTick a h s4)
  obtain ⟨d, k'⟩ := commit_withChanged s (millisecondTick a h s)
  have ht : t = (millisecondTick a h s4).withChanged c := (next_of_goOn h5).trans k
  have hu : millisecondTick a h s4 = (millisecondTick a h s).withChanged b := by
    rw [millisecondTick, h4', takeOutstanding_withChanged, takeOutstanding_of_nothing (takeOutstanding_clears s)]
    rfl
  refine ⟨_, rfl, ?_⟩
  rw [ht, hu, k']
  rfl

/-! ### Every timer counts -/

theorem paneScreen_paneIx (sc : Fin 32) (p : Fin 4) : paneScreen (paneIx sc p) = sc := by
  ext
  simp only [paneScreen, paneIx]
  omega

theorem tick_eq (t : Tracker) :
    t.tick = { t with millis := if t.run = true ∧ t.seconds < 107999 then t.millis + 1 else t.millis } := by
  unfold Tracker.tick lastSecond
  by_cases h : t.run = true ∧ t.seconds < 107999
  · rw [if_pos (by simp [h.1, h.2]), if_pos h]
  · rw [if_neg (by simpa using h), if_neg h]

theorem rotationTick_eq (alerted : Bool) (r : Rotation) :
    r.tick alerted = { r with timer := if r.current.isSome = true ∧ alerted = false then r.timer - 1 else r.timer } := by
  unfold Rotation.tick
  by_cases hcurrent : r.current.isSome = true
  · cases alerted <;> simp [hcurrent]
  · simp [hcurrent]

theorem paneTick_eq (alerted : Bool) (p : Pane) :
    p.tick alerted =
      if p.kind = .board ∧ p.fitness = .fit ∧ alerted = false then { p with timer := p.timer - 1 } else p := by
  unfold Pane.tick Pane.active
  cases hkind : p.kind with
  | board => cases alerted <;> simp
  | _ => simp

/-- Settles O12. -/
theorem millisecondTickCountsEveryTimer : Obligations.MillisecondTickCountsEveryTimer := by
  refine ⟨fun a h s hmillis halert hhush => ?_, fun a h s s1 s2 s3 s4 t h1 h2 h3 h4 h5 =>
    millisecondTick_after_commands h1 h2 h3 h4 h5⟩
  have hrun : millisecondTick a h s = s.tickAll a h := by
    rw [millisecondTick, takeOutstanding_of_nothing ⟨.inl hmillis, halert, hhush⟩]
  refine ⟨commit s (s.tickAll a h), by rw [← hrun]; rfl, Frame.commit ?_, ?_⟩
  · intro b hb
    cases b <;> simp_all [Block.same, State.tickAll]
    case entries => simp [Tracker.tick]; split <;> simp
    case seatFields => simp [Tracker.tick]; split <;> simp
  simp only [commit_tracker, commit_time, commit_notices, commit_comp, commit_rings]
  refine ⟨tick_eq _, rfl, ?_, ?_, ?_, rfl, ?_, ?_⟩
  · simp only [State.tickAll, Notices.tick, Debouncer.sample]
  · simp only [State.tickAll, Notices.tick, Debouncer.sample]
  · rintro sc p r rfl
    have hget : (s.tickAll a h).notices.rotations.get (paneIx sc p) =
        (s.notices.rotations.get (paneIx sc p)).tick (s.notices.alerts.get sc).isSome := by
      simp [State.tickAll, Notices.tick, paneScreen_paneIx]
    rw [hget, rotationTick_eq]
    simp
  · intro sc p
    have hget : (s.tickAll a h).comp.panes.get (paneIx sc p) =
        (s.comp.panes.get (paneIx sc p)).tick (s.comp.screens.get sc).underAlert := by
      simp [State.tickAll, Comp.tick, paneScreen_paneIx]
    rw [hget, paneTick_eq]
  · intro n
    have hget : (s.tickAll a h).rings.get n = (s.rings.get n).tick := by simp [State.tickAll]
    rw [hget]
    rfl

end Sys2Proof.Machine
end

section
/-! The Schedule Tracker's show table: control words, records, titles and desk effects (R9 to R24). -/

namespace Sys2Proof.Machine

/-! ### What one show's event sends -/

/-- The events, seat requests and notes of one show, in their order (R22, R24). -/
theorem showOuts_posts (m : Mail) (evs : List EventKind) (reqs : List SeatMsg) (notes : List ShowNote) :
    m.posts (evs.map .event ++ (reqs.map .seats ++ notes.flatMap noteOuts)) =
      { m with
        events := m.events ++ evs
        toSeats := m.toSeats ++ reqs ++ notes.map .note
        toNotices := m.toNotices ++ notes.map .note
        toReel := m.toReel ++ notes
        toComp := m.toComp ++ notes.map .note } := by
  have hevents (m : Mail) : m.posts (evs.map .event) = { m with events := m.events ++ evs } := by
    induction evs generalizing m with
    | nil => simp
    | cons k evs ih => rw [List.map_cons, posts_cons, ih]; simp [Mail.post]
  have hreqs (m : Mail) : m.posts (reqs.map .seats) = { m with toSeats := m.toSeats ++ reqs } := by
    induction reqs generalizing m with
    | nil => simp
    | cons x reqs ih => rw [List.map_cons, posts_cons, ih]; simp [Mail.post]
  rw [posts_append, posts_append, hevents, hreqs, noteOuts_posts]

/-! ### A record taken, without a refetch pending (R10, R11) -/

/-- The tracker with the slot's fetch no longer in flight. -/
def Tracker.taking (t : Tracker) (slot : Fin 192) : Tracker :=
  { t with entries := t.entries.modify slot fun e => { e with fetch := .none } }

theorem taking_get (t : Tracker) (slot : Fin 192) :
    (t.taking slot).entries.get slot = { t.entries.get slot with fetch := .none } := Table.get_modify_self ..

theorem taking_set (t : Tracker) (slot : Fin 192) (e : ShowEntry) : (t.taking slot).entries.set slot e = t.entries.set slot e := by
  refine Table.ext_get fun j => ?_
  by_cases h : slot = j
  · subst h; simp
  · simp [Tracker.taking, h]

/-- What a record leaves of its entry: the fetch bookkeeping and the seat fields. -/
theorem applyRecord_keeps (t : Tracker) (w : Windows) (x : EvalAt) (i : Fin 192) (bs : List Byte) (err : Bool) :
    (t.applyRecord w x i bs err).entry.fetch = (t.entries.get i).fetch ∧
      (t.applyRecord w x i bs err).entry.fetchNo = (t.entries.get i).fetchNo ∧
      (t.applyRecord w x i bs err).entry.refetch = (t.entries.get i).refetch ∧
      (t.applyRecord w x i bs err).entry.seatStatus = (t.entries.get i).seatStatus ∧
      (t.applyRecord w x i bs err).entry.boundSlot = (t.entries.get i).boundSlot := by
  unfold Tracker.applyRecord publishReject publishUpdate publishNew applyUnlist applyCancel applyReinstate cancelShow
    ShowEntry.leaveFetching ShowEntry.evaluate ShowEntry.moveTo
  dsimp only
  repeat' split
  all_goals exact ⟨rfl, rfl, rfl, rfl, rfl⟩

theorem set_modify_self {α : Type} {n : Nat} (T : Table n α) (i : Fin n) (x : α) (f : α → α) :
    (T.set i x).modify i f = T.set i (f x) := by
  refine Table.ext_get fun j => ?_
  by_cases h : i = j
  · subst h; simp
  · simp [h]

/-- The title read of a show's fields (R11). -/
def titleRead (i : Fin 192) (f : ShowFields) (no : Nat) : AgentReq :=
  { cls := .record, write := false, addr := textBase f.titleAddr, beats := textBeats f.titleAddr f.titleLen, data := []
    tag := .title i no }

/-- The entry after its record, its title fetch begun where the record calls for one (R11). -/
def Applied.fetched (a : Applied) (no : Nat) : ShowEntry :=
  if a.title then { a.entry with fetch := .title, fetchNo := no } else a.entry

/-- The tracker's event of a record, where no refetch is pending. -/
theorem recordDone_of_no_refetch {t : Tracker} {i : Fin 192} (w : Windows) (x : EvalAt) (bs : List Byte) (err : Bool) {a : Applied}
    (ha : a = (t.taking i).applyRecord w x i bs err) (hre : (t.entries.get i).refetch = false) :
    t.recordDone w x i bs err =
      ({ t with
          board := boardOf (t.entries.set i a.entry)
          fetchCount := if a.title then t.fetchCount + 1 else t.fetchCount
          entries := t.entries.set i (a.fetched (t.fetchCount + 1)) },
        a.outs ++ boardOuts t.board (boardOf (t.entries.set i a.entry)) ++
          if a.title then [.agent (titleRead i a.entry.fields (t.fetchCount + 1))] else []) := by
  have hkeep : a.entry.refetch = false := by
    rw [ha, (applyRecord_keeps ..).2.2.1, taking_get]
    exact hre
  have hdone : t.recordDone w x i bs err =
      andThen (Tracker.settle ({ t with entries := t.entries.set i a.entry }, a.outs)) (Tracker.afterRecord w i a.title) := by
    rw [ha, ← taking_set]
    rfl
  rw [hdone]
  cases htitle : a.title with
  | false => simp [Tracker.settle, andThen, Applied.fetched, htitle, Tracker.afterRecord, Tracker.refetch, hkeep]
  | true =>
    simp [Tracker.settle, andThen, Applied.fetched, htitle, Tracker.afterRecord, Tracker.issueTitle, set_modify_self, agentRead,
      titleRead]

theorem set_boardKey {T : Table 192 ShowEntry} {i : Fin 192} {a b : ShowEntry} (h : a.boardKey = b.boardKey) :
    boardOf (T.set i a) = boardOf (T.set i b) := by
  refine boardOf_congr fun j => ?_
  by_cases hij : i = j
  · subst hij; simpa using h
  · simp [hij]

/-- What a record that is taken leaves (R10, R11), with what applying it does given. -/
structure RecordTaken (s t : State) (i : Fin 192) (rest : List Response) (a : Applied) : Prop where
  board : t.tracker.board = boardOf t.tracker.entries
  tracker : t.tracker = { s.tracker with
    board := t.tracker.board
    fetchCount := if a.title then s.tracker.fetchCount + 1 else s.tracker.fetchCount
    entries := s.tracker.entries.set i (a.fetched (s.tracker.fetchCount + 1)) }
  path : t.path = { s.path with
    recordQ := s.path.recordQ ++
      if a.title then [titleRead i a.entry.fields (s.tracker.fetchCount + 1)] else [] }
  mail : ∃ order, BoardNoted s t order ∧
    t.mail = (({ s.mail with trackerResp := rest } : Mail).posts a.outs).posts (order.map .comp)
  frame : Frame ([.clock, .entries, .mail] ++ if a.title then [.classQueues] else []) s t

theorem applyRecord_fetched_seatFields {t : Tracker} {w : Windows} {x : EvalAt} {i : Fin 192} {bs : List Byte} {err : Bool}
    {a : Applied} (ha : a = (t.taking i).applyRecord w x i bs err) (no : Nat) :
    (a.fetched no).seatStatus = (t.entries.get i).seatStatus ∧ (a.fetched no).boundSlot = (t.entries.get i).boundSlot := by
  obtain ⟨-, -, -, hstatus, hbound⟩ := applyRecord_keeps (t.taking i) w x i bs err
  rw [← ha, taking_get] at hstatus hbound
  unfold Applied.fetched
  split <;> exact ⟨hstatus, hbound⟩

/-- Sendings to inboxes, and a read of the RECORD class where one goes out. -/
theorem emit_posts_read {outs : List Out} (h : Sends [.mail] outs) (s : State) (c : Bool) {r : AgentReq} (hr : r.cls = .record) :
    s.emit (outs ++ if c then [.agent r] else []) =
      { s with
        mail := s.mail.posts outs
        path := { s.path with recordQ := s.path.recordQ ++ if c then [r] else [] } } := by
  rw [emit_append, emit_posts h]
  cases c <;> simp [State.emit, State.send, Path.post, Path.enqueue, hr, Mail.post, Tracker.post, State.withMail]

theorem recordFetchDone_eq {s : State} {i : Fin 192} {no : Nat} {data : List Beat} {err : Bool} {rest : List Response}
    {a : Applied} (hresp : s.mail.trackerResp = { tag := .record i no, data := data, err := err } :: rest)
    (hfetch : (s.tracker.entries.get i).fetch = .record) (hno : (s.tracker.entries.get i).fetchNo = no)
    (hre : (s.tracker.entries.get i).refetch = false)
    (ha : a = (s.tracker.taking i).applyRecord s.path.windows s.evalAt i (beatsBytes data) err) :
    recordFetchDone s =
      { s with
        tracker := { s.tracker with
          board := boardOf (s.tracker.entries.set i a.entry)
          fetchCount := if a.title then s.tracker.fetchCount + 1 else s.tracker.fetchCount
          entries := s.tracker.entries.set i (a.fetched (s.tracker.fetchCount + 1)) }
        mail := ({ s.mail with trackerResp := rest } : Mail).posts
          (a.outs ++ boardOuts s.tracker.board (boardOf (s.tracker.entries.set i a.entry)))
        path := { s.path with
          recordQ := s.path.recordQ ++
            if a.title then [titleRead i a.entry.fields (s.tracker.fetchCount + 1)] else [] } } := by
  have hsends : Sends [.mail] (a.outs ++ boardOuts s.tracker.board (boardOf (s.tracker.entries.set i a.entry))) := by
    rw [sends_append, ha]
    exact ⟨applyRecord_sends _ _ _ _ _ _, boardOuts_sends _ _⟩
  rw [recordFetchDone_of_awaited hresp hfetch hno, recordDone_of_no_refetch s.path.windows s.evalAt (beatsBytes data) err ha hre,
    trackerDo_eq, emit_posts_read hsends _ _ rfl]
  simp [State.popTracker, hresp]

theorem recordTaken_of_awaited {s : State} {i : Fin 192} {no : Nat} {data : List Beat} {err : Bool} {rest : List Response}
    {a : Applied} (hresp : s.mail.trackerResp = { tag := .record i no, data := data, err := err } :: rest)
    (hfetch : (s.tracker.entries.get i).fetch = .record) (hno : (s.tracker.entries.get i).fetchNo = no)
    (hre : (s.tracker.entries.get i).refetch = false)
    (ha : a = (s.tracker.taking i).applyRecord s.path.windows s.evalAt i (beatsBytes data) err) :
    RecordTaken s (recordFetchDone s) i rest a := by
  have hrun := recordFetchDone_eq hresp hfetch hno hre ha
  have hseat := applyRecord_fetched_seatFields ha (s.tracker.fetchCount + 1)
  obtain ⟨order, horder, houts⟩ := boardOuts_noted s (recordFetchDone s)
  refine ⟨?_, ?_, ?_, ⟨order, horder, ?_⟩, ?_⟩
  · rw [hrun]
    refine set_boardKey ?_
    unfold Applied.fetched
    split <;> rfl
  · rw [hrun]
  · rw [hrun]
  · rw [← houts, ← posts_append, hrun]
  · rw [hrun]
    intro b hb
    cases b with
    | seatFields =>
      intro j
      by_cases h : i = j
      · subst h; simpa using hseat
      · simp [h]
    | classQueues => cases htitle : a.title <;> simp_all [Block.same]
    | _ => simp_all [Block.same, Path.bare]

theorem BoardNoted.commit {s t : State} {order : List CompMsg} (h : BoardNoted s t order) (u : State) :
    BoardNoted s (Machine.commit u t) order := by
  unfold BoardNoted at *
  rw [commit_tracker]
  exact h

theorem RecordTaken.commit {s t : State} {i : Fin 192} {rest : List Response} {a : Applied} (h : RecordTaken s t i rest a) :
    RecordTaken s (Machine.commit s t) i rest a := by
  obtain ⟨order, horder, hmail⟩ := h.mail
  exact ⟨by rw [commit_tracker]; exact h.board, by rw [commit_tracker]; exact h.tracker, by rw [commit_path]; exact h.path,
    ⟨order, horder.commit s, by rw [commit_mail]; exact hmail⟩, h.frame.commit⟩

/-- The inboxes after a record, with what it sends given as events, seat requests and notes. -/
theorem RecordTaken.inboxes {s t : State} {i : Fin 192} {rest : List Response} {a : Applied} (h : RecordTaken s t i rest a)
    {evs : List EventKind} {reqs : List SeatMsg} {notes : List ShowNote}
    (houts : a.outs = evs.map .event ++ (reqs.map .seats ++ notes.flatMap noteOuts)) :
    t.mail.trackerResp = rest ∧ t.mail.events = s.mail.events ++ evs ∧
      t.mail.toSeats = s.mail.toSeats ++ reqs ++ notes.map .note ∧ t.mail.toReel = s.mail.toReel ++ notes ∧
      t.mail.toNotices = s.mail.toNotices ++ notes.map .note ∧
      ∃ order, BoardNoted s t order ∧ t.mail.toComp = s.mail.toComp ++ notes.map .note ++ order := by
  obtain ⟨order, horder, hmail⟩ := h.mail
  rw [houts, showOuts_posts, compOuts_posts] at hmail
  rw [hmail]
  exact ⟨rfl, rfl, rfl, rfl, rfl, order, horder, rfl⟩

theorem RecordTaken.frame_of_no_title {s t : State} {i : Fin 192} {rest : List Response} {a : Applied} (h : RecordTaken s t i rest a)
    (ha : a.title = false) : Frame [.clock, .entries, .mail] s t := by
  simpa [ha] using h.frame

theorem RecordTaken.frame_of_title {s t : State} {i : Fin 192} {rest : List Response} {a : Applied} (h : RecordTaken s t i rest a) :
    Frame [.clock, .entries, .mail, .classQueues] s t :=
  h.frame.mono fun b hb => by cases htitle : a.title <;> simp_all <;> tauto

theorem RecordTaken.tracker_of_no_title {s t : State} {i : Fin 192} {rest : List Response} {a : Applied}
    (h : RecordTaken s t i rest a) (ha : a.title = false) :
    t.tracker = { s.tracker with board := t.tracker.board, entries := s.tracker.entries.set i a.entry } := by
  simpa [ha, Applied.fetched] using h.tracker

theorem RecordTaken.entry_of_ne {s t : State} {i j : Fin 192} {rest : List Response} {a : Applied} (h : RecordTaken s t i rest a)
    (hj : j ≠ i) : t.tracker.entries.get j = s.tracker.entries.get j := by
  rw [h.tracker]
  simp [hj.symm]

/-! ### A record that is rejected (R12, R15) -/

theorem applyRecord_of_rejected {s : State} {i : Fin 192} {data : List Beat} {err : Bool} {e : ShowEntry} {reason : RejectReason}
    (he : s.tracker.entries.get i = e)
    (hfail : err = true ∧ reason = .memory ∨ err = false ∧ showAction (beatsBytes data) = .publish ∧ reason ≠ .none ∧
      s.tracker.validate s.path.windows i (showFields (beatsBytes data)) false = reason) :
    (s.tracker.taking i).applyRecord s.path.windows s.evalAt i (beatsBytes data) err =
      publishReject i { e with fetch := .none, generation := if err then e.generation else showGeneration (beatsBytes data) }
        reason := by
  rcases hfail with ⟨rfl, rfl⟩ | ⟨rfl, hact, hne, hval⟩
  · simp [Tracker.applyRecord, taking_get, he]
  · have hval' : (s.tracker.taking i).validate s.path.windows i (showFields (beatsBytes data)) false = reason :=
      (validate_modify_self ..).trans hval
    simp [Tracker.applyRecord, hact, hval', hne, taking_get, he]

theorem publishReject_outs (i : Fin 192) (e : ShowEntry) (reason : RejectReason) :
    (publishReject i e reason).outs =
      [.recordRejected].map .event ++
        (((if e.state.visible ∧ e.fields.seatsTracked then [.release i] else []).map .seats) ++
          [if e.state.visible then { slot := i, id := e.fields.id, old := e.state, new := .rejected, change := removedSet }
            else { slot := i, id := 0, old := e.state, new := .rejected, change := stateOnly }].flatMap noteOuts) := by
  cases hv : e.state.visible <;> cases ht : e.fields.seatsTracked <;> simp [publishReject, removalOuts, hv, ht]

/-- Settles O20. -/
theorem failedPublishRejectsTheEntry : Obligations.FailedPublishRejectsTheEntry := by
  intro s i no data err rest e reason hresp he hfetch hno hre hfail
  have htaken := (recordTaken_of_awaited hresp (by rw [he]; exact hfetch) (by rw [he]; exact hno) (by rw [he]; exact hre)
    (applyRecord_of_rejected he hfail).symm).commit
  obtain ⟨hrest, hevents, hseats, hreel, hnotices, hcomp⟩ := htaken.inboxes (publishReject_outs ..)
  refine ⟨_, rfl, htaken.frame_of_no_title rfl, htaken.board, htaken.tracker_of_no_title rfl, hrest, hevents, ?_⟩
  rintro n rfl
  exact ⟨hreel, hnotices, by simpa using hcomp, hseats⟩

/-! ### What a state change of one show sends -/

theorem targetOf_ne_cancelled (c e o g : Nat) : targetOf c e o g ≠ .cancelled := by
  rcases targetOf_cases c e o g with h | h | h | h <;> simp [h]

theorem targetOf_selling (c e o g : Nat) : (targetOf c e o g).selling = true ↔ targetOf c e o g ≠ .retired := by
  rcases targetOf_cases c e o g with h | h | h | h <;> simp [h, ShowState.selling]

/-- A show in ON_SALE or CLOSING is evaluated to its target (R7, R8). -/
theorem evaluate_sellingNow {e : ShowEntry} (c g d : Nat) (h : e.state.sellingNow = true) :
    e.evaluate c g d = { e with state := targetOf c e.effStart e.fields.closeOffset g, cancelMinute := none } := by
  have hne := targetOf_ne_cancelled c e.effStart e.fields.closeOffset g
  cases hs : e.state <;>
    simp_all [ShowEntry.evaluate, ShowEntry.moveTo, evalState, ShowState.sellingNow, ShowState.visible]

theorem id_of_target {e : ShowEntry} {c s o g : Nat} (h : e.state = targetOf c s o g) : e.id = e.fields.id := by
  unfold ShowEntry.id
  rcases targetOf_cases c s o g with k | k | k | k <;> simp [h, k]

/-- The note of a show of which the state alone differs. -/
theorem diffNote_of_moved {i : Fin 192} {e : ShowEntry} {st : ShowState} (k : Option Nat) (h : e.state ≠ st) :
    diffNote i e { e with state := st, cancelMinute := k } =
      noteOuts { slot := i, id := ({ e with state := st } : ShowEntry).id, old := e.state, new := st, change := stateOnly } := by
  have hchanges : changesOf e { e with state := st, cancelMinute := k } = stateOnly := by simp [changesOf, h, stateOnly]
  rw [diffNote, hchanges]
  rfl

/-! ### UNLIST, CANCEL, REINSTATE and NONE (R16 to R18) -/

theorem applyUnlist_outs (i : Fin 192) (e : ShowEntry) :
    (applyUnlist i e).outs =
      [].map .event ++
        (((if e.state.visible ∧ e.fields.seatsTracked then [.release i] else []).map .seats) ++
          [if e.state.visible then { slot := i, id := e.fields.id, old := e.state, new := .free, change := removedSet }
            else { slot := i, id := 0, old := e.state, new := .free, change := stateOnly }].flatMap noteOuts) := by
  cases hv : e.state.visible <;> cases ht : e.fields.seatsTracked <;> simp [applyUnlist, removalOuts, hv, ht]

theorem cancelShow_outs {i : Fin 192} {e : ShowEntry} (minute : Nat) (h : e.state.selling = true) :
    (cancelShow minute i e).2 =
      (((if e.fields.seatsTracked then [.release i] else []).map .seats) ++
        [{ slot := i, id := e.fields.id, old := e.state, new := .cancelled, change := stateOnly }].flatMap noteOuts) := by
  have hne : e.state ≠ .cancelled := fun k => by simp [k, ShowState.selling] at h
  simp only [cancelShow]
  rw [diffNote_of_moved _ hne]
  cases ht : e.fields.seatsTracked <;> simp [ShowEntry.id]

theorem reinstate_eq {i : Fin 192} {e : ShowEntry} (x : EvalAt) {st : ShowState} (h : e.state = .cancelled)
    (hst : st = targetOf x.minute e.effStart e.fields.closeOffset x.grace) :
    applyReinstate x i e =
      { entry := { e with state := st, cancelMinute := none }
        outs := [].map .event ++
          ((if e.fields.seatsTracked = true ∧ st ≠ .retired then
              [.bind i e.fields.mapAddr e.fields.seatCount e.fields.holdback e.effStart] else []).map .seats ++
            [{ slot := i, id := e.fields.id, old := .cancelled, new := st, change := stateOnly }].flatMap noteOuts)
        title := false } := by
  have heval := evaluate_sellingNow (e := { e with state := .onSale, cancelMinute := none }) x.minute x.grace x.display rfl
  simp only at heval
  have hne : e.state ≠ st := by rw [h, hst]; exact Ne.symm (targetOf_ne_cancelled _ _ _ _)
  have hid : ({ e with state := st } : ShowEntry).id = e.fields.id := id_of_target hst
  have hselling : st.selling = true ↔ st ≠ .retired := by rw [hst]; exact targetOf_selling _ _ _ _
  simp only [applyReinstate, if_pos h, heval, ← hst]
  rw [diffNote_of_moved _ hne, hid, h]
  by_cases hr : st = .retired
  · cases ht : e.fields.seatsTracked <;> simp [seatOuts, ShowEntry.wants, ht, h, hr, ShowState.selling]
  · cases ht : e.fields.seatsTracked <;>
      simp [seatOuts, ShowEntry.wants, ht, h, hr, hselling.2 hr, show ShowState.cancelled.selling = false from rfl, bindOut]

/-- Settles O23. -/
theorem otherActionsActOnTheEntry : Obligations.OtherActionsActOnTheEntry := by
  intro s i no data rest e e' reqs notes evs st hresp he hfetch hno hre hst hact
  have happ : ∃ a : Applied, (s.tracker.taking i).applyRecord s.path.windows s.evalAt i (beatsBytes data) false = a ∧
      a.entry = e' ∧ a.title = false ∧ a.outs = evs.map .event ++ (reqs.map .seats ++ notes.flatMap noteOuts) := by
    refine ⟨_, rfl, ?_⟩
    have hentry : { (s.tracker.taking i).entries.get i with generation := showGeneration (beatsBytes data) } = e := by
      rw [taking_get]; exact he
    simp only [Tracker.applyRecord, hentry]
    rcases hact with ⟨h, rfl, rfl, hnotes⟩ | ⟨h, hsel, rfl, rfl, rfl, rfl⟩ | ⟨h, hsel, rfl, rfl, rfl, rfl⟩ |
      ⟨h, hcan, rfl, rfl, rfl, rfl⟩ | ⟨h, rfl, rfl, rfl, rfl⟩
    · simp only [h]
      refine ⟨rfl, rfl, ?_⟩
      cases hv : e.state.visible <;> simp only [hv, if_true, Bool.false_eq_true, if_false] at hnotes <;>
        obtain ⟨rfl, rfl⟩ := hnotes <;> simpa [hv] using applyUnlist_outs i e
    · simp only [h, applyCancel, if_pos hsel]
      refine ⟨rfl, rfl, ?_⟩
      simpa using cancelShow_outs _ hsel
    · simp [h, applyCancel, hsel, ShowEntry.leaveFetching]
    · simp only [h, reinstate_eq s.evalAt hcan hst]
      refine ⟨rfl, rfl, rfl⟩
    · rcases h with ⟨h, hcan⟩ | h
      · simp [h, applyReinstate, hcan, ShowEntry.leaveFetching]
      · simp [h, ShowEntry.leaveFetching]
  obtain ⟨a, ha, rfl, htitle, houts⟩ := happ
  have htaken := (recordTaken_of_awaited hresp hfetch hno hre ha.symm).commit
  obtain ⟨hrest, hevents, hseats, hreel, hnotices, hcomp⟩ := htaken.inboxes houts
  exact ⟨_, rfl, htaken.frame_of_no_title htitle, htaken.board, htaken.tracker_of_no_title htitle, hrest, hevents, hseats, hreel,
    hnotices, hcomp⟩

end Sys2Proof.Machine
end

section
/-! A PUBLISH that passes its checks: a new show and an update (R11, R13, R14). -/

namespace Sys2Proof.Machine

/-- A valid PUBLISH is applied as an update of the visible show of its id, else as a new show (R13, R14). -/
theorem applyRecord_of_valid {s : State} {i : Fin 192} {data : List Beat} {e : ShowEntry} {f : ShowFields}
    (he : s.tracker.entries.get i = e) (hact : showAction (beatsBytes data) = .publish) (hf : showFields (beatsBytes data) = f)
    (hval : s.tracker.validate s.path.windows i f false = .none) :
    (s.tracker.taking i).applyRecord s.path.windows s.evalAt i (beatsBytes data) false =
      if e.state.visible = true ∧ e.fields.id = f.id then
        publishUpdate s.evalAt i { e with fetch := .none, generation := showGeneration (beatsBytes data) } f
      else publishNew s.evalAt i { e with fetch := .none, generation := showGeneration (beatsBytes data) } f := by
  have hval' : (s.tracker.taking i).validate s.path.windows i f false = .none := (validate_modify_self ..).trans hval
  simp only [Tracker.applyRecord, hact, hf, hval', taking_get, he]
  simp

theorem wantsTitle_iff (f : ShowFields) : f.wantsTitle = true ↔ 0 < f.titleLen ∧ f.titleAddr.toNat + f.titleLen ≤ 2 ^ 32 := by
  simp [ShowFields.wantsTitle, textFits]

/-! ### A new show (R13) -/

/-- The entry of a new show in the state its target names. -/
def newShow (e : ShowEntry) (f : ShowFields) (st : ShowState) : ShowEntry :=
  { e with
    state := st, fields := f, reason := .none, delay := 0, effStart := f.start, cancelMinute := none, title := [] }

theorem publishNew_entry (x : EvalAt) (i : Fin 192) (e : ShowEntry) (f : ShowFields) :
    (publishNew x i e f).entry = newShow e f (targetOf x.minute f.start f.closeOffset x.grace) := by
  simp only [publishNew, evaluate_sellingNow x.minute x.grace x.display
    (e := { e with state := .onSale, fields := f, reason := .none, delay := 0, effStart := f.start, cancelMinute := none, title := [] })
    rfl]
  rfl

theorem publishNew_title (x : EvalAt) (i : Fin 192) (e : ShowEntry) (f : ShowFields) : (publishNew x i e f).title = f.wantsTitle :=
  rfl

/-- What a new show sends: the old visible show's RELEASE and REMOVED note, then its own BIND and note. -/
theorem publishNew_outs (x : EvalAt) (i : Fin 192) (e : ShowEntry) (f : ShowFields) {st : ShowState}
    (hst : st = targetOf x.minute f.start f.closeOffset x.grace) :
    (publishNew x i e f).outs =
      ([].map .event ++
        (((if e.state.visible ∧ e.fields.seatsTracked then [.release i] else []).map .seats) ++
          (if e.state.visible then
            [{ slot := i, id := e.fields.id, old := e.state, new := .free, change := removedSet }] else []).flatMap noteOuts)) ++
      ([].map .event ++
        ((if f.seatsTracked ∧ st ≠ .retired then [.bind i f.mapAddr f.seatCount f.holdback f.start] else []).map .seats ++
          [{ slot := i, id := f.id, old := if e.state.visible then .free else e.state, new := st, change := stateOnly }].flatMap
            noteOuts)) := by
  have hentry : (publishNew x i e f).entry = newShow e f st := by rw [publishNew_entry, hst]
  have hselling : st.selling = true ↔ st ≠ .retired := by rw [hst]; exact targetOf_selling _ _ _ _
  have hbind : (if (newShow e f st).wants then [bindOut i (newShow e f st)] else []) =
      (if f.seatsTracked ∧ st ≠ .retired then [.bind i f.mapAddr f.seatCount f.holdback f.start] else []).map Out.seats := by
    simp only [ShowEntry.wants, newShow, bindOut, Bool.and_eq_true, hselling]
    split <;> rfl
  have houts : (publishNew x i e f).outs =
      (if e.state.visible then removalOuts i e .free else []) ++
        (if (newShow e f st).wants then [bindOut i (newShow e f st)] else []) ++
        noteOuts { slot := i, id := f.id, old := if e.state.visible then .free else e.state, new := st, change := stateOnly } := by
    have hstate : st = (publishNew x i e f).entry.state := by rw [hentry]; rfl
    rw [← hentry, hstate]
    rfl
  rw [houts, hbind]
  cases hv : e.state.visible <;> cases ht : e.fields.seatsTracked <;> simp [removalOuts, ht]

/-- Settles O21. -/
theorem publishEntersANewShow : Obligations.PublishEntersANewShow := by
  intro s i no data rest e f st hresp he hfetch hno hre hact hf hval hnew hst
  have happ := (applyRecord_of_valid he hact hf hval).trans (if_neg hnew)
  have htaken := (recordTaken_of_awaited hresp (by rw [he]; exact hfetch) (by rw [he]; exact hno) (by rw [he]; exact hre)
    happ.symm).commit
  have hst' : st = targetOf s.evalAt.minute f.start f.closeOffset s.evalAt.grace := hst
  have hentry : (publishNew s.evalAt i { e with fetch := .none, generation := showGeneration (beatsBytes data) } f).entry =
      newShow { e with fetch := .none, generation := showGeneration (beatsBytes data) } f st := by rw [publishNew_entry, hst']
  obtain ⟨order, horder, hmail⟩ := htaken.mail
  rw [publishNew_outs _ _ _ _ hst', posts_append, showOuts_posts, showOuts_posts, compOuts_posts] at hmail
  have htracker := htaken.tracker
  have hpath := htaken.path
  rw [Applied.fetched, hentry, publishNew_title] at htracker
  rw [hentry, publishNew_title] at hpath
  refine ⟨_, rfl, htaken.frame_of_title, htaken.board, fun j hj => htaken.entry_of_ne hj, ?_, ?_, ?_, ?_⟩
  · rintro title rfl
    rw [← wantsTitle_iff]
    rw [hpath, htracker]
    constructor
    · intro htitle
      simp [htitle, newShow]
    · intro htitle
      simp [htitle, newShow, titleRead]
  · rw [hmail]
  · rw [hmail]; simp
  · rintro gone n rfl rfl
    rw [hmail]
    refine ⟨rfl, ?_, ⟨order, horder, ?_⟩, ?_⟩
    · simp
    · simp
    · simp

/-! ### An update (R14) -/

/-- The seat requests that a change of one show from a to b calls for (R14, R22). -/
theorem seatOuts_requests (i : Fin 192) (a b : ShowEntry) :
    ∃ reqs : List SeatMsg, seatOuts i a b = reqs.map .seats ∧
      (b.wants = true → a.wants = true → reqs =
        (if a.fields.mapAddr ≠ b.fields.mapAddr ∨ a.fields.seatCount ≠ b.fields.seatCount then
          [.remap i b.fields.mapAddr b.fields.seatCount] else []) ++
          if a.fields.holdback ≠ b.fields.holdback then [.holdback i b.fields.holdback] else []) ∧
      (b.wants = true → a.wants = false →
        reqs = [.bind i b.fields.mapAddr b.fields.seatCount b.fields.holdback b.effStart]) ∧
      (b.wants = false → reqs = if a.wants = true ∨ a.fields.seatsTracked = true ∧ b.fields.seatsTracked = false then
        [.release i] else []) := by
  unfold seatOuts bindOut
  cases hb : b.wants <;> cases ha : a.wants
  · by_cases hr : a.fields.seatsTracked = true ∧ b.fields.seatsTracked = false
    · exact ⟨[.release i], by simp [hr], by simp, by simp, by simp [hr]⟩
    · exact ⟨[], by simpa using hr, by simp, by simp, by simpa using hr⟩
  · exact ⟨[.release i], by simp, by simp, by simp, by simp⟩
  · exact ⟨[.bind i b.fields.mapAddr b.fields.seatCount b.fields.holdback b.effStart], by simp, by simp, by simp, by simp⟩
  · exact ⟨_, by simp [apply_ite (List.map Out.seats)], fun _ _ => rfl, by simp, by simp⟩

/-- The two entries show the same to a reader of notes (R14, R24). -/
def ShowEntry.SameFor (a b : ShowEntry) : Prop :=
  b.state = a.state ∧ b.effStart = a.effStart ∧ b.title = a.title ∧ a.fields.auditorium = b.fields.auditorium ∧
    a.fields.seatsTracked = b.fields.seatsTracked ∧ a.fields.hideSeats = b.fields.hideSeats ∧ a.fields.marks = b.fields.marks ∧
    a.fields.run = b.fields.run ∧ a.fields.rating = b.fields.rating ∧ a.fields.closeOffset = b.fields.closeOffset

/-- What the note of a change from a to b says (R24). -/
def ShowNote.TellsOf (n : ShowNote) (i : Fin 192) (a b : ShowEntry) : Prop :=
  n.slot = i ∧ n.id = b.id ∧ n.old = a.state ∧ n.new = b.state ∧ n.change.removed = false ∧
    (n.change.state = true ↔ b.state ≠ a.state) ∧ (n.change.start = true ↔ b.effStart ≠ a.effStart) ∧
    (n.change.title = true ↔ b.title ≠ a.title) ∧
    (n.change.display = true ↔ a.fields.auditorium ≠ b.fields.auditorium ∨ a.fields.seatsTracked ≠ b.fields.seatsTracked ∨
      a.fields.hideSeats ≠ b.fields.hideSeats ∨ a.fields.marks ≠ b.fields.marks ∨ a.fields.run ≠ b.fields.run ∨
      a.fields.rating ≠ b.fields.rating ∨ a.fields.closeOffset ≠ b.fields.closeOffset)

theorem changesOf_nothing_iff (a b : ShowEntry) : (changesOf a b).nothing = true ↔ a.SameFor b := by
  simp only [changesOf, ChangeSet.nothing, ShowEntry.SameFor, Bool.not_eq_true', Bool.or_eq_false_iff, decide_eq_false_iff_not,
    not_not, not_or, and_true]
  constructor
  · rintro ⟨⟨⟨h1, h2⟩, h3⟩, h4⟩
    exact ⟨h1.symm, h2.symm, h3.symm, h4⟩
  · rintro ⟨h1, h2, h3, h4⟩
    exact ⟨⟨⟨h1.symm, h2.symm⟩, h3.symm⟩, h4⟩

/-- The notes of a change from a to b: none where it shows nothing, else one (R24). -/
theorem diffNote_notes (i : Fin 192) (a b : ShowEntry) :
    ∃ notes : List ShowNote, diffNote i a b = notes.flatMap noteOuts ∧ (a.SameFor b ↔ notes = []) ∧
      ∀ n ∈ notes, notes.length = 1 ∧ n.TellsOf i a b := by
  have hiff := changesOf_nothing_iff a b
  unfold diffNote
  by_cases h : a.SameFor b
  · exact ⟨[], by rw [if_pos (hiff.2 h)]; rfl, by simp [h], by simp⟩
  · refine ⟨_, by rw [if_neg (fun k => h (hiff.1 k))]; exact (List.flatMap_singleton _ _).symm, by simp [h], ?_⟩
    intro n hn
    rw [List.mem_singleton] at hn
    subst hn
    exact ⟨rfl, rfl, rfl, rfl, rfl, rfl, decide_eq_true_iff.trans ne_comm, decide_eq_true_iff.trans ne_comm,
      decide_eq_true_iff.trans ne_comm, decide_eq_true_iff⟩

/-- The entry of an update before it is evaluated. -/
def updatedShow (e : ShowEntry) (f : ShowFields) : ShowEntry :=
  { e with
    fields := f, reason := .none, effStart := f.start + e.delay
    title := if e.fields.titleLen ≠ f.titleLen ∨ e.fields.titleAddr ≠ f.titleAddr then [] else e.title }

theorem publishUpdate_eq (x : EvalAt) (i : Fin 192) (e : ShowEntry) (f : ShowFields) :
    publishUpdate x i e f =
      { entry := (updatedShow e f).evaluate x.minute x.grace x.display
        outs := seatOuts i e ((updatedShow e f).evaluate x.minute x.grace x.display) ++
          diffNote i e ((updatedShow e f).evaluate x.minute x.grace x.display)
        title := decide (e.fields.titleLen ≠ f.titleLen ∨ e.fields.titleAddr ≠ f.titleAddr) && f.wantsTitle } := by
  simp only [publishUpdate, updatedShow, decide_eq_true_eq]

theorem fetched_eq (a : Applied) (no : Nat) :
    a.fetched no = { a.entry with
      fetch := if a.title then .title else a.entry.fetch, fetchNo := if a.title then no else a.entry.fetchNo } := by
  unfold Applied.fetched
  split <;> rfl

/-- Settles O22. -/
theorem publishUpdatesAShow : Obligations.PublishUpdatesAShow := by
  intro s i no data rest e e' f hresp he hfetch hno hre hact hf hval hvisible hid
  have happ := (applyRecord_of_valid he hact hf hval).trans (if_pos ⟨hvisible, hid⟩)
  rw [publishUpdate_eq] at happ
  have htaken := (recordTaken_of_awaited hresp (by rw [he]; exact hfetch) (by rw [he]; exact hno) (by rw [he]; exact hre)
    happ.symm).commit
  generalize hupd : updatedShow { e with fetch := .none, generation := showGeneration (beatsBytes data) } f = upd at *
  generalize hev : upd.evaluate s.evalAt.minute s.evalAt.grace s.evalAt.display = ev at *
  obtain ⟨reqs, hreqs, hboth, hbind, hrelease⟩ :=
    seatOuts_requests i { e with fetch := .none, generation := showGeneration (beatsBytes data) } ev
  obtain ⟨notes, hnotes, hnone, hone⟩ :=
    diffNote_notes i { e with fetch := .none, generation := showGeneration (beatsBytes data) } ev
  obtain ⟨hrest, hevents, hseats, hreel, hnotes', order, horder, hcomp⟩ := htaken.inboxes (evs := []) (reqs := reqs) (notes := notes)
    (by simp only [hreqs, hnotes, List.map_nil, List.nil_append])
  have hstate : upd.state = e.state := by rw [← hupd]; rfl
  have hshape : ev = { upd with
      state := ev.state, cancelMinute := if ev.state ≠ .cancelled then none else e.cancelMinute } := by
    have h := evaluate_eq s.evalAt.minute s.evalAt.grace s.evalAt.display upd
    rw [hev, hstate, hvisible] at h
    simpa [← hupd, updatedShow] using h
  have hfields : ev.fields = f := by rw [hshape, ← hupd]; rfl
  have htracker := htaken.tracker
  have hpath := htaken.path
  rw [fetched_eq] at htracker
  refine ⟨_, rfl, htaken.frame_of_title, htaken.board, fun j hj => htaken.entry_of_ne hj, hrest, by simpa using hevents, ?_, ?_⟩
  · rintro title rfl
    rw [hpath, htracker, ← wantsTitle_iff]
    constructor
    · intro htitle
      simp [htitle]
    · intro htitle
      simp [htitle, titleRead, hfields]
  · intro he'
    rw [htracker, Table.get_set_self] at he'
    subst he'
    unfold ShowEntry.SameFor at hnone
    unfold ShowNote.TellsOf at hone
    have hstart : ev.effStart = f.start + e.delay := by rw [hshape, ← hupd]; rfl
    rw [hfields] at hboth hbind hrelease hnone hone
    rw [hstart] at hbind
    refine ⟨hfields, ?_, hstart, ?_, ?_, ?_, ?_, ?_, ?_, ?_, ?_, ?_, ?_, ?_, reqs, notes, hseats, hreel, hnotes',
      ⟨order, horder, hcomp⟩, hboth, hbind, hrelease, hnone, hone⟩
    · show ev.delay = e.delay
      rw [hshape, ← hupd]; rfl
    · show ev.reason = .none
      rw [hshape, ← hupd]; rfl
    · show ev.generation = showGeneration (beatsBytes data)
      rw [hshape, ← hupd]; rfl
    · show ev.boundSlot = e.boundSlot
      rw [hshape, ← hupd]; rfl
    · show ev.seatStatus = e.seatStatus
      rw [hshape, ← hupd]; rfl
    · show ev.prior = e.prior
      rw [hshape, ← hupd]; rfl
    · show ev.title = _
      rw [hshape, ← hupd]; rfl
    · have hfetched : ev.fetch = .none := by rw [hshape, ← hupd]; rfl
      simp only [← wantsTitle_iff, hfetched]
      simp
    · intro h
      show ev.state = _
      rw [← hev, evaluate_of_cancelled (hstate.trans h), ← hupd]
      rfl
    · show ev.cancelMinute = if ev.state = .cancelled then e.cancelMinute else none
      rw [congrArg ShowEntry.cancelMinute hshape]
      by_cases h : ev.state = .cancelled <;> simp [h]
    · intro h
      show ev.state = _
      rw [← hev, evaluate_of_started (hstate.trans h), ← hupd]
      rfl
    · intro h
      show ev.state = _
      rw [← hev, evaluate_of_sellingNow (by rwa [hstate]), ← hupd]
      rfl

end Sys2Proof.Machine
end

section
/-! Control words, titles and refetches, stale responses, and the effects of desks (R3, R9 to R11, R19 to R21). -/

namespace Sys2Proof.Machine

theorem modify_eq_set {α : Type} {n : Nat} (T : Table n α) (i : Fin n) (f : α → α) : T.modify i f = T.set i (f (T.get i)) := by
  refine Table.ext_get fun j => ?_
  by_cases h : i = j
  · subst h; simp
  · simp [h]

theorem set_set_self {α : Type} {n : Nat} (T : Table n α) (i : Fin n) (x y : α) : (T.set i x).set i y = T.set i y := by
  refine Table.ext_get fun j => ?_
  by_cases h : i = j
  · subst h; simp
  · simp [h]

/-! ### Record reads (R9, R10) -/

/-- The record read of a slot (R10). -/
def recordRead (base : Addr) (i : Fin 192) (no : Nat) : AgentReq :=
  { cls := .record, write := false, addr := base + BitVec.ofNat 32 (64 * i.val), beats := 8, data := [], tag := .record i no }

/-- An entry whose record read is issued (R9). -/
def fetchingRecord (e : ShowEntry) (no : Nat) : ShowEntry :=
  { (if e.state = .free ∨ e.state = .rejected ∨ e.state = .retired then { e with prior := e.state, state := .fetching } else e) with
    fetch := .record, fetchNo := no }

theorem startFetch_eq (w : Windows) (i : Fin 192) (t : Tracker) :
    t.startFetch w i =
      ({ t with
          fetchCount := t.fetchCount + 1
          entries := t.entries.set i (fetchingRecord (t.entries.get i) (t.fetchCount + 1)) },
        [.agent (recordRead w.showBase i (t.fetchCount + 1))]) := by
  have henter : { (t.entries.get i).enterFetching with fetch := .record, fetchNo := t.fetchCount + 1 } =
      fetchingRecord (t.entries.get i) (t.fetchCount + 1) := by
    unfold ShowEntry.enterFetching fetchingRecord
    cases h : (t.entries.get i).state <;> simp
  simp only [Tracker.startFetch, Tracker.issueRecord, modify_eq_set, set_set_self, Table.get_set_self, henter]
  rfl

/-- One read of the RECORD class sent. -/
theorem emit_read (s : State) {r : AgentReq} (hr : r.cls = .record) :
    s.emit [.agent r] = s.withPath { s.path with recordQ := s.path.recordQ ++ [r] } := by
  simp [State.emit, State.send, Path.post, Path.enqueue, hr, Mail.post, Tracker.post, State.withPath]

/-! ### CONTROL_WORD_BEAT (R9) -/

theorem covers_show_iff (w : Windows) (a : Addr) :
    covers w.showBase showSize a = true ↔
      w.showBase ≠ 0 ∧ w.showBase.toNat ≤ a.toNat ∧ a.toNat < w.showBase.toNat + 12288 := by
  unfold covers showSize
  rw [Bool.and_eq_true, Bool.and_eq_true, decide_eq_true_iff, decide_eq_true_iff, decide_eq_true_iff, and_assoc]

theorem showSlot_eq_none {w : Windows} {a : Addr}
    (h : w.showBase = 0 ∨ a.toNat < w.showBase.toNat ∨ w.showBase.toNat + 12288 ≤ a.toNat) : w.showSlot a = none := by
  have hcovers : ¬ covers w.showBase showSize a = true := by
    rw [covers_show_iff]
    rintro ⟨h0, hle, hlt⟩
    rcases h with h | h | h
    · exact h0 h
    · omega
    · omega
  rw [Windows.showSlot, if_neg hcovers]

theorem showSlot_eq_some {w : Windows} {a : Addr} {i : Fin 192} (hbase : w.showBase ≠ 0) (hle : w.showBase.toNat ≤ a.toNat)
    (hi : (a.toNat - w.showBase.toNat) / 64 = i.val) : w.showSlot a = some i := by
  have hlt := i.isLt
  have hcovers : covers w.showBase showSize a = true := (covers_show_iff w a).2 ⟨hbase, hle, by omega⟩
  have hslot : Fin.ofNat 192 ((a.toNat - w.showBase.toNat) / 64) = i := by
    rw [hi]
    exact Fin.ext (Nat.mod_eq_of_lt i.isLt)
  rw [Windows.showSlot, if_pos hcovers, hslot]

/-- Settles O19. -/
theorem controlWordStartsAFetch : Obligations.ControlWordStartsAFetch := by
  intro s b rest hshows
  have hoff (h : s.path.windows.showSlot b.addr = none) : controlWordBeat s = s.withIntakes { s.intakes with shows := rest } := by
    simp only [controlWordBeat, hshows, h]
  have hon {i : Fin 192} (h : s.path.windows.showSlot b.addr = some i) : controlWordBeat s =
      (s.withIntakes { s.intakes with shows := rest }).trackerDo (s.tracker.controlBeat s.path.windows i) := by
    simp only [controlWordBeat, hshows, h]
  refine ⟨fun hout => ?_, fun i hbase hle hi e he => ⟨fun hfetch => ?_, fun hfetch => ?_⟩⟩
  · exact congrArg (goOn s) (hoff (showSlot_eq_none hout))
  · have hbeat := hon (showSlot_eq_some hbase hle hi)
    have hcontrol : s.tracker.controlBeat s.path.windows i =
        ({ s.tracker with entries := s.tracker.entries.set i { e with refetch := true } }, []) := by
      unfold Tracker.controlBeat
      rw [he]
      split
      · rename_i h; exact absurd h hfetch
      · rw [modify_eq_set, he]
    refine congrArg (goOn s) (hbeat.trans ?_)
    simp only [hcontrol, trackerDo_eq, emit_nil]
  · have hbeat := hon (showSlot_eq_some hbase hle hi)
    have hcontrol : s.tracker.controlBeat s.path.windows i = s.tracker.startFetch s.path.windows i := by
      unfold Tracker.controlBeat
      rw [he, hfetch]
    refine congrArg (goOn s) (hbeat.trans ?_)
    simp only [hcontrol, startFetch_eq, he, trackerDo_eq]
    rw [emit_read _ rfl]
    unfold fetchingRecord
    by_cases h : e.state = .free ∨ e.state = .rejected ∨ e.state = .retired <;> simp [h] <;> rfl

/-! ### A refetch that is due (R10) -/

/-- An entry after its fetch: read again where a refetch is pending and the SHOW window enabled (R10). -/
def refetched (w : Windows) (e : ShowEntry) (no : Nat) : ShowEntry :=
  if e.refetch = true ∧ w.showBase ≠ 0 then fetchingRecord { e with refetch := false } no else { e with refetch := false }

theorem refetch_eq (w : Windows) (i : Fin 192) (t : Tracker) {e : ShowEntry} (he : t.entries.get i = e) :
    t.refetch w i =
      ({ t with
          fetchCount := if e.refetch = true ∧ w.showBase ≠ 0 then t.fetchCount + 1 else t.fetchCount
          entries := t.entries.set i (refetched w e (t.fetchCount + 1)) },
        if e.refetch = true ∧ w.showBase ≠ 0 then [.agent (recordRead w.showBase i (t.fetchCount + 1))] else []) := by
  unfold Tracker.refetch refetched
  rw [he]
  by_cases hre : e.refetch = true
  · by_cases hbase : w.showBase = 0
    · simp [hre, hbase, modify_eq_set, he]
    · simp only [hre, hbase, if_true, if_false, startFetch_eq, modify_eq_set, set_set_self, Table.get_set_self, he, ne_eq,
        not_false_eq_true, and_self]
  · have hre' : e.refetch = false := by simpa using hre
    have hsame : ({ e with refetch := false } : ShowEntry) = e := by rw [← hre']
    have hset : t.entries.set i e = t.entries := by rw [← he, Table.set_get_self]
    simp [hre', hsame, hset]

/-! ### TITLE_FETCH_DONE (R11) -/

/-- The entry whose title response is taken, before a refetch. -/
def titled (e : ShowEntry) (bs : List Byte) (err : Bool) : ShowEntry :=
  { e with fetch := .none, title := if err then e.title else textOf e.fields.titleAddr e.fields.titleLen bs }

/-- The notes of a title stored: one with TITLE, or none on a memory error. -/
def titleNotes (i : Fin 192) (e : ShowEntry) (err : Bool) : List ShowNote :=
  if err then []
  else [{ slot := i, id := e.id, old := e.state, new := e.state
          change := { state := false, start := false, title := true, display := false, removed := false } }]

theorem titleDone_eq (t : Tracker) (w : Windows) (i : Fin 192) (bs : List Byte) (err : Bool) {e : ShowEntry}
    (he : t.entries.get i = e) :
    t.titleDone w i bs err =
      ({ t with
          fetchCount := if e.refetch = true ∧ w.showBase ≠ 0 then t.fetchCount + 1 else t.fetchCount
          entries := t.entries.set i (refetched w (titled e bs err) (t.fetchCount + 1)) },
        (titleNotes i e err).flatMap noteOuts ++
          if e.refetch = true ∧ w.showBase ≠ 0 then [.agent (recordRead w.showBase i (t.fetchCount + 1))] else []) := by
  have hdone : t.titleDone w i bs err =
      andThen ({ t with entries := t.entries.set i (titled e bs err) }, (titleNotes i e err).flatMap noteOuts)
        (Tracker.refetch w i) := by
    unfold Tracker.titleDone titleNotes
    rw [he]
    cases err
    · simp only [Bool.false_eq_true, if_false, List.flatMap_singleton]
      rfl
    · rfl
  rw [hdone, andThen, refetch_eq w i _ (Table.get_set_self ..)]
  simp only [set_set_self]
  rfl

theorem frame_read {s t : State} {T : Table 192 ShowEntry} {n : Nat} {m : Mail} {q : List AgentReq} {B : List (Fin 192)}
    (ht : t = { s with
      tracker := { s.tracker with board := B, fetchCount := n, entries := T }, mail := m
      path := { s.path with recordQ := s.path.recordQ ++ q } })
    (hseat : ∀ j, (T.get j).seatStatus = (s.tracker.entries.get j).seatStatus ∧
      (T.get j).boundSlot = (s.tracker.entries.get j).boundSlot) :
    Frame [.clock, .entries, .mail, .classQueues] s t := by
  rw [ht]
  intro b hb
  cases b <;> simp_all [Block.same, Path.bare]

theorem refetched_seatFields (w : Windows) (e : ShowEntry) (no : Nat) :
    (refetched w e no).seatStatus = e.seatStatus ∧ (refetched w e no).boundSlot = e.boundSlot := by
  unfold refetched fetchingRecord
  split_ifs <;> exact ⟨rfl, rfl⟩

theorem titleFetchDone_eq {s : State} {i : Fin 192} {no : Nat} {data : List Beat} {err : Bool} {rest : List Response}
    {e : ShowEntry} (hresp : s.mail.trackerResp = { tag := .title i no, data := data, err := err } :: rest)
    (he : s.tracker.entries.get i = e) (hfetch : e.fetch = .title) (hno : e.fetchNo = no) :
    titleFetchDone s =
      { s with
        tracker := { s.tracker with
          board := s.tracker.board
          fetchCount :=
            if e.refetch = true ∧ s.path.windows.showBase ≠ 0 then s.tracker.fetchCount + 1 else s.tracker.fetchCount
          entries := s.tracker.entries.set i
            (refetched s.path.windows (titled e (beatsBytes data) err) (s.tracker.fetchCount + 1)) }
        mail := ({ s.mail with trackerResp := rest } : Mail).posts ((titleNotes i e err).flatMap noteOuts)
        path := { s.path with
          recordQ := s.path.recordQ ++
            if e.refetch = true ∧ s.path.windows.showBase ≠ 0 then
              [recordRead s.path.windows.showBase i (s.tracker.fetchCount + 1)] else [] } } := by
  have hrun : titleFetchDone s = s.popTracker.trackerDo (s.tracker.titleDone s.path.windows i (beatsBytes data) err) := by
    simp [titleFetchDone, hresp, he, hfetch, hno]
  have hsends : Sends [.mail] ((titleNotes i e err).flatMap noteOuts) := sends_flatMap _ _ _ fun n => noteOuts_sends n
  rw [hrun, titleDone_eq _ _ _ _ _ he, trackerDo_eq]
  have hemit := emit_posts_read hsends (s.popTracker.withTracker
    { s.tracker with
      fetchCount := if e.refetch = true ∧ s.path.windows.showBase ≠ 0 then s.tracker.fetchCount + 1 else s.tracker.fetchCount
      entries := s.tracker.entries.set i
        (refetched s.path.windows (titled e (beatsBytes data) err) (s.tracker.fetchCount + 1)) })
    (decide (e.refetch = true ∧ s.path.windows.showBase ≠ 0)) (r := recordRead s.path.windows.showBase i (s.tracker.fetchCount + 1)) rfl
  simp only [decide_eq_true_eq] at hemit
  rw [hemit]
  simp [State.popTracker, hresp]

/-- A title response taken (R11), and the refetch that follows it (R10). -/
theorem titleFetchDone_leaves {s : State} {i : Fin 192} {no : Nat} {data : List Beat} {err : Bool} {rest : List Response}
    {e e1 : ShowEntry} (hresp : s.mail.trackerResp = { tag := .title i no, data := data, err := err } :: rest)
    (he : s.tracker.entries.get i = e) (hfetch : e.fetch = .title) (hno : e.fetchNo = no)
    (he1 : e1 = { titled e (beatsBytes data) err with refetch := false }) :
    ∃ t, exec .titleFetchDone s = .next t ∧ Frame [.clock, .entries, .mail, .classQueues] s t ∧
      t.tracker.board = s.tracker.board ∧ (∀ j, j ≠ i → t.tracker.entries.get j = s.tracker.entries.get j) ∧
      t.mail = { s.mail with
          trackerResp := rest
          toSeats := s.mail.toSeats ++ (titleNotes i e err).map .note
          toNotices := s.mail.toNotices ++ (titleNotes i e err).map .note
          toReel := s.mail.toReel ++ titleNotes i e err
          toComp := s.mail.toComp ++ (titleNotes i e err).map .note } ∧
      (e.refetch = false ∨ s.path.windows.showBase = 0 → t.tracker.entries.get i = e1 ∧ t.path = s.path) ∧
      (e.refetch = true → s.path.windows.showBase ≠ 0 →
        t.tracker.entries.get i = fetchingRecord e1 (s.tracker.fetchCount + 1) ∧
        t.path = { s.path with recordQ := s.path.recordQ ++
          [recordRead s.path.windows.showBase i (s.tracker.fetchCount + 1)] }) := by
  have hrun := titleFetchDone_eq hresp he hfetch hno
  refine ⟨_, rfl, (frame_read hrun fun j => ?_).commit, ?_⟩
  · by_cases h : i = j
    · subst h
      rw [Table.get_set_self, he]
      exact refetched_seatFields _ _ _
    · simp [h]
  simp only [commit_tracker, commit_mail, commit_path, hrun]
  refine ⟨trivial, fun j hj => by simp [hj.symm], noteOuts_posts _ _, fun h => ?_, fun hre hbase => ?_⟩
  · have hnot : ¬ (e.refetch = true ∧ s.path.windows.showBase ≠ 0) := by
      rintro ⟨hre, hbase⟩
      rcases h with h | h
      · simp [hre] at h
      · exact hbase h
    have hnot' : ¬ ((titled e (beatsBytes data) err).refetch = true ∧ s.path.windows.showBase ≠ 0) := hnot
    simp only [Table.get_set_self, refetched, if_neg hnot, if_neg hnot', he1, List.append_nil, and_self]
  · have hyes : (titled e (beatsBytes data) err).refetch = true ∧ s.path.windows.showBase ≠ 0 := ⟨hre, hbase⟩
    simp only [Table.get_set_self, refetched, if_pos hyes, if_pos (And.intro hre hbase), he1, and_self]

/-! ### A record taken with a refetch pending (R10) -/

/-- The entry with its refetch-pending flag given. -/
def ShowEntry.flagged (b : Bool) (e : ShowEntry) : ShowEntry := { e with refetch := b }

/-- What a record does to an entry, but for the flag. -/
def Applied.flagged (b : Bool) (a : Applied) : Applied := { a with entry := a.entry.flagged b }

theorem evaluate_flagged (c g d : Nat) (b : Bool) (e : ShowEntry) :
    (e.flagged b).evaluate c g d = (e.evaluate c g d).flagged b := by
  unfold ShowEntry.evaluate ShowEntry.flagged
  dsimp only
  split <;> rfl

theorem leaveFetching_flagged (b : Bool) (e : ShowEntry) : (e.flagged b).leaveFetching = e.leaveFetching.flagged b := by
  unfold ShowEntry.leaveFetching ShowEntry.flagged
  dsimp only
  split <;> rfl

theorem publishUpdate_flagged (x : EvalAt) (i : Fin 192) (b : Bool) (e : ShowEntry) (f : ShowFields) :
    publishUpdate x i (e.flagged b) f = (publishUpdate x i e f).flagged b := by
  have hupd : updatedShow (e.flagged b) f = (updatedShow e f).flagged b := rfl
  rw [publishUpdate_eq, publishUpdate_eq, hupd, evaluate_flagged]
  rfl

theorem publishNew_flagged (x : EvalAt) (i : Fin 192) (b : Bool) (e : ShowEntry) (f : ShowFields) :
    publishNew x i (e.flagged b) f = (publishNew x i e f).flagged b := by
  have heval := evaluate_flagged x.minute x.grace x.display b
    { e with state := .onSale, fields := f, reason := .none, delay := 0, effStart := f.start, cancelMinute := none, title := [] }
  unfold ShowEntry.flagged at heval
  simp only [publishNew, ShowEntry.flagged, heval]
  rfl

theorem applyCancel_flagged (m : Nat) (i : Fin 192) (b : Bool) (e : ShowEntry) :
    applyCancel m i (e.flagged b) = (applyCancel m i e).flagged b := by
  unfold applyCancel
  rw [leaveFetching_flagged]
  by_cases h : e.state.selling = true
  · rw [if_pos h, if_pos (show (e.flagged b).state.selling = true from h)]
    rfl
  · rw [if_neg h, if_neg (show ¬ (e.flagged b).state.selling = true from h)]
    rfl

theorem applyReinstate_flagged (x : EvalAt) (i : Fin 192) (b : Bool) (e : ShowEntry) :
    applyReinstate x i (e.flagged b) = (applyReinstate x i e).flagged b := by
  have heval := evaluate_flagged x.minute x.grace x.display b { e with state := .onSale, cancelMinute := none }
  unfold applyReinstate
  rw [leaveFetching_flagged]
  by_cases h : e.state = .cancelled
  · rw [if_pos h, if_pos (show (e.flagged b).state = .cancelled from h)]
    have heval' : ({ e.flagged b with state := .onSale, cancelMinute := none } : ShowEntry).evaluate x.minute x.grace x.display =
        _ := heval
    simp only [heval']
    rfl
  · rw [if_neg h, if_neg (show ¬ (e.flagged b).state = .cancelled from h)]
    rfl

/-- A record does the same to an entry whether or not a refetch is pending. -/
theorem applyRecord_flagged (t : Tracker) (w : Windows) (x : EvalAt) (i : Fin 192) (bs : List Byte) (err b : Bool) :
    ({ t with entries := t.entries.modify i (ShowEntry.flagged b) } : Tracker).applyRecord w x i bs err =
      (t.applyRecord w x i bs err).flagged b := by
  have hval := validate_modify_self t w i (ShowEntry.flagged b) (showFields bs) false
  have hgen (e : ShowEntry) : { e.flagged b with generation := showGeneration bs } =
      ({ e with generation := showGeneration bs } : ShowEntry).flagged b := rfl
  unfold Tracker.applyRecord
  simp only [Table.get_modify_self, hval, hgen, publishUpdate_flagged, publishNew_flagged, applyCancel_flagged,
    applyReinstate_flagged, leaveFetching_flagged]
  cases err with
  | true => rfl
  | false =>
    simp only [Bool.false_eq_true, if_false]
    cases showAction bs with
    | publish => simp only [apply_ite (Applied.flagged b)]; rfl
    | _ => rfl

/-- The tracker with the slot's flag clear. -/
def Tracker.unflagged (i : Fin 192) (t : Tracker) : Tracker := { t with entries := t.entries.modify i (ShowEntry.flagged false) }

theorem unflagged_set (t : Tracker) (i : Fin 192) (e : ShowEntry) : (t.unflagged i).entries.set i e = t.entries.set i e := by
  rw [Tracker.unflagged, modify_eq_set, set_set_self]

/-- What a record does where a refetch is pending. -/
theorem applyRecord_of_refetch {t : Tracker} {i : Fin 192} (hre : (t.entries.get i).refetch = true) (w : Windows) (x : EvalAt)
    (bs : List Byte) (err : Bool) :
    (t.taking i).applyRecord w x i bs err = (((t.unflagged i).taking i).applyRecord w x i bs err).flagged true := by
  rw [← applyRecord_flagged]
  have hentries : (t.taking i).entries = ((t.unflagged i).taking i).entries.modify i (ShowEntry.flagged true) := by
    refine Table.ext_get fun j => ?_
    by_cases h : i = j
    · subst h
      simp only [Tracker.taking, Tracker.unflagged, Table.get_modify_self, ShowEntry.flagged]
      rw [← hre]
    · simp [Tracker.taking, Tracker.unflagged, h]
  rw [← hentries]
  rfl

theorem recordDone_of_refetch {t : Tracker} {i : Fin 192} (hre : (t.entries.get i).refetch = true) (w : Windows) (x : EvalAt)
    (bs : List Byte) (err : Bool) {a : Applied} (ha : a = ((t.unflagged i).taking i).applyRecord w x i bs err) :
    t.recordDone w x i bs err =
      andThen ({ t with board := boardOf (t.entries.set i a.entry), entries := t.entries.set i (a.entry.flagged true) },
          a.outs ++ boardOuts t.board (boardOf (t.entries.set i a.entry)))
        (Tracker.afterRecord w i a.title) := by
  have happ := applyRecord_of_refetch hre w x bs err
  rw [← ha] at happ
  have hboard : boardOf (t.entries.set i (a.entry.flagged true)) = boardOf (t.entries.set i a.entry) := set_boardKey rfl
  have hdone : t.recordDone w x i bs err =
      andThen (Tracker.settle ({ t with entries := t.entries.set i ((t.taking i).applyRecord w x i bs err).entry },
        ((t.taking i).applyRecord w x i bs err).outs)) (Tracker.afterRecord w i ((t.taking i).applyRecord w x i bs err).title) := by
    rw [← taking_set]
    rfl
  rw [hdone, happ]
  simp only [Tracker.settle, Applied.flagged, hboard]

/-- What the tracker does about the flag once the record is applied. -/
theorem afterRecord_of_refetch (t : Tracker) (w : Windows) (i : Fin 192) {a : Applied} (hflag : a.entry.refetch = false)
    (T : Table 192 ShowEntry) (hT : t.entries = T.set i (a.entry.flagged true)) :
    t.afterRecord w i a.title =
      if a.title then
        ({ t with fetchCount := t.fetchCount + 1, entries := T.set i ((a.fetched (t.fetchCount + 1)).flagged true) },
          [.agent (titleRead i a.entry.fields (t.fetchCount + 1))])
      else if w.showBase = 0 then ({ t with entries := T.set i a.entry }, [])
      else
        ({ t with fetchCount := t.fetchCount + 1, entries := T.set i (fetchingRecord a.entry (t.fetchCount + 1)) },
          [.agent (recordRead w.showBase i (t.fetchCount + 1))]) := by
  have hget : t.entries.get i = a.entry.flagged true := by rw [hT, Table.get_set_self]
  have hclear : ({ a.entry.flagged true with refetch := false } : ShowEntry) = a.entry := by
    rw [← hflag]
    rfl
  unfold Tracker.afterRecord
  cases htitle : a.title with
  | true =>
    simp only [if_true, Tracker.issueTitle, hT, set_modify_self, Applied.fetched, htitle, Table.get_set_self]
    rfl
  | false =>
    have hyes : (a.entry.flagged true).refetch = true := rfl
    simp only [Bool.false_eq_true, if_false, refetch_eq w i t hget, refetched, hclear, hT, set_set_self, hyes, true_and, ne_eq]
    by_cases hbase : w.showBase = 0
    · simp [hbase]
    · simp only [hbase, not_false_eq_true, if_true, if_false]

theorem exec_flag_waits {s u : State} {i : Fin 192} {no : Nat} {data : List Beat} {err : Bool} {rest : List Response}
    {e e1 : ShowEntry} (hresp : s.mail.trackerResp = { tag := .record i no, data := data, err := err } :: rest)
    (he : s.tracker.entries.get i = e) (hfetch : e.fetch = .record) (hno : e.fetchNo = no) (hre : e.refetch = true)
    (hu : exec .recordFetchDone (s.withTracker
      { s.tracker with entries := s.tracker.entries.set i { e with refetch := false } }) = .next u)
    (he1 : u.tracker.entries.get i = e1) :
    ∃ t, exec .recordFetchDone s = .next t ∧
      (e1.fetch = .title → Alike t (u.withTracker
        { u.tracker with entries := u.tracker.entries.set i { e1 with refetch := true } })) ∧
      (e1.fetch ≠ .title → s.path.windows.showBase = 0 → Alike t u) ∧
      (e1.fetch ≠ .title → s.path.windows.showBase ≠ 0 → Alike t
        ((u.withTracker { u.tracker with
            fetchCount := u.tracker.fetchCount + 1
            entries := u.tracker.entries.set i (fetchingRecord e1 (u.tracker.fetchCount + 1)) }).withPath
          { u.path with recordQ := u.path.recordQ ++
            [recordRead s.path.windows.showBase i (u.tracker.fetchCount + 1)] })) := by
  have hs0 : s.withTracker { s.tracker with entries := s.tracker.entries.set i { e with refetch := false } } =
      s.withTracker (s.tracker.unflagged i) := by
    rw [Tracker.unflagged, modify_eq_set, he]
    rfl
  rw [hs0] at hu
  have hget0 : (s.tracker.unflagged i).entries.get i = e.flagged false := by
    rw [Tracker.unflagged, Table.get_modify_self, he]
  obtain ⟨a, ha⟩ : ∃ a, a = ((s.tracker.unflagged i).taking i).applyRecord s.path.windows s.evalAt i (beatsBytes data) err :=
    ⟨_, rfl⟩
  have hrun0 := recordFetchDone_eq (s := s.withTracker (s.tracker.unflagged i)) (a := a) hresp
    (show ((s.tracker.unflagged i).entries.get i).fetch = .record by rw [hget0]; exact hfetch)
    (show ((s.tracker.unflagged i).entries.get i).fetchNo = no by rw [hget0]; exact hno)
    (show ((s.tracker.unflagged i).entries.get i).refetch = false by rw [hget0]; rfl) ha
  obtain ⟨hkfetch, -, hkflag, -⟩ := applyRecord_keeps ((s.tracker.unflagged i).taking i) s.path.windows s.evalAt i (beatsBytes data) err
  rw [← ha, taking_get, hget0] at hkfetch hkflag
  have hrun := recordFetchDone_of_awaited hresp (by rw [he]; exact hfetch) (by rw [he]; exact hno)
  rw [recordDone_of_refetch (by rw [he]; exact hre) s.path.windows s.evalAt (beatsBytes data) err ha, andThen,
    afterRecord_of_refetch _ _ _ hkflag s.tracker.entries rfl] at hrun
  rw [show (s.withTracker (s.tracker.unflagged i)).tracker.entries.set i = s.tracker.entries.set i from
    funext fun x => unflagged_set s.tracker i x] at hrun0
  have hsends : Sends [.mail] (a.outs ++ boardOuts s.tracker.board (boardOf (s.tracker.entries.set i a.entry))) := by
    rw [sends_append, ha]
    exact ⟨applyRecord_sends _ _ _ _ _ _, boardOuts_sends _ _⟩
  have hpop : s.popTracker = s.withMail { s.mail with trackerResp := rest } := by rw [State.popTracker, hresp]; rfl
  obtain ⟨b, hb⟩ := commit_withChanged (s.withTracker (s.tracker.unflagged i))
    (recordFetchDone (s.withTracker (s.tracker.unflagged i)))
  obtain ⟨c, hc⟩ := commit_withChanged s (recordFetchDone s)
  have hu' := (next_of_goOn hu).trans hb
  rw [hrun0] at hu'
  have he1' : e1 = a.fetched (s.tracker.fetchCount + 1) := by
    rw [← he1, hu']
    exact Table.get_set_self ..
  refine ⟨(recordFetchDone s).withChanged c, congrArg Host.Outcome.next hc, ?_⟩
  rw [hu', he1', hrun]
  cases htitle : a.title with
  | true =>
    have hfetched : (a.fetched (s.tracker.fetchCount + 1)).fetch = .title := by rw [fetched_eq, htitle]; rfl
    refine ⟨fun _ => ?_, fun h => absurd hfetched h, fun h => absurd hfetched h⟩
    rw [if_pos rfl, trackerDo_eq, emit_append, emit_posts hsends, emit_read _ rfl, hpop]
    simp only [Alike, State.withTracker, State.withChanged, State.withEvents, set_set_self, if_true]
    rfl
  | false =>
    have hfetched : a.fetched (s.tracker.fetchCount + 1) = a.entry := by rw [Applied.fetched, htitle]; rfl
    have hnone : a.entry.fetch ≠ .title := by rw [hkfetch]; simp
    rw [hfetched]
    refine ⟨fun h => absurd h hnone, fun _ hbase => ?_, fun _ hbase => ?_⟩
    · rw [if_neg (by simp), if_pos hbase, trackerDo_eq, List.append_nil, emit_posts hsends, hpop]
      simp only [Alike, State.withTracker, State.withChanged, State.withEvents, Applied.fetched, htitle, Bool.false_eq_true, if_false,
        List.append_nil]
      rfl
    · rw [if_neg (by simp), if_neg hbase, trackerDo_eq, emit_append, emit_posts hsends, emit_read _ rfl, hpop]
      simp only [Alike, State.withTracker, State.withChanged, State.withEvents, set_set_self, Bool.false_eq_true, if_false,
        List.append_nil]
      rfl

/-! ### A response whose fetch was abandoned (R3) -/

theorem recordFetchDone_of_stale {s : State} {i : Fin 192} {no : Nat} {data : List Beat} {err : Bool} {rest : List Response}
    (hresp : s.mail.trackerResp = { tag := .record i no, data := data, err := err } :: rest)
    (hstale : (s.tracker.entries.get i).fetch ≠ .record ∨ (s.tracker.entries.get i).fetchNo ≠ no) :
    recordFetchDone s = s.withMail { s.mail with trackerResp := rest } := by
  have hnot : ¬ ((s.tracker.entries.get i).fetch = .record ∧ (s.tracker.entries.get i).fetchNo = no) := by tauto
  simp only [recordFetchDone, hresp, if_neg hnot, State.popTracker, List.tail_cons]

theorem titleFetchDone_of_stale {s : State} {i : Fin 192} {no : Nat} {data : List Beat} {err : Bool} {rest : List Response}
    (hresp : s.mail.trackerResp = { tag := .title i no, data := data, err := err } :: rest)
    (hstale : (s.tracker.entries.get i).fetch ≠ .title ∨ (s.tracker.entries.get i).fetchNo ≠ no) :
    titleFetchDone s = s.withMail { s.mail with trackerResp := rest } := by
  have hnot : ¬ ((s.tracker.entries.get i).fetch = .title ∧ (s.tracker.entries.get i).fetchNo = no) := by tauto
  simp only [titleFetchDone, hresp, if_neg hnot, State.popTracker, List.tail_cons]

/-- Settles O24. -/
theorem titlesAndRefetchesFollow : Obligations.TitlesAndRefetchesFollow := by
  refine ⟨?_, ?_, fun s i no data err rest => ⟨fun hresp hstale => ?_, fun hresp hstale => ?_⟩⟩
  · intro s i no data err rest e e1 hresp he hfetch hno he1
    obtain ⟨t, hexec, hframe, hboard, hothers, hmail, hend, hagain⟩ := titleFetchDone_leaves hresp he hfetch hno he1
    refine ⟨t, hexec, hframe, hboard, hothers, ?_, hend, ?_⟩
    · rintro notes rfl
      exact hmail
    · intro hre hbase
      rw [show e.state = e1.state by rw [he1]]
      exact hagain hre hbase
  · intro s i no data err rest e e1 u hresp he hfetch hno hre hu he1
    exact exec_flag_waits hresp he hfetch hno hre hu he1
  · exact congrArg (goOn s) (recordFetchDone_of_stale hresp hstale)
  · exact congrArg (goOn s) (titleFetchDone_of_stale hresp hstale)

end Sys2Proof.Machine
end

section
/-! The effects of desk notices (R19 to R21). -/

namespace Sys2Proof.Machine

theorem popEffect_eq {s : State} {x : Effect} {rest : List Effect} (h : s.mail.effects = x :: rest) :
    s.popEffect = s.withMail { s.mail with effects := rest } := by
  simp only [State.popEffect, h, List.tail_cons]

/-- An effect that changes one show: the answer, then the show's requests and note, then the board-order note (R19 to R21). -/
theorem effectDone_leaves {s : State} {x : Effect} {rest : List Effect} (heffects : s.mail.effects = x :: rest) {i : Fin 192}
    {e' : ShowEntry} {a : Answer} {outs : List Out} {reqs : List SeatMsg} {notes : List ShowNote}
    (houts : outs = reqs.map .seats ++ notes.flatMap noteOuts)
    (hseat : e'.seatStatus = (s.tracker.entries.get i).seatStatus ∧ e'.boundSlot = (s.tracker.entries.get i).boundSlot) {t : State}
    (ht : t = s.popEffect.trackerDo
      ((Tracker.settle ({ s.tracker with entries := s.tracker.entries.set i e' }, outs)).1,
        .notices (.answer a) :: (Tracker.settle ({ s.tracker with entries := s.tracker.entries.set i e' }, outs)).2)) :
    Frame [.clock, .entries, .mail] s t ∧ t.tracker.board = boardOf t.tracker.entries ∧
      t.tracker = { s.tracker with board := t.tracker.board, entries := s.tracker.entries.set i e' } ∧
      t.mail.effects = rest ∧ t.mail.events = s.mail.events ∧
      t.mail.toNotices = s.mail.toNotices ++ .answer a :: notes.map .note ∧ t.mail.toReel = s.mail.toReel ++ notes ∧
      (∃ order, BoardNoted s t order ∧ t.mail.toComp = s.mail.toComp ++ notes.map .note ++ order) ∧
      t.mail.toSeats = s.mail.toSeats ++ reqs ++ notes.map .note := by
  have hsends : Sends [.mail] (.notices (.answer a) :: (outs ++ boardOuts s.tracker.board (boardOf (s.tracker.entries.set i e')))) := by
    rw [sends_cons, sends_append, houts, sends_append]
    exact ⟨by simp [Out.block], ⟨sends_map _ _ _ fun _ => by simp [Out.block], sends_flatMap _ _ _ fun n => noteOuts_sends n⟩,
      boardOuts_sends _ _⟩
  have htracker : t.tracker = { s.tracker with
      board := boardOf (s.tracker.entries.set i e'), entries := s.tracker.entries.set i e' } := by
    rw [ht]
    exact (trackerDo_mail hsends _).1
  have hframe : Frame [.clock, .entries, .mail] s t := by
    rw [ht, popEffect_eq heffects]
    refine ((frame_withMail s _).mono (by simp)).trans (frame_trackerDo hsends _ fun j => ?_)
    by_cases h : i = j
    · subst h; simpa [Tracker.settle] using hseat
    · simp [Tracker.settle, h]
  obtain ⟨order, horder, hboard⟩ := boardOuts_noted s t
  have hmail : t.mail = (({ s.mail with effects := rest } : Mail).posts (.notices (.answer a) :: outs)).posts (order.map .comp) := by
    rw [← posts_append, ← hboard, htracker, ht, popEffect_eq heffects]
    exact (trackerDo_mail hsends _).2
  rw [posts_cons, houts, show reqs.map Out.seats ++ notes.flatMap noteOuts =
    [].map Out.event ++ (reqs.map Out.seats ++ notes.flatMap noteOuts) from rfl, showOuts_posts, compOuts_posts] at hmail
  refine ⟨hframe, by rw [htracker], by rw [htracker], ?_, ?_, ?_, ?_, ⟨order, horder, ?_⟩, ?_⟩
  all_goals rw [hmail]; simp [Mail.post]

/-- A show in ON_SALE or CLOSING whose delay has changed (R19, R20). -/
def delayedShow (e : ShowEntry) (d : Nat) (st : ShowState) : ShowEntry :=
  { e with delay := d, effStart := e.fields.start + d, state := st, cancelMinute := none }

theorem withDelay_eq {e : ShowEntry} (h : e.state.sellingNow = true) (x : EvalAt) (d : Nat) :
    e.withDelay x d =
      delayedShow e d (targetOf x.minute (e.fields.start + d) e.fields.closeOffset x.grace) := by
  exact evaluate_sellingNow (e := { e with delay := d, effStart := e.fields.start + d }) _ _ _ h

theorem selling_of_sellingNow {st : ShowState} (h : st.sellingNow = true) : st.selling = true := by
  cases st <;> simp_all [ShowState.sellingNow, ShowState.selling]

/-- The notes of a delay that has changed: STATE and START where they differ. -/
def delayNotes (i : Fin 192) (e : ShowEntry) (d : Nat) (st : ShowState) : List ShowNote :=
  if st = e.state ∧ e.fields.start + d = e.effStart then []
  else
    [{ slot := i, id := e.fields.id, old := e.state, new := st
       change := { state := decide (e.state ≠ st), start := decide (e.effStart ≠ e.fields.start + d), title := false
                   display := false, removed := false } }]

theorem delayed_outs {i : Fin 192} {e : ShowEntry} (h : e.state.sellingNow = true) {c g d : Nat} {st : ShowState}
    (hst : st = targetOf c (e.fields.start + d) e.fields.closeOffset g) :
    seatOuts i e (delayedShow e d st) ++ diffNote i e (delayedShow e d st) =
      (if st = .retired ∧ e.fields.seatsTracked = true then [.release i] else []).map .seats ++
        (delayNotes i e d st).flatMap noteOuts := by
  have hsel := selling_of_sellingNow h
  have hselling : st.selling = true ↔ st ≠ .retired := by rw [hst]; exact targetOf_selling _ _ _ _
  have hid : (delayedShow e d st).id = e.fields.id := id_of_target (e := delayedShow e d st) hst
  have hchanges : changesOf e (delayedShow e d st) =
      { state := decide (e.state ≠ st), start := decide (e.effStart ≠ e.fields.start + d), title := false, display := false
        removed := false } := by
    simp only [changesOf, delayedShow, ne_eq, not_true_eq_false, or_self, decide_false]
    rfl
  congr 1
  · unfold seatOuts ShowEntry.wants
    by_cases hr : st = .retired
    · cases ht : e.fields.seatsTracked <;> simp [delayedShow, hsel, ht, hr, show ShowState.retired.selling = false from rfl]
    · cases ht : e.fields.seatsTracked <;> simp [delayedShow, hsel, ht, hr, hselling.2 hr]
  · unfold diffNote delayNotes
    rw [hchanges, hid]
    by_cases hsame : st = e.state ∧ e.fields.start + d = e.effStart
    · simp [ChangeSet.nothing, hsame.1, hsame.2]
    · have hsome : ¬ (e.state = st ∧ e.effStart = e.fields.start + d) := fun k => hsame ⟨k.1.symm, k.2.symm⟩
      have hnothing : ({ state := decide (e.state ≠ st), start := decide (e.effStart ≠ e.fields.start + d), title := false
                         display := false, removed := false } : ChangeSet).nothing = false := by
        simp only [ChangeSet.nothing, Bool.or_false]
        simpa using fun k => (not_and.1 hsome k)
      rw [hnothing, if_neg hsame]
      simp only [Bool.false_eq_true, if_false, List.flatMap_singleton]
      rfl

/-! ### Effects that change no show -/

theorem findShow_eq_none {t : Tracker} {id : Nat}
    (h : ∀ j, (t.entries.get j).state.visible = true → (t.entries.get j).fields.id ≠ id) : t.findShow id = none := by
  rw [Tracker.findShow, List.find?_eq_none]
  intro j _
  simpa using h j

theorem effect_answered {s : State} {x : Effect} {rest : List Effect} (heffects : s.mail.effects = x :: rest) (a : Answer) :
    s.popEffect.trackerDo (s.tracker, [.notices (.answer a)]) =
      s.withMail { s.mail with effects := rest, toNotices := s.mail.toNotices ++ [.answer a] } := by
  rw [popEffect_eq heffects]
  rfl

theorem effect_tooLate {s : State} {x : Effect} {rest : List Effect} (heffects : s.mail.effects = x :: rest) (a : Answer) :
    s.popEffect.trackerDo (s.tracker, [.event .tooLate, .notices (.answer a)]) =
      s.withMail { s.mail with
        effects := rest, events := s.mail.events ++ [.tooLate], toNotices := s.mail.toNotices ++ [.answer a] } := by
  rw [popEffect_eq heffects]
  rfl

/-! ### Each effect's command -/

theorem delayEffect_run {s : State} {rest : List Effect} {id m : Nat} (h : s.mail.effects = .delay id m :: rest) :
    delayEffect s = s.popEffect.trackerDo (s.tracker.delayEffect s.evalAt id m) := by simp only [delayEffect, h]

theorem undelayEffect_run {s : State} {rest : List Effect} {id m : Nat} (h : s.mail.effects = .undelay id m :: rest) :
    undelayEffect s = s.popEffect.trackerDo (s.tracker.undelayEffect s.evalAt id m) := by simp only [undelayEffect, h]

theorem cancelEffect_run {s : State} {rest : List Effect} {id : Nat} (h : s.mail.effects = .cancel id :: rest) :
    cancelEffect s = s.popEffect.trackerDo (s.tracker.cancelEffect id) := by simp only [cancelEffect, h]

/-- No visible show of the id: NO_SHOW (R19 to R21). -/
theorem noShow_answered {s : State} {rest : List Effect} {id m : Nat} (hnone : s.tracker.findShow id = none) :
    (s.mail.effects = .delay id m :: rest → delayEffect s =
        s.withMail { s.mail with effects := rest, toNotices := s.mail.toNotices ++ [.answer .noShow] }) ∧
      (s.mail.effects = .undelay id m :: rest → undelayEffect s =
        s.withMail { s.mail with effects := rest, toNotices := s.mail.toNotices ++ [.answer .noShow] }) ∧
      (s.mail.effects = .cancel id :: rest → cancelEffect s =
        s.withMail { s.mail with effects := rest, toNotices := s.mail.toNotices ++ [.answer .noShow] }) := by
  refine ⟨fun h => ?_, fun h => ?_, fun h => ?_⟩
  · rw [delayEffect_run h, Tracker.delayEffect, hnone]
    exact effect_answered h _
  · rw [undelayEffect_run h, Tracker.undelayEffect, hnone]
    exact effect_answered h _
  · rw [cancelEffect_run h, Tracker.cancelEffect, hnone]
    exact effect_answered h _

/-- Settles O25. -/
theorem deskEffectsAreAnswered : Obligations.DeskEffectsAreAnswered := by
  intro s rest id m
  refine ⟨fun heffects hnone c hc => ?_, fun i e hfind he => ⟨fun h hsel => ?_, fun h hsel => ?_, fun h hcan => ?_,
    fun h hsel hsame => ?_, ?_, ?_⟩⟩
  · obtain ⟨hdelay, hundelay, hcancel⟩ := noShow_answered (rest := rest) (m := m) (findShow_eq_none hnone)
    rcases heffects with h | h | h
    · rw [hc, if_pos h]
      exact congrArg (goOn s) (hdelay h)
    · rw [hc, if_neg (by simp [h]), if_pos h]
      exact congrArg (goOn s) (hundelay h)
    · rw [hc, if_neg (by simp [h]), if_neg (by simp [h])]
      exact congrArg (goOn s) (hcancel h)
  · refine congrArg (goOn s) ?_
    simp only [delayEffect_run h, Tracker.delayEffect, hfind, he, hsel, Bool.false_eq_true, if_false]
    exact effect_tooLate h _
  · refine congrArg (goOn s) ?_
    simp only [undelayEffect_run h, Tracker.undelayEffect, hfind, he, hsel, Bool.false_eq_true, if_false]
    exact effect_answered h _
  · refine congrArg (goOn s) ?_
    have hsel : e.state.selling = false := by rw [hcan]; rfl
    simp only [cancelEffect_run h, Tracker.cancelEffect, hfind, he, hsel, Bool.false_eq_true, if_false]
    exact effect_tooLate h _
  · refine congrArg (goOn s) ?_
    simp only [delayEffect_run h, Tracker.delayEffect, hfind, he, hsel, if_true, hsame]
    exact effect_answered h _
  · intro c d k hsel hcase
    obtain ⟨u, x, hexec, heffects, hu⟩ : ∃ (u : State) (x : Effect), exec c s = .next (commit s u) ∧
        s.mail.effects = x :: rest ∧ u = s.popEffect.trackerDo
          ((s.tracker.changeShow i (e.withDelay s.evalAt d)).1,
            .notices (.answer (.done k)) :: (s.tracker.changeShow i (e.withDelay s.evalAt d)).2) := by
      rcases hcase with ⟨rfl, h, hd, hne, rfl⟩ | ⟨rfl, h, hd, rfl⟩
      · refine ⟨delayEffect s, _, rfl, h, ?_⟩
        simp only [delayEffect_run h, Tracker.delayEffect, hfind, he, hsel, if_true, ← hd, if_neg hne]
      · refine ⟨undelayEffect s, _, rfl, h, ?_⟩
        simp only [undelayEffect_run h, Tracker.undelayEffect, hfind, he, hsel, if_true, ← hd]
    rw [withDelay_eq hsel] at hu
    obtain ⟨hframe, hboard, htracker, heff, hevents, hnotices, hreel, ⟨order, horder, hcomp⟩, hseats⟩ :=
      effectDone_leaves (i := i) (e' := delayedShow e d (targetOf s.evalAt.minute (e.fields.start + d) e.fields.closeOffset s.evalAt.grace))
        heffects (delayed_outs hsel rfl) (by rw [he]; exact ⟨rfl, rfl⟩)
        (hu.trans (by simp only [Tracker.changeShow, he]; rfl))
    refine ⟨commit s u, _, hexec, hframe.commit, by unfold BoardOk; rw [commit_tracker]; exact hboard, rfl, ?_⟩
    simp only [commit_tracker, commit_mail]
    refine ⟨htracker, heff, hevents, ?_⟩
    rintro notes rfl
    exact ⟨hnotices, hreel, ⟨order, horder.commit s, hcomp⟩, hseats⟩
  · intro h hsel
    have hrun : cancelEffect s = s.popEffect.trackerDo
        ((Tracker.settle ({ s.tracker with entries := s.tracker.entries.set i (cancelShow s.tracker.minute i e).1 },
            (cancelShow s.tracker.minute i e).2)).1,
          .notices (.answer (.done 0)) ::
            (Tracker.settle ({ s.tracker with entries := s.tracker.entries.set i (cancelShow s.tracker.minute i e).1 },
              (cancelShow s.tracker.minute i e).2)).2) := by
      simp only [cancelEffect_run h, Tracker.cancelEffect, hfind, he, hsel, if_true]
    obtain ⟨hframe, hboard, htracker, heff, hevents, hnotices, hreel, ⟨order, horder, hcomp⟩, hseats⟩ :=
      effectDone_leaves (i := i) h (cancelShow_outs _ hsel) (by rw [he]; exact ⟨rfl, rfl⟩) hrun
    refine ⟨commit s (cancelEffect s), rfl, hframe.commit, by unfold BoardOk; rw [commit_tracker]; exact hboard, ?_⟩
    simp only [commit_tracker, commit_mail]
    refine ⟨htracker, heff, hevents, ?_⟩
    rintro n rfl
    exact ⟨hnotices, hreel, ⟨order, horder.commit s, by simpa using hcomp⟩, hseats⟩

end Sys2Proof.Machine
end

section
/-! The Seat Tally Unit's shared operations: the slot a show or an address finds, what is noted, and what is written (R29 to R35, R41, R51). -/

namespace Sys2Proof.Machine

/-! ### The first of a table that meets a test -/

theorem find_allFin_eq_some {n : Nat} {p : Fin n → Bool} {i : Fin n} (hi : p i = true) (hlt : ∀ j < i, p j = false) :
    (allFin n).find? p = some i := by
  cases h : (allFin n).find? p with
  | none => simp [List.find?_eq_none.1 h i (List.mem_finRange i)] at hi
  | some j =>
    obtain ⟨hj, as, bs, hl, has⟩ := List.find?_eq_some_iff_append.1 h
    have hsorted : (allFin n).Pairwise (· < ·) := List.pairwise_lt_finRange n
    rw [hl, List.pairwise_append] at hsorted
    have hmem : i ∈ as ++ j :: bs := hl ▸ List.mem_finRange i
    rcases List.mem_append.1 hmem with hm | hm
    · exact absurd hi (by simpa using has i hm)
    · rcases List.mem_cons.1 hm with hm | hm
      · rw [hm]
      · have hji : j < i := (List.pairwise_cons.1 hsorted.2.1).1 i hm
        simp [hlt j hji] at hj

theorem find_allFin_eq_none {n : Nat} {p : Fin n → Bool} : (allFin n).find? p = none ↔ ∀ i, p i = false := by
  rw [List.find?_eq_none]
  exact ⟨fun h i => by simpa using h i (List.mem_finRange i), fun h i _ => by simp [h i]⟩

theorem of_find_allFin {n : Nat} {p : Fin n → Bool} {i : Fin n} (h : (allFin n).find? p = some i) :
    p i = true ∧ ∀ j < i, p j = false := by
  refine ⟨List.find?_some h, fun j hj => ?_⟩
  by_contra hp
  have hsome : ∃ k ≤ j, (allFin n).find? p = some k := by
    obtain ⟨k, hk, hmin⟩ : ∃ k, p k = true ∧ ∀ l < k, p l = false := by
      have hne : (Finset.univ.filter fun k => p k = true).Nonempty := ⟨j, by simpa using hp⟩
      refine ⟨_, (Finset.mem_filter.1 (Finset.min'_mem _ hne)).2, fun l hl => ?_⟩
      by_contra hpl
      exact absurd (Finset.min'_le _ l (by simpa using hpl)) (not_le.2 hl)
    refine ⟨k, ?_, find_allFin_eq_some hk hmin⟩
    by_contra hkj
    exact hp (hmin j (not_le.1 hkj))
  obtain ⟨k, hkj, hk⟩ := hsome
  rw [h, Option.some.injEq] at hk
  omega

/-! ### The slot of a show, of an address, and the free slot (R30, R41) -/

theorem slotOf_eq_some {q : Seats} {sh : Fin 192} {i : Fin 64} (hactive : (q.slots.get i).state ≠ .unbound)
    (hbound : (q.slots.get i).bound = some sh) (hlt : ∀ j < i, (q.slots.get j).bound ≠ some sh) : q.slotOf sh = some i := by
  refine find_allFin_eq_some (by simp [SeatSlot.active, hactive, hbound]) fun j hj => ?_
  simp [hlt j hj]

theorem slotOf_eq_none {q : Seats} {sh : Fin 192} (h : ∀ j, (q.slots.get j).bound ≠ some sh) : q.slotOf sh = none :=
  find_allFin_eq_none.2 fun j => by simp [h j]

theorem isWaiting_iff (q : Seats) (sh : Fin 192) : q.isWaiting sh = true ↔ ∃ w ∈ q.waiting, w.show_ = sh := by
  simp [Seats.isWaiting]

theorem isWaiting_eq_false {q : Seats} {sh : Fin 192} (h : ∀ w ∈ q.waiting, w.show_ ≠ sh) : q.isWaiting sh = false := by
  rw [← Bool.not_eq_true, isWaiting_iff]
  rintro ⟨w, hw, hsh⟩
  exact h w hw hsh

theorem freeSlot_eq_some {q : Seats} {i : Fin 64} (hi : (q.slots.get i).state = .unbound)
    (hlt : ∀ j < i, (q.slots.get j).state ≠ .unbound) : q.freeSlot = some i :=
  find_allFin_eq_some (by simp [hi]) fun j hj => by simp [hlt j hj]

theorem freeSlot_eq_none {q : Seats} (h : ∀ j, (q.slots.get j).state ≠ .unbound) : q.freeSlot = none :=
  find_allFin_eq_none.2 fun j => by simp [h j]

/-! ### What is noted (R51) -/

theorem figureOuts_eq (s : State) (sh : Fin 192) (old new : Figure) (status : SeatStatus) :
    figureOuts s sh old new status =
      (seatsNotes s (some sh) old new status).map .seatsNote ++ (soldOutEvents (some sh) old new).map .event := by
  unfold figureOuts seatsNotes soldOutEvents
  by_cases h : old = new
  · have hband : ¬ (new.band = .soldOut ∧ old.band ≠ .soldOut) := by rw [h]; exact fun k => k.2 k.1
    simp only [h, if_true, Option.isSome_some, true_and, List.map_nil, List.nil_append]
    rw [if_neg (by simp)]
    rfl
  · simp only [if_neg h, Option.isSome_some, true_and, List.map_cons, List.map_nil, List.cons_append, List.nil_append]
    split <;> rfl

theorem slotNoteOuts_eq (s : State) (sl : SeatSlot) (new : Figure) (status : SeatStatus) :
    sl.noteOuts s new status =
      (seatsNotes s sl.bound sl.figure new status).map .seatsNote ++ (soldOutEvents sl.bound sl.figure new).map .event := by
  unfold SeatSlot.noteOuts
  cases h : sl.bound with
  | none => simp [seatsNotes, soldOutEvents]
  | some sh => exact figureOuts_eq s sh sl.figure new status

theorem soldOutEvents_none (show_ : Option (Fin 192)) (old : Figure) : soldOutEvents show_ old Figure.none = [] := by
  simp [soldOutEvents, Figure.none]

theorem noted_posts (m : Mail) (notes : List SeatsNote) (events : List EventKind) :
    m.posts (notes.map .seatsNote ++ events.map .event) = m.noted notes events := by
  have hnotes (m : Mail) : m.posts (notes.map .seatsNote) =
      { m with seatsToComp := m.seatsToComp ++ notes, seatsToNotices := m.seatsToNotices ++ notes } := by
    induction notes generalizing m with
    | nil => simp
    | cons n notes ih => rw [List.map_cons, posts_cons, ih]; simp [Mail.post]
  have hevents (m : Mail) : m.posts (events.map .event) = { m with events := m.events ++ events } := by
    induction events generalizing m with
    | nil => simp
    | cons k events ih => rw [List.map_cons, posts_cons, ih]; simp [Mail.post]
  rw [posts_append, hnotes, hevents]
  rfl

@[simp] theorem noted_nil (m : Mail) : m.noted [] [] = m := by simp [Mail.noted]

theorem noted_noted (m : Mail) (n n' : List SeatsNote) (k k' : List EventKind) :
    (m.noted n k).noted n' k' = m.noted (n ++ n') (k ++ k') := by simp [Mail.noted]

/-- Notes and events sent. -/
theorem emit_noted (s : State) (notes : List SeatsNote) (events : List EventKind) :
    s.emit (notes.map .seatsNote ++ events.map .event) = s.withMail (s.mail.noted notes events) := by
  rw [emit_posts, noted_posts]
  rw [sends_append]
  exact ⟨sends_map _ _ _ fun _ => by simp [Out.block], sends_map _ _ _ fun _ => by simp [Out.block]⟩

theorem emit_slotNote (s t : State) (sl : SeatSlot) (new : Figure) (status : SeatStatus) :
    t.emit (sl.noteOuts s new status) =
      t.withMail (t.mail.noted (seatsNotes s sl.bound sl.figure new status) (soldOutEvents sl.bound sl.figure new)) := by
  rw [slotNoteOuts_eq, emit_noted]

/-! ### What is written of an entry (R29) -/

theorem emit_entrySeat (s : State) (sh : Fin 192) (st : SeatStatus) (sl : Option (Fin 64)) (outs : List Out) :
    s.emit (.entrySeat sh st sl :: outs) = (s.withTracker { s.tracker with
      entries := s.tracker.entries.modify sh fun e => { e with seatStatus := st, boundSlot := sl } }).emit outs := rfl

theorem emit_entryStatus (s : State) (sh : Fin 192) (st : SeatStatus) (outs : List Out) :
    s.emit (.entryStatus sh st :: outs) = (s.withTracker { s.tracker with
      entries := s.tracker.entries.modify sh fun e => { e with seatStatus := st } }).emit outs := rfl

theorem statusAlone_eq {sl : SeatSlot} {sh : Fin 192} (h : sl.bound = some sh) (st : SeatStatus) :
    sl.statusAlone st = [.entryStatus sh st] := by simp [SeatSlot.statusAlone, h]

theorem statusOuts_eq {sl : SeatSlot} {sh : Fin 192} (h : sl.bound = some sh) (st : SeatStatus) (i : Option (Fin 64)) :
    sl.statusOuts st i = [.entrySeat sh st i] := by simp [SeatSlot.statusOuts, h]

/-! ### Placing by an order -/

theorem insertBy_perm {α : Type} (before : α → α → Bool) (x : α) (l : List α) : (insertBy before x l).Perm (x :: l) := by
  induction l with
  | nil => exact List.Perm.refl _
  | cons y ys ih =>
    unfold insertBy
    split
    · exact List.Perm.refl _
    · exact (ih.cons y).trans (List.Perm.swap x y ys)

/-- A member placed in a sorted list leaves it sorted. -/
theorem insertBy_sorted {α : Type} {before : α → α → Bool} (htotal : ∀ a b, before a b = true ∨ before b a = true)
    (htrans : ∀ a b c, before a b = true → before b c = true → before a c = true) (x : α) {l : List α}
    (h : l.Pairwise fun a b => before a b = true) : (insertBy before x l).Pairwise fun a b => before a b = true := by
  induction l with
  | nil => exact List.pairwise_singleton _ _
  | cons y ys ih =>
    obtain ⟨hy, hys⟩ := List.pairwise_cons.1 h
    unfold insertBy
    split
    · rename_i hxy
      exact List.pairwise_cons.2 ⟨fun z hz => by
        rcases List.mem_cons.1 hz with rfl | hz
        · exact hxy
        · exact htrans _ _ _ hxy (hy z hz), h⟩
    · rename_i hxy
      refine List.pairwise_cons.2 ⟨fun z hz => ?_, ih hys⟩
      rcases List.mem_cons.1 ((insertBy_perm before x ys).mem_iff.1 hz) with rfl | hz
      · exact (htotal _ _).resolve_left hxy
      · exact hy z hz

theorem waitBefore_total (a b : WaitEntry) : waitBefore a b = true ∨ waitBefore b a = true := by
  unfold waitBefore
  rw [decide_eq_true_iff, decide_eq_true_iff]
  omega

theorem waitBefore_trans (a b c : WaitEntry) (h : waitBefore a b = true) (k : waitBefore b c = true) : waitBefore a c = true := by
  unfold waitBefore at *
  rw [decide_eq_true_iff] at *
  omega

end Sys2Proof.Machine
end

section
/-! Binding, release and the wait list (R30 to R35). -/

namespace Sys2Proof.Machine

theorem popSeatMsg_eq {s : State} {x : SeatMsg} {rest : List SeatMsg} (h : s.mail.toSeats = x :: rest) :
    s.popSeatMsg = s.withMail { s.mail with toSeats := rest } := by
  simp only [State.popSeatMsg, h, List.tail_cons]

theorem emit_event (s : State) (k : EventKind) (outs : List Out) :
    s.emit (.event k :: outs) = (s.withMail { s.mail with events := s.mail.events ++ [k] }).emit outs := rfl

theorem frame_seatsDo {bs : List Block} {s : State} {m : Mail} {p : Seats × List Out} (h : Sends bs p.2)
    (hseats : Block.seats ∈ bs := by simp) (hmail : Block.mail ∈ bs := by simp) : Frame bs s ((s.withMail m).seatsDo p) :=
  ((frame_withMail s m).mono (by simpa using hmail)).trans ((frame_withSeats _ _).emit h (by simpa using hseats))

/-! ### What the unit's operations send -/

@[simp] theorem slotNoteOuts_sends (s : State) (sl : SeatSlot) (f : Figure) (st : SeatStatus) : Sends [.mail] (sl.noteOuts s f st) := by
  rw [slotNoteOuts_eq, sends_append]
  exact ⟨sends_map _ _ _ fun _ => by simp [Out.block], sends_map _ _ _ fun _ => by simp [Out.block]⟩

@[simp] theorem compute_sends (s : State) (i : Fin 64) (b : Band) (q : Seats) : Sends [.mail] (q.compute s i b).2 :=
  slotNoteOuts_sends _ _ _ _

@[simp] theorem setHoldback_sends (s : State) (sh : Fin 192) (k : Nat) (q : Seats) : Sends [.mail] (q.setHoldback s sh k).2 := by
  unfold Seats.setHoldback
  split
  · dsimp only
    split <;> simp
  · simp

theorem statusOuts_sends (sl : SeatSlot) (st : SeatStatus) (i : Option (Fin 64)) : Sends [.seatFields] (sl.statusOuts st i) := by
  unfold SeatSlot.statusOuts; split <;> simp [Out.block]

theorem statusAlone_sends (sl : SeatSlot) (st : SeatStatus) : Sends [.seatFields] (sl.statusAlone st) := by
  unfold SeatSlot.statusAlone; split <;> simp [Out.block]

@[simp] theorem bindSlot_sends (i : Fin 64) (w : WaitEntry) (q : Seats) : Sends [.seats, .mail, .seatFields] (q.bindSlot i w).2 := by
  simp [Seats.bindSlot, Out.block]

@[simp] theorem place_sends (w : WaitEntry) (q : Seats) : Sends [.seats, .mail, .seatFields] (q.place w).2 := by
  unfold Seats.place; split <;> simp [Out.block]

@[simp] theorem offer_sends (q : Seats) : Sends [.seats, .mail, .seatFields] q.offer.2 := by
  unfold Seats.offer
  repeat' split
  all_goals simp

@[simp] theorem restart_sends (s : State) (i : Fin 64) (sl : SeatSlot) (q : Seats) :
    Sends [.seats, .mail, .seatFields] (q.restart s i sl).2 := by
  simp only [Seats.restart, sends_append]
  exact ⟨(statusAlone_sends _ _).mono (by simp), (slotNoteOuts_sends _ _ _ _).mono (by simp)⟩

@[simp] theorem remap_sends (s : State) (sh : Fin 192) (map : Addr) (n : Nat) (q : Seats) :
    Sends [.seats, .mail, .seatFields] (q.remap s sh map n).2 := by
  unfold Seats.remap
  repeat' split
  all_goals simp

@[simp] theorem bind_sends (s : State) (w : WaitEntry) (q : Seats) : Sends [.seats, .mail, .seatFields] (q.bind s w).2 := by
  unfold Seats.bind
  split
  · exact Sends.andThen (remap_sends _ _ _ _ _) fun _ => (setHoldback_sends _ _ _ _).mono (by simp)
  · simp

@[simp] theorem free_sends (s : State) (i : Fin 64) (q : Seats) : Sends [.seats, .mail, .seatFields] (q.free s i).2 := by
  refine Sends.andThen ?_ fun _ => offer_sends _
  rw [sends_append]
  exact ⟨(statusOuts_sends _ _ _).mono (by simp), (slotNoteOuts_sends _ _ _ _).mono (by simp)⟩

@[simp] theorem release_sends (s : State) (sh : Fin 192) (q : Seats) : Sends [.seats, .mail, .seatFields] (q.release s sh).2 := by
  unfold Seats.release
  repeat' split
  all_goals simp [Out.block]

/-! ### Place -/

theorem place_of_free {q : Seats} {i : Fin 64} (h : q.freeSlot = some i) (w : WaitEntry) : q.place w = q.bindSlot i w := by
  simp only [Seats.place, h]

theorem place_of_full {q : Seats} (h : q.freeSlot = none) (w : WaitEntry) :
    q.place w = ({ q with waiting := insertBy waitBefore w q.waiting },
      [.entrySeat w.show_ .waiting none, .event .slotsExhausted]) := by
  simp only [Seats.place, h]

/-- The slot a show has taken (R30, R32, R35). -/
def SeatSlot.taken (sl : SeatSlot) (w : WaitEntry) : SeatSlot :=
  { state := .sweeping, bound := some w.show_, binding := sl.binding + 1, map := w.map, count := w.count
    beats := (w.count + 31) / 32, holdback := w.holdback
    shadow := sl.shadow.map fun b => { b with reading := false, reread := false }
    issue := 0, fill := 0, tallies := { free := 0, held := 0, sold := 0, off := 0 }, retries := 0
    figure := { band := .none, shown := 0, plus := false }, short := false }

theorem bindSlot_eq (i : Fin 64) (w : WaitEntry) (q : Seats) :
    q.bindSlot i w = (q.rebind i ((q.slots.get i).taken w), [.entrySeat w.show_ .sweeping (some i)]) := rfl

/-! ### A bound slot's sweep restarted (R33, R35) -/

theorem restart_emits {s t : State} {i : Fin 64} {sl : SeatSlot} {q : Seats} {sh : Fin 192} (hbound : sl.bound = some sh) :
    t.seatsDo (q.restart s i sl) =
      ((t.withMail (t.mail.noted (seatsNotes s (some sh) sl.figure Figure.none .sweeping) [])).withSeats
          (q.rebind i sl.startSweep)).withTracker
        { t.tracker with entries := t.tracker.entries.modify sh fun e => { e with seatStatus := .sweeping } } := by
  simp only [Seats.restart, seatsDo_eq, statusAlone_eq hbound, List.cons_append, List.nil_append, emit_entryStatus, emit_slotNote,
    hbound, soldOutEvents_none]
  rfl

/-! ### BIND -/

theorem seatsBind_of_new {q : Seats} {s : State} {w : WaitEntry} (hslot : q.slotOf w.show_ = none)
    (hwait : q.isWaiting w.show_ = false) : q.bind s w = q.place w := by
  simp [Seats.bind, hslot, hwait]

theorem slotOf_rebind {q : Seats} {sh : Fin 192} {i : Fin 64} {sl : SeatSlot} (hsl : sl.state ≠ .unbound) (hbound : sl.bound = some sh)
    (hlt : ∀ j < i, (q.slots.get j).bound ≠ some sh) : (q.rebind i sl).slotOf sh = some i := by
  refine slotOf_eq_some (by simpa [Seats.rebind] using hsl) (by simpa [Seats.rebind] using hbound) fun j hj => ?_
  simpa [Seats.rebind, (ne_of_gt hj)] using hlt j hj

/-- A BIND of a show already bound restarts its slot with the new map and holdback (R30). -/
theorem seatsBind_of_bound {q : Seats} {s : State} {w : WaitEntry} {i : Fin 64} {sl : SeatSlot} (hget : q.slots.get i = sl)
    (hactive : sl.state ≠ .unbound) (hbound : sl.bound = some w.show_) (hlt : ∀ j < i, (q.slots.get j).bound ≠ some w.show_) :
    q.bind s w = q.restart s i { sl with map := w.map, count := w.count, beats := mapBeats w.count, holdback := w.holdback } := by
  have hslot : q.slotOf w.show_ = some i := slotOf_eq_some (by rwa [hget]) (by rwa [hget]) hlt
  have hagain : (q.rebind i ({ sl with map := w.map, count := w.count, beats := mapBeats w.count } : SeatSlot).startSweep).slotOf
      w.show_ = some i := slotOf_rebind (by simp [SeatSlot.startSweep]) hbound hlt
  have hset : (q.rebind i ({ sl with map := w.map, count := w.count, beats := mapBeats w.count } : SeatSlot).startSweep).setHoldback s
      w.show_ w.holdback =
      (q.rebind i ({ sl with map := w.map, count := w.count, beats := mapBeats w.count, holdback := w.holdback } : SeatSlot).startSweep,
        []) := by
    simp only [Seats.setHoldback, hagain]
    simp [Seats.rebind, SeatSlot.startSweep, set_set_self]
  simp only [Seats.bind, hslot, Option.isSome_some, Bool.true_or, if_true, Seats.remap, hget, andThen]
  have hremap : (q.restart s i ({ sl with map := w.map, count := w.count, beats := mapBeats w.count } : SeatSlot)).1 =
      q.rebind i ({ sl with map := w.map, count := w.count, beats := mapBeats w.count } : SeatSlot).startSweep := rfl
  rw [hremap, hset, List.append_nil]
  rfl

theorem seatsBind_of_waiting {q : Seats} {s : State} {w : WaitEntry} (hslot : q.slotOf w.show_ = none)
    (hwait : q.isWaiting w.show_ = true) :
    q.bind s w = ({ q with waiting := q.waiting.map fun x =>
      if x.show_ = w.show_ then { x with map := w.map, count := w.count, holdback := w.holdback } else x }, []) := by
  have hslot' : (q.mapWaiting w.show_ fun x => { x with map := w.map, count := w.count }).slotOf w.show_ = none := hslot
  simp only [Seats.bind, hwait, Bool.or_true, if_true, Seats.remap, hslot, andThen, Seats.setHoldback, hslot', List.nil_append]
  refine Prod.ext ?_ rfl
  simp only [Seats.mapWaiting, List.map_map]
  congr 1
  refine List.map_congr_left fun x _ => ?_
  by_cases h : x.show_ = w.show_ <;> simp [h]

theorem bind_run {s : State} {sh : Fin 192} {map : Addr} {n k eff : Nat} {rest : List SeatMsg}
    (h : s.mail.toSeats = .bind sh map n k eff :: rest) :
    bind s = (s.withMail { s.mail with toSeats := rest }).seatsDo
      (s.seats.bind s { show_ := sh, effStart := eff, map := map, count := n, holdback := k }) := by
  rw [← popSeatMsg_eq h]
  simp only [bind, h]

/-- Settles O26. -/
theorem bindTakesASlotOrWaits : Obligations.BindTakesASlotOrWaits := by
  intro s sh map n k eff rest hmsg
  have hrun := bind_run hmsg
  refine ⟨fun hbound hwait => ⟨fun i sl hsl hfree hlow => ?_, fun hfull => ?_⟩, fun i sl hsl hactive hbound hlow => ?_,
    fun hbound hwait => ?_⟩
  · rw [seatsBind_of_new (slotOf_eq_none hbound) (isWaiting_eq_false hwait),
      place_of_free (freeSlot_eq_some (by rwa [hsl]) hlow), bindSlot_eq, hsl] at hrun
    simp only [seatsDo_eq, emit_entrySeat, emit_nil] at hrun
    exact congrArg (goOn s) hrun
  · rw [seatsBind_of_new (slotOf_eq_none hbound) (isWaiting_eq_false hwait), place_of_full (freeSlot_eq_none hfull)] at hrun
    refine ⟨_, rfl, (hrun ▸ frame_seatsDo (by simp [Out.block])).commit, ?_⟩
    simp only [seatsDo_eq, emit_entrySeat, emit_event, emit_nil] at hrun
    simp only [commit_mail, commit_tracker, commit_seats, hrun]
    exact ⟨rfl, rfl, rfl, insertBy_perm _ _ _, insertBy_sorted waitBefore_total waitBefore_trans _⟩
  · rw [seatsBind_of_bound hsl hactive hbound hlow] at hrun
    refine ⟨_, rfl, (hrun ▸ frame_seatsDo (restart_sends _ _ _ _)).commit, ?_⟩
    rw [restart_emits (sh := sh) (by exact hbound)] at hrun
    simp only [commit_mail, commit_tracker, commit_seats, hrun]
    exact ⟨rfl, rfl, rfl⟩
  · rw [seatsBind_of_waiting (slotOf_eq_none hbound) ((isWaiting_iff _ _).2 hwait)] at hrun
    simp only [seatsDo_eq, emit_nil] at hrun
    exact congrArg (goOn s) hrun

end Sys2Proof.Machine
end

section
/-! RELEASE, REMAP, HOLDBACK and the notes of the wait list (R31 to R34). -/

namespace Sys2Proof.Machine

/-! ### A slot freed and offered (R31, R32, R40) -/

theorem offer_of_nil {q : Seats} (h : q.waiting = []) : q.offer = (q, []) := by
  simp only [Seats.offer, h]

theorem offer_of_cons {q : Seats} {w : WaitEntry} {ws : List WaitEntry} {j : Fin 64} (h : q.waiting = w :: ws)
    (hfree : q.freeSlot = some j) : q.offer = ({ q with waiting := ws } : Seats).bindSlot j w := by
  simp only [Seats.offer, h, hfree]

theorem free_eq (s : State) (i : Fin 64) (q : Seats) :
    q.free s i = ((q.rebind i (q.slots.get i).unbind).offer.1,
      ((q.slots.get i).statusOuts .none none ++ (q.slots.get i).noteOuts s Figure.none .none) ++
        (q.rebind i (q.slots.get i).unbind).offer.2) := rfl

theorem free_of_nil {s : State} {i : Fin 64} {q : Seats} (h : q.waiting = []) :
    q.free s i = (q.rebind i (q.slots.get i).unbind,
      (q.slots.get i).statusOuts .none none ++ (q.slots.get i).noteOuts s Figure.none .none) := by
  rw [free_eq, offer_of_nil (q := q.rebind i _) h, List.append_nil]

/-- The freed slot itself can be taken, so that the lowest UNBOUND slot is found at or below it. -/
theorem freeSlot_rebind_unbind (q : Seats) (i : Fin 64) (sl : SeatSlot) :
    ∃ j ≤ i, (q.rebind i sl.unbind).freeSlot = some j ∧ (∀ k < j, (q.slots.get k).state ≠ .unbound) ∧
      (j = i ∨ (q.slots.get j).state = .unbound) := by
  have hstate : ((q.rebind i sl.unbind).slots.get i).state = .unbound := by simp [Seats.rebind, SeatSlot.unbind, SeatSlot.reset]
  cases hfree : (q.rebind i sl.unbind).freeSlot with
  | none => simpa [hstate] using find_allFin_eq_none.1 hfree i
  | some j =>
    obtain ⟨hj, hlt⟩ := of_find_allFin hfree
    have hji : j ≤ i := by
      by_contra hij
      simpa [hstate] using hlt i (not_le.1 hij)
    refine ⟨j, hji, rfl, fun k hk => ?_, ?_⟩
    · have hki : i ≠ k := ne_of_gt (lt_of_lt_of_le hk hji)
      simpa [Seats.rebind, hki] using hlt k hk
    · by_cases h : j = i
      · exact .inl h
      · right
        simpa [Seats.rebind, Ne.symm h] using hj

theorem free_of_cons {s : State} {i : Fin 64} {q : Seats} {w : WaitEntry} {ws : List WaitEntry} (h : q.waiting = w :: ws) :
    ∃ j ≤ i, (∀ k < j, (q.slots.get k).state ≠ .unbound) ∧ (j = i ∨ (q.slots.get j).state = .unbound) ∧
      q.free s i = (({ q.rebind i (q.slots.get i).unbind with waiting := ws } : Seats).rebind j
          (((q.rebind i (q.slots.get i).unbind).slots.get j).taken w),
        ((q.slots.get i).statusOuts .none none ++ (q.slots.get i).noteOuts s Figure.none .none) ++
          [.entrySeat w.show_ .sweeping (some j)]) := by
  obtain ⟨j, hji, hfree, hlow, hj⟩ := freeSlot_rebind_unbind q i (q.slots.get i)
  refine ⟨j, hji, hlow, hj, ?_⟩
  rw [free_eq, offer_of_cons (q := q.rebind i _) h hfree, bindSlot_eq]

/-- The writes and the note of a freed slot, sent. -/
theorem emit_freed {s t : State} {sl : SeatSlot} {sh : Fin 192} (hbound : sl.bound = some sh) (outs : List Out) :
    t.emit ((sl.statusOuts .none none ++ sl.noteOuts s Figure.none .none) ++ outs) =
      (((t.withTracker { t.tracker with entries := t.tracker.entries.modify sh fun e =>
          { e with seatStatus := .none, boundSlot := none } }).withMail
        (t.mail.noted (seatsNotes s (some sh) sl.figure Figure.none .none) []))).emit outs := by
  rw [emit_append, statusOuts_eq hbound, List.cons_append, List.nil_append, emit_entrySeat, emit_slotNote, hbound, soldOutEvents_none]
  rfl

theorem release_run {s : State} {sh : Fin 192} {rest : List SeatMsg} (h : s.mail.toSeats = .release sh :: rest) :
    release s = (s.withMail { s.mail with toSeats := rest }).seatsDo (s.seats.release s sh) := by
  rw [← popSeatMsg_eq h]
  simp only [release, h]

theorem release_of_bound {s : State} {q : Seats} {sh : Fin 192} {i : Fin 64} (h : q.slotOf sh = some i) :
    q.release s sh = q.free s i := by
  simp only [Seats.release, h]

theorem release_of_waiting {s : State} {q : Seats} {sh : Fin 192} (h : q.slotOf sh = none) (hw : q.isWaiting sh = true) :
    q.release s sh =
      ({ q with waiting := q.waiting.filter fun w => decide (w.show_ ≠ sh) }, [.entrySeat sh .none none]) := by
  simp only [Seats.release, h, hw, if_true]

theorem release_of_neither {s : State} {q : Seats} {sh : Fin 192} (h : q.slotOf sh = none) (hw : q.isWaiting sh = false) :
    q.release s sh = (q, []) := by
  simp [Seats.release, h, hw]

/-- Settles O27. -/
theorem releaseFreesTheSlot : Obligations.ReleaseFreesTheSlot := by
  intro s sh rest hmsg
  have hrun := release_run hmsg
  refine ⟨fun i sl hsl hactive hbound hlow => ?_, fun hbound hwait => ?_, fun hbound hwait => ?_⟩
  · have hslot : s.seats.slotOf sh = some i := slotOf_eq_some (by rwa [hsl]) (by rwa [hsl]) hlow
    rw [release_of_bound hslot] at hrun
    have hframe : Frame [.seats, .mail, .seatFields] s (release s) := hrun ▸ frame_seatsDo (free_sends _ _ _)
    cases hw : s.seats.waiting with
    | nil =>
      rw [free_of_nil hw, hsl, ← List.append_nil (sl.statusOuts .none none ++ _), seatsDo_eq, emit_freed hbound, emit_nil] at hrun
      refine ⟨_, rfl, hframe.commit, ?_⟩
      simp only [commit_mail, commit_tracker, commit_seats, hrun]
      exact ⟨rfl, fun _ => ⟨rfl, rfl⟩, fun _ _ hcons => absurd hcons (by simp)⟩
    | cons w ws =>
      obtain ⟨j, hji, hfree, hj, hfreed⟩ := free_of_cons (s := s) (i := i) hw
      rw [hfreed, hsl, seatsDo_eq, emit_freed hbound, emit_entrySeat, emit_nil] at hrun
      refine ⟨_, rfl, hframe.commit, ?_⟩
      simp only [commit_mail, commit_tracker, commit_seats, hrun]
      refine ⟨rfl, fun hnil => absurd hnil (by simp), fun w' ws' hcons => ?_⟩
      obtain ⟨rfl, rfl⟩ : w = w' ∧ ws = ws' := by simpa using hcons
      refine ⟨j, hji, hfree, hj, rfl, ?_⟩
      simp only [State.withTracker_seats, State.withMail_seats, State.withSeats_seats, State.withTracker_tracker, State.withMail_tracker,
        Seats.rebind, Table.get_set_self, Table.get_modify_self, SeatSlot.taken, true_and]
      refine ⟨fun hne => ?_, fun k hki hkj => ?_, fun hne => ?_⟩
      · simp [hne, SeatSlot.unbind]
      · simp [Ne.symm hki, Ne.symm hkj]
      · simp [hne]
  · rw [release_of_waiting (slotOf_eq_none hbound) ((isWaiting_iff _ _).2 hwait)] at hrun
    simp only [seatsDo_eq, emit_entrySeat, emit_nil] at hrun
    exact congrArg (goOn s) hrun
  · rw [release_of_neither (slotOf_eq_none hbound) (isWaiting_eq_false hwait)] at hrun
    exact congrArg (goOn s) hrun

/-! ### REMAP (R33) -/

theorem remap_run {s : State} {sh : Fin 192} {map : Addr} {n : Nat} {rest : List SeatMsg}
    (h : s.mail.toSeats = .remap sh map n :: rest) :
    remap s = (s.withMail { s.mail with toSeats := rest }).seatsDo (s.seats.remap s sh map n) := by
  rw [← popSeatMsg_eq h]
  simp only [remap, h]

theorem remap_of_bound {s : State} {q : Seats} {sh : Fin 192} {map : Addr} {n : Nat} {i : Fin 64} (h : q.slotOf sh = some i) :
    q.remap s sh map n = q.restart s i { q.slots.get i with map := map, count := n, beats := mapBeats n } := by
  simp only [Seats.remap, h]

theorem remap_of_waiting {s : State} {q : Seats} {sh : Fin 192} {map : Addr} {n : Nat} (h : q.slotOf sh = none)
    (hw : q.isWaiting sh = true) :
    q.remap s sh map n = (q.mapWaiting sh fun w => { w with map := map, count := n }, []) := by
  simp only [Seats.remap, h, hw, if_true]

theorem remap_of_neither {s : State} {q : Seats} {sh : Fin 192} {map : Addr} {n : Nat} (h : q.slotOf sh = none)
    (hw : q.isWaiting sh = false) :
    q.remap s sh map n = q.place { show_ := sh, effStart := (s.tracker.entries.get sh).effStart, map := map, count := n
                                   holdback := (s.tracker.entries.get sh).fields.holdback } := by
  simp [Seats.remap, h, hw]

/-- Two commits of one state agree but for the changed mark. -/
theorem commit_but_events (s s' t : State) (x : Events) :
    { commit s t with events := x } = { commit s' t with events := x } := by
  simp only [commit_eq, State.withEvents]

theorem remap_of_new {s : State} {sh : Fin 192} {map : Addr} {n : Nat} {rest : List SeatMsg} {e : ShowEntry}
    (h : s.mail.toSeats = .remap sh map n :: rest) (he : s.tracker.entries.get sh = e)
    (hslot : s.seats.slotOf sh = none) (hwait : s.seats.isWaiting sh = false) :
    remap s = bind (s.withMail { s.mail with toSeats := .bind sh map n e.fields.holdback e.effStart :: rest }) := by
  rw [remap_run h, remap_of_neither hslot hwait, he, bind_run rfl]
  exact congrArg _ (seatsBind_of_new (q := s.seats) hslot hwait).symm

/-! ### HOLDBACK (R33) -/

theorem holdback_run {s : State} {sh : Fin 192} {k : Nat} {rest : List SeatMsg} (h : s.mail.toSeats = .holdback sh k :: rest) :
    holdback s = (s.withMail { s.mail with toSeats := rest }).seatsDo (s.seats.setHoldback s sh k) := by
  rw [← popSeatMsg_eq h]
  simp only [holdback, h]

theorem setHoldback_of_sweeping {s : State} {q : Seats} {sh : Fin 192} {k : Nat} {i : Fin 64} (h : q.slotOf sh = some i)
    (hstate : (q.slots.get i).state ≠ .counting) :
    q.setHoldback s sh k = ({ q with slots := q.slots.set i { q.slots.get i with holdback := k } }, []) := by
  simp only [Seats.setHoldback, h, if_neg hstate]

theorem setHoldback_of_counting {s : State} {q : Seats} {sh : Fin 192} {k : Nat} {i : Fin 64} (h : q.slotOf sh = some i)
    (hstate : (q.slots.get i).state = .counting) :
    q.setHoldback s sh k = ({ q with slots := q.slots.set i { q.slots.get i with holdback := k } } : Seats).compute s i
      (q.slots.get i).figure.band := by
  simp only [Seats.setHoldback, h, if_pos hstate]

theorem setHoldback_of_unbound {s : State} {q : Seats} {sh : Fin 192} {k : Nat} (h : q.slotOf sh = none) :
    q.setHoldback s sh k = (q.mapWaiting sh fun w => { w with holdback := k }, []) := by
  simp only [Seats.setHoldback, h]

/-- A slot whose availability has been computed from a previous band (R45). -/
def SeatSlot.computed (s : State) (previous : Band) (sl : SeatSlot) : SeatSlot :=
  { sl with
    figure := s.params.availability sl.tallies sl.count sl.holdback previous
    short := decide ((if s.params.heldTaken then sl.tallies.free else sl.tallies.free + sl.tallies.held) < sl.holdback) }

theorem compute_eq {s : State} {i : Fin 64} {previous : Band} {q : Seats} {sl : SeatSlot} (h : q.slots.get i = sl) :
    q.compute s i previous = ({ q with
        slots := q.slots.set i (sl.computed s previous)
        shortCount := if (sl.computed s previous).short = true ∧ sl.short = false then min (q.shortCount + 1) 65535
          else q.shortCount },
      sl.noteOuts s (sl.computed s previous).figure .counting) := by
  simp only [Seats.compute, h, SeatSlot.computed, Params.isShort, Params.available, sat16, Bool.and_eq_true, Bool.not_eq_true'] <;> rfl

/-! ### Notes (R34) -/

theorem seatNote_run {s : State} {note : ShowNote} {rest : List SeatMsg} (h : s.mail.toSeats = .note note :: rest) :
    seatShowChangedNote s = if note.change.start then
      (s.withMail { s.mail with toSeats := rest }).withSeats (s.seats.replace s note.slot)
      else s.withMail { s.mail with toSeats := rest } := by
  rw [← popSeatMsg_eq h]
  simp only [seatShowChangedNote, h]

theorem replace_of_not_waiting {s : State} {q : Seats} {sh : Fin 192} (h : ∀ w ∈ q.waiting, w.show_ ≠ sh) : q.replace s sh = q := by
  have hfind : q.waiting.find? (fun w => decide (w.show_ = sh)) = none := List.find?_eq_none.2 fun w hw => by simp [h w hw]
  simp only [Seats.replace, hfind]

theorem replace_of_waiting {s : State} {q : Seats} {sh : Fin 192} {a b : List WaitEntry} {w : WaitEntry}
    (h : q.waiting = a ++ w :: b) (hsh : w.show_ = sh) (hothers : ∀ x ∈ a ++ b, x.show_ ≠ sh) :
    q.replace s sh = { q with
      waiting := insertBy waitBefore { w with effStart := (s.tracker.entries.get sh).effStart } (a ++ b) } := by
  have ha : ∀ x ∈ a, x.show_ ≠ sh := fun x hx => hothers x (List.mem_append_left _ hx)
  have hb : ∀ x ∈ b, x.show_ ≠ sh := fun x hx => hothers x (List.mem_append_right _ hx)
  have hfind : q.waiting.find? (fun w => decide (w.show_ = sh)) = some w := by
    rw [h, List.find?_append, List.find?_eq_none.2 fun x hx => by simp [ha x hx]]
    simp [hsh]
  have hfilter : (q.waiting.filter fun x => decide (x.show_ ≠ sh)) = a ++ b := by
    rw [h, List.filter_append, List.filter_cons_of_neg (by simp [hsh]), List.filter_eq_self.2 fun x hx => by simp [ha x hx],
      List.filter_eq_self.2 fun x hx => by simp [hb x hx]]
  simp only [Seats.replace, hfind, hfilter]

/-- Settles O28. -/
theorem requestsReachABoundShow : Obligations.RequestsReachABoundShow := by
  intro s sh map n k rest
  refine ⟨fun hmsg => ⟨fun i sl hsl hactive hbound hlow => ?_, fun hbound hwait => ?_, fun hbound hwait e he => ?_⟩,
    fun hmsg => ⟨fun i sl hsl hactive hbound hlow => ?_, fun hbound => ?_⟩,
    fun note hmsg => ⟨fun hnone => ?_, fun a w b hstart hlist hsh hothers hsorted => ?_⟩⟩
  · have hrun := remap_run hmsg
    rw [remap_of_bound (slotOf_eq_some (by rwa [hsl]) (by rwa [hsl]) hlow), hsl] at hrun
    refine ⟨_, rfl, (hrun ▸ frame_seatsDo (restart_sends _ _ _ _)).commit, ?_⟩
    rw [restart_emits (sh := sh) (by exact hbound)] at hrun
    simp only [commit_mail, commit_tracker, commit_seats, hrun]
    exact ⟨rfl, rfl, rfl⟩
  · have hrun := remap_run hmsg
    rw [remap_of_waiting (slotOf_eq_none hbound) ((isWaiting_iff _ _).2 hwait)] at hrun
    exact congrArg (goOn s) hrun
  · refine ⟨_, _, rfl, rfl, ?_⟩
    rw [← remap_of_new hmsg he (slotOf_eq_none hbound) (isWaiting_eq_false hwait)]
    exact commit_but_events _ _ _ _
  · have hrun := holdback_run hmsg
    have hslot : s.seats.slotOf sh = some i := slotOf_eq_some (by rwa [hsl]) (by rwa [hsl]) hlow
    refine ⟨_, rfl, (hrun ▸ frame_seatsDo ((setHoldback_sends _ _ _ _).mono (by simp))).commit, ?_⟩
    simp only [commit_mail, commit_seats]
    by_cases hcounting : sl.state = .counting
    · rw [setHoldback_of_counting hslot (by rwa [hsl]), hsl, compute_eq (Table.get_set_self _ _ _), set_set_self,
        seatsDo_eq, emit_slotNote] at hrun
      simp only [hrun]
      have hget : (s.seats.slots.set i
          (SeatSlot.computed s sl.figure.band { sl with holdback := k })).get i =
          SeatSlot.computed s sl.figure.band { sl with holdback := k } := Table.get_set_self _ _ _
      refine ⟨rfl, fun j hj => Table.get_set_of_ne _ (Ne.symm hj) _, rfl, rfl, fun h => absurd (h.symm.trans hcounting) (by simp),
        fun _ => ⟨?_, ?_, ?_⟩⟩
      · exact hget
      · exact congrArg (fun x : SeatSlot => if x.short = true ∧ sl.short = false then min (s.seats.shortCount + 1) 65535
          else s.seats.shortCount) hget.symm
      · rw [← hbound]
        exact congrArg (fun x : SeatSlot => Mail.noted _ (seatsNotes s sl.bound sl.figure x.figure .counting)
          (soldOutEvents sl.bound sl.figure x.figure)) hget.symm
    · rw [setHoldback_of_sweeping hslot (by rwa [hsl]), hsl, seatsDo_eq, emit_nil] at hrun
      simp only [hrun]
      exact ⟨rfl, fun j hj => Table.get_set_of_ne _ (Ne.symm hj) _, rfl, rfl, fun _ => ⟨Table.get_set_self _ _ _, rfl, rfl⟩,
        fun h => absurd h hcounting⟩
  · have hrun := holdback_run hmsg
    rw [setHoldback_of_unbound (slotOf_eq_none hbound)] at hrun
    exact congrArg (goOn s) hrun
  · have hrun := seatNote_run hmsg
    refine congrArg (goOn s) ?_
    rcases hnone with hstart | hwait
    · rw [hrun, if_neg (by simp [hstart])]
    · rw [hrun, replace_of_not_waiting hwait]
      split <;> rfl
  · have hrun := seatNote_run hmsg
    rw [if_pos hstart, replace_of_waiting hlist hsh hothers] at hrun
    have hframe : Frame [.seats, .mail] s (seatShowChangedNote s) :=
      hrun ▸ ((frame_withMail s _).mono (by simp)).trans ((frame_withSeats _ _).mono (by simp))
    refine ⟨_, rfl, hframe.commit, ?_⟩
    simp only [commit_mail, commit_seats, hrun]
    refine ⟨rfl, rfl, insertBy_perm _ _ _, insertBy_sorted waitBefore_total waitBefore_trans _ ?_⟩
    rw [hlist] at hsorted
    exact hsorted.sublist (List.Sublist.append_left (List.sublist_cons_self w b) a)

end Sys2Proof.Machine
end

section
/-! The sweep: reads issued, responses taken, write beats applied (R36 to R44). -/

namespace Sys2Proof.Machine

/-! ### Beats of a shadow -/

theorem ofNat_eq_iff {k m : Nat} (hk : k < 20) (hm : m < 20) : Fin.ofNat 20 k = Fin.ofNat 20 m ↔ k = m := by
  simp [Fin.ext_iff, Fin.ofNat, Nat.mod_eq_of_lt hk, Nat.mod_eq_of_lt hm]

@[simp] theorem beat_setBeat_self (sl : SeatSlot) (k : Nat) (b : SeatBeat) : (sl.setBeat k b).beat k = b := by
  simp [SeatSlot.setBeat, SeatSlot.beat]

theorem beat_setBeat_of_ne (sl : SeatSlot) {k m : Nat} (b : SeatBeat) (hk : k < 20) (hm : m < 20) (h : m ≠ k) :
    (sl.setBeat k b).beat m = sl.beat m := by
  have hne : Fin.ofNat 20 k ≠ Fin.ofNat 20 m := fun he => h ((ofNat_eq_iff hk hm).1 he).symm
  simp only [SeatSlot.setBeat, SeatSlot.beat, Table.get_set_of_ne _ hne]

/-- Consecutive beats changed in address order. -/
def SeatSlot.changeBeats (f : SeatBeat → SeatBeat) (first count : Nat) (sl : SeatSlot) : SeatSlot :=
  (List.range count).foldl (fun sl j => sl.setBeat (first + j) (f (sl.beat (first + j)))) sl

theorem changeBeats_succ (f : SeatBeat → SeatBeat) (first count : Nat) (sl : SeatSlot) :
    sl.changeBeats f first (count + 1) =
      (sl.changeBeats f first count).setBeat (first + count) (f ((sl.changeBeats f first count).beat (first + count))) := by
  simp only [SeatSlot.changeBeats, List.range_succ, List.foldl_append, List.foldl_cons, List.foldl_nil]

/-- Changing beats changes the shadow alone. -/
theorem changeBeats_shadow (f : SeatBeat → SeatBeat) (first count : Nat) (sl : SeatSlot) :
    sl.changeBeats f first count = { sl with shadow := (sl.changeBeats f first count).shadow } := by
  induction count with
  | zero => rfl
  | succ n ih =>
    rw [changeBeats_succ, ih]
    rfl

theorem beat_changeBeats (f : SeatBeat → SeatBeat) (first : Nat) (sl : SeatSlot) :
    ∀ (count : Nat), first + count ≤ 20 → ∀ k < 20,
      (sl.changeBeats f first count).beat k = if first ≤ k ∧ k < first + count then f (sl.beat k) else sl.beat k := by
  intro count
  induction count with
  | zero => intro _ k _; rw [if_neg (by omega)]; rfl
  | succ n ih =>
    intro hle k hk
    rw [changeBeats_succ]
    by_cases h : k = first + n
    · subst h
      rw [beat_setBeat_self, ih (by omega) _ hk, if_neg (by omega), if_pos (by omega)]
    · rw [beat_setBeat_of_ne _ _ (by omega) hk h, ih (by omega) k hk]
      by_cases hin : first ≤ k ∧ k < first + n
      · rw [if_pos hin, if_pos (by omega)]
      · rw [if_neg hin, if_neg (by omega)]

theorem markReading_eq (sl : SeatSlot) (first count : Nat) :
    sl.markReading first count = sl.changeBeats (fun b => { b with reading := true }) first count := rfl

/-! ### Reads issued (R36) -/

/-- A command that does nothing leaves the state as it is, its mark included. -/
theorem goOn_of_nothing {s t : State} (h : t = s) : goOn s t = .next s := by
  rw [h, goOn_eq_next, commit_self]

theorem seatsDo_nothing (s : State) : s.seatsDo (s.seats, []) = s := rfl

/-- A SWEEP read sent. -/
theorem emit_sweepRead (s : State) (i : Fin 64) (sl : SeatSlot) (first count : Nat) :
    s.emit [sl.readOut i first count] = s.withPath { s.path with sweepQ := s.path.sweepQ ++
      [{ cls := .sweep, write := false, addr := sl.map + BitVec.ofNat 32 (8 * first), beats := count, data := []
         tag := .sweep i sl.binding first count }] } := rfl

theorem readOut_sends (i : Fin 64) (sl : SeatSlot) (first count : Nat) : Sends [.classQueues] [sl.readOut i first count] := by
  simp [SeatSlot.readOut, agentRead, Out.block]

theorem issueRead_of_four {q : Seats} (h : 4 ≤ q.inFlight) : q.issueRead = (q, []) := by
  simp only [Seats.issueRead, if_pos h]

theorem issueRead_of_reissue {q : Seats} {r : Reissue} {rest : List Reissue} (h : q.inFlight < 4) (hr : q.reissues = r :: rest) :
    q.issueRead = ({ q with reissues := rest, inFlight := q.inFlight + 1 },
      [(q.slots.get r.slot).readOut r.slot r.first r.count]) := by
  simp only [Seats.issueRead, if_neg (not_le.2 h), hr]

theorem issueRead_of_burst {q : Seats} {i : Fin 64} {sl : SeatSlot} (h : q.inFlight < 4) (hr : q.reissues = [])
    (hi : q.burstSlot = some i) (hsl : q.slots.get i = sl) :
    q.issueRead = ({ q with
        slots := q.slots.set i { sl.markReading sl.issue (min 8 (sl.beats - sl.issue)) with
          issue := sl.issue + min 8 (sl.beats - sl.issue) }
        burst := i, inFlight := q.inFlight + 1 }, [sl.readOut i sl.issue (min 8 (sl.beats - sl.issue))]) := by
  simp only [Seats.issueRead, if_neg (not_le.2 h), hr, hi, hsl]

theorem issueRead_of_none {q : Seats} (hr : q.reissues = []) (hnone : q.burstSlot = none) : q.issueRead = (q, []) := by
  simp only [Seats.issueRead, hr, hnone]
  split <;> rfl

theorem burstSlot_eq_none {q : Seats} (h : ∀ i, (q.slots.get i).state = .sweeping → (q.slots.get i).beats ≤ (q.slots.get i).issue) :
    q.burstSlot = none := by
  refine List.find?_eq_none.2 fun i _ => ?_
  rw [Bool.and_eq_true, decide_eq_true_iff, decide_eq_true_iff, not_and, not_lt]
  exact h i

theorem wrapAdd_val {n : Nat} [NeZero n] (i : Fin n) (k : Nat) : (wrapAdd i k).val = (i.val + k) % n := rfl

theorem burstSlot_eq_some {q : Seats} {d : Nat} {i : Fin 64} (hd : d < 64) (hi : i.val = (q.burst.val + 1 + d) % 64)
    (hstate : (q.slots.get i).state = .sweeping) (hleft : (q.slots.get i).issue < (q.slots.get i).beats)
    (hbefore : ∀ d' < d, ∀ j : Fin 64, j.val = (q.burst.val + 1 + d') % 64 →
      ¬ ((q.slots.get j).state = .sweeping ∧ (q.slots.get j).issue < (q.slots.get j).beats)) : q.burstSlot = some i := by
  have hwrap : wrapAdd q.burst (d + 1) = i := Fin.ext (by rw [wrapAdd_val, hi]; congr 1; omega)
  unfold Seats.burstSlot
  rw [List.find?_map, find_allFin_eq_some (i := ⟨d, hd⟩)]
  · exact congrArg some hwrap
  · rw [Function.comp_apply, hwrap, Bool.and_eq_true, decide_eq_true_iff, decide_eq_true_iff]
    exact ⟨hstate, hleft⟩
  · intro k hk
    have hnot := hbefore k.val hk (wrapAdd q.burst (k.val + 1)) (by rw [wrapAdd_val]; congr 1; omega)
    rw [Function.comp_apply, ← Bool.not_eq_true, Bool.and_eq_true, decide_eq_true_iff, decide_eq_true_iff]
    exact hnot

/-- Settles O29. -/
theorem sweepReadsTakeTurns : Obligations.SweepReadsTakeTurns := by
  intro s
  refine ⟨fun hfour => ?_, fun r rest sl hroom hr hsl => ?_, fun hr hnone => ?_,
    fun d i sl hroom hr hd hi hsl hstate hleft hbeats hbefore => ?_⟩
  · have hrun : sweepReadIssue s = s := by rw [sweepReadIssue, issueRead_of_four hfour, seatsDo_nothing]
    exact goOn_of_nothing hrun
  · have hrun : sweepReadIssue s = s.seatsDo _ := congrArg s.seatsDo (issueRead_of_reissue hroom hr)
    rw [hsl, seatsDo_eq, emit_sweepRead] at hrun
    exact congrArg (goOn s) hrun
  · have hrun : sweepReadIssue s = s := by
      rw [sweepReadIssue, issueRead_of_none hr (burstSlot_eq_none hnone), seatsDo_nothing]
    exact goOn_of_nothing hrun
  · have hburst := burstSlot_eq_some hd hi (by rwa [hsl]) (by rwa [hsl]) hbefore
    have hrun : sweepReadIssue s = s.seatsDo _ := congrArg s.seatsDo (issueRead_of_burst hroom hr hburst hsl)
    have hframe : Frame [.seats, .classQueues] s (sweepReadIssue s) := by
      rw [hrun]
      exact (frame_withSeats _ _).emit ((readOut_sends _ _ _ _).mono (by simp))
    rw [seatsDo_eq, emit_sweepRead] at hrun
    refine ⟨_, { sl.markReading sl.issue (min 8 (sl.beats - sl.issue)) with issue := sl.issue + min 8 (sl.beats - sl.issue) },
      rfl, hframe.commit, ?_⟩
    simp only [commit_path, commit_seats, hrun]
    refine ⟨rfl, rfl, ?_, fun k hk => ?_⟩
    · rw [markReading_eq, changeBeats_shadow]
    · exact beat_changeBeats (fun b => { b with reading := true }) sl.issue sl (min 8 (sl.beats - sl.issue)) (by omega) k hk

end Sys2Proof.Machine
end

section
/-! Sweep responses (R37 to R40). -/

namespace Sys2Proof.Machine

/-! ### The beats of a response (R37) -/

/-- A beat of a response taken: discarded where a write came meanwhile, else stored. -/
def SeatBeat.taken (d : Beat) (b : SeatBeat) : SeatBeat :=
  if b.reread then { b with reread := false } else { b with data := d, reading := false }

/-- A slot with a response's beats taken in address order. -/
def SeatSlot.takeBeats (first : Nat) (data : List Beat) (sl : SeatSlot) : SeatSlot :=
  data.zipIdx.foldl (fun sl p => sl.setBeat (first + p.2) ((sl.beat (first + p.2)).taken p.1)) sl

theorem takeBeat_eq {q : Seats} {i : Fin 64} {k : Nat} {d : Beat} {sl : SeatSlot} (h : q.slots.get i = sl) :
    q.takeBeat i k d = { q with
      slots := q.slots.set i (sl.setBeat k ((sl.beat k).taken d))
      reissues := q.reissues ++ if (sl.beat k).reread then [{ slot := i, first := k, count := 1 }] else [] } := by
  simp only [Seats.takeBeat, h, SeatBeat.taken]
  split <;> simp

theorem slotTakeBeats_concat (first : Nat) (data : List Beat) (d : Beat) (sl : SeatSlot) :
    sl.takeBeats first (data ++ [d]) = (sl.takeBeats first data).setBeat (first + data.length)
      (((sl.takeBeats first data).beat (first + data.length)).taken d) := by
  simp [SeatSlot.takeBeats, List.zipIdx_append, List.foldl_append]

theorem slotTakeBeats_shadow (first : Nat) (data : List Beat) (sl : SeatSlot) :
    sl.takeBeats first data = { sl with shadow := (sl.takeBeats first data).shadow } := by
  induction data using List.reverseRecOn with
  | nil => rfl
  | append_singleton data d ih =>
    rw [slotTakeBeats_concat, ih]
    rfl

theorem beat_slotTakeBeats {first : Nat} {data : List Beat} (sl : SeatSlot) (hle : first + data.length ≤ 20) {k : Nat} (hk : k < 20) :
    (sl.takeBeats first data).beat k =
      if first ≤ k ∧ k < first + data.length then (sl.beat k).taken (data.getD (k - first) 0) else sl.beat k := by
  induction data using List.reverseRecOn with
  | nil => rw [if_neg (by simp)]; rfl
  | append_singleton data d ih =>
    rw [List.length_append, List.length_singleton] at hle ⊢
    have ih := ih (by omega)
    rw [slotTakeBeats_concat]
    by_cases h : k = first + data.length
    · subst h
      rw [beat_setBeat_self, ih, if_neg (by omega), if_pos (by omega), Nat.add_sub_cancel_left]
      simp
    · rw [beat_setBeat_of_ne _ _ (by omega) hk h, ih]
      by_cases hin : first ≤ k ∧ k < first + data.length
      · rw [if_pos hin, if_pos (by omega), List.getD_append _ _ _ _ (by omega)]
      · rw [if_neg hin, if_neg (by omega)]

/-- The reissues that a response's beats leave: one for each beat that a write came to meanwhile. -/
def SeatSlot.rereads (i : Fin 64) (first count : Nat) (sl : SeatSlot) : List Reissue :=
  (List.range count).filterMap fun j =>
    if (sl.beat (first + j)).reread then some { slot := i, first := first + j, count := 1 } else none

theorem takeBeats_concat (i : Fin 64) (first : Nat) (data : List Beat) (d : Beat) (q : Seats) :
    q.takeBeats i first (data ++ [d]) = (q.takeBeats i first data).takeBeat i (first + data.length) d := by
  simp [Seats.takeBeats, List.zipIdx_append, List.foldl_append]

theorem takeBeats_eq {q : Seats} {i : Fin 64} {first : Nat} {data : List Beat} {sl : SeatSlot} (h : q.slots.get i = sl)
    (hle : first + data.length ≤ 20) :
    q.takeBeats i first data = { q with
      slots := q.slots.set i (sl.takeBeats first data)
      reissues := q.reissues ++ sl.rereads i first data.length } := by
  induction data using List.reverseRecOn with
  | nil =>
    have hset : q.slots.set i sl = q.slots := by rw [← h, Table.set_get_self]
    simp [Seats.takeBeats, SeatSlot.takeBeats, SeatSlot.rereads, hset]
  | append_singleton data d ih =>
    rw [List.length_append, List.length_singleton] at hle
    rw [takeBeats_concat, ih (by omega), takeBeat_eq (Table.get_set_self _ _ _), set_set_self, slotTakeBeats_concat,
      beat_slotTakeBeats sl (by omega) (by omega), if_neg (by omega), List.append_assoc]
    congr 2
    simp only [SeatSlot.rereads, List.length_append, List.length_singleton, List.range_succ, List.filterMap_append]
    congr 1
    split <;> simp [*]

/-! ### The fill cursor (R37) -/

/-- What moving the fill cursor of sl gives. -/
structure SeatSlot.Advanced (sl sl' : SeatSlot) : Prop where
  eq : sl' = { sl with fill := sl'.fill, tallies := sl'.tallies }
  le : sl.fill ≤ sl'.fill
  issue : sl'.fill ≤ sl.issue
  held : ∀ k, sl.fill ≤ k → k < sl'.fill → (sl.beat k).reading = false
  tallies : sl'.tallies = (List.range (sl'.fill - sl.fill)).foldl
    (fun x j => x.countBeat sl.count (sl.fill + j) (sl.beat (sl.fill + j)).data) sl.tallies

theorem SeatSlot.Advanced.refl {sl : SeatSlot} (h : sl.fill ≤ sl.issue) : sl.Advanced sl :=
  ⟨rfl, le_rfl, h, fun _ h k => absurd h (by omega), by simp⟩

theorem advanceFill_advanced (n : Nat) {sl : SeatSlot} (h : sl.fill ≤ sl.issue) : sl.Advanced (sl.advanceFill n) := by
  induction n generalizing sl with
  | zero => exact .refl h
  | succ n ih =>
    unfold SeatSlot.advanceFill
    split
    · rename_i hheld
      obtain ⟨hlt, hreading⟩ := hheld
      obtain ⟨heq, hle, hissue, hheld, htallies⟩ := @ih
        { sl with tallies := sl.tallies.countBeat sl.count sl.fill (sl.beat sl.fill).data, fill := sl.fill + 1 } hlt
      refine ⟨heq, by simp only at hle; omega, hissue, fun k hk hk' => ?_, htallies.trans ?_⟩
      · by_cases hkf : k = sl.fill
        · rw [hkf]; exact hreading
        · exact hheld k (by simp only; omega) hk'
      · generalize hm : (SeatSlot.advanceFill n _).fill = m at hle ⊢
        simp only at hle ⊢
        obtain ⟨d, rfl⟩ : ∃ d, m = sl.fill + 1 + d := ⟨m - (sl.fill + 1), by omega⟩
        rw [show sl.fill + 1 + d - sl.fill = d + 1 by omega, List.range_succ_eq_map, List.foldl_cons, List.foldl_map,
          show sl.fill + 1 + d - (sl.fill + 1) = d by omega]
        simp only [Nat.add_zero, Nat.add_succ, Nat.succ_add]
        rfl
    · exact .refl h

/-- The cursor moves as far as it can, given steps enough. -/
theorem advanceFill_stops (n : Nat) {sl : SeatSlot} (h : sl.fill ≤ sl.issue) (hn : sl.issue ≤ sl.fill + n) :
    (sl.advanceFill n).fill = sl.issue ∨ (sl.beat (sl.advanceFill n).fill).reading = true := by
  induction n generalizing sl with
  | zero => exact .inl (by unfold SeatSlot.advanceFill; omega)
  | succ n ih =>
    unfold SeatSlot.advanceFill
    split
    · rename_i hheld
      exact @ih { sl with tallies := _, fill := sl.fill + 1 } hheld.1 (by simp only; omega)
    · rename_i hheld
      rcases Nat.lt_or_ge sl.fill sl.issue with hlt | hge
      · right
        cases hr : (sl.beat sl.fill).reading
        · exact absurd ⟨hlt, hr⟩ hheld
        · rfl
      · exact .inl (by omega)

end Sys2Proof.Machine
end

section
/-! A SWEEP response: late, failed, taken (R37 to R40). -/

namespace Sys2Proof.Machine

/-! ### What a response leaves -/

theorem sweepDone_run {s : State} {i : Fin 64} {b : BitVec 8} {first count : Nat} {data : List Beat} {err : Bool}
    {rest : List Response} (h : s.mail.seatResp = { tag := .sweep i b first count, data := data, err := err } :: rest) :
    sweepReadDone s =
      (s.withMail { s.mail with seatResp := rest }).seatsDo (s.seats.readDone s i b first count data err) := by
  simp only [sweepReadDone, h]

theorem readDone_of_late {s : State} {q : Seats} {i : Fin 64} {b : BitVec 8} {first count : Nat} {data : List Beat} {err : Bool}
    (h : (q.slots.get i).binding ≠ b) : q.readDone s i b first count data err = ({ q with inFlight := q.inFlight - 1 }, []) := by
  simp only [Seats.readDone, if_pos h]

theorem readDone_of_retry {s : State} {q : Seats} {i : Fin 64} {b : BitVec 8} {first count : Nat} {data : List Beat} {sl : SeatSlot}
    (hsl : q.slots.get i = sl) (hbinding : sl.binding = b) (h : sl.retries < 2) :
    q.readDone s i b first count data true = ({ q with
      slots := q.slots.set i
        (({ sl with retries := sl.retries + 1 } : SeatSlot).changeBeats (fun b => { b with reread := false }) first count)
      inFlight := q.inFlight - 1
      reissues := q.reissues ++ [{ slot := i, first := first, count := count }] }, []) := by
  simp only [Seats.readDone, Seats.sweepError, hsl, hbinding, ne_eq, not_true_eq_false, if_false, if_true,
    show sl.retries + 1 < 3 by omega]
  rfl

theorem readDone_of_last {s : State} {q : Seats} {i : Fin 64} {b : BitVec 8} {first count : Nat} {data : List Beat} {sl : SeatSlot}
    (hsl : q.slots.get i = sl) (hbinding : sl.binding = b) (h : 2 ≤ sl.retries) :
    q.readDone s i b first count data true = ({ q with inFlight := q.inFlight - 1 } : Seats).free s i := by
  simp only [Seats.readDone, Seats.sweepError, hsl, hbinding, ne_eq, not_true_eq_false, if_false, if_true,
    show ¬ sl.retries + 1 < 3 by omega]

/-- What a slot's beats and fill cursor are after a response (R37). -/
def SeatSlot.filled (first : Nat) (data : List Beat) (sl : SeatSlot) : SeatSlot := (sl.takeBeats first data).advanceFill 20

theorem readDone_of_data {s : State} {q : Seats} {i : Fin 64} {b : BitVec 8} {first count : Nat} {data : List Beat} {sl : SeatSlot}
    (hsl : q.slots.get i = sl) (h : sl.binding = b) (hle : first + data.length ≤ 20) :
    q.readDone s i b first count data false = ({ q with
      slots := q.slots.set i (sl.filled first data)
      inFlight := q.inFlight - 1
      reissues := q.reissues ++ sl.rereads i first data.length } : Seats).complete s i := by
  have htake := takeBeats_eq (q := { q with inFlight := q.inFlight - 1 }) hsl hle
  simp only [Seats.readDone, hsl, h, ne_eq, not_true_eq_false, if_false, htake, modify_eq_set, Table.get_set_self, set_set_self,
    SeatSlot.filled, Bool.false_eq_true]

theorem complete_of_partial {s : State} {q : Seats} {i : Fin 64} {sl : SeatSlot} (hsl : q.slots.get i = sl) (h : sl.fill ≠ sl.beats) :
    q.complete s i = (q, []) := by
  simp only [Seats.complete, hsl, h, and_false, if_false]

theorem complete_of_full {s : State} {q : Seats} {i : Fin 64} {sl : SeatSlot} (hsl : q.slots.get i = sl)
    (hstate : sl.state = .sweeping) (h : sl.fill = sl.beats) :
    q.complete s i = ({ q with
        slots := q.slots.set i (SeatSlot.computed s .none { sl with state := .counting })
        shortCount := if (SeatSlot.computed s .none { sl with state := .counting }).short = true ∧ sl.short = false then
          min (q.shortCount + 1) 65535 else q.shortCount },
      sl.statusAlone .counting ++
        sl.noteOuts s (SeatSlot.computed s .none { sl with state := .counting }).figure .counting) := by
  simp only [Seats.complete, hsl, hstate, h, and_self, if_true, andThen]
  rw [compute_eq (Table.get_set_self _ _ _), set_set_self]
  rfl

@[simp] theorem complete_sends (s : State) (i : Fin 64) (q : Seats) : Sends [.seats, .mail, .seatFields] (q.complete s i).2 := by
  unfold Seats.complete
  dsimp only
  split
  · exact Sends.andThen ((statusAlone_sends _ _).mono (by simp)) fun _ => (compute_sends _ _ _ _).mono (by simp)
  · simp

/-! ### A sweep that is given up (R40) -/

theorem posts_statusOuts (m : Mail) (sl : SeatSlot) (st : SeatStatus) (i : Option (Fin 64)) : m.posts (sl.statusOuts st i) = m := by
  unfold SeatSlot.statusOuts; split <;> rfl

theorem posts_statusAlone (m : Mail) (sl : SeatSlot) (st : SeatStatus) : m.posts (sl.statusAlone st) = m := by
  unfold SeatSlot.statusAlone; split <;> rfl

theorem posts_slotNote (s : State) (m : Mail) (sl : SeatSlot) (f : Figure) (st : SeatStatus) :
    m.posts (sl.noteOuts s f st) = m.noted (seatsNotes s sl.bound sl.figure f st) (soldOutEvents sl.bound sl.figure f) := by
  rw [slotNoteOuts_eq, noted_posts]

theorem posts_freed (s : State) (m : Mail) (sl : SeatSlot) :
    m.posts (sl.statusOuts .none none ++ sl.noteOuts s Figure.none .none) =
      m.noted (seatsNotes s sl.bound sl.figure Figure.none .none) [] := by
  rw [posts_append, posts_statusOuts, posts_slotNote, soldOutEvents_none]

/-- The third failed read frees the slot as a RELEASE of its show would. -/
theorem release_of_given_up {s : State} {i : Fin 64} {b : BitVec 8} {first count : Nat} {data : List Beat} {rest : List Response}
    {sh : Fin 192} {sl : SeatSlot} (hmsg : s.mail.seatResp = { tag := .sweep i b first count, data := data, err := true } :: rest)
    (hsl : s.seats.slots.get i = sl) (hbinding : sl.binding = b) (hretries : 2 ≤ sl.retries) (hactive : sl.state ≠ .unbound)
    (hbound : sl.bound = some sh) (hlow : ∀ j < i, (s.seats.slots.get j).bound ≠ some sh) :
    release ((s.withMail { s.mail with seatResp := rest, toSeats := .release sh :: s.mail.toSeats }).withSeats
      { s.seats with inFlight := s.seats.inFlight - 1 }) = sweepReadDone s := by
  have hslot : ({ s.seats with inFlight := s.seats.inFlight - 1 } : Seats).slotOf sh = some i :=
    slotOf_eq_some (by exact hsl ▸ hactive) (by exact hsl ▸ hbound) hlow
  rw [release_run rfl, sweepDone_run hmsg, readDone_of_last hsl hbinding hretries]
  exact congrArg (State.seatsDo _) (release_of_bound hslot)

theorem alike_commit (s s' t : State) : Alike (commit s t) (commit s' t) := by
  simp only [Alike, commit_eq, State.withEvents]

/-! ### Data (R37, R38) -/

theorem filled_advanced {sl : SeatSlot} {first : Nat} {data : List Beat} (h : sl.fill ≤ sl.issue) :
    (sl.takeBeats first data).Advanced (sl.filled first data) :=
  advanceFill_advanced 20 (by rw [slotTakeBeats_shadow]; exact h)

/-- What a slot's beats and fill cursor are after a response, by the slot as it was (R37). -/
structure SeatSlot.Filled (first : Nat) (data : List Beat) (sl sl' : SeatSlot) : Prop where
  eq : sl' = { sl with fill := sl'.fill, tallies := sl'.tallies, shadow := sl'.shadow }
  beats : ∀ k < 20, sl'.beat k =
    if first ≤ k ∧ k < first + data.length then (sl.beat k).taken (data.getD (k - first) 0) else sl.beat k
  le : sl.fill ≤ sl'.fill
  issue : sl'.fill ≤ sl.issue
  held : ∀ k, sl.fill ≤ k → k < sl'.fill → (sl'.beat k).reading = false
  stops : sl'.fill = sl.issue ∨ (sl'.beat sl'.fill).reading = true
  tallies : sl'.tallies = (List.range (sl'.fill - sl.fill)).foldl
    (fun x j => x.countBeat sl.count (sl.fill + j) (sl'.beat (sl.fill + j)).data) sl.tallies

theorem filled_filled {sl : SeatSlot} {first : Nat} {data : List Beat} (hle : first + data.length ≤ 20) (hfill : sl.fill ≤ sl.issue)
    (hissue : sl.issue ≤ 20) : sl.Filled first data (sl.filled first data) := by
  have hadv := filled_advanced (first := first) (data := data) hfill
  have hshadow := slotTakeBeats_shadow first data sl
  have hbeat : ∀ k, (sl.filled first data).beat k = (sl.takeBeats first data).beat k := fun k => by rw [hadv.eq]; rfl
  have hf : (sl.takeBeats first data).fill = sl.fill := by rw [hshadow]
  have hi : (sl.takeBeats first data).issue = sl.issue := by rw [hshadow]
  refine ⟨?_, fun k hk => ?_, hf ▸ hadv.le, hi ▸ hadv.issue, fun k hk hk' => ?_, ?_, ?_⟩
  · rw [hadv.eq, hshadow]
  · rw [hbeat, beat_slotTakeBeats sl hle hk]
  · rw [hbeat]
    exact hadv.held k (hf ▸ hk) hk'
  · rw [← hi, hbeat]
    exact advanceFill_stops 20 (by omega) (by omega)
  · have htallies := hadv.tallies
    simp only [hf, ← hbeat] at htallies
    rw [htallies, hshadow]

/-- Settles O30. -/
theorem sweepResponsesFillTheShadow : Obligations.SweepResponsesFillTheShadow := by
  intro s i b first count data err rest sl hmsg hsl
  have hrun := sweepDone_run hmsg
  refine ⟨fun hlate => ?_, fun hbinding herr hretries hle => ?_, fun hbinding herr hretries hwait => ?_,
    fun sh u hbinding herr hretries hactive hbound hlow hu => ?_,
    fun hbinding herr hstate hle hfill hissue hbeats => ?_⟩
  · rw [readDone_of_late (by rwa [hsl])] at hrun
    exact congrArg (goOn s) hrun
  · rw [herr, readDone_of_retry hsl hbinding hretries] at hrun
    refine ⟨_, ({ sl with retries := sl.retries + 1 } : SeatSlot).changeBeats (fun b => { b with reread := false }) first count,
      rfl, (hrun ▸ frame_seatsDo (sends_nil _)).commit, ?_⟩
    simp only [commit_mail, commit_seats, hrun]
    exact ⟨rfl, rfl, changeBeats_shadow _ _ _ _, fun k hk => beat_changeBeats (fun b => { b with reread := false }) _ _ _ hle k hk⟩
  · rw [herr, readDone_of_last hsl hbinding hretries,
      free_of_nil (q := { s.seats with inFlight := s.seats.inFlight - 1 }) hwait] at hrun
    have hslot : ({ s.seats with inFlight := s.seats.inFlight - 1 } : Seats).slots.get i = sl := hsl
    rw [hslot] at hrun
    have hsends : Sends [.seats, .mail, .seatFields] (sl.statusOuts .none none ++ sl.noteOuts s Figure.none .none) :=
      (sends_append _ _ _).2 ⟨(statusOuts_sends _ _ _).mono (by simp), (slotNoteOuts_sends _ _ _ _).mono (by simp)⟩
    refine ⟨_, rfl, (hrun ▸ frame_seatsDo hsends).commit, ?_⟩
    simp only [commit_mail, commit_seats, commit_tracker, hrun, seatsDo_eq, emit_mail, emit_seats, posts_freed]
    refine ⟨rfl, rfl, fun sh hbound => ?_⟩
    rw [← List.append_nil (sl.statusOuts .none none ++ _), emit_freed hbound]
    rfl
  · rw [herr] at hmsg
    refine ⟨_, rfl, ?_⟩
    have hrelease := release_of_given_up hmsg hsl hbinding hretries hactive hbound hlow
    generalize (s.withMail { s.mail with seatResp := rest, toSeats := .release sh :: s.mail.toSeats }).withSeats
      { s.seats with inFlight := s.seats.inFlight - 1 } = s' at hu hrelease
    have hgo : goOn s' (release s') = .next u := hu
    have hcommit : commit s' (release s') = u := (goOn_eq_next _ _ _).1 hgo
    rw [← hcommit, hrelease]
    exact alike_commit _ _ _
  · rw [herr, readDone_of_data hsl hbinding hle] at hrun
    obtain ⟨heq, hbeat, hle', hissue', hheld, hstops, htallies⟩ := filled_filled (sl := sl) hle hfill (by omega)
    have hframe : Frame [.seats, .mail, .seatFields] s (sweepReadDone s) := hrun ▸ frame_seatsDo (complete_sends _ _ _)
    generalize sl.filled first data = sl' at *
    obtain ⟨fill, tallies, shadow, hsl'⟩ : ∃ f t sh, sl' = { sl with fill := f, tallies := t, shadow := sh } := ⟨_, _, _, heq⟩
    have hfullbeats : sl'.beats = sl.beats := by rw [hsl']
    have hsweeping : sl'.state = .sweeping := by rw [hsl']; exact hstate
    have hget : ({ s.seats with
      slots := s.seats.slots.set i sl'
      inFlight := s.seats.inFlight - 1
      reissues := s.seats.reissues ++ sl.rereads i first data.length } : Seats).slots.get i = sl' := Table.get_set_self _ _ _
    by_cases hfull : sl'.fill = sl.beats
    · rw [complete_of_full hget hsweeping (by rw [hfullbeats, hfull]), set_set_self] at hrun
      refine ⟨_, SeatSlot.computed s .none { sl' with state := .counting }, rfl, hframe.commit, ?_⟩
      simp only [commit_mail, commit_seats, commit_tracker, hrun, seatsDo_eq, emit_mail, emit_seats, posts_append, posts_statusAlone,
        posts_slotNote]
      refine ⟨rfl, rfl, rfl, rfl, rfl, rfl, hbeat, hle', hissue', hheld, hstops, htallies,
        fun hlt => absurd hlt (not_lt.2 (le_of_eq hfull.symm)), fun _ => ⟨?_, ?_, ?_, fun sh hbound => ?_⟩⟩
      · rw [hsl']
        rfl
      · rw [hsl']
        rfl
      · rw [hsl']
        rfl
      · rw [emit_append, statusAlone_eq (by rw [hsl']; exact hbound), emit_entryStatus, emit_nil, emit_slotNote]
        rfl
    · rw [complete_of_partial hget (by rw [hfullbeats]; exact hfull), seatsDo_eq, emit_nil] at hrun
      refine ⟨_, sl', rfl, hframe.commit, ?_⟩
      simp only [commit_mail, commit_seats, commit_tracker, hrun]
      exact ⟨rfl, rfl, rfl, rfl, rfl, rfl, hbeat, hle', hissue', hheld, hstops, htallies, fun _ => ⟨heq, rfl, rfl⟩,
        fun h => absurd h hfull⟩

end Sys2Proof.Machine
end

section
/-! Write beats at a slot, and the tallies they keep true (R41 to R44). -/

namespace Sys2Proof.Machine

/-! ### Enabled bytes -/

theorem getLsbD_allOnes8 (m : Nat) : (0xFF#64).getLsbD m = decide (m < 8) := by
  rw [BitVec.getLsbD_ofNat, show (255 : Nat) = 2 ^ 8 - 1 from rfl, Nat.testBit_two_pow_sub_one]
  by_cases h : m < 8
  · simp [h, show m < 64 by omega]
  · simp [h]

theorem getLsbD_byteMask (en : BitVec 8) {i : Nat} (hi : i < 64) : (byteMask en).getLsbD i = en.getLsbD (i / 8) := by
  have hfold : ∀ n ≤ 8, ((List.range n).foldl (fun m j => if en.getLsbD j then m ||| (0xFF#64 <<< (8 * j)) else m) 0).getLsbD i =
      (decide (i / 8 < n) && en.getLsbD (i / 8)) := by
    intro n
    induction n with
    | zero => intro _; simp
    | succ n ih =>
      intro hn
      have hshift : (0xFF#64 <<< (8 * n)).getLsbD i = decide (i / 8 = n) := by
        rw [BitVec.getLsbD_shiftLeft, getLsbD_allOnes8]
        by_cases h : i / 8 = n
        · simp [h, hi, show ¬ i < 8 * n by omega, show i - 8 * n < 8 by omega]
        · rcases Nat.lt_or_ge i (8 * n) with hlt | hge
          · simp [h, hlt]
          · simp [h, show ¬ i - 8 * n < 8 by omega]
      rw [List.range_succ, List.foldl_append, List.foldl_cons, List.foldl_nil]
      have ih := ih (by omega)
      by_cases h : i / 8 = n
      · subst h
        split
        · rename_i hen
          rw [BitVec.getLsbD_or, ih, hshift]
          simp [hen]
        · rename_i hen
          rw [ih]
          simp [hen]
      · have hlt : decide (i / 8 < n + 1) = decide (i / 8 < n) := decide_eq_decide.2 (by omega)
        split
        · rw [BitVec.getLsbD_or, ih, hshift, hlt]
          simp [h]
        · rw [ih, hlt]
  have hall := hfold 8 le_rfl
  rw [show decide (i / 8 < 8) = true from decide_eq_true (by omega), Bool.true_and] at hall
  exact hall

theorem getLsbD_mergeBeat (old new : Beat) (en : BitVec 8) {i : Nat} (hi : i < 64) :
    (mergeBeat old new en).getLsbD i = if en.getLsbD (i / 8) then new.getLsbD i else old.getLsbD i := by
  unfold mergeBeat
  rw [BitVec.getLsbD_or, BitVec.getLsbD_and, BitVec.getLsbD_and, BitVec.getLsbD_not, getLsbD_byteMask en hi]
  cases en.getLsbD (i / 8) <;> simp [hi]

/-- A merged beat's bytes: the enabled ones are the new beat's, the others the old beat's. -/
theorem byteOf_mergeBeat (old new : Beat) (en : BitVec 8) {j : Nat} (hj : j < 8) :
    byteOf (mergeBeat old new en) j = if en.getLsbD j then byteOf new j else byteOf old j := by
  refine BitVec.eq_of_getLsbD_eq fun i hi => ?_
  unfold byteOf
  rw [BitVec.getLsbD_extractLsb', getLsbD_mergeBeat _ _ _ (by omega), show (8 * j + i) / 8 = j by omega]
  split <;> rw [BitVec.getLsbD_extractLsb']

/-- A merged beat's seats: those in enabled bytes are the new beat's, the others the old beat's. -/
theorem seatCode_mergeBeat (old new : Beat) (en : BitVec 8) {j : Nat} (hj : j < 32) :
    seatCode (mergeBeat old new en) j = if en.getLsbD (j / 4) then seatCode new j else seatCode old j := by
  refine BitVec.eq_of_getLsbD_eq fun i hi => ?_
  unfold seatCode
  rw [BitVec.getLsbD_extractLsb', getLsbD_mergeBeat _ _ _ (by omega), show (2 * j + i) / 8 = j / 4 by omega]
  split <;> rw [BitVec.getLsbD_extractLsb']

/-! ### Tallies counted seat by seat (R37, R42) -/

theorem tallies_inc_comm (t : Tallies) (a b : BitVec 2) : (t.inc a).inc b = (t.inc b).inc a := by
  have h : ∀ a b : Fin 4, ∀ t : Tallies, (t.inc (BitVec.ofFin a)).inc (BitVec.ofFin b) = (t.inc (BitVec.ofFin b)).inc (BitVec.ofFin a) := by
    intro a b t
    fin_cases a <;> fin_cases b <;> rfl
  exact h a.toFin b.toFin t

theorem tallies_dec_inc (t : Tallies) (c : BitVec 2) : (t.inc c).dec c = t := by
  have h : ∀ c : Fin 4, ∀ t : Tallies, (t.inc (BitVec.ofFin c)).dec (BitVec.ofFin c) = t := by
    intro c t
    fin_cases c <;> rfl
  exact h c.toFin t

/-- The tallies with the seats of a list of codes counted in. -/
def Tallies.incs (t : Tallies) (codes : List (BitVec 2)) : Tallies := codes.foldl Tallies.inc t

theorem incs_append (t : Tallies) (a b : List (BitVec 2)) : t.incs (a ++ b) = (t.incs a).incs b := List.foldl_append

theorem incs_perm (t : Tallies) {a b : List (BitVec 2)} (h : a.Perm b) : t.incs a = t.incs b :=
  h.foldl_eq' (fun _ _ _ _ _ => tallies_inc_comm _ _ _) t

theorem incs_inc (t : Tallies) (codes : List (BitVec 2)) (c : BitVec 2) : (t.inc c).incs codes = (t.incs codes).inc c := by
  have h : (c :: codes).Perm (codes ++ [c]) := (List.perm_append_singleton c codes).symm
  have := incs_perm t h
  rwa [incs_append] at this

/-- The codes of a beat's seats below N. -/
def beatCodes (count beat : Nat) (d : Beat) : List (BitVec 2) := (List.range (seatsInBeat count beat)).map (seatCode d)

theorem countBeat_eq (t : Tallies) (count beat : Nat) (d : Beat) : t.countBeat count beat d = t.incs (beatCodes count beat d) := by
  simp only [Tallies.countBeat, Tallies.incs, beatCodes, List.foldl_map]

theorem foldl_countBeat (t : Tallies) (count : Nat) (data : Nat → Beat) (beats : List Nat) :
    beats.foldl (fun t b => t.countBeat count b (data b)) t = t.incs (beats.flatMap fun b => beatCodes count b (data b)) := by
  induction beats generalizing t with
  | nil => rfl
  | cons b beats ih => rw [List.foldl_cons, ih, countBeat_eq, List.flatMap_cons, incs_append]

/-- Comparing a write's seats with the shadow replaces the old codes by the merged ones. -/
theorem delta_incs (count beat : Nat) (old new : Beat) (en : BitVec 8) (t : Tallies) :
    (t.incs (beatCodes count beat old)).delta count beat old new en = t.incs (beatCodes count beat (mergeBeat old new en)) := by
  have hseats : ∀ j ∈ List.range (seatsInBeat count beat), j < 32 := fun j hj => by
    have := List.mem_range.1 hj
    unfold seatsInBeat at this
    omega
  unfold Tallies.delta beatCodes
  generalize List.range (seatsInBeat count beat) = js at hseats ⊢
  induction js generalizing t with
  | nil => rfl
  | cons j js ih =>
    have hstep : (if en.getLsbD (j / 4) ∧ seatCode old j ≠ seatCode new j then
        ((t.incs ((j :: js).map (seatCode old))).dec (seatCode old j)).inc (seatCode new j)
        else t.incs ((j :: js).map (seatCode old))) =
        (t.inc (seatCode (mergeBeat old new en) j)).incs (js.map (seatCode old)) := by
      have hcons : t.incs ((j :: js).map (seatCode old)) = (t.incs (js.map (seatCode old))).inc (seatCode old j) :=
        incs_inc _ _ _
      rw [hcons, tallies_dec_inc, incs_inc, seatCode_mergeBeat _ _ _ (hseats j (by simp))]
      by_cases hen : en.getLsbD (j / 4) = true
      · by_cases heq : seatCode old j = seatCode new j
        · simp [hen, heq]
        · simp [hen, heq]
      · simp [hen]
    rw [List.foldl_cons, hstep, ih _ fun i hi => hseats i (List.mem_cons_of_mem _ hi)]
    rfl

end Sys2Proof.Machine
end

section
/-! SEAT_BEAT (R41 to R44). -/

namespace Sys2Proof.Machine

/-- A write below the fill cursor leaves the tallies true (R42). -/
theorem counts_of_write {sl sl' : SeatSlot} {k : Nat} {new : Beat} {en : BitVec 8} (hk : k < sl.fill) (hfill : sl.fill ≤ 20)
    (hcount : sl'.count = sl.count) (hsame : sl'.fill = sl.fill)
    (htallies : sl'.tallies = sl.tallies.delta sl.count k (sl.beat k).data new en)
    (hself : (sl'.beat k).data = mergeBeat (sl.beat k).data new en) (hothers : ∀ m < 20, m ≠ k → sl'.beat m = sl.beat m)
    (h : sl.counts) : sl'.counts := by
  have hperm : (List.range sl.fill).Perm (k :: (List.range sl.fill).erase k) := List.perm_cons_erase (List.mem_range.2 hk)
  have hsplit : ∀ f : Nat → List (BitVec 2), ∀ t : Tallies,
      t.incs ((List.range sl.fill).flatMap f) = (t.incs (((List.range sl.fill).erase k).flatMap f)).incs (f k) := by
    intro f t
    rw [incs_perm t (hperm.flatMap_right f), List.flatMap_cons, incs_perm t List.perm_append_comm, incs_append]
  have hrest : (((List.range sl.fill).erase k).flatMap fun b => beatCodes sl'.count b (sl'.beat b).data) =
      ((List.range sl.fill).erase k).flatMap fun b => beatCodes sl.count b (sl.beat b).data := by
    refine List.flatMap_congr fun b hb => ?_
    obtain ⟨hbk, hmem⟩ := (List.Nodup.mem_erase_iff List.nodup_range).1 hb
    rw [hcount, hothers b (by have := List.mem_range.1 hmem; omega) hbk]
  unfold SeatSlot.counts at h ⊢
  rw [foldl_countBeat] at h
  rw [foldl_countBeat _ _ fun b => (sl'.beat b).data, htallies, hsame, hsplit, hrest, h, hsplit, delta_incs, hself, hcount]

/-! ### The slot a write reaches (R41) -/

theorem slotAt_eq_none {q : Seats} {a : Addr} (h : ∀ i sl, q.slots.get i = sl → sl.state ≠ .unbound →
    ¬ (sl.map.toNat ≤ a.toNat ∧ a.toNat < sl.map.toNat + 8 * sl.beats)) : q.slotAt a = none := by
  refine find_allFin_eq_none.2 fun i => ?_
  have := h i _ rfl
  simp only [SeatSlot.holds, SeatSlot.active]
  by_contra hholds
  simp only [Bool.not_eq_false, Bool.and_eq_true, decide_eq_true_eq] at hholds
  exact this hholds.1.1 ⟨hholds.1.2, hholds.2⟩

theorem holds_iff (sl : SeatSlot) (a : Addr) :
    sl.holds a = true ↔ sl.state ≠ .unbound ∧ sl.map.toNat ≤ a.toNat ∧ a.toNat < sl.map.toNat + 8 * sl.beats := by
  simp only [SeatSlot.holds, SeatSlot.active, Bool.and_eq_true, decide_eq_true_eq, and_assoc]

theorem seatBeat_of_none {s : State} {b : IntakeBeat} {rest : List IntakeBeat} (h : s.intakes.seat = b :: rest)
    (hnone : s.seats.slotAt b.addr = none) : seatBeat s = s.withIntakes { s.intakes with seat := rest } := by
  simp only [seatBeat, h, hnone]

theorem seatBeat_of_some {s : State} {b : IntakeBeat} {rest : List IntakeBeat} {i : Fin 64} (h : s.intakes.seat = b :: rest)
    (hsome : s.seats.slotAt b.addr = some i) :
    seatBeat s = (s.withIntakes { s.intakes with seat := rest }).seatsDo (s.seats.applyBeat s i b) := by
  simp only [seatBeat, h, hsome]

/-! ### A beat applied (R42 to R44) -/

/-- The slot with a write's beat k in its shadow and its tallies. -/
def SeatSlot.written (b : IntakeBeat) (k : Nat) (sl : SeatSlot) : SeatSlot :=
  ({ sl with tallies := sl.tallies.delta sl.count k (sl.beat k).data b.data b.enables } : SeatSlot).setBeat k
    { sl.beat k with data := mergeBeat (sl.beat k).data b.data b.enables }

theorem applyBeat_counted {s : State} {q : Seats} {i : Fin 64} {b : IntakeBeat} {sl : SeatSlot} {k : Nat} (hsl : q.slots.get i = sl)
    (hk : k = (b.addr.toNat - sl.map.toNat) / 8) (h : k < sl.fill) :
    q.applyBeat s i b = if (sl.written b k).tallies ≠ sl.tallies ∧ sl.state = .counting then
      ({ q with slots := q.slots.set i (sl.written b k) } : Seats).compute s i sl.figure.band
      else ({ q with slots := q.slots.set i (sl.written b k) }, []) := by
  simp only [Seats.applyBeat, hsl, ← hk, if_pos h]
  rfl

/-- A beat that a write comes to before it has been counted: read again where its read is in flight, else merged (R43). -/
def SeatBeat.met (b : IntakeBeat) (x : SeatBeat) : SeatBeat :=
  if x.reading = true then { x with reread := true } else { x with data := mergeBeat x.data b.data b.enables }

theorem applyBeat_held {s : State} {q : Seats} {i : Fin 64} {b : IntakeBeat} {sl : SeatSlot} {k : Nat} (hsl : q.slots.get i = sl)
    (hk : k = (b.addr.toNat - sl.map.toNat) / 8) (hfill : sl.fill ≤ k) (hissue : k < sl.issue) :
    q.applyBeat s i b = ({ q with slots := q.slots.set i (sl.setBeat k ((sl.beat k).met b)) }, []) := by
  simp only [Seats.applyBeat, hsl, ← hk, if_neg (not_lt.2 hfill), if_pos hissue, SeatBeat.met]
  split <;> rfl

theorem applyBeat_beyond {s : State} {q : Seats} {i : Fin 64} {b : IntakeBeat} {sl : SeatSlot} {k : Nat} (hsl : q.slots.get i = sl)
    (hk : k = (b.addr.toNat - sl.map.toNat) / 8) (hfill : sl.fill ≤ k) (hissue : sl.issue ≤ k) : q.applyBeat s i b = (q, []) := by
  simp only [Seats.applyBeat, hsl, ← hk, if_neg (not_lt.2 hfill), if_neg (not_lt.2 hissue)]

@[simp] theorem applyBeat_sends (s : State) (i : Fin 64) (b : IntakeBeat) (q : Seats) : Sends [.mail] (q.applyBeat s i b).2 := by
  unfold Seats.applyBeat
  dsimp only
  repeat' split
  all_goals simp

/-- Settles O31. -/
theorem writeBeatsKeepTheTalliesTrue : Obligations.WriteBeatsKeepTheTalliesTrue := by
  intro s b rest hseat
  refine ⟨fun hout => ?_, fun i sl k hat hsl hfill hissue hbeats hk => ?_⟩
  · exact congrArg (goOn s) (seatBeat_of_none hseat (slotAt_eq_none hout))
  have hrun := seatBeat_of_some hseat hat
  have hframe : Frame [.intakes, .seats, .mail] s (seatBeat s) := by
    rw [hrun]
    have hintake : Frame [.intakes, .seats, .mail] s (s.withIntakes { s.intakes with seat := rest }) :=
      (frame_withIntakes s _).mono (by simp)
    exact hintake.trans ((frame_withSeats _ _).emit ((applyBeat_sends s i b s.seats).mono (by simp)))
  have hholds : sl.map.toNat ≤ b.addr.toNat ∧ b.addr.toNat < sl.map.toNat + 8 * sl.beats := by
    have := (of_find_allFin hat).1
    rw [holds_iff, hsl] at this
    exact this.2
  have hk20 : k < 20 := by omega
  rcases Nat.lt_or_ge k sl.fill with hlt | hge
  · rw [applyBeat_counted hsl hk hlt] at hrun
    have hothers : ∀ m < 20, m ≠ k → (sl.written b k).beat m = sl.beat m := fun m hm hne => beat_setBeat_of_ne _ _ hk20 hm hne
    have hself : (sl.written b k).beat k = { sl.beat k with data := mergeBeat (sl.beat k).data b.data b.enables } :=
      beat_setBeat_self _ _ _
    have hcounts : sl.counts → (sl.written b k).counts :=
      counts_of_write hlt (by omega) rfl rfl rfl (by rw [hself]) hothers
    have hbytes : ∀ j < 8, byteOf ((sl.written b k).beat k).data j =
        if b.enables.getLsbD j then byteOf b.data j else byteOf (sl.beat k).data j := fun j hj => by
      rw [hself]
      exact byteOf_mergeBeat _ _ _ hj
    by_cases hmoves : (sl.written b k).tallies ≠ sl.tallies ∧ sl.state = .counting
    · rw [if_pos hmoves, compute_eq (Table.get_set_self s.seats.slots i (sl.written b k)), seatsDo_eq, emit_slotNote] at hrun
      refine ⟨_, (sl.written b k).computed s sl.figure.band, rfl, hframe.commit, ?_⟩
      simp only [commit_intakes, commit_seats, commit_mail, hrun]
      refine ⟨rfl, set_set_self _ _ _ _, rfl, rfl, hothers, fun _ => ⟨hcounts, hbytes, rfl, fun h => ?_, fun _ _ => ⟨rfl, rfl, rfl⟩, rfl⟩,
        fun h => absurd h (not_le.2 hlt), fun h => absurd h (by omega)⟩
      exact absurd hmoves.1 (by rcases h with h | h; exacts [not_not.2 h, absurd hmoves.2 h])
    · rw [if_neg hmoves, seatsDo_eq, emit_nil] at hrun
      refine ⟨_, sl.written b k, rfl, hframe.commit, ?_⟩
      simp only [commit_intakes, commit_seats, commit_mail, hrun]
      refine ⟨rfl, rfl, rfl, rfl, hothers, fun _ => ⟨hcounts, hbytes, rfl, fun _ => ⟨rfl, rfl, rfl⟩,
        fun h h' => absurd ⟨h, h'⟩ hmoves, ?_⟩, fun h => absurd h (not_le.2 hlt), fun h => absurd h (by omega)⟩
      rw [if_neg fun h => absurd (h.1.symm.trans h.2) (by simp)]
      rfl
  · rcases Nat.lt_or_ge k sl.issue with hlt | hge'
    · rw [applyBeat_held hsl hk hge hlt, seatsDo_eq, emit_nil] at hrun
      refine ⟨_, sl.setBeat k ((sl.beat k).met b), rfl, hframe.commit, ?_⟩
      simp only [commit_intakes, commit_seats, commit_mail, hrun]
      refine ⟨rfl, rfl, rfl, rfl, fun m hm hne => beat_setBeat_of_ne _ _ hk20 hm hne, fun h => absurd h (not_lt.2 hge),
        fun _ _ => ⟨rfl, rfl, fun hr => ?_, fun hr => ?_⟩, fun h => absurd h (not_le.2 hlt)⟩
      · exact (beat_setBeat_self _ _ _).trans (if_pos hr)
      · exact (beat_setBeat_self _ _ _).trans (if_neg (by simp [hr]))
    · rw [applyBeat_beyond hsl hk hge hge', seatsDo_eq, emit_nil] at hrun
      refine ⟨_, sl, rfl, hframe.commit, ?_⟩
      simp only [commit_intakes, commit_seats, commit_mail, hrun]
      refine ⟨rfl, ?_, rfl, rfl, fun _ _ _ => trivial, fun h => absurd h (not_lt.2 hge), fun _ h => absurd h (not_lt.2 hge'),
        fun _ => ⟨trivial, rfl⟩⟩
      rw [← hsl, Table.set_get_self]
      rfl

end Sys2Proof.Machine
end

section
/-! Availability (R46 to R49). -/

namespace Sys2Proof.Machine

theorem newBand_of_fall (p : Params) {raw prev : Band} (rem pct : Nat) (h : prev = .none ∨ raw.code ≤ prev.code) :
    p.newBand raw prev rem pct = raw := by
  unfold Params.newBand
  rcases h with h | h <;> simp [h]

theorem newBand_of_closed (p : Params) {raw prev : Band} {rem pct : Nat} (h : prev = .soldOut) (hrem : rem < p.reopen)
    (hraw : prev.code < raw.code) : p.newBand raw prev rem pct = .soldOut := by
  subst h
  have hle : ¬ raw.code ≤ Band.soldOut.code := not_le.2 hraw
  simp [Params.newBand, hle, hrem]

/-- The highest band between the previous and the raw one whose test is met (R48). -/
theorem find_risen {q : Band → Bool} {raw prev : Band} (hfew : q .few = true) (hprev : prev ≠ .none) (hraw : prev.code < raw.code) :
    (([Band.plenty, .filling, .few].filter fun b => decide (b.code ≤ raw.code ∧ prev.code < b.code)).find? q).getD prev =
      if raw = .plenty ∧ q .plenty = true then .plenty
      else if raw ≠ .few ∧ prev ≠ .filling ∧ q .filling = true then .filling
      else if prev = .soldOut then .few else prev := by
  cases hplenty : q .plenty <;> cases hfilling : q .filling <;> cases prev <;> cases raw <;>
    simp_all [Band.code, List.find?]

theorem newBand_of_rise (p : Params) {raw prev : Band} {rem pct : Nat} (hprev : prev ≠ .none) (hraw : prev.code < raw.code)
    (hopen : ¬ (prev = .soldOut ∧ rem < p.reopen)) : p.newBand raw prev rem pct =
      if raw = .plenty ∧ p.high + p.hysteresis ≤ pct then .plenty
      else if raw ≠ .few ∧ prev ≠ .filling ∧ p.lowInUse + p.hysteresis ≤ pct then .filling
      else if prev = .soldOut then .few else prev := by
  unfold Params.newBand
  rw [if_neg hprev, if_neg (not_le.2 hraw), if_neg hopen, find_risen rfl hprev hraw]
  simp only [Params.entryTest, decide_eq_true_eq, ge_iff_le]

theorem soldOut_of_code {b : Band} (hne : b ≠ .none) (h : b.code ≤ 1) : b = .soldOut := by
  cases b <;> simp_all [Band.code]

theorem rawBand_eq (p : Params) (sell rem pct : Nat) : p.rawBand sell rem pct =
    if sell = 0 ∨ rem = 0 then .soldOut
    else if rem ≤ p.few ∨ pct < p.lowInUse then .few else if pct < p.high then .filling else .plenty := by
  unfold Params.rawBand
  by_cases h : sell = 0 <;> simp [h]

theorem rawBand_ne_none (p : Params) (sell rem pct : Nat) : p.rawBand sell rem pct ≠ .none := by
  rw [rawBand_eq]
  repeat' split
  all_goals simp

/-- With seats left to sell, SOLD_OUT is the band only where the previous one was. -/
theorem newBand_ne_none (p : Params) {raw prev : Band} (rem pct : Nat) (hraw : raw ≠ .none) : p.newBand raw prev rem pct ≠ .none := by
  by_cases hfall : prev = .none ∨ raw.code ≤ prev.code
  · rw [newBand_of_fall p rem pct hfall]; exact hraw
  · obtain ⟨hprev, hrise⟩ := not_or.1 hfall
    by_cases hopen : prev = .soldOut ∧ rem < p.reopen
    · rw [newBand_of_closed p hopen.1 hopen.2 (not_le.1 hrise)]; simp
    · rw [newBand_of_rise p hprev (not_le.1 hrise) hopen]
      repeat' split
      all_goals first | exact hprev | simp

/-- The new band is SOLD_OUT where nothing remains to be sold. -/
theorem newBand_soldOut (p : Params) (prev : Band) (rem pct : Nat) : p.newBand .soldOut prev rem pct = .soldOut := by
  refine newBand_of_fall p rem pct ?_
  cases prev <;> simp [Band.code]

theorem figure_eq (p : Params) (band : Band) (rem : Nat) : p.figure band rem =
    { band := band
      shown := if band = .soldOut then 0 else if p.exact < rem then rem / 10 * 10 else rem
      plus := decide (band ≠ .soldOut ∧ p.exact < rem) } := by
  unfold Params.figure
  by_cases hsold : band = .soldOut
  · simp [hsold]
  · by_cases hle : rem ≤ p.exact
    · simp [hsold, hle]
    · simp [hsold, hle, not_le.1 hle]

theorem availability_eq (p : Params) (t : Tallies) (n k : Nat) (prev : Band) {rem sell pct : Nat} {raw : Band}
    (hrem : rem = (if p.heldTaken then t.free else t.free + t.held) - k) (hsell : sell = n - t.off - k)
    (hpct : pct = if sell = 0 then 0 else rem * 100 / sell) (hraw : raw = p.rawBand sell rem pct) :
    p.availability t n k prev = p.figure (p.newBand raw prev rem pct) rem := by
  subst hrem hsell hpct hraw
  rfl

/-- Settles O32. -/
theorem availabilityGradesAShow : Obligations.AvailabilityGradesAShow := by
  intro p t n k prev rem sell pct raw fig hexact hfig hrem hsell hpct hraw
  have hraw' : raw = p.rawBand sell rem pct := by rw [hraw, rawBand_eq]; rfl
  rw [availability_eq p t n k prev hrem hsell hpct hraw', figure_eq] at hfig
  generalize hband : p.newBand raw prev rem pct = band at hfig
  subst hfig
  refine ⟨fun h => ?_, fun h hle => ?_, fun hprev hrise hopen => ?_, ?_, ?_, ?_, fun h => ?_⟩
  · rw [← hband, newBand_of_fall p rem pct h]
  · rcases Nat.lt_or_ge prev.code raw.code with hlt | hge
    · rw [← hband, newBand_of_closed p h hle hlt]
    · rw [← hband, newBand_of_fall p rem pct (.inr hge)]
      exact soldOut_of_code (hraw' ▸ rawBand_ne_none p sell rem pct) (by rw [h] at hge; exact hge)
  · rw [← hband, newBand_of_rise p hprev hrise hopen]
    rfl
  · have hsome : band ≠ .soldOut → 0 < rem := fun hne => by
      by_contra hzero
      have hrem0 : rem = 0 := by omega
      refine hne (hband ▸ ?_)
      rw [hraw', rawBand_eq, if_pos (.inr hrem0), newBand_soldOut]
    constructor
    · intro hshown
      by_contra hne
      have := hsome hne
      simp only [if_neg hne] at hshown
      split at hshown <;> omega
    · intro h
      exact if_pos h
  · simp only
    split
    · omega
    · split <;> omega
  · simp
  · simp only [if_neg h]

end Sys2Proof.Machine
end

section
/-! Parameters stored and answered (R166, R167, R169, R172). -/

namespace Sys2Proof.Machine

/-! ### The index of a row -/

theorem simpleRow_inj {p q : Simple} (h : simpleRow p = simpleRow q) : p = q := by
  cases p <;> cases q <;> simp_all [simpleRow]

theorem index_of_simpleRow {e : Entry} {p : Simple} (h : e.row = simpleRow p) : Index.of e.index = .simple p := by
  unfold Entry.row at h
  dsimp only at h
  generalize Index.of e.index = i at h ⊢
  by_cases hmask : e.mask = 0
  · cases i <;> cases p <;> simp_all [simpleRow]
  · cases i with
    | simple q => simp only [hmask, if_false] at h; rw [simpleRow_inj h]
    | ring n f => cases f <;> cases p <;> simp_all [simpleRow]
    | control => cases p <;> simp only [hmask, if_false] at h <;> split at h <;> simp_all [simpleRow]
    | _ => cases p <;> simp_all [simpleRow]

/-! ### Values stored (R167, R172) -/

/-- A stored parameter of one number reads as stored. -/
theorem simple_setSimple (p : Params) (which : Simple) {v : Nat} (hv : v < 2 ^ 32) :
    (p.setSimple which (p.clampSimple which v)).simple which = p.clampSimple which v := by
  cases which with
  | eventEnable => simp [Params.setSimple, Params.simple, Params.clampSimple]
  | polarity | heldTaken | autoSoldOut =>
    rcases Nat.eq_zero_or_pos v with rfl | hpos
    · simp [Params.setSimple, Params.simple, Params.clampSimple, bit]
    · simp [Params.setSimple, Params.simple, Params.clampSimple, bit, show min 1 v = 1 by omega]
  | setValue => simpa [Params.setSimple, Params.simple, Params.clampSimple] using Nat.mod_eq_of_lt hv
  | _ => rfl

theorem clampTo_eq_nearest {lo hi v : Nat} (h : lo ≤ hi) : clampTo lo hi v = nearest lo hi v := by
  unfold clampTo nearest
  split
  · omega
  · split <;> omega

theorem min_eq_nearest (hi v : Nat) : min hi v = nearest 0 hi v := by
  unfold nearest
  split
  · omega
  · split <;> omega

/-- A value is stored at the nearest end of its range, a low threshold at or above the high one as that less 1. -/
theorem clampSimple_eq (p : Params) {which : Simple} {v : Nat} (hv : v < 2 ^ 32) (h : which ≠ .eventEnable) :
    p.clampSimple which v =
      if which = .low ∧ p.high ≤ nearest (simpleRange which).1 (simpleRange which).2 v then p.high - 1
      else nearest (simpleRange which).1 (simpleRange which).2 v := by
  cases which with
  | eventEnable => exact absurd rfl h
  | setValue =>
    have hkept : nearest 0 4294967295 v = v := by
      unfold nearest
      rw [if_neg (by omega), if_neg (by omega)]
    rw [if_neg (by simp)]
    exact hkept.symm
  | low => simp [Params.clampSimple, simpleRange, min_eq_nearest]
  | high | reopen | exact | period => simp [Params.clampSimple, simpleRange, clampTo_eq_nearest]
  | _ => simp [Params.clampSimple, simpleRange, min_eq_nearest]

/-- The result of an entry whose parameter of one number has been stored in u (R167, R169). -/
theorem paramResult_simple {u : State} {e : Entry} {p : Params} {which : Simple} {v : BitVec 32} {x : Nat}
    (hindex : Index.of e.index = .simple which) (hx : x = p.clampSimple which v.toNat) (hu : u.params = p.setSimple which x) :
    u.paramResult e v = u.result e.index (if which = .managerKey then 0 else BitVec.ofNat 32 x)
      (if x = v.toNat then .applied else .clamped) := by
  have hstored : u.storedWord (.simple which) = x := by
    simp only [State.storedWord, hu, hx]
    exact simple_setSimple p which v.isLt
  have hreported : u.reportedWord (.simple which) = if which = .managerKey then 0 else BitVec.ofNat 32 x := by
    rw [← hstored]
    cases which <;> rfl
  rw [paramResult_eq, hindex, hreported, hstored]
  rfl

end Sys2Proof.Machine
end

section
/-! POLICY_WRITE and SEAT_WRITE_ERROR (R50, R160). -/

namespace Sys2Proof.Machine

/-! ### A step for each slot in turn -/

theorem forAll_concat {σ α : Type} (xs : List α) (a : α) (f : α → σ → σ × List Out) (x : σ) :
    forAll (xs ++ [a]) f x = andThen (forAll xs f x) (f a) := by
  simp [forAll, List.foldl_append]

theorem posts_flatMap {α : Type} {f : α → List Out} {notes : α → List SeatsNote} {events : α → List EventKind}
    (h : ∀ m x, Mail.posts m (f x) = m.noted (notes x) (events x)) (m : Mail) (xs : List α) :
    m.posts (xs.flatMap f) = m.noted (xs.flatMap notes) (xs.flatMap events) := by
  induction xs generalizing m with
  | nil => simp
  | cons x xs ih => rw [List.flatMap_cons, posts_append, h, ih, noted_noted]; rfl

theorem advanced_succ (n k : Nat) : advanced n (k + 1) = min (advanced n k + 1) 65535 := by
  unfold advanced
  by_cases h : k = 0
  · simp [h]
  · rw [if_neg (by omega), if_neg h]
    omega

/-! ### Recomputing (R50) -/

/-- A slot after a recomputation: graded afresh from its band while COUNTING. -/
def SeatSlot.regraded (s : State) (sl : SeatSlot) : SeatSlot :=
  if sl.state = .counting then sl.computed s sl.figure.band else sl

/-- What a slot's recomputation sends. -/
def SeatSlot.regradeOuts (s : State) (sl : SeatSlot) : List Out :=
  if sl.state = .counting then sl.noteOuts s (sl.computed s sl.figure.band).figure .counting else []

/-- The recomputation of the slots of a list, each as it stood. -/
theorem recompute_list (s : State) (q : Seats) (xs : List (Fin 64)) (hxs : xs.Nodup) :
    forAll xs (fun i q =>
        let sl := q.slots.get i
        if sl.state = .counting then q.compute s i sl.figure.band else (q, [])) q =
      ({ q with
          slots := q.slots.mapFin fun i sl => if i ∈ xs then sl.regraded s else sl
          shortCount := advanced q.shortCount
            (xs.countP fun i => ((q.slots.get i).regraded s).short && !(q.slots.get i).short) },
        xs.flatMap fun i => (q.slots.get i).regradeOuts s) := by
  induction xs using List.reverseRecOn with
  | nil =>
    have hsame : (q.slots.mapFin fun _ sl => sl) = q.slots := by ext i; simp
    simp [forAll, advanced, hsame]
  | append_singleton xs x ih =>
    obtain ⟨hnodup, hx⟩ : xs.Nodup ∧ x ∉ xs := by
      have := List.nodup_append.1 hxs
      exact ⟨this.1, fun h => this.2.2 x h x (by simp) rfl⟩
    rw [forAll_concat, ih hnodup, andThen]
    have hget : (q.slots.mapFin fun i sl => if i ∈ xs then sl.regraded s else sl).get x = q.slots.get x := by simp [hx]
    simp only [hget]
    have hslots : (q.slots.mapFin fun i sl => if i ∈ xs then sl.regraded s else sl).set x ((q.slots.get x).regraded s) =
        q.slots.mapFin fun i sl => if i ∈ xs ++ [x] then sl.regraded s else sl := by
      ext i
      by_cases h : x = i
      · subst h; simp
      · simp [h, Ne.symm h]
    by_cases hcounting : (q.slots.get x).state = .counting
    · rw [if_pos hcounting, compute_eq hget]
      have hregraded : (q.slots.get x).regraded s = (q.slots.get x).computed s (q.slots.get x).figure.band := if_pos hcounting
      have houts : (q.slots.get x).regradeOuts s =
          (q.slots.get x).noteOuts s ((q.slots.get x).computed s (q.slots.get x).figure.band).figure .counting := if_pos hcounting
      rw [← houts, ← hregraded, hslots, List.flatMap_append, List.countP_append]
      by_cases hshort : ((q.slots.get x).regraded s).short = true ∧ (q.slots.get x).short = false
      · simp [hshort, advanced_succ]
      · rw [if_neg hshort]
        simp [hshort]
    · have hregraded : (q.slots.get x).regraded s = q.slots.get x := if_neg hcounting
      have houts : (q.slots.get x).regradeOuts s = [] := if_neg hcounting
      have hkept : (q.slots.mapFin fun i sl => if i ∈ xs then sl.regraded s else sl).set x (q.slots.get x) =
          q.slots.mapFin fun i sl => if i ∈ xs then sl.regraded s else sl := by
        rw [← hget, Table.set_get_self]
      rw [if_neg hcounting, List.flatMap_append, List.countP_append, ← hslots, hregraded, hkept]
      simp [houts, hregraded]

theorem recompute_eq (s : State) (q : Seats) : q.recompute s =
    ({ q with
        slots := q.slots.map fun sl => sl.regraded s
        shortCount := advanced q.shortCount
          ((allFin 64).countP fun i => ((q.slots.get i).regraded s).short && !(q.slots.get i).short) },
      (allFin 64).flatMap fun i => (q.slots.get i).regradeOuts s) := by
  have hmap : (q.slots.mapFin fun i sl => if i ∈ allFin 64 then sl.regraded s else sl) = q.slots.map fun sl => sl.regraded s := by
    ext i
    simp [allFin, List.mem_finRange]
  rw [← hmap]
  exact recompute_list s q (allFin 64) (List.nodup_finRange 64)

theorem posts_regrade (s : State) (m : Mail) (sl : SeatSlot) : m.posts (sl.regradeOuts s) =
    m.noted (if sl.state = .counting then seatsNotes s sl.bound sl.figure (sl.regraded s).figure .counting else [])
      (if sl.state = .counting then soldOutEvents sl.bound sl.figure (sl.regraded s).figure else []) := by
  unfold SeatSlot.regradeOuts SeatSlot.regraded
  by_cases h : sl.state = .counting
  · simp only [if_pos h, posts_slotNote]
  · simp only [if_neg h, noted_nil]
    rfl

/-! ### POLICY_WRITE -/

theorem policyWrite_run {s : State} {e : Entry} {p : Simple} (he : s.entry = some e) (hrow : e.row = .policy p) :
    policyWrite s =
      ((s.takeEntry.storeSimple p (s.masked e)).seatsDo
        (s.seats.recompute (s.takeEntry.storeSimple p (s.masked e)))).paramResult e (s.masked e) := by
  simp only [policyWrite, he, hrow]
  rfl

theorem index_of_policy {e : Entry} {p : Simple} (h : e.row = .policy p) :
    Index.of e.index = .simple p ∧ p ≠ .managerKey ∧ p ≠ .eventEnable := by
  unfold Entry.row at h
  dsimp only at h
  generalize Index.of e.index = i at h ⊢
  by_cases hmask : e.mask = 0
  · cases i <;> simp_all
  · cases i with
    | simple q => cases q <;> simp_all [simpleRow] <;> subst h <;> simp
    | ring n f => cases f <;> simp_all
    | control => simp only [hmask, if_false] at h; split at h <;> simp_all
    | _ => simp_all

@[simp] theorem recompute_sends (s : State) (q : Seats) : Sends [.mail] (q.recompute s).2 := by
  refine Sends.forAll (fun i q => ?_) _ _
  dsimp only
  split <;> simp

/-! ### SEAT_WRITE_ERROR -/

/-- The slot's map holds one of a failed write's beats (R160). -/
def SeatSlot.hit (beats : List Addr) (sl : SeatSlot) : Bool := beats.any sl.holds

theorem hit_iff (beats : List Addr) (sl : SeatSlot) : sl.hit beats = true ↔
    sl.state ≠ .unbound ∧ ∃ a ∈ beats, sl.map.toNat ≤ a.toNat ∧ a.toNat < sl.map.toNat + 8 * sl.beats := by
  simp only [SeatSlot.hit, List.any_eq_true, holds_iff]
  exact ⟨fun ⟨a, ha, hstate, hin⟩ => ⟨hstate, a, ha, hin⟩, fun ⟨hstate, a, ha, hin⟩ => ⟨a, ha, hstate, hin⟩⟩

/-- What a slot's restart after a failed write sends. -/
def SeatSlot.hitOuts (s : State) (beats : List Addr) (sl : SeatSlot) : List Out :=
  if sl.hit beats = true then sl.statusAlone .sweeping ++ sl.noteOuts s Figure.none .sweeping else []

/-- The slots' restarts in turn, each as it stood. -/
theorem writeError_list (s : State) (beats : List Addr) (q : Seats) (xs : List (Fin 64)) (hxs : xs.Nodup) :
    forAll xs (fun i q =>
        let sl := q.slots.get i
        if sl.hit beats then q.restart s i sl else (q, [])) q =
      ({ q with
          slots := q.slots.mapFin fun i sl => if i ∈ xs ∧ sl.hit beats = true then sl.startSweep else sl
          reissues := q.reissues.filter fun r => !(decide (r.slot ∈ xs) && (q.slots.get r.slot).hit beats) },
        xs.flatMap fun i => (q.slots.get i).hitOuts s beats) := by
  induction xs using List.reverseRecOn with
  | nil =>
    have hsame : (q.slots.mapFin fun _ sl => sl) = q.slots := by ext i; simp
    simp [forAll, hsame]
  | append_singleton xs x ih =>
    obtain ⟨hnodup, hx⟩ : xs.Nodup ∧ x ∉ xs := by
      have := List.nodup_append.1 hxs
      exact ⟨this.1, fun h => this.2.2 x h x (by simp) rfl⟩
    rw [forAll_concat, ih hnodup, andThen]
    have hget : (q.slots.mapFin fun i sl => if i ∈ xs ∧ sl.hit beats = true then sl.startSweep else sl).get x =
        q.slots.get x := by simp [hx]
    simp only [hget]
    by_cases hhit : (q.slots.get x).hit beats = true
    · have hslots : (q.slots.mapFin fun i sl => if i ∈ xs ∧ sl.hit beats = true then sl.startSweep else sl).set x
          (q.slots.get x).startSweep =
          q.slots.mapFin fun i sl => if i ∈ xs ++ [x] ∧ sl.hit beats = true then sl.startSweep else sl := by
        ext i
        by_cases h : x = i
        · subst h; simp only [Table.get_set_self, Table.get_mapFin]; rw [if_pos ⟨by simp, hhit⟩]
        · simp [h, Ne.symm h]
      have hreissues : ((q.reissues.filter fun r => !(decide (r.slot ∈ xs) && (q.slots.get r.slot).hit beats)).filter
          fun r => decide (r.slot ≠ x)) =
          q.reissues.filter fun r => !(decide (r.slot ∈ xs ++ [x]) && (q.slots.get r.slot).hit beats) := by
        rw [List.filter_filter]
        refine List.filter_congr fun r _ => ?_
        by_cases h : r.slot = x
        · rw [h, hhit]; simp
        · simp [h]
      rw [if_pos hhit, Seats.restart, Seats.rebind, hslots, hreissues, List.flatMap_append]
      simp [SeatSlot.hitOuts, hhit]
    · have hslots : (q.slots.mapFin fun i sl => if i ∈ xs ∧ sl.hit beats = true then sl.startSweep else sl) =
          q.slots.mapFin fun i sl => if i ∈ xs ++ [x] ∧ sl.hit beats = true then sl.startSweep else sl := by
        ext i
        by_cases h : i = x
        · subst h; simp only [Table.get_mapFin]; rw [if_neg fun h => hhit h.2, if_neg fun h => hhit h.2]
        · simp [h]
      have hreissues : (q.reissues.filter fun r => !(decide (r.slot ∈ xs) && (q.slots.get r.slot).hit beats)) =
          q.reissues.filter fun r => !(decide (r.slot ∈ xs ++ [x]) && (q.slots.get r.slot).hit beats) := by
        refine List.filter_congr fun r _ => ?_
        by_cases h : r.slot = x
        · rw [h, Bool.eq_false_of_not_eq_true hhit]; simp
        · simp [h]
      rw [if_neg hhit, hslots, hreissues, List.flatMap_append]
      simp [SeatSlot.hitOuts, hhit]

theorem writeError_eq (s : State) (beats : List Addr) (q : Seats) : q.writeError s beats =
    ({ q with
        slots := q.slots.map fun sl => if sl.hit beats = true then sl.startSweep else sl
        reissues := q.reissues.filter fun r => !(q.slots.get r.slot).hit beats },
      (allFin 64).flatMap fun i => (q.slots.get i).hitOuts s beats) := by
  have hslots : (q.slots.mapFin fun i sl => if i ∈ allFin 64 ∧ sl.hit beats = true then sl.startSweep else sl) =
      q.slots.map fun sl => if sl.hit beats = true then sl.startSweep else sl := by
    ext i
    simp [allFin, List.mem_finRange]
  have hreissues : (q.reissues.filter fun r => !(decide (r.slot ∈ allFin 64) && (q.slots.get r.slot).hit beats)) =
      q.reissues.filter fun r => !(q.slots.get r.slot).hit beats :=
    List.filter_congr fun r _ => by simp [allFin, List.mem_finRange]
  rw [← hslots, ← hreissues]
  exact writeError_list s beats q (allFin 64) (List.nodup_finRange 64)

theorem hitOuts_sends (s : State) (beats : List Addr) (sl : SeatSlot) : Sends [.seats, .mail, .seatFields] (sl.hitOuts s beats) := by
  unfold SeatSlot.hitOuts
  split
  · exact (sends_append _ _ _).2 ⟨(statusAlone_sends _ _).mono (by simp), (slotNoteOuts_sends _ _ _ _).mono (by simp)⟩
  · simp

theorem posts_hit (s : State) (beats : List Addr) (m : Mail) (sl : SeatSlot) : m.posts (sl.hitOuts s beats) =
    m.noted (if sl.hit beats = true then seatsNotes s sl.bound sl.figure Figure.none .sweeping else []) [] := by
  unfold SeatSlot.hitOuts
  by_cases h : sl.hit beats = true
  · rw [if_pos h, if_pos h, posts_append, posts_statusAlone, posts_slotNote, soldOutEvents_none]
  · rw [if_neg h, if_neg h, noted_nil]
    rfl

/-- What status writes alone leave of an entry: its bound slot as it is, its status SWEEPING where one of them names it. -/
theorem emit_sweeping (s : State) (sh : Fin 192) (outs : List Out) (h : ∀ o ∈ outs, o.block = .mail ∨ ∃ j, o = .entryStatus j .sweeping) :
    ((s.emit outs).tracker.entries.get sh).boundSlot = (s.tracker.entries.get sh).boundSlot ∧
      ((s.tracker.entries.get sh).seatStatus = .sweeping ∨ .entryStatus sh .sweeping ∈ outs →
        ((s.emit outs).tracker.entries.get sh).seatStatus = .sweeping) := by
  induction outs generalizing s with
  | nil => exact ⟨rfl, fun h => h.elim id fun h => absurd h (by simp)⟩
  | cons o outs ih =>
    obtain ⟨hslot, hstatus⟩ := ih (s.send o) fun o' ho' => h o' (List.mem_cons_of_mem _ ho')
    rw [emit_cons]
    rcases h o List.mem_cons_self with hmail | ⟨j, rfl⟩
    · have hsame : (s.send o).tracker = s.tracker := by cases o <;> simp_all [Out.block, State.send, Tracker.post]
      rw [hsame] at hslot hstatus
      refine ⟨hslot, fun hs => hstatus (hs.imp_right fun hmem => (List.mem_cons.1 hmem).resolve_left fun heq => ?_)⟩
      rw [← heq] at hmail
      exact absurd hmail (by simp [Out.block])
    · by_cases hj : j = sh
      · subst hj
        have hsent : (s.send (.entryStatus j .sweeping)).tracker.entries.get j =
            { s.tracker.entries.get j with seatStatus := .sweeping } := by simp [State.send, Tracker.post]
        rw [hsent] at hslot hstatus
        exact ⟨hslot, fun _ => hstatus (.inl rfl)⟩
      · have hsent : (s.send (.entryStatus j .sweeping)).tracker.entries.get sh = s.tracker.entries.get sh := by
          simp [State.send, Tracker.post, hj]
        rw [hsent] at hslot hstatus
        refine ⟨hslot, fun hs => hstatus (hs.imp_right fun hmem => (List.mem_cons.1 hmem).resolve_left fun heq => ?_)⟩
        injection heq with heq
        exact hj heq.symm

theorem hitOuts_sweeping (s : State) (beats : List Addr) (sl : SeatSlot) :
    ∀ o ∈ sl.hitOuts s beats, o.block = .mail ∨ ∃ j, o = .entryStatus j .sweeping := by
  intro o ho
  unfold SeatSlot.hitOuts at ho
  split at ho
  · rcases List.mem_append.1 ho with ho | ho
    · unfold SeatSlot.statusAlone at ho
      split at ho
      · exact .inr ⟨_, List.mem_singleton.1 ho⟩
      · simp at ho
    · exact .inl (by simpa using slotNoteOuts_sends s sl Figure.none .sweeping o ho)
  · simp at ho

theorem writeError_run {s : State} {g : Nat} {beats : List Addr} {rest : List (Nat × List Addr)}
    (h : s.mail.seatErrors = (g, beats) :: rest) (hnone : ∀ b ∈ s.intakes.seat, b.grant ≠ g) :
    seatWriteError s = (s.withMail { s.mail with seatErrors := rest }).seatsDo (s.seats.writeError s beats) := by
  have hany : (s.intakes.seat.any fun b => decide (b.grant = g)) = false := by simpa using hnone
  simp only [seatWriteError, h, hany, Bool.false_eq_true, if_false]

theorem writeError_waits {s : State} {g : Nat} {beats : List Addr} {rest : List (Nat × List Addr)}
    (h : s.mail.seatErrors = (g, beats) :: rest) (hsome : ∃ b ∈ s.intakes.seat, b.grant = g) : seatWriteError s = s := by
  have hany : (s.intakes.seat.any fun b => decide (b.grant = g)) = true := by simpa using hsome
  simp only [seatWriteError, h, hany, if_true]

/-- Settles O33. -/
theorem policiesAndFailedWritesReachEverySlot : Obligations.PoliciesAndFailedWritesReachEverySlot := by
  refine ⟨fun s e p v x y he hrow hv hy hx => ?_, fun s g beats rest hmsg => ⟨fun hsome => ?_, fun hnone => ?_⟩⟩
  · obtain ⟨hindex, hkey, hevent⟩ := index_of_policy hrow
    have hclamp : x = s.params.clampSimple p (s.masked e).toNat := by
      rw [hx, clampSimple_eq _ (s.masked e).isLt hevent, hy, hv]
    have hrun := policyWrite_run he hrow
    have hparams : (s.takeEntry.storeSimple p (s.masked e)).params = s.params.setSimple p x := by rw [hclamp]; rfl
    have hstored : ((s.takeEntry.storeSimple p (s.masked e)).seatsDo
        (s.seats.recompute (s.takeEntry.storeSimple p (s.masked e)))).params = s.params.setSimple p x :=
      (emit_params _ _).trans hparams
    rw [paramResult_simple hindex hclamp hstored, if_neg hkey, ← hv] at hrun
    refine ⟨_, congrArg (goOn s) hrun, ?_⟩
    have hframe : Frame [.intakes, .setup, .params, .seats, .mail] s (s.takeEntry.storeSimple p (s.masked e)) :=
      ((takeEntry_frame s).mono (by simp)).trans ((storeSimple_frame _ _ _).mono (by simp))
    refine ⟨hframe.trans ((frame_withSeats _ _).emit ((recompute_sends _ _).mono (by simp))), ?_⟩
    simp only [seatsDo_eq, emit_intakes, emit_setup, emit_params, emit_seats, emit_mail, recompute_eq]
    rw [posts_flatMap (fun m i => posts_regrade _ m (s.seats.slots.get i))]
    refine ⟨rfl, rfl, hparams, rfl, rfl, ?_, ?_, fun i sl hsl => ?_⟩
    · simp only [State.withSeats_seats, Table.get_map]
      refine congrArg₂ (Mail.noted s.mail) ?_ ?_ <;>
        refine flatMap_eq_filter_flatMap (fun i => decide ((s.seats.slots.get i).state = .counting)) (fun i => ?_) _ <;>
        simp only [decide_eq_true_eq] <;> rfl
    · simp only [State.withSeats_seats, Table.get_map]
    · simp only [State.withSeats_seats, Table.get_map, hsl]
      rfl
  · exact goOn_of_nothing (writeError_waits hmsg hsome)
  · have hrun := writeError_run hmsg hnone
    rw [writeError_eq] at hrun
    refine ⟨_, rfl, (hrun ▸ frame_seatsDo (sends_flatMap _ _ _ fun _ => hitOuts_sends _ _ _)).commit, ?_⟩
    simp only [commit_mail, commit_seats, commit_tracker, hrun, seatsDo_eq, emit_mail, emit_seats]
    refine ⟨?_, rfl, fun i sl hsl hit hhit => ⟨fun hnot => ?_, fun hhit' => ⟨?_, fun sh hbound honly => ?_⟩⟩⟩
    · rw [posts_flatMap (fun m i => posts_hit s beats m (s.seats.slots.get i))]
      refine congrArg₂ (Mail.noted _) (flatMap_eq_filter_flatMap (fun i => (s.seats.slots.get i).hit beats) (fun i => rfl) _) ?_
      simp
    · rw [State.withSeats_seats, Table.get_map, hsl, if_neg fun h => hnot (hhit ▸ (hit_iff _ _).1 h)]
    · rw [State.withSeats_seats, Table.get_map, hsl, if_pos ((hit_iff _ _).2 (hhit ▸ hhit'))]
    · obtain ⟨hslot, hstatus⟩ := emit_sweeping ((s.withMail { s.mail with seatErrors := rest }).withSeats _) sh
        ((allFin 64).flatMap fun i => (s.seats.slots.get i).hitOuts s beats) fun o ho => by
          obtain ⟨j, _, hj⟩ := List.mem_flatMap.1 ho
          exact hitOuts_sweeping _ _ _ o hj
      refine ⟨hstatus (.inr (List.mem_flatMap.2 ⟨i, List.mem_finRange i, ?_⟩)), hslot⟩
      rw [hsl, SeatSlot.hitOuts, if_pos ((hit_iff _ _).2 (hhit ▸ hhit')), statusAlone_eq hbound]
      simp

end Sys2Proof.Machine
end

section
/-! The notice list: what settles after a change, and how a notice enters (R59, R60, R74 to R76). -/

namespace Sys2Proof.Machine

/-! ### Settling (R75) -/

theorem firstEligible_eq {l c d : List Notice} {n : Notice} {sc : Fin 32} {m : Nat} (h : l = c ++ n :: d) (hn : n.eligible sc m = true)
    (hc : ∀ y ∈ c, y.eligible sc m = false) : firstEligible l sc m = some n := by
  rw [firstEligible, h, List.find?_append, List.find?_eq_none.2 fun y hy => by simp [hc y hy]]
  simp [hn]

theorem firstEligible_eq_none {l : List Notice} {sc : Fin 32} {m : Nat} (h : ∀ n ∈ l, n.eligible sc m = false) :
    firstEligible l sc m = none := List.find?_eq_none.2 fun n hn => by simp [h n hn]

theorem standAfter_eq {l a b : List Notice} {o : Notice} {x : NoticeId} (h : l = a ++ o :: b) (ho : o.ident = x)
    (ha : ∀ y ∈ a, y.ident ≠ x) : standAfter l x = b := by
  rw [standAfter, h, List.dropWhile_append_of_pos fun y hy => by simp [ha y hy]]
  simp [ho]

/-- Nothing that stands after the current notice is eligible. -/
theorem followOn_first {old new : List Notice} {x : NoticeId} {sc : Fin 32} {m : Nat}
    (h : ∀ y ∈ standAfter old x, ∀ n ∈ new, n.ident = y.ident → n.eligible sc m = false) :
    followOn old new x sc m = firstEligible new sc m := by
  have hnone : (standAfter old x).findSome? (fun o => new.find? fun n => decide (n.ident = o.ident) && n.eligible sc m) = none := by
    rw [List.findSome?_eq_none_iff]
    refine fun y hy => List.find?_eq_none.2 fun n hn => ?_
    by_cases hident : n.ident = y.ident
    · simp [h y hy n hn hident]
    · simp [hident]
  rw [followOn, hnone]
  rfl

/-- The first notice after the current one that is still listed and eligible. -/
theorem followOn_next {old new b1 b2 : List Notice} {x : NoticeId} {sc : Fin 32} {m : Nat} {o n : Notice}
    (hafter : standAfter old x = b1 ++ o :: b2) (hn : n ∈ new) (hident : n.ident = o.ident) (helig : n.eligible sc m = true)
    (honly : ∀ n' ∈ new, n'.ident = n.ident → n' = n)
    (hb : ∀ y ∈ b1, ∀ n' ∈ new, n'.ident = y.ident → n'.eligible sc m = false) : followOn old new x sc m = some n := by
  have hnone : b1.findSome? (fun o => new.find? fun n => decide (n.ident = o.ident) && n.eligible sc m) = none := by
    rw [List.findSome?_eq_none_iff]
    refine fun y hy => List.find?_eq_none.2 fun n' hn' => ?_
    by_cases h : n'.ident = y.ident
    · simp [hb y hy n' hn' h]
    · simp [h]
  have hsome : (new.find? fun n => decide (n.ident = o.ident) && n.eligible sc m) = some n := by
    cases hfind : new.find? fun n => decide (n.ident = o.ident) && n.eligible sc m with
    | none => exact absurd (List.find?_eq_none.1 hfind n hn) (by simp [hident, helig])
    | some n' =>
      have hmem := List.mem_of_find?_eq_some hfind
      have hprop := List.find?_some hfind
      simp only [Bool.and_eq_true, decide_eq_true_eq] at hprop
      rw [honly n' hmem (hprop.1.trans hident.symm)]
  rw [followOn, hafter, List.findSome?_append, hnone, List.findSome?_cons, hsome]
  rfl

theorem settle_of_no_banner {old new : List Notice} {sc : Fin 32} {r : Rotation} (h : r.banner = none) : r.settle old new sc = r := by
  simp only [Rotation.settle, h]

theorem settle_of_no_current {old new : List Notice} {sc : Fin 32} {r : Rotation} {m : Nat} (hb : r.banner = some m)
    (hc : r.current = none) : r.settle old new sc = r.load (firstEligible new sc m) ∨
      (firstEligible new sc m = none ∧ r.settle old new sc = r) := by
  simp only [Rotation.settle, hb, hc]
  cases firstEligible new sc m with
  | none => exact .inr ⟨rfl, rfl⟩
  | some n => exact .inl rfl

theorem settle_of_listed {old new : List Notice} {sc : Fin 32} {r : Rotation} {m : Nat} {x : NoticeId} (hb : r.banner = some m)
    (hc : r.current = some x) (h : ∃ n ∈ new, n.ident = x ∧ n.eligible sc m = true) : r.settle old new sc = r := by
  have hany : (new.any fun n => decide (n.ident = x) && n.eligible sc m) = true := by simpa using h
  simp only [Rotation.settle, hb, hc, hany, if_true]

theorem settle_of_left {old new : List Notice} {sc : Fin 32} {r : Rotation} {m : Nat} {x : NoticeId} (hb : r.banner = some m)
    (hc : r.current = some x) (h : ∀ n ∈ new, n.ident = x → n.eligible sc m = false) :
    r.settle old new sc = r.load (followOn old new x sc m) := by
  have hany : (new.any fun n => decide (n.ident = x) && n.eligible sc m) = false := by simpa using h
  simp only [Rotation.settle, hb, hc, hany, Bool.false_eq_true, if_false]

theorem load_some {r : Rotation} {m : Nat} (hb : r.banner = some m) (n : Notice) :
    r.load (some n) = { banner := some m, current := some n.ident, timer := n.dwell * 1000 } := by
  simp only [Rotation.load, ← hb]

theorem settle_of_none_eligible {old new : List Notice} {sc : Fin 32} {r : Rotation} {m : Nat} (hb : r.banner = some m)
    (h : ∀ n ∈ new, n.eligible sc m = false) : (r.settle old new sc).current = none := by
  have hfirst := firstEligible_eq_none h
  cases hc : r.current with
  | none =>
    rcases settle_of_no_current (old := old) (new := new) (sc := sc) hb hc with hs | ⟨_, hs⟩
    · rw [hs, hfirst]; rfl
    · rw [hs, hc]
  | some x =>
    rw [settle_of_left hb hc fun n hn _ => h n hn, followOn_first fun _ _ n hn _ => h n hn, hfirst]
    rfl

/-! ### Alerts and masks -/

theorem maskHits_iff (mask : BitVec 32) (sc : Fin 32) : maskHits mask sc = true ↔ mask = 0 ∨ mask.getLsbD sc.val = true := by
  simp only [maskHits, Bool.or_eq_true, decide_eq_true_eq]

theorem alertTest_iff (n : Notice) (sc : Fin 32) : (decide (n.kind = .alert) && maskHits n.mask sc) = true ↔
    n.kind = .alert ∧ (n.mask = 0 ∨ n.mask.getLsbD sc.val = true) := by
  rw [Bool.and_eq_true, decide_eq_true_eq, maskHits_iff]

theorem selectAlert_none {l : List Notice} {sc : Fin 32}
    (h : ∀ n ∈ l, ¬ (n.kind = .alert ∧ (n.mask = 0 ∨ n.mask.getLsbD sc.val = true))) : selectAlert l sc = none := by
  rw [selectAlert, List.find?_eq_none.2 fun n hn => by rw [alertTest_iff]; exact h n hn]
  rfl

theorem selectAlert_some {l c d : List Notice} {n : Notice} {sc : Fin 32} (h : l = c ++ n :: d)
    (hn : n.kind = .alert ∧ (n.mask = 0 ∨ n.mask.getLsbD sc.val = true))
    (hc : ∀ y ∈ c, ¬ (y.kind = .alert ∧ (y.mask = 0 ∨ y.mask.getLsbD sc.val = true))) : selectAlert l sc = some n.ident := by
  rw [selectAlert, h, List.find?_append, List.find?_eq_none.2 fun y hy => by rw [alertTest_iff]; exact hc y hy,
    List.find?_cons, (alertTest_iff n sc).2 hn]
  rfl

theorem unionMask_of_zero {masks : List (BitVec 32)} (h : 0 ∈ masks) : unionMask masks = 0 := by
  have hany : (masks.any fun m => decide (m = 0)) = true := by simpa using h
  simp only [unionMask, hany, if_true]

theorem getLsbD_unionMask {masks : List (BitVec 32)} (h : 0 ∉ masks) (i : Nat) :
    (unionMask masks).getLsbD i = masks.any fun x => x.getLsbD i := by
  have hany : (masks.any fun m => decide (m = 0)) = false := by
    rw [← Bool.not_eq_true]; simpa using h
  have hfold (l : List (BitVec 32)) (a : BitVec 32) :
      (l.foldl (fun a m => a ||| m) a).getLsbD i = (a.getLsbD i || l.any fun x => x.getLsbD i) := by
    induction l generalizing a with
    | nil => simp
    | cons x l ih => rw [List.foldl_cons, ih, BitVec.getLsbD_or, List.any_cons, Bool.or_assoc]
  simp only [unionMask, hany, Bool.false_eq_true, if_false, hfold]
  simp

/-! ### The notes of a change (R76) -/

theorem allFin_panes : allFin 128 = (allFin 32).flatMap fun sc => (allFin 4).map fun p => paneIx sc p := by decide

theorem paneNo_paneIx (sc : Fin 32) (p : Fin 4) : paneNo (paneIx sc p) = p := by revert sc p; decide

theorem bannerOuts_eq (old new : Table 128 Rotation) : bannerOuts old new =
    (allFin 32).flatMap fun sc => ((allFin 4).filter fun p => decide
      ((new.get (paneIx sc p)).current ≠ (old.get (paneIx sc p)).current)).map fun p => Out.noticeNote (.banner sc p) := by
  rw [bannerOuts, allFin_panes, List.flatMap_assoc]
  refine List.flatMap_congr fun sc _ => ?_
  rw [List.flatMap_map, List.map_eq_flatMap]
  refine flatMap_eq_filter_flatMap _ (fun p => ?_) _
  rw [paneScreen_paneIx, paneNo_paneIx]
  by_cases h : (old.get (paneIx sc p)).current = (new.get (paneIx sc p)).current
  · simp [h]
  · simp [h, Ne.symm h]

theorem alertOuts_eq (old new : Table 32 (Option NoticeId)) : alertOuts old new =
    ((allFin 32).filter fun sc => decide (new.get sc ≠ old.get sc)).map fun sc => Out.noticeNote (.alert sc (new.get sc).isSome) := by
  rw [alertOuts, List.map_eq_flatMap]
  refine flatMap_eq_filter_flatMap _ (fun sc => ?_) _
  by_cases h : old.get sc = new.get sc
  · simp [h]
  · simp [h, Ne.symm h]

/-- Settles O34. -/
theorem settlingFollowsTheList : Obligations.SettlingFollowsTheList := by
  intro q new masks q' outs hchange
  obtain ⟨rfl, rfl⟩ : _ = q' ∧ _ = outs := by simpa only [Notices.change, Prod.mk.injEq] using hchange
  refine ⟨rfl, fun sc p r r' hr hr' => ?_, fun sc => ?_, unionMask masks, unionMask_of_zero, fun h i => getLsbD_unionMask h i, ?_⟩
  · rw [Table.get_mapFin, paneScreen_paneIx, hr] at hr'
    subst hr'
    refine ⟨settle_of_no_banner, fun m hb => ⟨settle_of_none_eligible hb, fun hc c n d hnew hn hnot => ?_, fun x hc =>
      ⟨settle_of_listed hb hc, fun hleft a o b hold ho ha => ⟨fun b1 o' b2 n hb' hn hident helig honly hnot => ?_,
        fun hnot c n d hnew hn hnot' => ?_⟩⟩⟩⟩
    · have hfirst := firstEligible_eq hnew hn hnot
      rcases settle_of_no_current (old := q.list) (new := new) (sc := sc) hb hc with hs | ⟨hnone, _⟩
      · rw [hs, hfirst, load_some hb]
      · rw [hfirst] at hnone
        cases hnone
    · rw [settle_of_left hb hc hleft, followOn_next ((standAfter_eq hold ho ha).trans hb') hn hident helig honly hnot, load_some hb]
    · have hafter := standAfter_eq hold ho ha
      rw [settle_of_left hb hc hleft, followOn_first (by rw [hafter]; exact hnot), firstEligible_eq hnew hn hnot', load_some hb]
  · rw [Table.get_mapFin]
    exact ⟨selectAlert_none, fun c n d hnew hk hm hc => selectAlert_some hnew ⟨hk, hm⟩ hc⟩
  · rw [bannerOuts_eq, alertOuts_eq]

/-! ### Entering (R59, R60) -/

theorem insertBy_split {α : Type} {before : α → α → Bool} {x : α} {a b : List α} (ha : ∀ y ∈ a, before x y = false)
    (hb : ∀ y ∈ b, before x y = true) : insertBy before x (a ++ b) = a ++ x :: b := by
  induction a with
  | nil =>
    cases b with
    | nil => rfl
    | cons y ys => simp [insertBy, hb y (by simp)]
  | cons y ys ih =>
    have := ih fun z hz => ha z (List.mem_cons_of_mem _ hz)
    simp [insertBy, ha y (by simp), this]

theorem placeNotice_split {n : Notice} {a b : List Notice} (ha : ∀ x ∈ a, n.priority ≤ x.priority)
    (hb : ∀ x ∈ b, x.priority < n.priority) : placeNotice n (a ++ b) = a ++ n :: b :=
  insertBy_split (fun y hy => by simpa using ha y hy) fun y hy => by simpa using hb y hy

theorem expiredAt_iff (minute : Nat) (expiry : Option Nat) : expiredAt minute expiry = true ↔ ∃ e, expiry = some e ∧ e ≤ minute := by
  cases expiry <;> simp [expiredAt]

theorem expiredAt_eq_false {minute : Nat} {expiry : Option Nat} (h : ∀ e, expiry = some e → minute < e) :
    expiredAt minute expiry = false := by
  rw [← Bool.not_eq_true, expiredAt_iff]
  rintro ⟨e, he, hle⟩
  exact absurd (h e he) (not_lt.2 hle)

/-- Settles O35. -/
theorem noticesEnterByPriority : Obligations.NoticesEnterByPriority := by
  intro q n
  refine ⟨fun e he hle => ?_, fun hlive => ?_⟩
  · rw [Notices.enter, if_pos ((expiredAt_iff _ _).2 ⟨e, he, hle⟩)]
  have hexp : ¬ expiredAt q.lastMinute n.expiry = true := by rw [expiredAt_eq_false hlive]; simp
  refine ⟨fun a b hl hroom ha hb => ?_, fun a b z hl hfull hz ha hb => ?_, fun a z hl hfull hz => ?_⟩
  · rw [Notices.enter, if_neg hexp, if_pos hroom, hl, placeNotice_split ha hb]
  · have hlast : q.list.getLast? = some z := by rw [hl]; simp
    have hdrop : q.list.dropLast = a ++ b := by rw [hl]; exact List.dropLast_concat
    rw [Notices.enter, if_neg hexp, if_neg (not_lt.2 hfull), if_pos (by simpa [Notices.lastPriority, hlast] using hz)]
    simp only [Notices.evictFor, andThen, hlast, hdrop, placeNotice_split ha hb]
    rfl
  · have hlast : q.list.getLast? = some z := by rw [hl]; simp
    rw [Notices.enter, if_neg hexp, if_neg (not_lt.2 hfull), if_neg (by simpa [Notices.lastPriority, hlast] using hz)]

end Sys2Proof.Machine
end

section
/-! The ring reader: values, writebacks, the end of a notice's processing (R52 to R56). -/

namespace Sys2Proof.Machine

theorem beatAddr_one (a : Addr) : beatAddr a 1 = a + 8 := rfl

/-! ### Beginning, writing back, ending -/

theorem begin_of_busy {w : Windows} {q : Notices} (h : q.produced = q.consumed ∨ q.reader ≠ .idle ∨ w.noticeBase = 0) :
    q.begin w = (q, []) := by
  have hnot : ¬ (q.reader = .idle ∧ q.produced ≠ q.consumed ∧ w.noticeBase ≠ 0) := by tauto
  simp only [Notices.begin, if_neg hnot]

/-- The RECORD read of notice C (R55). -/
def noticeRead (base : Addr) (c : BitVec 16) : AgentReq :=
  { cls := .record, write := false, addr := base + BitVec.ofNat 32 (64 + 64 * (c.toNat % 64)), beats := 8, data := []
    tag := .noticeRecord }

/-- The consumer writeback of C (R56). -/
def consumerWrite (base : Addr) (c : BitVec 16) : AgentReq :=
  { cls := .writeback, write := true, addr := base + 8, beats := 1, data := [{ data := c.setWidth 64, enables := 0xFF }]
    tag := .consumer }

theorem begin_of_idle {w : Windows} {q : Notices} (hidle : q.reader = .idle) (hwaits : q.produced ≠ q.consumed)
    (hbase : w.noticeBase ≠ 0) : q.begin w =
      ({ q with reader := .record, number := q.consumed, consumed := q.consumed + 1, outstanding := 1 },
        [.agent (noticeRead w.noticeBase q.consumed)]) := by
  simp only [Notices.begin, hidle, hwaits, hbase, ne_eq, not_false_eq_true, and_self, if_true]
  rfl

theorem begin_eq_beginsNext {w : Windows} {q : Notices} (hidle : q.reader = .idle) : q.begin w = beginsNext w.noticeBase q := by
  unfold beginsNext
  split
  · rename_i h
    exact begin_of_busy (h.imp_right .inr)
  · rename_i h
    obtain ⟨hwaits, hbase⟩ := not_or.1 h
    exact begin_of_idle hidle hwaits hbase

theorem writeback_of_none {w : Windows} {q : Notices} (h : w.noticeBase = 0) :
    q.writeback w = ({ q with writebackPending := true }, []) := by
  simp only [Notices.writeback, if_pos h]

theorem writeback_of_base {w : Windows} {q : Notices} (h : w.noticeBase ≠ 0) :
    q.writeback w = ({ q with writebackPending := false }, [.agent (consumerWrite w.noticeBase q.consumed)]) := by
  simp only [Notices.writeback, if_neg h]
  rfl

theorem writeback_eq (w : Windows) (q : Notices) : q.writeback w =
    ({ q with writebackPending := decide (w.noticeBase = 0) },
      if w.noticeBase = 0 then [] else [.agent (consumerWrite w.noticeBase q.consumed)]) := by
  by_cases h : w.noticeBase = 0
  · rw [writeback_of_none h, if_pos h, decide_eq_true h]
  · rw [writeback_of_base h, if_neg h, decide_eq_false h]

/-- Processing ended: the unit's change put in place, and what it sends sent. -/
theorem noticesDo_finish {u : State} {w : Windows} (hw : u.path.windows = w) (p : Notices × List Out) :
    u.noticesDo (andThen p (Notices.finish w)) = endsNotice u p := by
  subst hw
  have hfinish (q : Notices) : q.finish u.path.windows =
      ((beginsNext u.path.windows.noticeBase { q.toIdle with writebackPending := decide (u.path.windows.noticeBase = 0) }).1,
        (if u.path.windows.noticeBase = 0 then [] else [.agent (consumerWrite u.path.windows.noticeBase q.consumed)]) ++
          (beginsNext u.path.windows.noticeBase
            { q.toIdle with writebackPending := decide (u.path.windows.noticeBase = 0) }).2) := by
    simp only [Notices.finish, andThen, writeback_eq, List.append_nil]
    rw [begin_eq_beginsNext rfl]
    rfl
  simp only [noticesDo_eq, andThen, hfinish, endsNotice, List.append_assoc]
  rfl

/-! ### Producer values (R54) -/

theorem producer_run {s : State} {v : BitVec 16} (h : s.intakes.notice = some v) :
    producerValueTaken s = (s.withIntakes { s.intakes with notice := none }).noticesDo (s.notices.produce s.path.windows v) := by
  simp only [producerValueTaken, h]

theorem produce_of_few {w : Windows} {v : BitVec 16} {q : Notices} (h : (v - q.consumed).toNat ≤ 64) :
    q.produce w v = ({ q with produced := v } : Notices).begin w := by
  simp only [Notices.produce, if_pos h]

/-- A reader whose notice an overrun abandons (R54). -/
def Reader.abandoned : Reader → Reader
  | .record => .discard
  | .text => .discard
  | r => r

/-- The unit at an overrun, before its next notice (R54). -/
def Notices.overrun (w : Windows) (v : BitVec 16) (q : Notices) : Notices :=
  { q with produced := v, consumed := v - 64, reader := q.reader.abandoned, writebackPending := decide (w.noticeBase = 0) }

theorem produce_of_many {w : Windows} {v : BitVec 16} {q : Notices} (h : 65 ≤ (v - q.consumed).toNat) :
    q.produce w v = (((q.overrun w v).begin w).1,
      .event .ringOverrun :: ((if w.noticeBase = 0 then [] else [.agent (consumerWrite w.noticeBase (v - 64))]) ++
        ((q.overrun w v).begin w).2)) := by
  have hnot : ¬ (v - q.consumed).toNat ≤ 64 := by omega
  simp only [Notices.produce, if_neg hnot, andThen, writeback_eq, List.cons_append, List.nil_append, Notices.overrun]
  cases q.reader <;> rfl

theorem emit_record (s : State) (base : Addr) (c : BitVec 16) :
    s.emit [.agent (noticeRead base c)] = s.withPath { s.path with recordQ := s.path.recordQ ++ [noticeRead base c] } :=
  emit_read s rfl

theorem emit_consumer (s : State) (base : Addr) (c : BitVec 16) (outs : List Out) :
    s.emit (.agent (consumerWrite base c) :: outs) =
      (s.withPath { s.path with writebackQ := s.path.writebackQ ++ [consumerWrite base c] }).emit outs := rfl

/-! ### Writebacks (R56) -/

theorem consumerDone_run {s : State} {data : List Beat} {err : Bool} {rest : List Response}
    (h : s.mail.noticeResp = { tag := .consumer, data := data, err := err } :: rest) :
    consumerWritebackDone s = (s.withMail { s.mail with noticeResp := rest }).withNotices
      { s.notices with writebackPending := s.notices.writebackPending || err } := by
  simp only [consumerWritebackDone, State.popNoticeResp, h, List.tail_cons]
  cases err
  · simp only [Bool.or_false]
    rfl
  · simp only [Bool.or_true, if_true]

theorem retry_run {s : State} (h : 0 < s.time.dueNotice) : writebackRetryBoundary s =
    if s.notices.writebackPending = true ∧ s.path.windows.noticeBase ≠ 0 then
      (s.withTime { s.time with dueNotice := s.time.dueNotice - 1 }).noticesDo (s.notices.writeback s.path.windows)
    else s.withTime { s.time with dueNotice := s.time.dueNotice - 1 } := by
  simp only [writebackRetryBoundary, if_pos h]

/-- What an overrun does (R54). -/
theorem overrun_run {s : State} {v : BitVec 16} (h : s.intakes.notice = some v) (hmany : 65 ≤ (v - s.notices.consumed).toNat) :
    producerValueTaken s = (s.withIntakes { s.intakes with notice := none }).noticesDo
      (((s.notices.overrun s.path.windows v).begin s.path.windows).1,
        .event .ringOverrun :: ((if s.path.windows.noticeBase = 0 then [] else
            [.agent (consumerWrite s.path.windows.noticeBase (v - 64))]) ++
          ((s.notices.overrun s.path.windows v).begin s.path.windows).2)) := by
  rw [producer_run h, produce_of_many hmany]

theorem abandoned_ne_idle {r : Reader} (h : r ≠ .idle) : r.abandoned ≠ .idle := by
  cases r <;> simp_all [Reader.abandoned]

/-- An overrun that leaves the reader without a next notice. -/
theorem overrun_of_busy {s : State} {v : BitVec 16} (h : s.intakes.notice = some v) (hmany : 65 ≤ (v - s.notices.consumed).toNat)
    (hbusy : s.notices.reader ≠ .idle ∨ s.path.windows.noticeBase = 0) :
    producerValueTaken s = (s.withIntakes { s.intakes with notice := none }).noticesDo (s.notices.overrun s.path.windows v,
        .event .ringOverrun :: if s.path.windows.noticeBase = 0 then [] else
          [.agent (consumerWrite s.path.windows.noticeBase (v - 64))]) := by
  have hbegin : (s.notices.overrun s.path.windows v).begin s.path.windows = (s.notices.overrun s.path.windows v, []) :=
    begin_of_busy (.inr (hbusy.imp_left abandoned_ne_idle))
  rw [overrun_run h hmany, hbegin, List.append_nil]

/-- An overrun met by an IDLE reader, which begins the oldest notice kept. -/
theorem overrun_of_idle {s : State} {v : BitVec 16} (h : s.intakes.notice = some v) (hmany : 65 ≤ (v - s.notices.consumed).toNat)
    (hidle : s.notices.reader = .idle) (hbase : s.path.windows.noticeBase ≠ 0) :
    producerValueTaken s = (s.withIntakes { s.intakes with notice := none }).noticesDo
      ({ s.notices.overrun s.path.windows v with reader := .record, number := v - 64, consumed := v - 64 + 1, outstanding := 1 },
        [.event .ringOverrun, .agent (consumerWrite s.path.windows.noticeBase (v - 64)),
          .agent (noticeRead s.path.windows.noticeBase (v - 64))]) := by
  have hwaits : v ≠ v - 64 := by
    intro he
    have := congrArg BitVec.toNat he
    bv_omega
  have hbegin := begin_of_idle (w := s.path.windows) (q := s.notices.overrun s.path.windows v)
    (by simp only [Notices.overrun, hidle]; rfl) hwaits hbase
  rw [overrun_run h hmany, hbegin, if_neg hbase]
  rfl

/-- Settles O36. -/
theorem theRingIsTakenInOrder : Obligations.TheRingIsTakenInOrder := by
  refine ⟨fun s v q base hv hq hbase => ⟨fun hfew hbusy => ?_, fun hfew hwaits hidle hbase0 => ?_, fun hmany => ?_⟩,
    fun s data err rest hmsg => congrArg (goOn s) (consumerDone_run hmsg),
    fun s hdue => ⟨fun hpending hbase => ?_, fun hnone => ?_⟩⟩
  · subst hq hbase
    have hrun := producer_run hv
    rw [produce_of_few hfew, begin_of_busy (q := { s.notices with produced := v }) hbusy, noticesDo_eq, emit_nil] at hrun
    exact congrArg (goOn s) hrun
  · subst hq hbase
    have hrun := producer_run hv
    rw [produce_of_few hfew, begin_of_idle (q := { s.notices with produced := v }) hidle hwaits hbase0, noticesDo_eq,
      emit_record] at hrun
    exact congrArg (goOn s) hrun
  · subst hq hbase
    refine ⟨_, rfl, (producerValueTaken_frame s).commit, ?_⟩
    simp only [commit_intakes, commit_mail, commit_notices, commit_path]
    by_cases hidle : s.notices.reader = .idle ∧ s.path.windows.noticeBase ≠ 0
    · have hrun := overrun_of_idle hv hmany hidle.1 hidle.2
      rw [noticesDo_eq, emit_event, emit_consumer, emit_record] at hrun
      simp only [hrun]
      refine ⟨rfl, rfl, rfl, rfl, rfl, fun _ => rfl, fun h => ?_, fun h => ?_, fun _ _ => ⟨rfl, rfl, ?_, rfl⟩⟩
      · simp [hidle.1] at h
      · simp [hidle.1] at h
      · show v - 64 + 1 = v - 63
        bv_omega
    · have hbusy : s.notices.reader ≠ .idle ∨ s.path.windows.noticeBase = 0 := by tauto
      have hrun := overrun_of_busy hv hmany hbusy
      by_cases hbase : s.path.windows.noticeBase = 0
      · rw [if_pos hbase, noticesDo_eq, emit_event, emit_nil] at hrun
        simp only [hrun]
        refine ⟨rfl, rfl, rfl, rfl, rfl, fun h => absurd hbase h, fun h => ⟨?_, rfl, rfl⟩, fun h => ⟨?_, rfl, rfl, rfl, rfl⟩,
          fun _ h => absurd hbase h⟩
        · rcases h with h | h <;> simp [Notices.overrun, h, Reader.abandoned]
        · rcases h with h | h <;> simp [Notices.overrun, h, Reader.abandoned]
      · rw [if_neg hbase, noticesDo_eq, emit_event, emit_consumer, emit_nil] at hrun
        simp only [hrun]
        refine ⟨rfl, rfl, rfl, rfl, rfl, fun _ => rfl, fun h => ⟨?_, rfl, rfl⟩, fun h => ⟨?_, rfl, rfl, rfl, rfl⟩,
          fun h h' => absurd ⟨h, h'⟩ hidle⟩
        · rcases h with h | h <;> simp [Notices.overrun, h, Reader.abandoned]
        · rcases h with h | h <;> simp [Notices.overrun, h, Reader.abandoned]
  · have hrun := retry_run hdue
    rw [if_pos ⟨hpending, hbase⟩, writeback_of_base hbase, noticesDo_eq, emit_consumer, emit_nil] at hrun
    exact congrArg (goOn s) hrun
  · have hrun := retry_run hdue
    rw [if_neg (by rintro ⟨h1, h2⟩; rcases hnone with h | h <;> simp_all)] at hrun
    exact congrArg (goOn s) hrun

end Sys2Proof.Machine
end

section
/-! Notices processed by kind (R60 to R66). -/

namespace Sys2Proof.Machine

/-! ### The reader's own fields and the list's -/

/-- The unit of q with the notice that w has in processing. -/
def Notices.working (w q : Notices) : Notices :=
  { q with reader := w.reader, record := w.record, textBytes := w.textBytes, outstanding := w.outstanding, textErr := w.textErr
           awaiting := w.awaiting, replacing := w.replacing }

theorem change_working (w q : Notices) (l : List Notice) (m : List (BitVec 32)) :
    (w.working q).change l m = (w.working (q.change l m).1, (q.change l m).2) := rfl

theorem enter_working (w q : Notices) (n : Notice) : (w.working q).enter n = (w.working (q.enter n).1, (q.enter n).2) := by
  unfold Notices.enter
  have hlist : (w.working q).list = q.list := rfl
  have hminute : (w.working q).lastMinute = q.lastMinute := rfl
  have hlast : (w.working q).lastPriority = q.lastPriority := rfl
  rw [hlist, hminute, hlast]
  repeat' split
  all_goals rfl

/-- The end of processing forgets the notice that was in it. -/
theorem endsNotice_working (u : State) (w : Notices) (p : Notices × List Out) :
    endsNotice u (w.working p.1, p.2) = endsNotice u p := rfl

theorem endsNotice_event (u : State) (q : Notices) (k : EventKind) (outs : List Out) :
    endsNotice u (q, .event k :: outs) = endsNotice (u.withMail { u.mail with events := u.mail.events ++ [k] }) (q, outs) := rfl

/-! ### The listed notice of an identity -/

theorem find_of_unlisted {q : Notices} {x : NoticeId} (h : ∀ o ∈ q.list, o.ident ≠ x) : q.find x = none :=
  List.find?_eq_none.2 fun o ho => by simp [h o ho]

theorem find_of_listed {q : Notices} {x : NoticeId} {a b : List Notice} {old : Notice} (h : q.list = a ++ old :: b)
    (hold : old.ident = x) (hothers : ∀ o ∈ a ++ b, o.ident ≠ x) : q.find x = some old := by
  rw [Notices.find, h, List.find?_append,
    List.find?_eq_none.2 fun o ho => by simp [hothers o (List.mem_append_left _ ho)]]
  simp [hold]

theorem filter_others {x : NoticeId} {a b : List Notice} {old : Notice} (hold : old.ident = x) (hothers : ∀ o ∈ a ++ b, o.ident ≠ x) :
    ((a ++ old :: b).filter fun o => decide (o.ident ≠ x)) = a ++ b := by
  rw [List.filter_append, List.filter_cons_of_neg (by simp [hold]),
    List.filter_eq_self.2 fun o ho => by simp [hothers o (List.mem_append_left _ ho)],
    List.filter_eq_self.2 fun o ho => by simp [hothers o (List.mem_append_right _ ho)]]

theorem filter_own {x : NoticeId} {a b : List Notice} {old : Notice} (hold : old.ident = x) (hothers : ∀ o ∈ a ++ b, o.ident ≠ x) :
    ((a ++ old :: b).filter fun o => decide (o.ident = x)) = [old] := by
  rw [List.filter_append, List.filter_cons_of_pos (by simp [hold]),
    List.filter_eq_nil_iff.2 fun o ho => by simp [hothers o (List.mem_append_left _ ho)],
    List.filter_eq_nil_iff.2 fun o ho => by simp [hothers o (List.mem_append_right _ ho)]]
  rfl

theorem remove_of_none {q : Notices} {test : Notice → Bool} (h : ∀ n ∈ q.list, test n = false) : q.remove test = (q, []) := by
  have hany : q.list.any test = false := by simpa using h
  simp only [Notices.remove, hany, Bool.false_eq_true, if_false]

theorem remove_of_some {q : Notices} {test : Notice → Bool} (h : ∃ n ∈ q.list, test n = true) :
    q.remove test = q.change (q.list.filter fun n => !test n) ((q.list.filter test).map Notice.mask) := by
  have hany : q.list.any test = true := by simpa using h
  simp only [Notices.remove, hany, if_true]

theorem remove_listed {q : Notices} {x : NoticeId} {a b : List Notice} {old : Notice} (h : q.list = a ++ old :: b)
    (hold : old.ident = x) (hothers : ∀ o ∈ a ++ b, o.ident ≠ x) :
    q.remove (fun o => decide (o.ident = x)) = q.change (a ++ b) [old.mask] := by
  rw [remove_of_some ⟨old, by simp [h], by simp [hold]⟩, h, filter_own hold hothers]
  have hnot : (fun n : Notice => !decide (n.ident = x)) = fun n => decide (n.ident ≠ x) := by
    funext n; simp
  rw [hnot, filter_others hold hothers]
  rfl

/-- The listed notice replaced (R66). -/
theorem substitute_expired {q : Notices} {a b : List Notice} {old n : Notice} (h : q.list = a ++ old :: b) (hold : old.ident = n.ident)
    (hothers : ∀ o ∈ a ++ b, o.ident ≠ n.ident) (hexp : ∃ e, n.expiry = some e ∧ e ≤ q.lastMinute) :
    q.substitute old n = q.change (a ++ b) [old.mask] := by
  simp only [Notices.substitute, (expiredAt_iff _ _).2 hexp, if_true, h, filter_others hold hothers]

theorem substitute_live {q : Notices} {a b f g : List Notice} {old n : Notice} (h : q.list = a ++ old :: b)
    (hold : old.ident = n.ident) (hothers : ∀ o ∈ a ++ b, o.ident ≠ n.ident) (hexp : ∀ e, n.expiry = some e → q.lastMinute < e)
    (hsplit : a ++ b = f ++ g) (hf : ∀ o ∈ f, n.priority ≤ o.priority) (hg : ∀ o ∈ g, o.priority < n.priority) :
    q.substitute old n = q.change (f ++ n :: g) [old.mask, n.mask] := by
  simp only [Notices.substitute, expiredAt_eq_false hexp, Bool.false_eq_true, if_false, h, filter_others hold hothers, hsplit,
    placeNotice_split hf hg]

theorem takeIn_unlisted {q : Notices} {n : Notice} (h : q.replacing = false ∨ ∀ o ∈ q.list, o.ident ≠ n.ident) :
    q.takeIn n = q.enter n := by
  unfold Notices.takeIn
  rcases h with h | h
  · simp only [h, Bool.false_eq_true, if_false]
  · rw [find_of_unlisted h]
    split <;> rfl

theorem takeIn_listed {q : Notices} {n old : Notice} {a b : List Notice} (hrep : q.replacing = true) (h : q.list = a ++ old :: b)
    (hold : old.ident = n.ident) (hothers : ∀ o ∈ a ++ b, o.ident ≠ n.ident) : q.takeIn n = q.substitute old n := by
  simp only [Notices.takeIn, hrep, if_true, find_of_listed h hold hothers]

theorem fail_unlisted {q : Notices} {x : NoticeId} {a : Answer} (h : q.replacing = false ∨ ∀ o ∈ q.list, o.ident ≠ x) :
    q.fail x a = (q, if a = .noShow then [.event .noShow] else []) := by
  simp only [Notices.fail, andThen]
  rcases h with h | h
  · simp only [h, Bool.false_eq_true, if_false, List.append_nil]
  · rw [remove_of_none (q := q) (test := fun n => decide (n.ident = x)) fun n hn => by simp [h n hn]]
    split <;> simp

theorem fail_listed {q : Notices} {x : NoticeId} {a : Answer} {c d : List Notice} {old : Notice} (hrep : q.replacing = true)
    (h : q.list = c ++ old :: d) (hold : old.ident = x) (hothers : ∀ o ∈ c ++ d, o.ident ≠ x) :
    q.fail x a = ((q.change (c ++ d) [old.mask]).1, (if a = .noShow then [.event .noShow] else []) ++
      (q.change (c ++ d) [old.mask]).2) := by
  simp only [Notices.fail, andThen, hrep, if_true, remove_listed h hold hothers]

/-! ### Keys and effects (R62 to R66) -/

theorem keyMatches_iff (manager : Nat) (n : Notice) (key : Nat) : keyMatches manager n key = true ↔ opens manager n key := by
  simp only [keyMatches, opens, Bool.or_eq_true, Bool.and_eq_true, decide_eq_true_eq, and_assoc]

theorem undelayOuts_eq (n : Notice) : n.undelayOuts = (leavingEffects n).map fun x => .effect x.1 := by
  unfold Notice.undelayOuts leavingEffects
  split <;> rfl

theorem undelayAwaited_eq (n : Notice) : n.undelayAwaited = (leavingEffects n).map Prod.snd := by
  unfold Notice.undelayAwaited leavingEffects
  split <;> rfl

theorem effectOuts_eq (r : NoticeRec) : r.effectOuts = (ownEffects r).map fun x => .effect x.1 := by
  unfold NoticeRec.effectOuts ownEffects
  cases r.kind <;> rfl

theorem effectAwaited_eq (r : NoticeRec) : r.effectAwaited = (ownEffects r).map Prod.snd := by
  unfold NoticeRec.effectAwaited ownEffects
  cases r.kind <;> rfl

/-- What a notice's processing comes to with its last answer in: what is done to the list (R62, R63, R66). -/
def Notices.concluded (r : NoticeRec) (answer : Option Answer) (q : Notices) : Notices × List Out :=
  let entered (applied : Nat) := q.takeIn (r.notice (textOf r.textAddr r.textLen q.textBytes) applied)
  if r.kind = .withdraw then (q, [])
  else
    match answer with
    | none => entered 0
    | some (.done added) => entered (if r.kind = .delay then added else 0)
    | some a => q.fail r.ident a

theorem conclude_eq (w : Windows) (r : NoticeRec) (answer : Option Answer) (q : Notices) :
    q.conclude w r answer = andThen (q.concluded r answer) (Notices.finish w) := by
  unfold Notices.conclude Notices.concluded
  cases r.kind <;> rfl

theorem await_of_nil (w : Windows) (r : NoticeRec) (q : Notices) :
    q.await w r [] [] = andThen (q.concluded r none) (Notices.finish w) := by
  simp only [Notices.await, if_true, conclude_eq]
  simp only [andThen, List.nil_append]

theorem await_of_some {w : Windows} {r : NoticeRec} {outs : List Out} {awaiting : List Awaited} {q : Notices} (h : awaiting ≠ []) :
    q.await w r outs awaiting = ({ q with reader := .effect, awaiting := awaiting }, outs) := by
  simp only [Notices.await, if_neg h, andThen, List.append_nil]

end Sys2Proof.Machine
end

section
/-! EFFECT_ANSWER (R62, R63, R65, R66). -/

namespace Sys2Proof.Machine

theorem endsNotice_enter (u : State) (w q : Notices) (n : Notice) :
    endsNotice u ((w.working q).enter n) = endsNotice u (q.enter n) := by
  rw [enter_working, endsNotice_working]

theorem endsNotice_change (u : State) (w q : Notices) (l : List Notice) (m : List (BitVec 32)) :
    endsNotice u ((w.working q).change l m) = endsNotice u (q.change l m) := rfl

theorem concluded_withdraw {r : NoticeRec} {answer : Option Answer} {q : Notices} (h : r.kind = .withdraw) :
    q.concluded r answer = (q, []) := by
  simp only [Notices.concluded, if_pos h]

theorem concluded_none {r : NoticeRec} {q : Notices} (h : r.kind ≠ .withdraw) :
    q.concluded r none = q.takeIn (r.notice (textOf r.textAddr r.textLen q.textBytes) 0) := by
  simp only [Notices.concluded, if_neg h]

theorem concluded_done {r : NoticeRec} {m : Nat} {q : Notices} (h : r.kind ≠ .withdraw) :
    q.concluded r (some (.done m)) =
      q.takeIn (r.notice (textOf r.textAddr r.textLen q.textBytes) (if r.kind = .delay then m else 0)) := by
  simp only [Notices.concluded, if_neg h]

theorem concluded_failed {r : NoticeRec} {a : Answer} {q : Notices} (h : r.kind ≠ .withdraw) (ha : a = .noShow ∨ a = .tooLate) :
    q.concluded r (some a) = q.fail r.ident a := by
  rcases ha with rfl | rfl <;> simp only [Notices.concluded, if_neg h]

theorem notice_ident (r : NoticeRec) (text : List Byte) (applied : Nat) : (r.notice text applied).ident = r.ident := rfl

theorem answer_run {s : State} {a : Answer} {rest : List NoticeMsg} (h : s.mail.toNotices = .answer a :: rest) :
    effectAnswer s = (s.withMail { s.mail with toNotices := rest }).noticesDo (s.notices.answer s.path.windows a) := by
  simp only [effectAnswer, State.popNoticeMsg, h, List.tail_cons]

theorem answer_of_more {w : Windows} {a : Answer} {q : Notices} {r : NoticeRec} {x : Awaited} {more : List Awaited}
    (hr : q.record = some r) (hx : q.awaiting = x :: more) (h : more ≠ []) : q.answer w a = ({ q with awaiting := more }, []) := by
  simp only [Notices.answer, hr, hx, if_pos h]

theorem answer_of_last {w : Windows} {a : Answer} {q : Notices} {r : NoticeRec} {x : Awaited} (hr : q.record = some r)
    (hx : q.awaiting = [x]) : q.answer w a = andThen
      (({ q with awaiting := [] } : Notices).concluded r (if x = .undelay then none else some a)) (Notices.finish w) := by
  simp only [Notices.answer, hr, hx, ne_eq, not_true_eq_false, if_false, conclude_eq]
  split <;> rfl

/-- The last answer ends the notice's processing. -/
theorem answered_last {s : State} {a : Answer} {rest : List NoticeMsg} {r : NoticeRec} {x : Awaited}
    (h : s.mail.toNotices = .answer a :: rest) (hr : s.notices.record = some r) (hx : s.notices.awaiting = [x]) :
    effectAnswer s = endsNotice (s.withMail { s.mail with toNotices := rest })
      (({ s.notices with awaiting := [] } : Notices).concluded r (if x = .undelay then none else some a)) := by
  rw [answer_run h, answer_of_last hr hx]
  exact noticesDo_finish rfl _

/-- A notice that enters at its conclusion, by what the list holds (R60, R66). -/
theorem endsNotice_takeIn {u : State} {w q : Notices} {n : Notice} :
    ((w.replacing = false ∨ ∀ o ∈ q.list, o.ident ≠ n.ident) →
      endsNotice u ((w.working q).takeIn n) = endsNotice u (q.enter n)) ∧
    ∀ c old d, w.replacing = true → q.list = c ++ old :: d → old.ident = n.ident → (∀ o ∈ c ++ d, o.ident ≠ n.ident) →
      ((∀ e, n.expiry = some e → e ≤ q.lastMinute →
        endsNotice u ((w.working q).takeIn n) = endsNotice u (q.change (c ++ d) [old.mask])) ∧
      ((∀ e, n.expiry = some e → q.lastMinute < e) → ∀ f g, c ++ d = f ++ g → (∀ o ∈ f, n.priority ≤ o.priority) →
        (∀ o ∈ g, o.priority < n.priority) →
        endsNotice u ((w.working q).takeIn n) = endsNotice u (q.change (f ++ n :: g) [old.mask, n.mask]))) := by
  refine ⟨fun h => ?_, fun c old d hrep hl hold hothers => ⟨fun e he hle => ?_, fun hlive f g hsplit hf hg => ?_⟩⟩
  · rw [takeIn_unlisted (q := w.working q) h, endsNotice_enter]
  · rw [takeIn_listed (q := w.working q) hrep hl hold hothers,
      substitute_expired (q := w.working q) hl hold hothers ⟨e, he, hle⟩, endsNotice_change]
  · rw [takeIn_listed (q := w.working q) hrep hl hold hothers,
      substitute_live (q := w.working q) hl hold hothers hlive hsplit hf hg, endsNotice_change]

/-- Settles O38. -/
theorem effectAnswersDecideTheNotice : Obligations.EffectAnswersDecideTheNotice := by
  intro s a rest q r x more ends n hmsg hq hr hx hends
  subst hq
  refine ⟨fun hmore => ?_, fun hmore hundelay hkind => ?_, fun m hmore hwhy hn => ?_, fun hmore hown hkind ha ev hev => ?_⟩
  · have hrun := answer_run hmsg
    rw [answer_of_more hr hx hmore, noticesDo_eq, emit_nil] at hrun
    exact congrArg (goOn s) hrun
  all_goals subst hmore
  · refine congrArg (goOn s) ?_
    rw [answered_last hmsg hr hx, concluded_withdraw hkind, hends]
    rfl
  · have hconcluded : ({ s.notices with awaiting := [] } : Notices).concluded r (if x = .undelay then none else some a) =
        ({ s.notices with awaiting := [] } : Notices).takeIn n := by
      rcases hwhy with ⟨hown, hkind, rfl⟩ | ⟨hundelay, hkind⟩
      · rw [if_neg hown, concluded_done (by rcases hkind with h | h <;> simp [h]), hn]
      · have hnot : r.kind ≠ .delay := by rcases hkind with h | h <;> simp [h]
        rw [if_pos hundelay, concluded_none (by rcases hkind with h | h <;> simp [h]), hn, if_neg hnot]
    have hrun := answered_last hmsg hr hx
    rw [hconcluded, ← hends] at hrun
    have hident : n.ident = r.ident := by rw [hn]; rfl
    obtain ⟨hunlisted, hlisted⟩ := endsNotice_takeIn (u := s.withMail { s.mail with toNotices := rest })
      (w := { s.notices with awaiting := [] }) (q := s.notices) (n := n)
    simp only [← hends, hident] at hunlisted hlisted
    refine ⟨fun h => congrArg (goOn s) (hrun.trans (hunlisted h)), fun c old d hrep hl hold hothers => ?_⟩
    obtain ⟨hexp, hlive⟩ := hlisted c old d hrep hl hold hothers
    exact ⟨fun e he hle => congrArg (goOn s) (hrun.trans (hexp e he hle)), fun h f g hsplit hf hg =>
      congrArg (goOn s) (hrun.trans (hlive h f g hsplit hf hg))⟩
  · have hrun := answered_last hmsg hr hx
    rw [if_neg hown, concluded_failed (by rcases hkind with h | h <;> simp [h]) ha] at hrun
    refine ⟨fun h => congrArg (goOn s) ?_, fun c old d hrep hl hold hothers => congrArg (goOn s) ?_⟩
    · rw [hrun, fail_unlisted (q := { s.notices with awaiting := [] }) h, hends, hev]
      rfl
    · rw [hrun, fail_listed (q := { s.notices with awaiting := [] }) hrep hl hold hothers, hends, hev]
      rfl

end Sys2Proof.Machine
end

section
/-! NOTICE_RECORD_DONE and NOTICE_TEXT_DONE: a checked record processed by its kind (R61 to R66). -/

namespace Sys2Proof.Machine

/-! ### Processing by kind -/

theorem process_withdraw {w : Windows} {m : Nat} {r : NoticeRec} {q : Notices} (h : r.kind = .withdraw) :
    q.process w m r = ({ q with record := some r } : Notices).withdraw w m r := by
  simp only [Notices.process, h]

theorem withdraw_of_unlisted {w : Windows} {m : Nat} {r : NoticeRec} {q : Notices} (h : ∀ o ∈ q.list, o.ident ≠ r.ident) :
    q.withdraw w m r = andThen (q, [.event .notFound]) (Notices.finish w) := by
  simp only [Notices.withdraw, find_of_unlisted h]

theorem withdraw_of_shut {w : Windows} {m : Nat} {r : NoticeRec} {q : Notices} {a b : List Notice} {old : Notice}
    (hl : q.list = a ++ old :: b) (hold : old.ident = r.ident) (hothers : ∀ o ∈ a ++ b, o.ident ≠ r.ident)
    (hshut : r.ident = houseId ∨ ¬ opens m old r.key) :
    q.withdraw w m r = andThen (q, [.event .keyMismatch]) (Notices.finish w) := by
  have hif : r.ident = houseId ∨ keyMatches m old r.key = false :=
    hshut.imp_right fun h => by rw [← Bool.not_eq_true, keyMatches_iff]; exact h
  simp only [Notices.withdraw, find_of_listed hl hold hothers, if_pos hif]

theorem withdraw_of_open {w : Windows} {m : Nat} {r : NoticeRec} {q : Notices} {a b : List Notice} {old : Notice}
    (hl : q.list = a ++ old :: b) (hold : old.ident = r.ident) (hothers : ∀ o ∈ a ++ b, o.ident ≠ r.ident)
    (hopen : opens m old r.key) (hhouse : r.ident ≠ houseId) :
    q.withdraw w m r = andThen (q.change (a ++ b) [old.mask]) (Notices.await w r old.undelayOuts old.undelayAwaited) := by
  have hif : ¬ (r.ident = houseId ∨ keyMatches m old r.key = false) := by
    rintro (h | h)
    · exact hhouse h
    · rw [(keyMatches_iff _ _ _).2 hopen] at h
      cases h
  simp only [Notices.withdraw, find_of_listed hl hold hothers, if_neg hif, remove_listed hl hold hothers]

theorem process_unlisted {w : Windows} {m : Nat} {r : NoticeRec} {q : Notices} (h : r.kind ≠ .withdraw)
    (hl : ∀ o ∈ q.list, o.ident ≠ r.ident) : q.process w m r =
      ({ q with record := some r, replacing := false } : Notices).await w r r.effectOuts r.effectAwaited := by
  have hfind : ({ q with record := some r } : Notices).find r.ident = none := find_of_unlisted hl
  unfold Notices.process
  cases hk : r.kind <;> first | exact absurd hk h | simp only [hfind]

theorem process_shut {w : Windows} {m : Nat} {r : NoticeRec} {q : Notices} {a b : List Notice} {old : Notice} (h : r.kind ≠ .withdraw)
    (hl : q.list = a ++ old :: b) (hold : old.ident = r.ident) (hothers : ∀ o ∈ a ++ b, o.ident ≠ r.ident)
    (hshut : ¬ opens m old r.key) : q.process w m r =
      andThen ({ q with record := some r }, [.event .keyMismatch]) (Notices.finish w) := by
  have hfind : ({ q with record := some r } : Notices).find r.ident = some old := find_of_listed hl hold hothers
  have hkey : keyMatches m old r.key = false := by rw [← Bool.not_eq_true, keyMatches_iff]; exact hshut
  unfold Notices.process
  cases hk : r.kind <;> first | exact absurd hk h | simp only [hfind, hkey, Bool.false_eq_true, if_false]

theorem process_open {w : Windows} {m : Nat} {r : NoticeRec} {q : Notices} {a b : List Notice} {old : Notice} (h : r.kind ≠ .withdraw)
    (hl : q.list = a ++ old :: b) (hold : old.ident = r.ident) (hothers : ∀ o ∈ a ++ b, o.ident ≠ r.ident)
    (hopen : opens m old r.key) : q.process w m r = ({ q with record := some r, replacing := true } : Notices).await w r
      (old.undelayOuts ++ r.effectOuts) (old.undelayAwaited ++ r.effectAwaited) := by
  have hfind : ({ q with record := some r } : Notices).find r.ident = some old := find_of_listed hl hold hothers
  have hkey := (keyMatches_iff m old r.key).2 hopen
  unfold Notices.process
  cases hk : r.kind <;> first | exact absurd hk h | simp only [hfind, hkey, if_true]

/-! ### The commands, a record checked and its text in -/

theorem needsText_eq_false {r : NoticeRec} (h : r.kind = .withdraw ∨ r.textLen = 0 ∨ 2 ^ 32 < r.textAddr.toNat + r.textLen) :
    r.needsText = false := by
  rw [← Bool.not_eq_true]
  simp only [NoticeRec.needsText, textFits, Bool.and_eq_true, decide_eq_true_eq]
  rintro ⟨hkind, hlen, hend⟩
  rcases h with h | h | h
  · exact hkind h
  · omega
  · omega

theorem recordDone_run {s : State} {data : List Beat} {err : Bool} {rest : List Response}
    (h : s.mail.noticeResp = { tag := .noticeRecord, data := data, err := err } :: rest) (hreader : s.notices.reader = .record) :
    noticeRecordDone s = (s.withMail { s.mail with noticeResp := rest }).noticesDo
      (s.notices.recordDone s.path.windows s.params.managerKey (beatsBytes data) err) := by
  simp only [noticeRecordDone, State.popNoticeResp, h, hreader, List.tail_cons]

theorem textDone_run {s : State} {data : List Beat} {err : Bool} {rest : List Response}
    (h : s.mail.noticeResp = { tag := .noticeText, data := data, err := err } :: rest) (hreader : s.notices.reader = .text) :
    noticeTextDone s = (s.withMail { s.mail with noticeResp := rest }).noticesDo
      (s.notices.textDone s.path.windows s.params.managerKey (beatsBytes data) err) := by
  simp only [noticeTextDone, State.popNoticeResp, h, hreader, List.tail_cons]

theorem textDone_of_last {w : Windows} {m : Nat} {bs : List Byte} {q : Notices} {r : NoticeRec} (hlast : q.outstanding = 1)
    (herr : q.textErr = false) (hrec : q.record = some r) : q.textDone w m bs false =
      ({ q with textBytes := q.textBytes ++ bs, outstanding := 0 } : Notices).process w m r := by
  have hq : ({ q with textBytes := q.textBytes ++ bs, textErr := q.textErr || false, outstanding := q.outstanding - 1 } : Notices) =
      { q with textBytes := q.textBytes ++ bs, outstanding := 0 } := by rw [Bool.or_false, hlast]
  unfold Notices.textDone
  rw [hq]
  simp only [if_true, herr, hrec, Bool.false_eq_true, if_false]

/-- A record that needs no text, and one whose last text response is in, goes on to be processed. -/
theorem processed {s : State} {data : List Beat} {rest : List Response} {bytes : List Byte} {c : Instr} {r : NoticeRec}
    (h : c = .noticeRecordDone ∧ s.mail.noticeResp = { tag := .noticeRecord, data := data, err := false } :: rest ∧
        s.notices.reader = .record ∧ noticeRecord (beatsBytes data) = some r ∧
        (r.kind = .withdraw ∨ r.textLen = 0 ∨ 2 ^ 32 < r.textAddr.toNat + r.textLen) ∧ bytes = [] ∨
      c = .noticeTextDone ∧ s.mail.noticeResp = { tag := .noticeText, data := data, err := false } :: rest ∧
        s.notices.reader = .text ∧ s.notices.record = some r ∧ s.notices.outstanding = 1 ∧ s.notices.textErr = false ∧
        bytes = s.notices.textBytes ++ beatsBytes data) :
    exec c s = goOn s ((s.withMail { s.mail with noticeResp := rest }).noticesDo
      (({ s.notices with textBytes := bytes, outstanding := 0 } : Notices).process s.path.windows s.params.managerKey r)) := by
  rcases h with ⟨rfl, hmsg, hreader, hrec, hshort, rfl⟩ | ⟨rfl, hmsg, hreader, hrec, hlast, herr, rfl⟩
  · have hrun := recordDone_run hmsg hreader
    simp only [Notices.recordDone, hrec, needsText_eq_false hshort, Bool.false_eq_true, if_false] at hrun
    exact congrArg (goOn s) hrun
  · have hrun := textDone_run hmsg hreader
    rw [textDone_of_last hlast herr hrec] at hrun
    exact congrArg (goOn s) hrun

/-! ### What processing comes to -/

/-- The unit's processing once the record is checked and its text in. -/
def Notices.checked (r : NoticeRec) (bytes : List Byte) (rep : Bool) (q : Notices) : Notices :=
  { q with record := some r, textBytes := bytes, outstanding := 0, replacing := rep }

/-- A notice that waits for answers (R62 to R66). -/
def waitsFor (u : State) (r : NoticeRec) (bytes : List Byte) (p : Notices × List Out) (es : List (Effect × Awaited)) (rep : Bool) :
    State :=
  (u.withNotices { p.1 with
      reader := .effect, record := some r, textBytes := bytes, outstanding := 0, awaiting := es.map Prod.snd
      replacing := rep }).emit (p.2 ++ es.map fun x => .effect x.1)

section

variable {u : State} {q : Notices} {r : NoticeRec} {bytes : List Byte} {w : Windows} {m : Nat}

/-- A notice that sends effects waits for their answers, and ends at once where there are none. -/
theorem noticesDo_await (hw : u.path.windows = w) (es : List (Effect × Awaited)) (rep : Bool) (p : Notices × List Out) :
    u.noticesDo (andThen (p.1.checked r bytes rep, p.2)
      (Notices.await w r (es.map fun x => .effect x.1) (es.map Prod.snd))) =
      if es = [] then endsNotice u (andThen (p.1.checked r bytes rep, p.2) (Notices.concluded r none))
      else waitsFor u r bytes p es rep := by
  by_cases hes : es = []
  · subst hes
    rw [if_pos rfl, ← noticesDo_finish hw]
    simp only [List.map_nil, andThen, await_of_nil, List.append_assoc]
  · rw [if_neg hes]
    have hne : es.map Prod.snd ≠ [] := by simpa using hes
    simp only [andThen, await_of_some hne]
    rfl

theorem andThen_nil {σ : Type} (x : σ) (f : σ → σ × List Out) : andThen (x, []) f = f x := rfl

/-- An unlisted record (R61, R62, R63, R65). -/
theorem process_unlisted_does (hw : u.path.windows = w) (hl : ∀ o ∈ q.list, o.ident ≠ r.ident) :
    (r.kind = .withdraw → u.noticesDo (({ q with textBytes := bytes, outstanding := 0 } : Notices).process w m r) =
      endsNotice u (q, [.event .notFound])) ∧
    (r.kind = .info ∨ r.kind = .alert → u.noticesDo (({ q with textBytes := bytes, outstanding := 0 } : Notices).process w m r) =
      endsNotice u (q.enter (r.notice (textOf r.textAddr r.textLen bytes) 0))) ∧
    (r.kind = .delay ∨ r.kind = .cancel → u.noticesDo (({ q with textBytes := bytes, outstanding := 0 } : Notices).process w m r) =
      waitsFor u r bytes (q, []) (ownEffects r) false) := by
  have hgo := noticesDo_await (u := u) (r := r) (bytes := bytes) hw (ownEffects r) false (q, [])
  have hprocess (hkind : r.kind ≠ .withdraw) :=
    process_unlisted (w := w) (m := m) (q := { q with textBytes := bytes, outstanding := 0 }) hkind hl
  rw [andThen_nil] at hgo
  simp only [effectOuts_eq, effectAwaited_eq] at hprocess
  refine ⟨fun hkind => ?_, fun hkind => ?_, fun hkind => ?_⟩
  · rw [process_withdraw hkind,
      withdraw_of_unlisted (q := { q with textBytes := bytes, outstanding := 0, record := some r }) hl, noticesDo_finish hw]
    rfl
  · have hnot : r.kind ≠ .withdraw := by rcases hkind with h | h <;> simp [h]
    have hnone : ownEffects r = [] := by rcases hkind with h | h <;> simp [ownEffects, h]
    rw [hprocess hnot]
    refine hgo.trans ?_
    rw [if_pos hnone, andThen_nil, concluded_none hnot]
    exact (endsNotice_takeIn (w := q.checked r bytes false) (q := q)).1 (.inl rfl)
  · have hnot : r.kind ≠ .withdraw := by rcases hkind with h | h <;> simp [h]
    have hsome : ownEffects r ≠ [] := by rcases hkind with h | h <;> simp [ownEffects, h]
    rw [hprocess hnot]
    exact hgo.trans (if_neg hsome)

variable {a b : List Notice} {old : Notice}

/-- A record whose key does not open the listed notice (R64 to R66). -/
theorem process_shut_does (hw : u.path.windows = w) (hl : q.list = a ++ old :: b) (hold : old.ident = r.ident)
    (hothers : ∀ o ∈ a ++ b, o.ident ≠ r.ident)
    (hshut : ¬ opens m old r.key ∨ (r.kind = .withdraw ∧ r.ident = houseId)) :
    u.noticesDo (({ q with textBytes := bytes, outstanding := 0 } : Notices).process w m r) =
      endsNotice u (q, [.event .keyMismatch]) := by
  by_cases hkind : r.kind = .withdraw
  · rw [process_withdraw hkind, withdraw_of_shut (q := { q with textBytes := bytes, outstanding := 0, record := some r }) hl hold
      hothers (hshut.symm.imp_left And.right), noticesDo_finish hw]
    rfl
  · have hnot : ¬ opens m old r.key := hshut.resolve_right fun h => hkind h.1
    rw [process_shut (q := { q with textBytes := bytes, outstanding := 0 }) hkind hl hold hothers hnot, noticesDo_finish hw]
    rfl

/-- A WITHDRAW that opens the listed notice (R65). -/
theorem process_withdraw_does (hw : u.path.windows = w) (hl : q.list = a ++ old :: b) (hold : old.ident = r.ident)
    (hothers : ∀ o ∈ a ++ b, o.ident ≠ r.ident) (hopen : opens m old r.key) (hkind : r.kind = .withdraw) (hhouse : r.ident ≠ houseId) :
    u.noticesDo (({ q with textBytes := bytes, outstanding := 0 } : Notices).process w m r) =
      if leavingEffects old = [] then endsNotice u (q.change (a ++ b) [old.mask])
      else waitsFor u r bytes (q.change (a ++ b) [old.mask]) (leavingEffects old) q.replacing := by
  have hgo := noticesDo_await (u := u) (r := r) (bytes := bytes) hw (leavingEffects old) q.replacing (q.change (a ++ b) [old.mask])
  rw [process_withdraw hkind, withdraw_of_open (q := { q with textBytes := bytes, outstanding := 0, record := some r }) hl hold
    hothers hopen hhouse, undelayOuts_eq, undelayAwaited_eq]
  refine hgo.trans ?_
  split
  · simp only [andThen, concluded_withdraw hkind, List.append_nil]
    rfl
  · rfl

/-- A replacement that opens the listed notice (R66). -/
theorem process_open_does (hw : u.path.windows = w) (hl : q.list = a ++ old :: b) (hold : old.ident = r.ident)
    (hothers : ∀ o ∈ a ++ b, o.ident ≠ r.ident) (hopen : opens m old r.key) (hkind : r.kind ≠ .withdraw) :
    u.noticesDo (({ q with textBytes := bytes, outstanding := 0 } : Notices).process w m r) =
      if leavingEffects old ++ ownEffects r = [] then
        endsNotice u ((q.checked r bytes true).takeIn (r.notice (textOf r.textAddr r.textLen bytes) 0))
      else waitsFor u r bytes (q, []) (leavingEffects old ++ ownEffects r) true := by
  have hgo := noticesDo_await (u := u) (r := r) (bytes := bytes) hw (leavingEffects old ++ ownEffects r) true (q, [])
  rw [process_open (q := { q with textBytes := bytes, outstanding := 0 }) hkind hl hold hothers hopen, undelayOuts_eq,
    undelayAwaited_eq, effectOuts_eq, effectAwaited_eq, ← List.map_append, ← List.map_append]
  refine hgo.trans ?_
  rw [andThen_nil, concluded_none hkind]
  rfl

end

end Sys2Proof.Machine
end

section
/-! NOTICE_RECORD_DONE and NOTICE_TEXT_DONE: records checked, texts read, abandoned notices discarded (R54, R55, R58). -/

namespace Sys2Proof.Machine

/-! ### The checks of a record (R58) -/

theorem byteAt_lt (bs : List Byte) (i : Nat) : byteAt bs i < 256 := (bs.getD i 0).isLt

theorem le16At_lt (bs : List Byte) (i : Nat) : le16At bs i < 65536 := by
  have h := byteAt_lt bs i
  have h' := byteAt_lt bs (i + 1)
  unfold le16At
  omega

/-- A notice kind, desk, id and minutes that R58 refuses. -/
def badNotice (kind desk id minutes : Nat) : Prop :=
  4 < kind ∨ (kind ≤ 3 ∧ (desk = 0 ∨ 8 < desk)) ∨ (kind = 4 ∧ 8 < desk) ∨
    ((id = 0 ∨ id = 65535) ∧ ¬ (kind = 4 ∧ desk = 0)) ∨ (kind = 1 ∧ minutes = 0)

theorem noticePasses_iff {kind : NoticeKind} {desk id minutes : Nat} (hid : id < 65536) :
    noticePasses kind desk id minutes = true ↔ ¬ badNotice kind.code desk id minutes := by
  cases kind <;> simp [noticePasses, badNotice, NoticeKind.code] <;> omega

theorem ofCode_code (kind : NoticeKind) : NoticeKind.ofCode? kind.code = some kind := by cases kind <;> rfl

theorem code_of_ofCode {c : Nat} {kind : NoticeKind} (h : NoticeKind.ofCode? c = some kind) : kind.code = c := by
  unfold NoticeKind.ofCode? at h
  split at h <;> cases h <;> rfl

theorem ofCode_eq_none {c : Nat} : NoticeKind.ofCode? c = none ↔ 4 < c := by
  constructor
  · intro h
    by_contra hle
    obtain ⟨kind, hkind⟩ : ∃ kind : NoticeKind, kind.code = c := by
      have : c < 5 := by omega
      interval_cases c
      exacts [⟨.info, rfl⟩, ⟨.delay, rfl⟩, ⟨.cancel, rfl⟩, ⟨.alert, rfl⟩, ⟨.withdraw, rfl⟩]
    rw [← hkind, ofCode_code] at h
    cases h
  · intro h
    cases hc : NoticeKind.ofCode? c with
    | none => rfl
    | some kind =>
      have := code_of_ofCode hc
      cases kind <;> simp [NoticeKind.code] at this <;> omega

/-- A record that R58 refuses. -/
theorem noticeRecord_bad {bs : List Byte} (h : badNotice (byteAt bs 0) (byteAt bs 2) (le16At bs 4) (le16At bs 14)) :
    noticeRecord bs = none := by
  unfold noticeRecord
  cases hc : NoticeKind.ofCode? (byteAt bs 0) with
  | none => rfl
  | some kind =>
    rw [← code_of_ofCode hc] at h
    have hpass : ¬ noticePasses kind (byteAt bs 2) (le16At bs 4) (le16At bs 14) = true := by
      rw [noticePasses_iff (le16At_lt _ _)]
      exact not_not.2 h
    simp only [if_neg hpass]

/-- A record that passes, and its fields (R57). -/
theorem noticeRecord_good {bs : List Byte} (h : ¬ badNotice (byteAt bs 0) (byteAt bs 2) (le16At bs 4) (le16At bs 14)) :
    ∃ r, noticeRecord bs = some r ∧ r.kind.code = byteAt bs 0 ∧ r.ident = { desk := byteAt bs 2, id := le16At bs 4 } ∧
      r.textLen = min 240 (le16At bs 18) ∧ r.textAddr = BitVec.ofNat 32 (le32At bs 20) ∧ r.minutes = min 240 (le16At bs 14) := by
  cases hc : NoticeKind.ofCode? (byteAt bs 0) with
  | none => exact absurd (.inl (ofCode_eq_none.1 hc)) h
  | some kind =>
    have hpass : noticePasses kind (byteAt bs 2) (le16At bs 4) (le16At bs 14) = true := by
      rw [noticePasses_iff (le16At_lt _ _), code_of_ofCode hc]
      exact h
    simp only [noticeRecord, hc, hpass, if_true]
    exact ⟨_, rfl, code_of_ofCode hc, rfl, rfl, rfl, rfl⟩

/-! ### Text reads (R55) -/

/-- The reads of a text: its aligned beats, up to 8 at a time. -/
def textReqs (addr : Addr) (beats : Nat) : List AgentReq :=
  (List.range ((beats + 7) / 8)).map fun i =>
    { cls := .record, write := false, addr := BitVec.ofNat 32 (addr.toNat / 8 * 8 + 64 * i), beats := min 8 (beats - 8 * i)
      data := [], tag := .noticeText }

theorem textReads_eq (addr : Addr) (len : Nat) : textReads addr len = (textReqs addr (textBeats addr len)).map .agent := by
  unfold textReads textReqs
  rw [List.map_map]
  refine List.map_congr_left fun i _ => ?_
  have haddr : beatAddr (textBase addr) (8 * i) = BitVec.ofNat 32 (addr.toNat / 8 * 8 + 64 * i) := by
    unfold beatAddr textBase
    rw [BitVec.ofNat_add, show 8 * (8 * i) = 64 * i by omega]
  simp only [agentRead, haddr, Function.comp_apply]

theorem emit_records (s : State) {reqs : List AgentReq} (h : ∀ r ∈ reqs, r.cls = .record) :
    s.emit (reqs.map .agent) = s.withPath { s.path with recordQ := s.path.recordQ ++ reqs } := by
  induction reqs generalizing s with
  | nil => simp [State.withPath]
  | cons r reqs ih =>
    have hone : s.send (.agent r) = s.withPath { s.path with recordQ := s.path.recordQ ++ [r] } := by
      have := emit_read s (h r List.mem_cons_self)
      rwa [emit_cons, emit_nil] at this
    rw [List.map_cons, emit_cons, hone, ih _ fun r' hr' => h r' (List.mem_cons_of_mem _ hr')]
    simp only [State.withPath, List.append_assoc, List.singleton_append]

theorem recordDone_of_text {w : Windows} {m : Nat} {bs : List Byte} {q : Notices} {r : NoticeRec} (hrec : noticeRecord bs = some r)
    (hneeds : r.needsText = true) : q.recordDone w m bs false =
      ({ q with reader := .text, record := some r, textBytes := [], textErr := false
                outstanding := (textBeats r.textAddr r.textLen + 7) / 8 }, textReads r.textAddr r.textLen) := by
  have hlen : (textReads r.textAddr r.textLen).length = (textBeats r.textAddr r.textLen + 7) / 8 := by simp [textReads]
  simp only [Notices.recordDone, hrec, hneeds, if_true, hlen, Bool.false_eq_true, if_false]

theorem recordDone_of_error {w : Windows} {m : Nat} {bs : List Byte} {q : Notices} : q.recordDone w m bs true = q.finish w := rfl

theorem recordDone_of_bad {w : Windows} {m : Nat} {bs : List Byte} {q : Notices} (h : noticeRecord bs = none) :
    q.recordDone w m bs false = andThen (q, [.event .badNotice]) (Notices.finish w) := by
  simp only [Notices.recordDone, h, Bool.false_eq_true, if_false]

theorem textDone_of_more {w : Windows} {m : Nat} {bs : List Byte} {err : Bool} {q : Notices} (h : 1 < q.outstanding) :
    q.textDone w m bs err =
      ({ q with textBytes := q.textBytes ++ bs, textErr := q.textErr || err, outstanding := q.outstanding - 1 }, []) := by
  have hne : q.outstanding - 1 ≠ 0 := by omega
  simp only [Notices.textDone, if_neg hne]

theorem textDone_of_failed {w : Windows} {m : Nat} {bs : List Byte} {err : Bool} {q : Notices} (h : q.outstanding = 1)
    (herr : err = true ∨ q.textErr = true) : q.textDone w m bs err =
      Notices.finish w { q with textBytes := q.textBytes ++ bs, textErr := true, outstanding := 0 } := by
  have htrue : (q.textErr || err) = true := by rcases herr with h | h <;> simp [h]
  simp only [Notices.textDone, h, htrue, if_true]

theorem discardOne_eq (w : Windows) (q : Notices) : q.discardOne w =
    if q.outstanding ≤ 1 then beginsNext w.noticeBase q.toIdle else ({ q with outstanding := q.outstanding - 1 }, []) := by
  unfold Notices.discardOne
  rw [begin_eq_beginsNext rfl]

theorem mailed_finish (s : State) (m : Mail) (p : Notices × List Out) :
    (s.withMail m).noticesDo (andThen p (Notices.finish s.path.windows)) = endsNotice (s.withMail m) p := noticesDo_finish rfl p

theorem mailed_finish_only (s : State) (m : Mail) (q : Notices) :
    (s.withMail m).noticesDo (q.finish s.path.windows) = endsNotice (s.withMail m) (q, []) := noticesDo_finish rfl (q, [])

/-- Settles O37. -/
theorem noticesAreReadAndChecked : Obligations.NoticesAreReadAndChecked := by
  refine ⟨fun s data rest q bs bytes c r n u waits hq hbs hcase hu hn hwaits => ?_, fun s data err rest q base bs hq hbase hbs => ?_⟩
  · subst hq hbs
    have hrun := processed hcase
    have hw : u.path.windows = s.path.windows := by rw [hu]; rfl
    rw [← hu] at hrun
    have hn' : n = r.notice (textOf r.textAddr r.textLen bytes) 0 := hn
    have hwaits' : ∀ p es rep, waits p es rep = waitsFor u r bytes p es rep := hwaits
    refine ⟨fun hl => ?_, fun a old b hl hold hothers => ⟨fun hshut => ?_, fun hopen hkind hhouse => ?_, fun hopen hkind => ?_⟩⟩
    · obtain ⟨hwithdraw, henter, hwait⟩ := process_unlisted_does (bytes := bytes) (m := s.params.managerKey) hw hl
      exact ⟨fun h => hrun.trans (congrArg (goOn s) (hwithdraw h)),
        fun h => hn' ▸ hrun.trans (congrArg (goOn s) (henter h)),
        fun h => hrun.trans (congrArg (goOn s) ((hwait h).trans (hwaits' _ _ _).symm))⟩
    · exact hrun.trans (congrArg (goOn s) (process_shut_does hw hl hold hothers hshut))
    · have hdoes := process_withdraw_does (bytes := bytes) hw hl hold hothers hopen hkind hhouse
      refine ⟨fun hnone => ?_, fun hsome => ?_⟩
      · exact hrun.trans (congrArg (goOn s) (hdoes.trans (if_pos hnone)))
      · exact hrun.trans (congrArg (goOn s) ((hdoes.trans (if_neg hsome)).trans (hwaits' _ _ _).symm))
    · have hdoes := process_open_does (bytes := bytes) hw hl hold hothers hopen hkind
      refine ⟨fun hsome => ?_, fun hnone => ?_⟩
      · exact hrun.trans (congrArg (goOn s) ((hdoes.trans (if_neg hsome)).trans (hwaits' _ _ _).symm))
      · rw [if_pos hnone, ← hn'] at hdoes
        have hident : n.ident = r.ident := by rw [hn]; rfl
        rw [← hident] at hold
        rw [← hident] at hothers
        obtain ⟨hexp, hlive⟩ := (endsNotice_takeIn (u := u) (w := s.notices.checked r bytes true) (q := s.notices) (n := n)).2
          a old b rfl hl hold hothers
        exact ⟨fun e he hle => hrun.trans (congrArg (goOn s) (hdoes.trans (hexp e he hle))),
          fun h f g hsplit hf hg => hrun.trans (congrArg (goOn s) (hdoes.trans (hlive h f g hsplit hf hg)))⟩
  · subst hq hbase hbs
    refine ⟨fun hmsg hreader kind desk id minutes len addr bad hkind hdesk hid hminutes hlen haddr hbad => ⟨fun h => ?_,
      fun herr hok hkind3 hpos hend beats hbeats => ?_⟩, fun hmsg hreader => ⟨fun hmore => ?_, fun hlast herr => ?_⟩,
      fun tag htag hmsg hreader next hnext => ?_⟩
    · have hrun := recordDone_run hmsg hreader
      refine congrArg (goOn s) ?_
      cases err with
      | true =>
        rw [recordDone_of_error, mailed_finish_only] at hrun
        rw [hrun, if_pos rfl, List.append_nil]
      | false =>
        have hb : badNotice (byteAt (beatsBytes data) 0) (byteAt (beatsBytes data) 2) (le16At (beatsBytes data) 4)
            (le16At (beatsBytes data) 14) := by
          have := h.resolve_left (by simp)
          rw [hbad, hkind, hdesk, hid, hminutes] at this
          exact this
        rw [recordDone_of_bad (noticeRecord_bad hb), mailed_finish, endsNotice_event] at hrun
        exact hrun
    · subst herr
      have hnb : ¬ badNotice (byteAt (beatsBytes data) 0) (byteAt (beatsBytes data) 2) (le16At (beatsBytes data) 4)
          (le16At (beatsBytes data) 14) := by
        rw [hbad, hkind, hdesk, hid, hminutes] at hok
        exact hok
      obtain ⟨r, hrec, hcode, hident, htextLen, htextAddr, hmin⟩ := noticeRecord_good hnb
      rw [← hlen] at htextLen
      rw [← haddr] at htextAddr
      have hneeds : r.needsText = true := by
        have hnot : r.kind ≠ .withdraw := fun hw => by
          rw [hw, ← hkind] at hcode
          simp only [NoticeKind.code] at hcode
          omega
        simp only [NoticeRec.needsText, textFits, htextLen, htextAddr, hnot, ne_eq, not_false_eq_true, decide_true, Bool.true_and,
          Bool.and_eq_true, decide_eq_true_eq]
        exact ⟨hpos, hend⟩
      have hbeats' : textBeats r.textAddr r.textLen = beats := by rw [htextLen, htextAddr, hbeats]; rfl
      have hrun := recordDone_run hmsg hreader
      rw [recordDone_of_text hrec hneeds, textReads_eq, hbeats', htextAddr, noticesDo_eq,
        emit_records _ fun r' hr' => by obtain ⟨i, _, rfl⟩ := List.mem_map.1 hr'; rfl] at hrun
      refine ⟨_, r, rfl, (noticeRecordDone_frame s).commit, hrec, ?_, htextLen, htextAddr, ?_, ?_⟩
      · rw [hident, hdesk, hid]
      · rw [hmin, hminutes]
      · simp only [commit_mail, commit_notices, commit_path, hrun]
        exact ⟨rfl, rfl, rfl⟩
    · have hrun := textDone_run hmsg hreader
      rw [textDone_of_more hmore, noticesDo_eq, emit_nil] at hrun
      exact congrArg (goOn s) hrun
    · have hrun := textDone_run hmsg hreader
      rw [textDone_of_failed hlast herr, mailed_finish_only] at hrun
      exact congrArg (goOn s) hrun
    · have hdiscard : (s.notices.discardOne s.path.windows) = next := by rw [discardOne_eq, hnext]
      rcases htag with rfl | rfl
      · have hrun : noticeRecordDone s = (s.withMail { s.mail with noticeResp := rest }).noticesDo next := by
          simp only [noticeRecordDone, State.popNoticeResp, hmsg, hreader, List.tail_cons, hdiscard]
        exact congrArg (goOn s) hrun
      · have hrun : noticeTextDone s = (s.withMail { s.mail with noticeResp := rest }).noticesDo next := by
          simp only [noticeTextDone, State.popNoticeResp, hmsg, hreader, List.tail_cons, hdiscard]
        exact congrArg (goOn s) hrun

end Sys2Proof.Machine
end

section
/-! Notices leaving by time, by show and by seats; the house lines and the rotations (R67 to R74). -/

namespace Sys2Proof.Machine

/-! ### Notices that leave together (R67, R68) -/

theorem remove_congr {q : Notices} {p p' : Notice → Bool} (h : ∀ n ∈ q.list, p n = p' n) : q.remove p = q.remove p' := by
  have hfilter : q.list.filter p = q.list.filter p' := List.filter_congr h
  have hnot : (q.list.filter fun n => !p n) = q.list.filter fun n => !p' n := List.filter_congr fun n hn => by rw [h n hn]
  have hany : q.list.any p = q.list.any p' := by
    rw [Bool.eq_iff_iff, List.any_eq_true, List.any_eq_true]
    exact ⟨fun ⟨n, hn, hp⟩ => ⟨n, hn, h n hn ▸ hp⟩, fun ⟨n, hn, hp⟩ => ⟨n, hn, (h n hn).trans hp⟩⟩
  simp only [Notices.remove, hfilter, hnot, hany]

theorem expiredAt_eq_any (m : Nat) (e : Option Nat) : expiredAt m e = e.any fun e => decide (e ≤ m) := by
  cases e <;> rfl

theorem automatic_iff (n : Notice) : n.automatic = true ↔ n.ident.desk = 0 ∧ n.ident.id ≠ 65535 := by
  obtain ⟨⟨desk, id⟩, _⟩ := n
  simp only [Notice.automatic, houseId, decide_eq_true_eq, ne_eq, NoticeId.mk.injEq, not_and]
  constructor
  · rintro ⟨h, h'⟩; exact ⟨h, h' h⟩
  · rintro ⟨h, h'⟩; exact ⟨h, fun _ => h'⟩

theorem sellingNow_iff (st : ShowState) : st.sellingNow = true ↔ st = .onSale ∨ st = .closing := by
  cases st <;> simp [ShowState.sellingNow]

/-- The table of R68 for a note that names a show. -/
theorem leavesBy_iff {note : ShowNote} (hid : note.id ≠ 0) (n : Notice) : n.leavesBy note = true ↔ n.show_ = note.id ∧
    ((n.automatic = true ∧ (note.change.removed = true ∨ (note.new ≠ .onSale ∧ note.new ≠ .closing))) ∨
      (n.automatic = false ∧ n.kind = .delay ∧
        (note.change.removed = true ∨ note.new = .started ∨ note.new = .cancelled ∨ note.new = .retired)) ∨
      (n.automatic = false ∧ n.kind = .cancel ∧ (note.change.removed = true ∨ note.new ≠ .cancelled))) := by
  have hselling : note.new.sellingNow = false ↔ note.new ≠ .onSale ∧ note.new ≠ .closing := by
    rw [← Bool.not_eq_true, sellingNow_iff, not_or]
  unfold Notice.leavesBy
  rw [Bool.and_eq_true, Bool.and_eq_true, decide_eq_true_eq, decide_eq_true_eq]
  cases hauto : n.automatic with
  | true => simp [hid, hselling]
  | false =>
    cases hkind : n.kind with
    | delay => cases note.new <;> simp [hid]
    | _ => simp [hid]

theorem minuteNote_run {s : State} {m : Nat} {rest : List NoticeMsg} (h : s.mail.toNotices = .minute m :: rest) :
    minuteNoteNotice s = (s.withMail { s.mail with toNotices := rest }).noticesDo (s.notices.minuteNote m) := by
  simp only [minuteNoteNotice, State.popNoticeMsg, h, List.tail_cons]

theorem showNote_run {s : State} {note : ShowNote} {rest : List NoticeMsg} (h : s.mail.toNotices = .note note :: rest) :
    noticeShowChangedNote s = (s.withMail { s.mail with toNotices := rest }).noticesDo
      (s.notices.showNote (s.tracker.entries.get note.slot).effStart note) := by
  simp only [noticeShowChangedNote, State.popNoticeMsg, h, List.tail_cons]

theorem showNote_of_same_start {eff : Nat} {note : ShowNote} {q : Notices} (h : note.change.start = false) :
    q.showNote eff note = q.remove fun n => n.leavesBy note := by
  unfold Notices.showNote
  simp [h]

/-- The list with the effective start as the expiry of the show's automatic notices (R68). -/
def Notices.dated (eff id : Nat) (q : Notices) : Notices :=
  { q with list := q.list.map fun n => if n.automatic = true ∧ n.show_ = id then { n with expiry := some eff } else n }

theorem showNote_of_new_start {eff : Nat} {note : ShowNote} {q : Notices} (h : note.change.start = true) (hid : note.id ≠ 0) :
    q.showNote eff note = (q.dated eff note.id).remove fun n => n.leavesBy note ||
      (n.automatic && decide (n.show_ = note.id) && decide (eff ≤ q.lastMinute)) := by
  have hlist : (q.list.map fun n => if (note.change.start && decide (note.id ≠ 0) && n.automatic && decide (n.show_ = note.id)) = true
      then { n with expiry := some eff } else n) = (q.dated eff note.id).list := by
    refine List.map_congr_left fun n _ => ?_
    simp [h, hid]
  unfold Notices.showNote
  simp only [hlist]
  refine remove_congr (q := q.dated eff note.id) fun n hn => ?_
  obtain ⟨n0, _, rfl⟩ := List.mem_map.1 hn
  by_cases hd : n0.automatic = true ∧ n0.show_ = note.id
  · rw [if_pos hd]
    simp [h, hid, hd, expiredAt]
  · rw [if_neg hd]
    have hfalse : (n0.automatic && decide (n0.show_ = note.id)) = false := by
      rw [← Bool.not_eq_true, Bool.and_eq_true, decide_eq_true_eq]; exact hd
    simp only [h, Bool.true_and, Bool.and_assoc, hfalse, Bool.false_and, Bool.and_false, Bool.or_false]

/-! ### The automatic notice (R70) -/

theorem seatsNote_run {s : State} {note : SeatsNote} {rest : List SeatsNote} (h : s.mail.seatsToNotices = note :: rest) :
    noticeSeatsChangedNote s = (s.withMail { s.mail with seatsToNotices := rest }).noticesDo
      (s.notices.seatsNote s.params (s.tracker.entries.get note.show_) note) := by
  simp only [noticeSeatsChangedNote, h]

theorem seatsNote_of_sold_out {p : Params} {e : ShowEntry} {note : SeatsNote} {q : Notices} (hnew : note.new = .soldOut)
    (hold : note.old ≠ .soldOut) : q.seatsNote p e note =
      if p.autoSoldOut = true ∧ e.state.sellingNow = true ∧ (q.find { desk := 0, id := note.id }).isNone = true ∧ note.id ≠ 0 then
        q.enter (soldOutNotice p.autoPriority note.id e.effStart)
      else (q, []) := by
  simp only [Notices.seatsNote, hnew, hold, ne_eq, not_false_eq_true, and_self, if_true]

theorem seatsNote_of_open {p : Params} {e : ShowEntry} {note : SeatsNote} {q : Notices} (hold : note.old = .soldOut)
    (hnew : note.new ≠ .soldOut) :
    q.seatsNote p e note = q.remove fun n => n.automatic && decide (n.show_ = note.id) := by
  simp only [Notices.seatsNote, hnew, hold, ne_eq, not_true_eq_false, if_false, not_false_eq_true, and_self, if_true]

theorem seatsNote_of_same {p : Params} {e : ShowEntry} {note : SeatsNote} {q : Notices}
    (h : note.new = .soldOut ∧ note.old = .soldOut ∨ note.new ≠ .soldOut ∧ note.old ≠ .soldOut) : q.seatsNote p e note = (q, []) := by
  rcases h with ⟨hnew, hold⟩ | ⟨hnew, hold⟩ <;> simp [Notices.seatsNote, hnew, hold]

theorem find_isNone_iff (q : Notices) (x : NoticeId) : (q.find x).isNone = true ↔ ∀ n ∈ q.list, n.ident ≠ x := by
  simp [Notices.find]

theorem index_of_autoSoldOut {e : Entry} (h : e.row = .autoSoldOut) : Index.of e.index = .simple .autoSoldOut :=
  index_of_simpleRow (p := .autoSoldOut) h

theorem autoSoldOut_run {s : State} {e : Entry} (he : s.entry = some e) (hrow : e.row = .autoSoldOut) :
    autoSoldOutWrite s = (if s.params.autoSoldOut = true ∧ (s.masked e).toNat = 0 then
      (s.takeEntry.storeSimple .autoSoldOut (s.masked e)).noticesDo (s.notices.remove Notice.automatic)
      else s.takeEntry.storeSimple .autoSoldOut (s.masked e)).paramResult e (s.masked e) := by
  have hstored : (s.takeEntry.storeSimple .autoSoldOut (s.masked e)).params.autoSoldOut = decide ((s.masked e).toNat ≠ 0) := by
    simp only [storeSimple_eq, State.withParams_params, Params.setSimple, Params.clampSimple]
    exact decide_eq_decide.2 (by omega)
  have hcond : (s.params.autoSoldOut && !(s.takeEntry.storeSimple .autoSoldOut (s.masked e)).params.autoSoldOut) = true ↔
      s.params.autoSoldOut = true ∧ (s.masked e).toNat = 0 := by
    rw [hstored]; simp
  simp only [autoSoldOutWrite, he, hrow, hcond]
  rfl

theorem autoSoldOut_stored (s : State) (e : Entry) : s.takeEntry.storeSimple .autoSoldOut (s.masked e) =
    s.takeEntry.withParams { s.params with autoSoldOut := decide ((s.masked e).toNat ≠ 0) } := by
  have hstored : decide (min 1 (s.masked e).toNat = 1) = decide ((s.masked e).toNat ≠ 0) := decide_eq_decide.2 (by omega)
  rw [← hstored]
  rfl

/-- What an AUTO_SOLD_OUT entry answers. -/
theorem autoSoldOut_result {s u : State} {e : Entry} (hrow : e.row = .autoSoldOut)
    (hu : u.params = (s.takeEntry.storeSimple .autoSoldOut (s.masked e)).params) : u.paramResult e (s.masked e) =
      u.result e.index (if (s.masked e).toNat = 0 then 0 else 1) (if (s.masked e).toNat ≤ 1 then .applied else .clamped) := by
  rw [paramResult_simple (p := s.params) (index_of_autoSoldOut hrow) rfl hu, if_neg (by simp)]
  have hclamp : s.params.clampSimple .autoSoldOut (s.masked e).toNat = min 1 (s.masked e).toNat := rfl
  rw [hclamp]
  congr 1
  · split
    · rename_i h; rw [h]; rfl
    · rename_i h; rw [show min 1 (s.masked e).toNat = 1 by omega]; rfl
  · exact if_congr (by omega) rfl rfl

/-- Settles O39. -/
theorem noticesLeaveByTimeShowAndSeats : Obligations.NoticesLeaveByTimeShowAndSeats := by
  refine ⟨fun q test => ⟨remove_of_none, remove_of_some⟩, fun s m rest p hmsg hp => ?_,
    fun s note rest eff auto leaves hmsg hid heff hauto hleaves => ⟨fun hstart p hp => ?_, fun hstart list p hlist hp => ?_⟩,
    fun s note rest e hmsg he => ⟨fun hnew hold hset hstate hid hnone p hp => ?_, fun hold hnew p hp => ?_, fun hnothing => ?_⟩,
    fun s e v he hrow hv => ⟨fun hkept => ?_, fun hset hv0 p hp => ?_⟩⟩
  · have hrun := minuteNote_run hmsg
    have hremove : s.notices.minuteNote m = p := by
      rw [hp]
      exact congrArg (fun f => Notices.remove f _) (funext fun n => expiredAt_eq_any m n.expiry)
    rw [hremove] at hrun
    exact congrArg (goOn s) hrun
  · have hrun := showNote_run hmsg
    obtain rfl : auto = Notice.automatic := funext fun n => Bool.eq_iff_iff.2 ((hauto n).trans (automatic_iff n).symm)
    have hleaves' : leaves = fun n => n.leavesBy note :=
      funext fun n => Bool.eq_iff_iff.2 ((hleaves n).trans (leavesBy_iff hid n).symm)
    rw [showNote_of_same_start hstart, ← hleaves', ← hp] at hrun
    exact congrArg (goOn s) hrun
  · have hrun := showNote_run hmsg
    obtain rfl : auto = Notice.automatic := funext fun n => Bool.eq_iff_iff.2 ((hauto n).trans (automatic_iff n).symm)
    obtain rfl : leaves = fun n => n.leavesBy note :=
      funext fun n => Bool.eq_iff_iff.2 ((hleaves n).trans (leavesBy_iff hid n).symm)
    have hdated : ({ s.notices with list := list } : Notices) = s.notices.dated eff note.id := by rw [hlist]; rfl
    rw [hdated] at hp
    rw [← heff, showNote_of_new_start hstart hid, ← hp] at hrun
    exact congrArg (goOn s) hrun
  · have hrun := seatsNote_run hmsg
    have hyes : s.params.autoSoldOut = true ∧ e.state.sellingNow = true ∧
        (s.notices.find { desk := 0, id := note.id }).isNone = true ∧ note.id ≠ 0 :=
      ⟨hset, (sellingNow_iff _).2 hstate, (find_isNone_iff _ _).2 hnone, hid⟩
    rw [seatsNote_of_sold_out hnew hold, ← he, if_pos hyes] at hrun
    exact hp ▸ congrArg (goOn s) hrun
  · have hrun := seatsNote_run hmsg
    have htest : (fun n : Notice => n.automatic && decide (n.show_ = note.id)) =
        fun n => decide (n.ident.desk = 0 ∧ n.ident.id ≠ 65535 ∧ n.show_ = note.id) := funext fun n => Bool.eq_iff_iff.2 <| by
      rw [Bool.and_eq_true, automatic_iff, decide_eq_true_eq, decide_eq_true_eq, and_assoc]
    rw [seatsNote_of_open hold hnew, htest, ← hp] at hrun
    exact congrArg (goOn s) hrun
  · have hrun := seatsNote_run hmsg
    have hnone : s.notices.seatsNote s.params (s.tracker.entries.get note.show_) note = (s.notices, []) := by
      by_cases hsame : note.new = .soldOut ∧ note.old = .soldOut ∨ note.new ≠ .soldOut ∧ note.old ≠ .soldOut
      · exact seatsNote_of_same hsame
      · obtain ⟨hnew, hwhy⟩ := hnothing.resolve_right fun h => hsame (.inr h)
        have hold : note.old ≠ .soldOut := fun h => hsame (.inl ⟨hnew, h⟩)
        rw [seatsNote_of_sold_out hnew hold, if_neg]
        rintro ⟨hset, hselling, hfind, _⟩
        rcases hwhy with h | h | ⟨h, h'⟩ | ⟨n, hn, hident⟩
        · exact hold h
        · rw [hset] at h; cases h
        · rw [← he] at hselling
          exact ((sellingNow_iff _).1 hselling).elim h h'
        · exact (find_isNone_iff _ _).1 hfind n hn hident
    rw [hnone] at hrun
    exact congrArg (goOn s) hrun
  · have hrun := autoSoldOut_run he hrow
    have hnot : ¬ (s.params.autoSoldOut = true ∧ (s.masked e).toNat = 0) := by
      rw [← hv]; rintro ⟨h, h'⟩; rcases hkept with hk | hk <;> simp_all
    rw [if_neg hnot, autoSoldOut_result hrow rfl, autoSoldOut_stored, ← hv] at hrun
    exact congrArg (goOn s) hrun
  · have hrun := autoSoldOut_run he hrow
    have htest : Notice.automatic = fun n => decide (n.ident.desk = 0 ∧ n.ident.id ≠ 65535) :=
      funext fun n => Bool.eq_iff_iff.2 <| by rw [automatic_iff, decide_eq_true_eq]
    have hparams : ((s.takeEntry.storeSimple .autoSoldOut (s.masked e)).noticesDo p).params =
        (s.takeEntry.storeSimple .autoSoldOut (s.masked e)).params := emit_params _ _
    rw [if_pos ⟨hset, hv ▸ hv0⟩, htest, ← hp, autoSoldOut_result hrow hparams, autoSoldOut_stored, ← hv, hv0] at hrun
    exact congrArg (goOn s) hrun

end Sys2Proof.Machine
end

section
/-! The house lines, hush and the banner rotations (R72 to R74). -/

namespace Sys2Proof.Machine

/-! ### The lines -/

theorem enterHouse_of_room {q : Notices} {a b : List Notice} (h : q.list = a ++ b) (hroom : q.list.length < 16)
    (ha : ∀ n ∈ a, 7 ≤ n.priority) (hb : ∀ n ∈ b, n.priority < 7) : q.enterHouse = q.change (a ++ houseAlert :: b) [0] := by
  rw [Notices.enterHouse, if_pos hroom, h, placeNotice_split ha hb]
  rfl

theorem enterHouse_of_full {q : Notices} {a b : List Notice} {z : Notice} (h : q.list = a ++ b ++ [z]) (hfull : 16 ≤ q.list.length)
    (ha : ∀ n ∈ a, 7 ≤ n.priority) (hb : ∀ n ∈ b, n.priority < 7) :
    q.enterHouse = ((q.change (a ++ houseAlert :: b) [0, z.mask]).1,
      .event .noticeEvicted :: (q.change (a ++ houseAlert :: b) [0, z.mask]).2) := by
  have hlast : q.list.getLast? = some z := by rw [h]; simp
  have hdrop : q.list.dropLast = a ++ b := by rw [h]; exact List.dropLast_concat
  rw [Notices.enterHouse, if_neg (not_lt.2 hfull)]
  simp only [Notices.evictFor, andThen, hlast, hdrop]
  rw [placeNotice_split ha hb]
  rfl

theorem alertLineAsserted_run {s : State} (hdue : s.notices.alertLine.due = true) (hlevel : s.notices.alertLine.level = false) :
    alertLineAsserted s = s.noticesDo ({ s.notices with alertLine := s.notices.alertLine.flip } : Notices).enterHouse := by
  simp only [alertLineAsserted, hdue, hlevel, Bool.not_false, Bool.and_self, if_true]
  rfl

theorem alertLineDeasserted_run {s : State} (hdue : s.notices.alertLine.due = true) (hlevel : s.notices.alertLine.level = true) :
    alertLineDeasserted s = s.noticesDo (({ s.notices with alertLine := s.notices.alertLine.flip } : Notices).remove
      fun n => decide (n.ident = houseId)) := by
  simp only [alertLineDeasserted, hdue, hlevel, Bool.and_self, if_true]
  rfl

theorem hushLineChange_run {s : State} (hdue : s.notices.hushLine.due = true) : hushLineChange s =
    s.noticesDo s.notices.hushChange := by
  simp only [hushLineChange, hdue, if_true]

theorem isHouse_iff (n : Notice) : n.ident = houseId ↔ n.ident.desk = 0 ∧ n.ident.id = 65535 := by
  obtain ⟨⟨desk, id⟩, _⟩ := n
  simp [houseId]

/-! ### Rotations -/

theorem flatMap_single {α β : Type} [DecidableEq α] {xs : List α} (hxs : xs.Nodup) {i : α} (hi : i ∈ xs) (l : List β) :
    (xs.flatMap fun j => if j = i then l else []) = l := by
  induction xs with
  | nil => cases hi
  | cons x xs ih =>
    obtain ⟨hx, hnodup⟩ := List.nodup_cons.1 hxs
    rw [List.flatMap_cons]
    by_cases h : x = i
    · have hnone : (xs.flatMap fun j => if j = i then l else []) = [] := List.flatMap_eq_nil_iff.2 fun j hj => by
        rw [if_neg]
        rintro rfl
        exact hx (h ▸ hj)
      rw [if_pos h, hnone, List.append_nil]
    · rw [if_neg h, List.nil_append, ih hnodup ((List.mem_cons.1 hi).resolve_left (Ne.symm h))]

/-- One rotation changed sends its own pane's note alone (R76). -/
theorem bannerOuts_set (t : Table 128 Rotation) (sc : Fin 32) (p : Fin 4) (r : Rotation) :
    bannerOuts t (t.set (paneIx sc p) r) =
      if (t.get (paneIx sc p)).current = r.current then [] else [.noticeNote (.banner sc p)] := by
  rw [← flatMap_single (List.nodup_finRange 128) (List.mem_finRange (paneIx sc p))
    (if (t.get (paneIx sc p)).current = r.current then [] else [Out.noticeNote (.banner sc p)])]
  refine List.flatMap_congr fun j _ => ?_
  by_cases h : paneIx sc p = j
  · subst h
    rw [Table.get_set_self, if_pos rfl, paneScreen_paneIx, paneNo_paneIx]
  · rw [Table.get_set_of_ne _ h, if_pos rfl, if_neg (Ne.symm h)]

/-- With no two notices of one identity, a rotation goes on to the next eligible one in list order, wrapping (R74). -/
theorem followOn_same {l a b c d : List Notice} {o n : Notice} {x : NoticeId} {sc : Fin 32} {m : Nat} (hl : l = a ++ o :: b)
    (ho : o.ident = x) (hdistinct : l.Pairwise fun u v => u.ident ≠ v.ident) (hsplit : b ++ a ++ [o] = c ++ n :: d)
    (hn : n.eligible sc m = true) (hc : ∀ y ∈ c, y.eligible sc m = false) : followOn l l x sc m = some n := by
  have ha : ∀ y ∈ a, y.ident ≠ x := fun y hy => by
    rw [hl, List.pairwise_append] at hdistinct
    exact ho ▸ hdistinct.2.2 y hy o (by simp)
  have hone : ∀ y ∈ l, ∀ z ∈ l, y.ident = z.ident → y = z := fun y hy z hz h => by
    by_contra hne
    have : Std.Symm fun u v : Notice => u.ident ≠ v.ident := ⟨fun _ _ h => Ne.symm h⟩
    exact hdistinct.forall hy hz hne h
  have hnext : (b.findSome? fun o => l.find? fun n => decide (n.ident = o.ident) && n.eligible sc m) =
      b.find? fun n => n.eligible sc m := by
    have hsub : ∀ y ∈ b, y ∈ l := fun y hy => by rw [hl]; simp [hy]
    clear hsplit hl hdistinct
    induction b with
    | nil => rfl
    | cons y ys ih =>
      rw [List.findSome?_cons, List.find?_cons]
      cases hy : y.eligible sc m with
      | true =>
        have hfind : (l.find? fun n => decide (n.ident = y.ident) && n.eligible sc m) = some y := by
          cases hf : l.find? fun n => decide (n.ident = y.ident) && n.eligible sc m with
          | none => exact absurd (List.find?_eq_none.1 hf y (hsub y (by simp))) (by simp [hy])
          | some z =>
            have hz := List.find?_some hf
            rw [Bool.and_eq_true, decide_eq_true_eq] at hz
            rw [hone z (List.mem_of_find?_eq_some hf) y (hsub y (by simp)) hz.1]
        rw [hfind]
      | false =>
        have hfind : (l.find? fun n => decide (n.ident = y.ident) && n.eligible sc m) = none :=
          List.find?_eq_none.2 fun z hz => by
            rw [Bool.and_eq_true, decide_eq_true_eq]
            rintro ⟨hident, hz'⟩
            rw [hone z hz y (hsub y (by simp)) hident, hy] at hz'
            cases hz'
        rw [hfind]
        exact ih fun z hz => hsub z (List.mem_cons_of_mem _ hz)
  have hfirst : (b ++ a ++ [o]).find? (fun n => n.eligible sc m) = some n := firstEligible_eq hsplit hn hc
  rw [followOn, standAfter_eq hl ho ha, hnext, firstEligible, hl]
  rw [List.find?_append, List.find?_append] at hfirst
  rw [List.find?_append, List.find?_cons]
  cases hb : b.find? fun n => n.eligible sc m with
  | some y => rw [hb] at hfirst; exact hfirst
  | none =>
    rw [hb, Option.none_or] at hfirst
    rw [Option.none_or, ← hfirst]
    cases ho : o.eligible sc m <;> simp [ho]

theorem dwellExpiry_of_due {q : Notices} {i : Fin 128} {m : Nat} {x : NoticeId} {n : Notice}
    (hrot : q.rotations.get i = { banner := some m, current := some x, timer := 0 })
    (hnext : followOn q.list q.list x (paneScreen i) m = some n) : q.dwellExpiry i =
      ({ q with rotations := q.rotations.set i { banner := some m, current := some n.ident, timer := n.dwell * 1000 } },
        bannerOuts q.rotations
          (q.rotations.set i { banner := some m, current := some n.ident, timer := n.dwell * 1000 })) := by
  simp only [Notices.dwellExpiry, hrot, if_true, hnext]
  rfl

/-- A pane's rotation after its report (R74). -/
def reported (q : Notices) (sc : Fin 32) (banner : Option Nat) : Rotation :=
  match banner with
  | some m => ({ banner := some m, current := none, timer := 0 } : Rotation).load (firstEligible q.list sc m)
  | none => Rotation.reset

theorem paneReport_eq (q : Notices) (sc : Fin 32) (p : Fin 4) (banner : Option Nat) :
    q.paneReport { screen := sc, pane := p, banner := banner } =
      ({ q with rotations := q.rotations.set (paneIx sc p) (reported q sc banner) },
        bannerOuts q.rotations (q.rotations.set (paneIx sc p) (reported q sc banner))) := by
  cases banner <;> rfl

theorem reported_eq {q : Notices} {sc : Fin 32} {b : Option Nat} {new : Rotation}
    (hnone : b = none → new = { banner := none, current := none, timer := 0 })
    (hempty : ∀ m, b = some m → (∀ n ∈ q.list, n.eligible sc m = false) → new = { banner := some m, current := none, timer := 0 })
    (hfirst : ∀ m c n d, b = some m → q.list = c ++ n :: d → n.eligible sc m = true → (∀ y ∈ c, y.eligible sc m = false) →
      new = { banner := some m, current := some n.ident, timer := n.dwell * 1000 }) : reported q sc b = new := by
  cases b with
  | none => rw [hnone rfl]; rfl
  | some m =>
    cases hfind : firstEligible q.list sc m with
    | none =>
      rw [hempty m rfl fun n hn => by simpa using List.find?_eq_none.1 hfind n hn]
      simp only [reported, hfind]
      rfl
    | some n =>
      obtain ⟨helig, c, d, hl, hc⟩ := List.find?_eq_some_iff_append.1 hfind
      rw [hfirst m c n d rfl hl helig fun y hy => by simpa using hc y hy]
      simp only [reported, hfind]
      rfl

/-- Banner notes sent. -/
theorem emit_banner (s : State) (sc : Fin 32) (p : Fin 4) (c : Prop) [Decidable c] :
    s.emit (if c then [] else [.noticeNote (.banner sc p)]) =
      s.withMail { s.mail with noticesToComp := s.mail.noticesToComp ++ if c then [] else [.banner sc p] } := by
  split
  · simp [State.withMail]
  · rfl

/-- Settles O40. -/
theorem houseLinesAndRotationsMove : Obligations.HouseLinesAndRotationsMove := by
  refine ⟨fun s house q hhouse hdue hq => ⟨fun hlevel a b ha hb => ⟨fun hl hroom p hp => ?_, fun z hl hfull p hp => ?_⟩,
    fun hlevel p hp => ?_⟩, fun s hdue => ?_, fun s sc p m x a b o hrot hl ho hdistinct c n d hsplit hn hc => ?_,
    fun s sc p b rest new hmsg hnone hempty hfirst => ?_⟩
  · have hrun := alertLineAsserted_run hdue hlevel
    have henter := enterHouse_of_room (q := q) (by rw [hq]; exact hl) (by rw [hq]; exact hroom) ha hb
    have hflip : ({ s.notices with alertLine := s.notices.alertLine.flip } : Notices) = q := hq.symm
    have hhouse' : houseAlert = house := hhouse.symm
    rw [hflip, henter, hhouse', ← hp] at hrun
    exact congrArg (goOn s) hrun
  · have hrun := alertLineAsserted_run hdue hlevel
    have henter := enterHouse_of_full (q := q) (by rw [hq]; exact hl) (by rw [hq]; exact hfull) ha hb
    have hflip : ({ s.notices with alertLine := s.notices.alertLine.flip } : Notices) = q := hq.symm
    have hhouse' : houseAlert = house := hhouse.symm
    rw [hflip, henter, hhouse', ← hp] at hrun
    exact congrArg (goOn s) hrun
  · have hrun := alertLineDeasserted_run hdue hlevel
    have hflip : ({ s.notices with alertLine := s.notices.alertLine.flip } : Notices) = q := hq.symm
    have htest : (fun n : Notice => decide (n.ident = houseId)) = fun n => decide (n.ident.desk = 0 ∧ n.ident.id = 65535) :=
      funext fun n => decide_eq_decide.2 (isHouse_iff n)
    rw [hflip, htest, ← hp] at hrun
    exact congrArg (goOn s) hrun
  · exact congrArg (goOn s) (hushLineChange_run hdue)
  · have hnext := followOn_same hl ho hdistinct hsplit hn hc
    rw [← paneScreen_paneIx sc p] at hnext
    have hrun : bannerDwellExpiry sc p s = s.noticesDo _ := congrArg s.noticesDo (dwellExpiry_of_due hrot hnext)
    rw [bannerOuts_set, noticesDo_eq, emit_banner, hrot] at hrun
    refine congrArg (goOn s) (hrun.trans ?_)
    simp only [Option.some.injEq, eq_comm (a := x)]
    rfl
  · have hrun : bannerPaneReport s = (s.withMail { s.mail with bannerReports := rest }).noticesDo
        (s.notices.paneReport { screen := sc, pane := p, banner := b }) := by
      simp only [bannerPaneReport, hmsg]
    rw [paneReport_eq, reported_eq hnone hempty hfirst, bannerOuts_set, noticesDo_eq, emit_banner] at hrun
    exact congrArg (goOn s) hrun

end Sys2Proof.Machine
end

section
/-! The trailer channels at a command, at hush and at a show note (R83 to R85, R94 to R96). -/

namespace Sys2Proof.Machine

/-! ### Cue addresses -/

theorem cueAddrOk_eq_true {a : Addr} (hne : a ≠ 0) (halign : a.toNat % 8 = 0) : cueAddrOk a = true := by
  rw [cueAddrOk, Bool.and_eq_true, decide_eq_true_eq, decide_eq_true_eq]
  exact ⟨hne, halign⟩

theorem cueAddrOk_eq_false {a : Addr} (h : a = 0 ∨ a.toNat % 8 ≠ 0) : cueAddrOk a = false := by
  rw [← Bool.not_eq_true, cueAddrOk, Bool.and_eq_true, decide_eq_true_eq, decide_eq_true_eq]
  tauto

theorem loadCurrent_of_ok {a : Addr} (h : cueAddrOk a = true) (ch : Fin 8) (rest : RestParams) (c : Channel) :
    c.loadCurrent ch rest a = ({ c.number .current with current := .loading a }, [cueRead ch a (c.loads + 1)]) := if_pos h

theorem loadCurrent_of_bad {a : Addr} (h : cueAddrOk a = false) (ch : Fin 8) (rest : RestParams) (c : Channel) :
    c.loadCurrent ch rest a = ((c.goIdle ch rest).1, .event .badCue :: (c.goIdle ch rest).2) :=
  if_neg (Bool.eq_false_iff.1 h)

theorem loadNext_of_ok {a : Addr} (h : cueAddrOk a = true) (ch : Fin 8) (c : Channel) :
    c.loadNext ch a = ({ c.number .next with next := .loading a }, [cueRead ch a (c.loads + 1)]) := if_pos h

theorem loadNext_of_bad {a : Addr} (h : cueAddrOk a = false) (ch : Fin 8) (c : Channel) :
    c.loadNext ch a = (c, [.event .badCue]) := if_neg (Bool.eq_false_iff.1 h)

/-! ### One channel changed -/

theorem onChannel_eq {q : Reel} {ch : Fin 8} {c : Channel} (hc : q.channels.get ch = c) (f : Channel → Channel × List Out) :
    q.onChannel ch f = ({ q with channels := q.channels.set ch (f c).1 }, (f c).2) := by
  rw [Reel.onChannel, hc]

theorem onChannel_to {q : Reel} {ch : Fin 8} {f : Channel → Channel × List Out} {c' : Channel} {outs : List Out}
    (h : f (q.channels.get ch) = (c', outs)) : q.onChannel ch f = ({ q with channels := q.channels.set ch c' }, outs) := by
  rw [Reel.onChannel, h]

/-- Becoming IDLE raises no event: what it sends is the note of BLANK. -/
theorem goIdle_events (ch : Fin 8) (rest : RestParams) (c : Channel) : (c.goIdle ch rest).2.filterMap Out.event? = [] := by
  by_cases h : rest.usedLen = 0
  · rw [(goIdle_of_no_rest h ch c).2.2.2]
    rfl
  · rw [(goIdle_of_rest h ch c).1]
    rfl

/-! ### CUE_PUSH (R83) -/

theorem cuePush_run {s : State} {e : Entry} {ch : Fin 8} (he : s.entry = some e) (hrow : e.row = .cuePush ch) :
    cuePush s = (s.takeEntry.reelDo (s.reel.onChannel ch (Channel.push ch (s.restOf ch) s.reel.hush e.argument))).result
      e.index e.argument (s.reel.channels.get ch).pushOutcome := by
  simp only [cuePush, he, hrow]

theorem cueCut_run {s : State} {e : Entry} {ch : Fin 8} (he : s.entry = some e) (hrow : e.row = .cueCut ch) :
    cueCut s = (s.takeEntry.reelDo (s.reel.onChannel ch fun c => (c.cutNow, []))).result
      e.index e.argument (s.reel.channels.get ch).cutOutcome := by
  simp only [cueCut, he, hrow]

theorem push_of_idle {c : Channel} (h : c.state = .idle) (ch : Fin 8) (rest : RestParams) (hush : Bool) (a : Addr) :
    c.push ch rest hush a = ({ c.abandonFill with state := if hush then .held else .starting, shownMark := false } :
      Channel).loadCurrent ch rest a := if_pos h

theorem push_of_empty_next {c : Channel} (h : c.state ≠ .idle) (hnext : c.next = .empty) (ch : Fin 8) (rest : RestParams)
    (hush : Bool) (a : Addr) : c.push ch rest hush a = c.loadNext ch a := by
  rw [Channel.push, if_neg h, hnext]

theorem push_of_full_next {c : Channel} (h : c.state ≠ .idle) (hnext : c.next ≠ .empty) (ch : Fin 8) (rest : RestParams)
    (hush : Bool) (a : Addr) : c.push ch rest hush a = (c, [.event .nextFull]) := by
  rw [Channel.push, if_neg h]
  split
  case h_1 hempty => exact absurd hempty hnext
  case h_2 => rfl

theorem pushOutcome_of_room {c : Channel} (h : c.state = .idle ∨ c.next = .empty) : c.pushOutcome = .accepted := if_pos h

theorem pushOutcome_of_full {c : Channel} (h : c.state ≠ .idle) (hnext : c.next ≠ .empty) : c.pushOutcome = .nextFull :=
  if_neg (not_or.2 ⟨h, hnext⟩)

theorem set_channel_self (q : Reel) (ch : Fin 8) : { q with channels := q.channels.set ch (q.channels.get ch) } = q := by
  rw [Table.set_get_self]

/-- A command that changes one channel, sends and answers. -/
theorem answers_onChannel {s : State} {ch : Fin 8} {f : Channel → Channel × List Out} {c' : Channel} {outs : List Out}
    (h : f (s.reel.channels.get ch) = (c', outs)) :
    s.takeEntry.reelDo (s.reel.onChannel ch f) =
      (s.takeEntry.withReel { s.reel with channels := s.reel.channels.set ch c' }).emit outs := by
  rw [onChannel_to h, reelDo_eq]

/-- Settles O41. -/
theorem cuesAndCutsReachTheirChannel : Obligations.CuesAndCutsReachTheirChannel := by
  intro s e ch c he hc
  refine ⟨fun hrow => ?_, fun hrow => ?_, fun hrow => ?_⟩
  · have hrun := cuePush_run he hrow
    refine ⟨fun hidle hne halign a ha => ?_, fun hbusy hnext hne halign => ?_, fun hbusy hnext hbad => ?_,
      fun hbusy hnext => ?_, fun hidle hbad => ?_⟩
    · subst ha
      rw [answers_onChannel (by rw [hc, push_of_idle hidle, loadCurrent_of_ok (cueAddrOk_eq_true hne halign)]), hc,
        pushOutcome_of_room (.inl hidle), cueRead, agentRead, emit_read _ rfl] at hrun
      exact congrArg (goOn s) hrun
    · rw [answers_onChannel (by rw [hc, push_of_empty_next hbusy hnext, loadNext_of_ok (cueAddrOk_eq_true hne halign)]), hc,
        pushOutcome_of_room (.inr hnext), cueRead, agentRead, emit_read _ rfl] at hrun
      exact congrArg (goOn s) hrun
    · rw [answers_onChannel (by rw [hc, push_of_empty_next hbusy hnext, loadNext_of_bad (cueAddrOk_eq_false hbad), ← hc]),
        set_channel_self, hc, pushOutcome_of_room (.inr hnext), emit_event, emit_nil] at hrun
      exact congrArg (goOn s) hrun
    · rw [answers_onChannel (by rw [hc, push_of_full_next hbusy hnext, ← hc]), set_channel_self, hc,
        pushOutcome_of_full hbusy hnext, emit_event, emit_nil] at hrun
      exact congrArg (goOn s) hrun
    · rw [answers_onChannel (by rw [hc, push_of_idle hidle, loadCurrent_of_bad (cueAddrOk_eq_false hbad)]), hc,
        pushOutcome_of_room (.inl hidle)] at hrun
      refine ⟨_, congrArg (goOn s) hrun, ?_, ?_, ?_⟩
      · rw [emit_mail, posts_eq]
        simp only [List.filterMap_cons, Out.event?, goIdle_events]
        rfl
      · rw [emit_event, emit_posts (goIdle_sends _ _ _)]
        rfl
      · rw [emit_reel]
        have hget (c' : Channel) : (s.reel.channels.set ch c').get ch = c' := Table.get_set_self _ _ _
        obtain ⟨hstate, hcurrent, -⟩ := goIdle_clears ch (s.restOf ch)
          { c.abandonFill with state := if s.reel.hush then .held else .starting, shownMark := false }
        refine ⟨?_, ?_, fun hempty => ?_, fun d hd => Table.get_set_of_ne _ hd.symm _⟩
        · exact (congrArg Channel.state (hget _)).trans hstate
        · exact (congrArg Channel.current (hget _)).trans hcurrent
        · refine (congrArg (fun c => c.nos.current) (hget _)).trans ?_
          refine (goIdle_of_not_hasLoad (p := .current) (by decide) ?_ _ _).trans ?_
          · rintro ⟨b, hb⟩
            rw [show _ = c.current from abandonFill_current c, hempty] at hb
            cases hb
          · exact (abandonFill_of c .current).trans (if_neg fun h => fillPurpose_ne_current c h.2)
  · have hrun := cueCut_run he hrow
    refine ⟨fun hidle => ?_, fun hbusy => ?_⟩
    · have hcut : c.cutNow = c := if_pos hidle
      have houtcome : c.cutOutcome = .applied := if_pos hidle
      rw [answers_onChannel (by rw [hc, hcut, ← hc]), set_channel_self, hc, houtcome, emit_nil] at hrun
      exact congrArg (goOn s) hrun
    · have hcut : c.cutNow = { c with cut := some .command } := if_neg hbusy
      have houtcome : c.cutOutcome = .accepted := if_neg hbusy
      rw [answers_onChannel (by rw [hc, hcut]), hc, houtcome, emit_nil] at hrun
      exact congrArg (goOn s) hrun
  · have hsends : Sends [.mail] (s.reel.onChannel ch (Channel.stop ch (s.restOf ch))).2 := stop_sends _ _ _
    refine ⟨_, exec_channelStop he hrow, ?_, ?_⟩
    · rw [reelDo_eq, emit_posts hsends]
      rfl
    · rw [reelDo_eq, emit_posts hsends]
      rfl

/-! ### Hush and show notes (R94 to R96) -/

theorem hold_eq (c : Channel) : c.hold = if c.state = .running then { c with state := .held, shownMark := true }
    else if c.state = .starting then { c with state := .held, shownMark := false } else c := by
  unfold Channel.hold
  split <;> simp_all

theorem slotRuns_iff (c : Channel) : c.slotRuns = true ↔ c.awaited = false ∧ 0 < c.periodsLeft ∧ ∃ a q, c.current = .ready a q := by
  unfold Channel.slotRuns
  cases c.current <;> simp

theorem unhold_of_free {c : Channel} (h : c.state ≠ .held) : c.unhold = c := by
  unfold Channel.unhold
  split
  case h_1 hheld => exact absurd hheld h
  case h_2 => rfl

theorem unhold_of_unshown {c : Channel} (h : c.state = .held) (hmark : c.shownMark = false) :
    c.unhold = { c with state := .starting } := by
  simp only [Channel.unhold, h, hmark, Bool.false_eq_true, if_false]

theorem unhold_of_running {c : Channel} (h : c.state = .held) (hmark : c.shownMark = true) (hruns : c.slotRuns = true) :
    c.unhold = { c with state := .running, shownMark := false, periodsLeft := 1, resume := true } := by
  simp only [Channel.unhold, h, hmark, hruns, if_true]

theorem unhold_of_waiting {c : Channel} (h : c.state = .held) (hmark : c.shownMark = true) (hruns : ¬ c.slotRuns = true) :
    c.unhold = { c with state := .running, shownMark := false } := by
  simp only [Channel.unhold, h, hmark, if_true, if_neg hruns]

/-- Settles O47. -/
theorem hushAndNotesMarkTheChannels : Obligations.HushAndNotesMarkTheChannels := by
  refine ⟨fun s rest hmsg => ?_, fun s rest hmsg => ?_, fun s n rest hmsg hid => ?_⟩
  · have hrun : hushAsserted s = (s.withMail { s.mail with hush := rest }).withReel
        { s.reel.mapChannels Channel.hold with hush := true } := by simp only [hushAsserted, hmsg]
    refine ⟨_, rfl, (hushAsserted_frame s).commit, ?_⟩
    simp only [commit_mail, commit_reel, hrun]
    exact ⟨rfl, rfl, fun ch c hc => by rw [← hold_eq, ← hc]; exact Table.get_map _ _ _⟩
  · have hrun : hushReleased s = (s.withMail { s.mail with hush := rest }).withReel
        { s.reel.mapChannels Channel.unhold with hush := false } := by simp only [hushReleased, hmsg]
    refine ⟨_, rfl, (hushReleased_frame s).commit, ?_⟩
    simp only [commit_mail, commit_reel, hrun]
    refine ⟨rfl, rfl, fun ch c c' hc hc' => ?_⟩
    have hget : c' = c.unhold := by rw [← hc', ← hc]; exact Table.get_map _ _ _
    subst hget
    refine ⟨unhold_of_free, unhold_of_unshown, fun hheld hmark => ?_⟩
    by_cases hruns : c.slotRuns = true
    · obtain ⟨hawaited, hleft, a, q, hready⟩ := (slotRuns_iff c).1 hruns
      rw [unhold_of_running hheld hmark hruns]
      refine ⟨rfl, rfl, rfl, fun _ _ _ _ _ => ⟨rfl, rfl⟩, fun h => ?_⟩
      rcases h with h | h | h
      · rw [h] at hawaited; cases hawaited
      · omega
      · exact absurd hready (h a q)
    · rw [unhold_of_waiting hheld hmark hruns]
      exact ⟨rfl, rfl, rfl, fun a q hready hawaited hleft => absurd ((slotRuns_iff c).2 ⟨hawaited, hleft, a, q, hready⟩) hruns,
        fun _ => ⟨rfl, rfl⟩⟩
  · have hrun : reelShowChangedNote s = (s.withMail { s.mail with toReel := rest }).withReel
        (s.reel.mapChannels (Channel.showNote n)) := by simp only [reelShowChangedNote, hmsg]
    refine ⟨_, rfl, (reelShowChangedNote_frame s).commit, ?_⟩
    simp only [commit_mail, commit_reel, hrun]
    refine ⟨rfl, rfl, fun ch c hc => ?_⟩
    have hget : (s.reel.mapChannels (Channel.showNote n)).channels.get ch = c.showNote n := by
      rw [← hc]; exact Table.get_map _ _ _
    refine ⟨fun hnote hcut a q hready hshow => hget.trans ?_, fun hnone => hget.trans ?_⟩
    · simp only [Channel.showNote, hready]
      rw [if_pos ⟨hshow ▸ hid, hshow, hnote, hcut⟩]
    · unfold Channel.showNote
      split
      case h_1 a q hready =>
        refine if_neg fun ⟨_, hshow, hnote, hcut⟩ => ?_
        rcases hnone with ⟨hremoved, hnew⟩ | hcommand | hother
        · rcases hnote with h | h
          · rw [h] at hremoved; cases hremoved
          · exact hnew h
        · exact hcut hcommand
        · exact hother a q hready hshow
      case h_2 => rfl

end Sys2Proof.Machine
end

section
/-! Frame reads and rest stills (R79, R86, R97). -/

namespace Sys2Proof.Machine

/-! ### FRAME reads issued (R86) -/

theorem reelDo_nothing (s : State) : s.reelDo (s.reel, []) = s := rfl

theorem wantsRead_iff (c : Channel) : c.wantsRead = true ↔ c.filling = .fetching ∧ c.plan.issued < c.plan.total := by
  rw [Channel.wantsRead, Bool.and_eq_true, decide_eq_true_eq, decide_eq_true_eq]

theorem nextServed_eq_none {q : Reel} (h : ∀ ch, ¬ ((q.channels.get ch).filling = .fetching ∧
    (q.channels.get ch).plan.issued < (q.channels.get ch).plan.total)) : q.nextServed = none :=
  List.find?_eq_none.2 fun ch _ => mt (wantsRead_iff _).1 (h ch)

theorem nextServed_eq_some {q : Reel} {d : Nat} {ch : Fin 8} (hd : d < 8) (hch : ch.val = (q.lastServed.val + 1 + d) % 8)
    (hwants : (q.channels.get ch).wantsRead = true)
    (hbefore : ∀ d' < d, ∀ b : Fin 8, b.val = (q.lastServed.val + 1 + d') % 8 →
      ¬ ((q.channels.get b).filling = .fetching ∧ (q.channels.get b).plan.issued < (q.channels.get b).plan.total)) :
    q.nextServed = some ch := by
  have hwrap : wrapAdd q.lastServed (d + 1) = ch := Fin.ext (by rw [wrapAdd_val, hch]; congr 1; omega)
  unfold Reel.nextServed
  rw [List.find?_map, find_allFin_eq_some (i := ⟨d, hd⟩)]
  · exact congrArg some hwrap
  · rw [Function.comp_apply, hwrap]
    exact hwants
  · intro k hk
    rw [Function.comp_apply, ← Bool.not_eq_true, wantsRead_iff]
    exact hbefore k.val hk _ (by rw [wrapAdd_val]; congr 1; omega)

theorem reelIssue_of_nothing {q : Reel} (h : 8 ≤ q.inFlight ∨ q.nextServed = none) : q.issueRead = (q, []) := by
  unfold Reel.issueRead
  rcases h with h | h
  · rw [if_pos h]
  · rw [h]
    split <;> rfl

theorem reelIssue_of_served {q : Reel} {ch : Fin 8} {c : Channel} (hroom : q.inFlight < 8) (hch : q.nextServed = some ch)
    (hc : q.channels.get ch = c) :
    q.issueRead = ({ q with
      inFlight := q.inFlight + 1, lastServed := ch, channels := q.channels.set ch (c.readOut ch).1 }, (c.readOut ch).2) := by
  simp only [Reel.issueRead, if_neg (not_le.2 hroom), hch]
  exact onChannel_eq (q := { q with inFlight := q.inFlight + 1, lastServed := ch }) hc _

theorem emit_frameRead (s : State) (addr : Addr) (n : Nat) (tag : Tag) :
    s.emit [agentRead .frame addr n tag] = s.withPath { s.path with frameQ := s.path.frameQ ++
      [{ cls := .frame, write := false, addr := addr, beats := n, data := [], tag := tag }] } := rfl

theorem readOut_of_pointer {c : Channel} {p : Nat} (h : c.plan.pointer = some p) (ch : Fin 8) :
    c.readOut ch = ({ c with plan := { c.plan with issued := 1 } },
      [agentRead .frame (BitVec.ofNat 32 (p / 8 * 8)) 1 (.pointer ch c.nos.pointer)]) := by
  simp only [Channel.readOut, h]

theorem readOut_of_frame {c : Channel} {a : Nat} (h : c.plan.pointer = none) (ha : c.plan.addr = some a) (ch : Fin 8) :
    c.readOut ch = ({ c with plan := { c.plan with issued := c.plan.issued + min 8 (c.plan.total - c.plan.issued) } },
      [agentRead .frame (BitVec.ofNat 32 (a + 8 * c.plan.issued)) (min 8 (c.plan.total - c.plan.issued))
        (if c.fillFor = .rest then .rest ch c.nos.rest else .frame ch c.nos.frame)]) := by
  have htag : (match c.fillFor with | .rest => Tag.rest ch c.nos.rest | _ => Tag.frame ch c.nos.frame) =
      if c.fillFor = .rest then .rest ch c.nos.rest else .frame ch c.nos.frame := by
    split <;> simp_all
  rw [← htag]
  simp only [Channel.readOut, h, ha]
  rfl

/-! ### Responses (R79, R86) -/

/-- The player with a response taken and one channel put in place. -/
def State.reelPut (s : State) (more : List Response) (ch : Fin 8) (c : Channel) : State :=
  (s.withMail { s.mail with reelResp := more }).withReel
    { s.reel with inFlight := s.reel.inFlight - 1, channels := s.reel.channels.set ch c }

theorem pointerReadDone_run {s : State} {ch : Fin 8} {no : Nat} {data : List Beat} {err : Bool} {more : List Response}
    {c : Channel} (hmsg : s.mail.reelResp = { tag := .pointer ch no, data := data, err := err } :: more)
    (hc : s.reel.channels.get ch = c) :
    pointerReadDone s = s.reelPut more ch (c.pointerDone no (beatsBytes data) err) := by
  subst hc
  simp only [pointerReadDone, hmsg, State.popReelResp]
  rfl

theorem frameReadDone_run {s : State} {ch : Fin 8} {no : Nat} {data : List Beat} {err : Bool} {more : List Response}
    {c : Channel} (hmsg : s.mail.reelResp = { tag := .frame ch no, data := data, err := err } :: more)
    (hc : s.reel.channels.get ch = c) : frameReadDone s = s.reelPut more ch (c.frameDone no data err) := by
  subst hc
  simp only [frameReadDone, hmsg, State.popReelResp]
  rfl

theorem pointerDone_of_stale {c : Channel} {no : Nat}
    (h : c.nos.pointer ≠ no ∨ c.filling ≠ .fetching ∨ c.plan.pointer = none) (bs : List Byte) (err : Bool) :
    c.pointerDone no bs err = c := by
  unfold Channel.pointerDone
  split
  case h_1 p hp =>
    refine if_neg fun ⟨hno, hfilling⟩ => ?_
    rcases h with h | h | h
    · exact h hno
    · exact h hfilling
    · rw [hp] at h; cases h
  case h_2 => rfl

theorem pointerDone_of_kept {c : Channel} {p : Nat} (hfilling : c.filling = .fetching) (hp : c.plan.pointer = some p)
    (bs : List Byte) (err : Bool) :
    c.pointerDone c.nos.pointer bs err =
      if err = true ∨ le32At bs (p % 8) % 8 ≠ 0 ∨ 2 ^ 32 < le32At bs (p % 8) + c.plan.length then c.failFetch
      else
        { c.number .frame with
          plan := { c.plan with pointer := none, addr := some (le32At bs (p % 8)), total := beatsFor c.plan.length, issued := 0,
                                received := 0 } } := by
  simp only [Channel.pointerDone, hp, hfilling, and_self, if_true]

theorem frameDone_of_stale {c : Channel} {no : Nat} (h : c.nos.frame ≠ no ∨ c.filling ≠ .fetching) (data : List Beat) (err : Bool) :
    c.frameDone no data err = c := if_neg fun ⟨hno, hfilling⟩ => h.elim (· hno) (· hfilling)

theorem frameDone_of_kept {c : Channel} (hfilling : c.filling = .fetching) (data : List Beat) (err : Bool) :
    c.frameDone c.nos.frame data err = if err then c.failFetch else c.store data := if_pos ⟨rfl, hfilling⟩

theorem store_of_more {c : Channel} {data : List Beat} (h : c.plan.received + data.length < c.plan.total) :
    c.store data = { c with fillBuf := c.fillBuf ++ beatsBytes data
                            plan := { c.plan with received := c.plan.received + data.length } } := if_neg (not_le.2 h)

theorem store_of_last {c : Channel} {data : List Beat} (h : c.plan.total ≤ c.plan.received + data.length) :
    c.store data = { c with filling := .complete, fillBuf := (c.fillBuf ++ beatsBytes data).take c.plan.length
                            plan := { c.plan with received := c.plan.received + data.length } } := if_pos h

/-- Settles O45. -/
theorem frameReadsFillTheBuffer : Obligations.FrameReadsFillTheBuffer := by
  refine ⟨fun s => ⟨fun h => ?_, fun d ch c hroom hd hch hc hfilling hleft hbefore n addr tag hn hpointer haddr hsome => ?_⟩,
    fun s ch no data err more c put hmsg hc hput => ?_, fun s ch no data err more c put bytes hmsg hc hput hbytes => ?_⟩
  · have hrun : frameReadIssue s = s := by
      rw [frameReadIssue, reelIssue_of_nothing (h.imp_right nextServed_eq_none), reelDo_nothing]
    exact goOn_of_nothing hrun
  · have hserved := nextServed_eq_some hd hch (by rw [hc]; exact (wantsRead_iff c).2 ⟨hfilling, hleft⟩) hbefore
    have hrun : frameReadIssue s = s.reelDo _ := congrArg s.reelDo (reelIssue_of_served hroom hserved hc)
    cases hp : c.plan.pointer with
    | some p =>
      obtain ⟨hissued, htotal, rfl, rfl⟩ := hpointer p hp
      rw [hp, if_neg (by simp)] at hn
      rw [readOut_of_pointer hp, reelDo_eq, emit_frameRead] at hrun
      subst hn
      rw [hissued]
      exact congrArg (goOn s) hrun
    | none =>
      obtain ⟨a, ha⟩ := Option.ne_none_iff_exists'.1 (hsome hp)
      obtain ⟨rfl, rfl⟩ := haddr a hp ha
      rw [if_pos hp] at hn
      rw [readOut_of_frame hp ha, reelDo_eq, emit_frameRead] at hrun
      subst hn
      exact congrArg (goOn s) hrun
  · have hrun := pointerReadDone_run hmsg hc
    have hexec {c' : Channel} (h : c.pointerDone no (beatsBytes data) err = c') :
        exec .pointerReadDone s = .next (commit s (put c')) := by
      rw [h] at hrun
      rw [hput]
      exact congrArg (goOn s) hrun
    refine ⟨fun h => hexec (pointerDone_of_stale h _ _), fun p a hno hfilling hp ha => ⟨fun hbad => ?_, fun herr halign hroom => ?_⟩⟩
    · subst hno ha
      exact hexec ((pointerDone_of_kept hfilling hp _ _).trans (if_pos hbad))
    · subst hno ha
      refine hexec ((pointerDone_of_kept hfilling hp _ _).trans (if_neg ?_))
      rw [herr]
      rintro (h | h | h)
      · cases h
      · exact h halign
      · omega
  · have hrun := frameReadDone_run hmsg hc
    have hexec {c' : Channel} (h : c.frameDone no data err = c') : exec .frameReadDone s = .next (commit s (put c')) := by
      rw [h] at hrun
      rw [hput]
      exact congrArg (goOn s) hrun
    subst hbytes
    refine ⟨fun h => hexec (frameDone_of_stale h _ _), fun hno hfilling => ?_⟩
    subst hno
    refine ⟨fun herr => ?_, fun herr hmore => ?_, fun herr hlast => ?_⟩
    · exact hexec ((frameDone_of_kept hfilling _ _).trans (if_pos herr))
    · exact hexec (((frameDone_of_kept hfilling _ _).trans (if_neg (by simp [herr]))).trans (store_of_more hmore))
    · exact hexec (((frameDone_of_kept hfilling _ _).trans (if_neg (by simp [herr]))).trans (store_of_last hlast))

/-! ### Rest stills (R97) -/

theorem index_of_restStill {e : Entry} {ch : Fin 8} {len : Bool} (h : e.row = .restStill ch len) :
    Index.of e.index = if len then .restLen ch else .restAddr ch := by
  unfold Entry.row at h
  dsimp only at h
  generalize Index.of e.index = i at h ⊢
  by_cases hmask : e.mask = 0
  · cases i <;> simp_all
  · cases i with
    | simple q => cases q <;> simp_all [simpleRow]
    | ring n f => cases f <;> simp_all
    | control => simp only [hmask, if_false] at h; split at h <;> simp_all
    | restAddr c => simp only [hmask, if_false] at h; cases h; rfl
    | restLen c => simp only [hmask, if_false] at h; cases h; rfl
    | _ => simp_all

/-- The result of an entry whose rest-still parameter has been stored in u (R167, R169). -/
theorem paramResult_rest {u : State} {e : Entry} {ch : Fin 8} {len : Bool} {v : BitVec 32} {rest : RestParams}
    (hrow : e.row = .restStill ch len) (hlen : len = true → rest.len = min 65535 v.toNat) (haddr : len = false → rest.addr = v)
    (hu : u.params.rest.get ch = rest) :
    u.paramResult e v = u.result e.index (if len then BitVec.ofNat 32 rest.len else rest.addr)
      (if len = true ∧ 65535 < v.toNat then .clamped else .applied) := by
  rw [paramResult_eq, index_of_restStill hrow]
  cases len with
  | true =>
    have hstored : u.storedWord (.restLen ch) = rest.len := by rw [State.storedWord, hu]
    simp only [if_true, true_and, State.reportedWord, hstored, clampOutcome, hlen]
    by_cases h : 65535 < v.toNat
    · rw [if_pos h, if_neg (by omega)]
    · rw [if_neg h, if_pos (by omega)]
  | false =>
    have hstored : u.storedWord (.restAddr ch) = rest.addr.toNat := by rw [State.storedWord, hu]
    simp [State.reportedWord, hstored, clampOutcome, haddr]

theorem store_eq (r : RestParams) (len : Bool) (v : BitVec 32) :
    r.store len v = if len then { r with len := min 65535 v.toNat } else { r with addr := v } := rfl

/-- A rest-still write, its channel's showing left or started afresh. -/
theorem restStillWrite_run {s : State} {e : Entry} {ch : Fin 8} {len : Bool} {rest : RestParams} {c c' : Channel} {outs : List Out}
    (he : s.entry = some e) (hrow : e.row = .restStill ch len)
    (hrest : rest = if len then { s.params.rest.get ch with len := min 65535 (s.masked e).toNat }
      else { s.params.rest.get ch with addr := s.masked e })
    (hc : s.reel.channels.get ch = c)
    (hshow : (if c.state = .idle then c.abandonFill.showRest ch rest else (c, [])) = (c', outs)) :
    restStillWrite s = (((s.takeEntry.withParams { s.params with rest := s.params.rest.set ch rest }).withReel
        { s.reel with channels := s.reel.channels.set ch c' }).emit outs).result e.index
      (if len then BitVec.ofNat 32 rest.len else rest.addr)
      (if len = true ∧ 65535 < (s.masked e).toNat then .clamped else .applied) := by
  have hstore : (s.restOf ch).store len (s.masked e) = rest := (store_eq _ _ _).trans hrest.symm
  have hone : s.reel.onChannel ch (fun c => if c.state = .idle then c.abandonFill.showRest ch rest else (c, [])) =
      ({ s.reel with channels := s.reel.channels.set ch c' }, outs) := onChannel_to (by rw [hc, ← hshow])
  simp only [restStillWrite, he, hrow, hstore]
  rw [hone, reelDo_eq]
  refine paramResult_rest hrow (fun h => ?_) (fun h => ?_) ?_
  · rw [hrest, h]; rfl
  · rw [hrest, h]; rfl
  · rw [emit_params]
    exact Table.get_set_self _ _ _

theorem emit_channelNote (s : State) (n : ChannelNote) :
    s.emit [.channelNote n] = s.withMail { s.mail with channelNotes := s.mail.channelNotes ++ [n] } := rfl

/-- A rest fetch begun keeps the channel but for its filling buffer and its load numbers (R81, R97). -/
theorem restFetch_eq {rest : RestParams} (h : rest.usedLen ≠ 0) (ch : Fin 8) (c : Channel) :
    ∃ c' : Channel, c.abandonFill.showRest ch rest = (c', []) ∧
      c' = { c with
        filling := .fetching, fillFor := .rest, fillBuf := [], awaited := c'.awaited, begins := c'.begins
        loads := c'.loads, nos := c'.nos
        plan := { pointer := none, addr := some rest.addr.toNat, total := (min rest.len 16384 + 7) / 8, issued := 0,
                  received := 0, length := min rest.len 16384 } } ∧
      c'.nos.rest = c'.loads ∧ c'.loads = c.loads + (if c.filling = .empty then 1 else 2) := by
  refine ⟨_, showRest_of_some h ch _, ?_, rfl, ?_⟩
  · rw [abandonFill_eq]
    rfl
  · rw [abandonFill_eq]
    show (if c.filling = .empty then c.loads else c.loads + 1) + 1 = _
    split <;> rfl

theorem restReadDone_run {s : State} {ch : Fin 8} {no : Nat} {data : List Beat} {err : Bool} {more : List Response}
    {c c' : Channel} {outs : List Out} (hmsg : s.mail.reelResp = { tag := .rest ch no, data := data, err := err } :: more)
    (hc : s.reel.channels.get ch = c) (hdone : c.restDone ch no data err = (c', outs)) :
    restReadDone s = (s.reelPut more ch c').emit outs := by
  subst hc
  have hone : s.reel.landed.onChannel ch (Channel.restDone ch no data err) =
      ({ s.reel with inFlight := s.reel.inFlight - 1, channels := s.reel.channels.set ch c' }, outs) := onChannel_to hdone
  simp only [restReadDone, hmsg, State.popReelResp]
  rw [hone]
  rfl

theorem reelPut_self {s : State} {more : List Response} {ch : Fin 8} {c : Channel} (hc : s.reel.channels.get ch = c) :
    s.reelPut more ch c = (s.withMail { s.mail with reelResp := more }).withReel { s.reel with inFlight := s.reel.inFlight - 1 } := by
  subst hc
  rw [State.reelPut, Table.set_get_self]

theorem restDone_of_stale {c : Channel} {no : Nat} (h : c.nos.rest ≠ no ∨ c.filling ≠ .fetching ∨ c.fillFor ≠ .rest)
    (ch : Fin 8) (data : List Beat) (err : Bool) : c.restDone ch no data err = (c, []) := if_neg (by tauto)

theorem restDone_of_kept {c : Channel} (hfilling : c.filling = .fetching) (hfor : c.fillFor = .rest) (ch : Fin 8) (data : List Beat)
    (err : Bool) : c.restDone ch c.nos.rest data err =
      if err then c.clearFill.blank ch
      else if (c.store data).filling = .complete then (c.store data).exchange ch .rest else (c.store data, []) :=
  if_pos ⟨rfl, hfilling, hfor⟩

/-- Settles O43. -/
theorem restStillsAreStoredAndShown : Obligations.RestStillsAreStoredAndShown := by
  refine ⟨fun s e ch len c rest he hrow hc hrest answered hanswered => ⟨fun hbusy => ?_, fun hidle hnone => ?_,
    fun hidle hlen haddr halign => ?_⟩, fun s ch no data err more c bytes hmsg hc hbytes => ⟨fun hstale => ?_,
    fun hno hfilling hfor => ⟨fun herr => ?_, fun herr hmore => ?_, fun herr hlast => ?_⟩⟩⟩
  · have hrun := restStillWrite_run he hrow hrest hc (if_neg hbusy)
    rw [← hc, set_channel_self, emit_nil] at hrun
    rw [hanswered]
    exact congrArg (goOn s) hrun
  · have hblank : c.abandonFill.showRest ch rest = c.abandonFill.blank ch :=
      showRest_of_none ((usedLen_eq_zero_iff rest).2 hnone) ch _
    have hserial : c.abandonFill.serial = c.serial := by rw [abandonFill_eq]
    rw [Channel.blank, hserial] at hblank
    have hrun := restStillWrite_run he hrow hrest hc ((if_pos hidle).trans hblank)
    rw [emit_channelNote] at hrun
    rw [hanswered]
    exact congrArg (goOn s) hrun
  · have hsome : rest.usedLen ≠ 0 := by
      rw [ne_eq, usedLen_eq_zero_iff]
      tauto
    obtain ⟨c', hshow, hchannel, hno, hloads⟩ := restFetch_eq hsome ch c
    have hrun := restStillWrite_run he hrow hrest hc ((if_pos hidle).trans hshow)
    rw [emit_nil] at hrun
    refine ⟨_, c', by rw [hanswered]; exact congrArg (goOn s) hrun, ?_, rfl, rfl, hchannel, hno, hloads⟩
    exact ((takeEntry_frame s).mono (by simp)).trans
      (((frame_withParams _ _).mono (by simp)).trans ((frame_withReel _ _).mono (by simp)))
  · have hrun := restReadDone_run hmsg hc (restDone_of_stale hstale ch data err)
    rw [reelPut_self hc, emit_nil] at hrun
    exact congrArg (goOn s) hrun
  · subst hno
    have hrun := restReadDone_run hmsg hc ((restDone_of_kept hfilling hfor ch data err).trans (if_pos herr))
    exact congrArg (goOn s) hrun
  · subst hno hbytes
    have hkeep : ¬ (c.store data).filling = .complete := by
      rw [store_of_more hmore]
      show ¬ c.filling = .complete
      rw [hfilling]
      simp
    have hrun := restReadDone_run hmsg hc ((restDone_of_kept hfilling hfor ch data err).trans
      ((if_neg (by simp [herr])).trans (if_neg hkeep)))
    rw [store_of_more hmore, emit_nil] at hrun
    exact congrArg (goOn s) hrun
  · subst hno hbytes
    have hfull : (c.store data).filling = .complete := by rw [store_of_last hlast]
    have hrun := restReadDone_run hmsg hc ((restDone_of_kept hfilling hfor ch data err).trans
      ((if_neg (by simp [herr])).trans (if_pos hfull)))
    rw [store_of_last hlast] at hrun
    exact congrArg (goOn s) hrun

end Sys2Proof.Machine
end

section
/-! What a channel sends as it plays (R82, R87 to R98): events, record reads, and one note exactly where its serial advances. -/

namespace Sys2Proof.Machine

/-! ### Sendings of the Reel Player -/

@[simp] def Out.record? : Out → Option AgentReq
  | .agent r => some r
  | _ => none

/-- An event, a channel note or a RECORD read: what a channel sends as it plays. -/
@[simp] def Out.ofReel : Out → Bool
  | .event _ => true
  | .channelNote _ => true
  | .agent r => decide (r.cls = .record)
  | _ => false

theorem emit_ofReel {outs : List Out} (h : outs.all Out.ofReel = true) (s : State) :
    s.emit outs = (s.withMail { s.mail with
        events := s.mail.events ++ outs.filterMap Out.event?
        channelNotes := s.mail.channelNotes ++ outs.filterMap Out.channelNote? }).withPath
      { s.path with recordQ := s.path.recordQ ++ outs.filterMap Out.record? } := by
  induction outs generalizing s with
  | nil => simp [State.withMail, State.withPath]
  | cons o outs ih =>
    rw [List.all_cons, Bool.and_eq_true] at h
    obtain ⟨ho, hrest⟩ := h
    rw [emit_cons, ih hrest]
    cases o with
    | event k => simp [List.filterMap_cons, Out.event?, Out.channelNote?, Out.record?, State.send, Mail.post, State.withMail, State.withPath, Path.post, Tracker.post]
    | channelNote n => simp [List.filterMap_cons, Out.event?, Out.channelNote?, Out.record?, State.send, Mail.post, State.withMail, State.withPath, Path.post, Tracker.post]
    | agent r =>
      have hr : r.cls = .record := of_decide_eq_true ho
      simp [List.filterMap_cons, Out.event?, Out.channelNote?, Out.record?, State.send, Mail.post, State.withMail, State.withPath, Path.post, Path.enqueue, hr, Tracker.post]
    | _ => cases ho

/-! ### Nothing shown anew -/

/-- A channel goes on to p with nothing shown anew: events and RECORD reads alone go out. -/
structure Channel.Keeps (c : Channel) (p : Channel × List Out) : Prop where
  serial : p.1.serial = c.serial
  kind : p.1.shownKind = c.shownKind
  len : p.1.shownLen = c.shownLen
  sent : p.2.all Out.ofReel = true
  silent : p.2.filterMap Out.channelNote? = []

/-- A channel goes on to p: events and RECORD reads go out, and one note of what it shows exactly where its serial advances. -/
structure Channel.Plays (ch : Fin 8) (c : Channel) (p : Channel × List Out) : Prop where
  sent : p.2.all Out.ofReel = true
  notes : p.2.filterMap Out.channelNote? = if p.1.serial = c.serial then [] else
    [{ channel := ch, serial := p.1.serial, kind := p.1.shownKind, len := p.1.shownLen }]

theorem Channel.Keeps.plays {c : Channel} {p : Channel × List Out} (h : c.Keeps p) (ch : Fin 8) : c.Plays ch p :=
  ⟨h.sent, by rw [h.silent, if_pos h.serial]⟩

theorem Channel.Plays.quiet {ch : Fin 8} {c : Channel} {p : Channel × List Out} (hserial : p.1.serial = c.serial)
    (hsent : p.2.all Out.ofReel = true) (hsilent : p.2.filterMap Out.channelNote? = []) : c.Plays ch p :=
  ⟨hsent, by rw [hsilent, if_pos hserial]⟩

theorem Channel.Keeps.self {c d : Channel} (hserial : d.serial = c.serial) (hkind : d.shownKind = c.shownKind)
    (hlen : d.shownLen = c.shownLen) : c.Keeps (d, []) := ⟨hserial, hkind, hlen, rfl, rfl⟩

theorem Channel.Plays.self (ch : Fin 8) (c : Channel) : c.Plays ch (c, []) := (Channel.Keeps.self rfl rfl rfl).plays ch

theorem Channel.Keeps.of_same {c d : Channel} {p : Channel × List Out} (h : d.Keeps p) (hserial : d.serial = c.serial)
    (hkind : d.shownKind = c.shownKind) (hlen : d.shownLen = c.shownLen) : c.Keeps p :=
  ⟨h.serial.trans hserial, h.kind.trans hkind, h.len.trans hlen, h.sent, h.silent⟩

theorem Channel.Plays.of_serial {ch : Fin 8} {c d : Channel} {p : Channel × List Out} (h : d.Plays ch p)
    (hserial : d.serial = c.serial) : c.Plays ch p := ⟨h.sent, by rw [← hserial]; exact h.notes⟩

theorem Channel.Keeps.andThen {c : Channel} {p : Channel × List Out} {f : Channel → Channel × List Out} (hp : c.Keeps p)
    (hf : p.1.Keeps (f p.1)) : c.Keeps (andThen p f) :=
  ⟨hf.serial.trans hp.serial, hf.kind.trans hp.kind, hf.len.trans hp.len, by simp [Machine.andThen, hp.sent, hf.sent],
    by simp [Machine.andThen, hp.silent, hf.silent]⟩

theorem Channel.Keeps.andPlays {ch : Fin 8} {c : Channel} {p : Channel × List Out} {f : Channel → Channel × List Out}
    (hp : c.Keeps p) (hf : p.1.Plays ch (f p.1)) : c.Plays ch (Machine.andThen p f) :=
  ⟨by simp [Machine.andThen, hp.sent, hf.sent], by
    rw [Machine.andThen, List.filterMap_append, hp.silent, List.nil_append, hf.notes, hp.serial]⟩

theorem Channel.Plays.andKeeps {ch : Fin 8} {c : Channel} {p : Channel × List Out} {f : Channel → Channel × List Out}
    (hp : c.Plays ch p) (hf : p.1.Keeps (f p.1)) : c.Plays ch (Machine.andThen p f) :=
  ⟨by simp [Machine.andThen, hp.sent, hf.sent], by
    rw [Machine.andThen, List.filterMap_append, hf.silent, List.append_nil, hp.notes, hf.serial, hf.kind, hf.len]⟩

theorem Channel.Keeps.event {c : Channel} (k : EventKind) : c.Keeps (c, [.event k]) := ⟨rfl, rfl, rfl, rfl, rfl⟩

/-! ### The operations -/

theorem serial_succ_ne (x : BitVec 16) : x + 1 ≠ x := by bv_omega

@[simp] theorem abandonFill_serial (c : Channel) : c.abandonFill.serial = c.serial := by rw [abandonFill_eq]
@[simp] theorem abandonFill_shownKind (c : Channel) : c.abandonFill.shownKind = c.shownKind := by rw [abandonFill_eq]
@[simp] theorem abandonFill_shownLen (c : Channel) : c.abandonFill.shownLen = c.shownLen := by rw [abandonFill_eq]
@[simp] theorem abandonFill_shownBuf (c : Channel) : c.abandonFill.shownBuf = c.shownBuf := by rw [abandonFill_eq]

theorem fetch_keeps (c : Channel) (q : Cue) (k : Nat) (what : FillFor) : c.Keeps (c.fetch q k what, []) := by
  unfold Channel.fetch
  split <;> exact .self rfl rfl rfl

theorem abandonFetch_keeps (c : Channel) (q : Cue) (k : Nat) (what : FillFor) : c.Keeps (c.abandonFill.fetch q k what, []) :=
  (fetch_keeps _ q k what).of_same (by simp) (by simp) (by simp)

theorem blank_plays (ch : Fin 8) (c : Channel) : c.Plays ch (c.blank ch) :=
  ⟨rfl, (if_neg (serial_succ_ne c.serial)).symm⟩

theorem exchange_plays (ch : Fin 8) (kind : ShownKind) (c : Channel) : c.Plays ch (c.exchange ch kind) :=
  ⟨rfl, (if_neg (serial_succ_ne c.serial)).symm⟩

theorem showRest_plays (ch : Fin 8) (rest : RestParams) (c : Channel) : c.Plays ch (c.showRest ch rest) := by
  unfold Channel.showRest
  split
  · exact blank_plays ch c
  · exact .quiet rfl rfl rfl

theorem goIdle_plays (ch : Fin 8) (rest : RestParams) (c : Channel) : c.Plays ch (c.goIdle ch rest) := by
  rw [goIdle_eq]
  exact (showRest_plays ch rest _).of_serial (by rw [emptied_eq])

theorem loadCurrent_plays (ch : Fin 8) (rest : RestParams) (a : Addr) (c : Channel) : c.Plays ch (c.loadCurrent ch rest a) := by
  unfold Channel.loadCurrent
  split
  · exact .quiet rfl rfl rfl
  · exact (Channel.Keeps.event .badCue).andPlays (goIdle_plays ch rest c)

theorem loadNext_keeps (ch : Fin 8) (a : Addr) (c : Channel) : c.Keeps (c.loadNext ch a) := by
  unfold Channel.loadNext
  split
  · exact ⟨rfl, rfl, rfl, rfl, rfl⟩
  · exact .event .badCue

theorem carry_keeps (c : Channel) : c.Keeps (c.carry, []) :=
  .self (abandonFill_serial c) (abandonFill_shownKind c) (abandonFill_shownLen c)

theorem beginFresh_keeps (q : Cue) (c : Channel) : c.Keeps (c.beginFresh q) :=
  let h := abandonFetch_keeps c q 0 (.frame 0)
  .self h.serial h.kind h.len

theorem skip_plays (ch : Fin 8) (rest : RestParams) (q : Cue) {promoted : Channel → Channel × List Out}
    (hp : ∀ c : Channel, c.Plays ch (promoted c)) (c : Channel) : c.Plays ch (c.skip ch rest q promoted) := by
  unfold Channel.skip
  split
  · exact (goIdle_plays ch rest c).andKeeps (.event .staleChain)
  · dsimp only
    split
    · exact ((carry_keeps _).plays ch).of_serial (abandonFill_serial c)
    · exact (hp _).of_serial (abandonFill_serial c)
    · split
      · exact (loadCurrent_plays ch rest _ _).of_serial (abandonFill_serial c)
      · exact (goIdle_plays ch rest _).of_serial (abandonFill_serial c)

theorem judgeWith_plays (s : State) (ch : Fin 8) (rest : RestParams) {promoted : Channel → Channel × List Out}
    {begin_ : Cue → Channel → Channel × List Out} (hp : ∀ c : Channel, c.Plays ch (promoted c)) (hb : ∀ (q : Cue) (c : Channel), c.Plays ch (begin_ q c))
    (c : Channel) : c.Plays ch (c.judgeWith s ch rest promoted begin_) := by
  unfold Channel.judgeWith
  split
  · split
    · exact skip_plays ch rest _ hp c
    · exact (hb _ _).of_serial rfl
  · exact .self ch c

theorem judge_plays (s : State) (ch : Fin 8) (rest : RestParams) {begin_ : Cue → Channel → Channel × List Out}
    (hb : ∀ (q : Cue) (c : Channel), c.Plays ch (begin_ q c)) (c : Channel) : c.Plays ch (c.judge s ch rest begin_) :=
  judgeWith_plays s ch rest (judgeWith_plays s ch rest (fun c => .self ch c) fun q c => (beginFresh_keeps q c).plays ch) hb c

theorem judgeFresh_plays (s : State) (ch : Fin 8) (rest : RestParams) (c : Channel) :
    c.Plays ch (c.judge s ch rest Channel.beginFresh) := judge_plays s ch rest (fun q c => (beginFresh_keeps q c).plays ch) c

theorem badCurrent_plays (s : State) (ch : Fin 8) (rest : RestParams) (c : Channel) : c.Plays ch (c.badCurrent s ch rest) := by
  refine (Channel.Keeps.event .badCue).andPlays ?_
  dsimp only
  split
  · exact (goIdle_plays ch rest _).of_serial rfl
  · exact (carry_keeps c).plays ch
  · exact (judgeFresh_plays s ch rest _).of_serial rfl

theorem loadDone_plays (s : State) (ch : Fin 8) (rest : RestParams) (no : Nat) (bs : List Byte) (err : Bool) (c : Channel) :
    c.Plays ch (c.loadDone s ch rest no bs err) := by
  unfold Channel.loadDone
  dsimp only
  generalize (if err then none else cueRecord bs) = cue
  split
  · cases cue with
    | some q => exact (judgeFresh_plays s ch rest _).of_serial rfl
    | none => exact badCurrent_plays s ch rest c
  · cases cue with
    | some q => exact .quiet rfl rfl rfl
    | none => exact .quiet rfl rfl rfl
  · exact .self ch c

theorem segmentStart_keeps (ch : Fin 8) (q : Cue) (c : Channel) : c.Keeps (c.segmentStart ch q) := by
  unfold Channel.segmentStart
  dsimp only
  split
  · split
    · exact (loadNext_keeps ch _ _).of_same rfl rfl rfl
    · exact .self rfl rfl rfl
  · exact .self rfl rfl rfl

theorem prefetch_keeps (q : Cue) (c : Channel) : c.Keeps (c.prefetch q, []) := by
  have hkeep : c.Keeps (c.abandonFill, []) := .self (by simp) (by simp) (by simp)
  unfold Channel.prefetch
  dsimp only
  split
  · exact abandonFetch_keeps ..
  · split
    · exact abandonFetch_keeps ..
    · split
      · exact abandonFetch_keeps ..
      · split
        · exact abandonFetch_keeps ..
        · exact hkeep

theorem showOrDrop_plays (ch : Fin 8) (c : Channel) : c.Plays ch (c.showOrDrop ch) := by
  unfold Channel.showOrDrop
  split
  · exact exchange_plays ch .frame c
  · exact Channel.Keeps.plays ⟨abandonFill_serial c, abandonFill_shownKind c, abandonFill_shownLen c, rfl, rfl⟩ ch

theorem slot_plays (ch : Fin 8) (q : Cue) (k : Nat) (starts : Bool) (c : Channel) : c.Plays ch (c.slot ch q k starts) := by
  refine (showOrDrop_plays ch c).andKeeps ?_
  refine Channel.Keeps.andThen ?_ (prefetch_keeps q _)
  split
  · exact (segmentStart_keeps ch q _).of_same rfl rfl rfl
  · exact .self rfl rfl rfl

theorem awaitedBoundary_plays (ch : Fin 8) (q : Cue) (c : Channel) : c.Plays ch (c.awaitedBoundary ch q) := by
  unfold Channel.awaitedBoundary
  split
  · exact .self ch c
  · exact slot_plays ch q _ _ c

theorem follow_plays (ch : Fin 8) (ofNext resume : Bool) (q : Cue) (c : Channel) : c.Plays ch (c.follow ch ofNext resume q) := by
  unfold Channel.follow
  split
  · dsimp only
    split
    · exact .quiet rfl rfl rfl
    · split
      · exact (awaitedBoundary_plays ch q _).of_serial rfl
      · exact slot_plays ch q 0 true c
  · exact (beginFresh_keeps q c).plays ch

theorem segmentEnd_plays (s : State) (ch : Fin 8) (rest : RestParams) (command : Bool) (c : Channel) :
    c.Plays ch (c.segmentEnd s ch rest command) := by
  have hlast (n : Channel) (hn : n.serial = c.serial) :
      c.Plays ch (match n.next with | .loading _ => (n.carry, []) | _ => n.goIdle ch rest) := by
    split
    · exact ((carry_keeps n).plays ch).of_serial hn
    · exact (goIdle_plays ch rest n).of_serial hn
  unfold Channel.segmentEnd
  dsimp only
  split
  · exact (judge_plays s ch rest (fun q c => follow_plays ch true _ q c) _).of_serial rfl
  · split
    · split
      · exact (judge_plays s ch rest (fun q c => follow_plays ch false _ q c) _).of_serial rfl
      · exact hlast { c with periodsLeft := 0, resume := false } rfl
    · exact hlast { c with periodsLeft := 0, resume := false } rfl

theorem due_plays (ch : Fin 8) (q : Cue) (k : Nat) (c : Channel) : c.Plays ch (c.due ch q k) := by
  unfold Channel.due
  split
  · exact (awaitedBoundary_plays ch q _).of_serial rfl
  · exact slot_plays ch q k false c

theorem runOut_plays (s : State) (ch : Fin 8) (rest : RestParams) (q : Cue) (c : Channel) : c.Plays ch (c.runOut s ch rest q) := by
  unfold Channel.runOut
  split
  · exact due_plays ch q _ c
  · split
    · exact (due_plays ch q 0 _).of_serial rfl
    · exact segmentEnd_plays s ch rest false c

theorem takeCut_plays (s : State) (ch : Fin 8) (rest : RestParams) (cause : Cut) (c : Channel) :
    c.Plays ch (c.takeCut s ch rest cause) := by
  refine (segmentEnd_plays s ch rest _ _).of_serial ?_
  split <;> rfl

theorem boundary_plays (s : State) (ch : Fin 8) (rest : RestParams) (c : Channel) : c.Plays ch (c.boundary s ch rest) := by
  unfold Channel.boundary
  split
  · exact .self ch c
  · split
    · exact takeCut_plays s ch rest _ c
    · split
      · exact .self ch c
      · split
        · split
          · exact awaitedBoundary_plays ch _ c
          · split
            · dsimp only
              split
              · exact (runOut_plays s ch rest _ _).of_serial rfl
              · exact .quiet rfl rfl rfl
            · exact .self ch c
        · exact .self ch c

end Sys2Proof.Machine
end

section
/-! Cue records, stale cues skipped, and cue loads (R77, R78, R82, R92, R93). -/

namespace Sys2Proof.Machine

/-! ### Cue records (R77, R78) -/

theorem ofCode_cases (n : Nat) : CueMode.ofCode? n = if n = 0 then some .step else if n = 1 then some .list
    else if n = 2 then some .still else none := by
  unfold CueMode.ofCode?
  split <;> simp_all

theorem ofNat8_getLsbD_zero (n : Nat) : (BitVec.ofNat 8 n).getLsbD 0 = decide (n % 2 = 1) := by
  rw [BitVec.getLsbD_ofNat]
  simp [Nat.testBit_zero]

theorem ofNat8_getLsbD_one (n : Nat) : (BitVec.ofNat 8 n).getLsbD 1 = decide (n / 2 % 2 = 1) := by
  rw [BitVec.getLsbD_ofNat]
  simp [Nat.testBit_succ, Nat.testBit_zero]

theorem clampTo_eight (n : Nat) : clampTo 1 8 n = max 1 (min 8 n) := rfl

/-- The fields of a cue record, its mode known (R77). -/
def cueFields (bs : List Byte) (mode : CueMode) : Cue :=
  { mode := mode, multiple := max 1 (min 8 (byteAt bs 1)), repeats := byteAt bs 2
    skipIfStale := decide (byteAt bs 3 % 2 = 1), loop := decide (byteAt bs 3 / 2 % 2 = 1), length := le32At bs 8
    count := le16At bs 4, show_ := le16At bs 6, base := le32At bs 12, stride := le32At bs 16 / 8 * 8
    next := BitVec.ofNat 32 (le32At bs 20) }

theorem cueRecord_of_mode {bs : List Byte} {mode : CueMode} (h : CueMode.ofCode? (byteAt bs 0) = some mode) :
    cueRecord bs = if (cueFields bs mode).valid then some (cueFields bs mode) else none := by
  simp only [cueRecord, h, ofNat8_getLsbD_zero, ofNat8_getLsbD_one, clampTo_eight]
  rfl

theorem cueRecord_of_none {bs : List Byte} (h : CueMode.ofCode? (byteAt bs 0) = none) : cueRecord bs = none := by
  simp only [cueRecord, h]

theorem valid_step_iff (q : Cue) (h : q.mode = .step) : q.valid = true ↔ 1 ≤ q.length ∧ q.length ≤ 16384 ∧ q.count ≠ 0 ∧
    q.base % 8 = 0 ∧ q.base + (q.count - 1) * q.stride + q.length ≤ 2 ^ 32 := by
  simp only [Cue.valid, h, Bool.and_eq_true, decide_eq_true_eq, and_assoc]

theorem valid_list_iff (q : Cue) (h : q.mode = .list) : q.valid = true ↔ 1 ≤ q.length ∧ q.length ≤ 16384 ∧ q.count ≠ 0 ∧
    q.base % 4 = 0 ∧ q.base + 4 * q.count ≤ 2 ^ 32 := by
  simp only [Cue.valid, h, Bool.and_eq_true, decide_eq_true_eq, and_assoc]

theorem valid_still_iff (q : Cue) (h : q.mode = .still) : q.valid = true ↔ 1 ≤ q.length ∧ q.length ≤ 16384 ∧ q.count ≠ 0 ∧
    q.base % 8 = 0 ∧ q.base + q.length ≤ 2 ^ 32 := by
  simp only [Cue.valid, h, Bool.and_eq_true, decide_eq_true_eq, and_assoc]

/-- A record is invalid under a condition that its mode's check turns down, and else gives its fields. -/
theorem cueRecord_by_mode {bs : List Byte} {mode : CueMode} {bad : Prop} (h : CueMode.ofCode? (byteAt bs 0) = some mode)
    (hvalid : (cueFields bs mode).valid = true ↔ ¬ bad) :
    (bad → cueRecord bs = none) ∧ (¬ bad → cueRecord bs = some (cueFields bs mode)) := by
  rw [cueRecord_of_mode h]
  exact ⟨fun hbad => if_neg (mt hvalid.1 (not_not.2 hbad)), fun hok => if_pos (hvalid.2 hok)⟩

/-! ### The rank loads of a channel -/

theorem carry_eq (c : Channel) : c.carry =
    { c.abandonFill with
      current := c.next, next := .empty, periodsLeft := 0, loads := c.abandonFill.loads + 1
      nos := { c.abandonFill.nos with current := c.nos.next, next := c.abandonFill.loads + 1 } } := by
  have hnos : c.abandonFill.nos.next = c.nos.next :=
    (abandonFill_of c .next).trans (if_neg fun h => fillPurpose_ne_next c h.2)
  simp only [Channel.carry, abandonFill_next, hnos]
  rfl

theorem fetch_step {q : Cue} (h : q.mode ≠ .list) (k : Nat) (what : FillFor) (c : Channel) :
    c.fetch q k what = { c.number .frame with
      filling := .fetching, fillFor := what, fillBuf := []
      plan := { pointer := none, addr := some (q.frameAddr k), total := beatsFor q.length, issued := 0, received := 0,
                length := q.length } } := by
  unfold Channel.fetch
  split
  case h_1 hlist => exact absurd hlist h
  case h_2 => rfl

theorem fetch_list {q : Cue} (h : q.mode = .list) (k : Nat) (what : FillFor) (c : Channel) :
    c.fetch q k what = { c.number .pointer with
      filling := .fetching, fillFor := what, fillBuf := []
      plan := { pointer := some (q.base + 4 * k), addr := none, total := 1, issued := 0, received := 0,
                length := q.length } } := by
  simp only [Channel.fetch, h]

/-- A fetch begun changes the filling buffer and the load numbers alone. -/
theorem fetch_eq (q : Cue) (k : Nat) (what : FillFor) (c : Channel) :
    c.fetch q k what = { c with
      filling := .fetching, fillFor := what, fillBuf := [], plan := (c.fetch q k what).plan
      loads := (c.fetch q k what).loads, nos := (c.fetch q k what).nos } := by
  by_cases h : q.mode = .list
  · rw [fetch_list h]
    rfl
  · rw [fetch_step h]
    rfl

theorem fetch_fetches (q : Cue) (k : Nat) (what : FillFor) (c : Channel) : (c.fetch q k what).fetches q k what := by
  cases h : q.mode with
  | list =>
    rw [fetch_list h]
    exact ⟨rfl, rfl, rfl, by rw [h]⟩
  | step =>
    rw [fetch_step (by simp [h]), Cue.frameAddr, h]
    exact ⟨rfl, rfl, rfl, by rw [h]; rfl⟩
  | still =>
    rw [fetch_step (by simp [h]), Cue.frameAddr, h]
    exact ⟨rfl, rfl, rfl, by rw [h]; rfl⟩

/-- A segment begun with no frame at hand changes the filling buffer, the awaited marks and the periods left alone (R87). -/
theorem beginFresh_eq (q : Cue) (c : Channel) : ∃ d : Channel, c.beginFresh q = (d, []) ∧ d.fetches q 0 (.frame 0) ∧
    d = { c with
      filling := .fetching, fillFor := .frame 0, fillBuf := [], plan := d.plan, awaited := true, begins := true
      periodsLeft := 0, loads := d.loads, nos := d.nos } := by
  refine ⟨_, rfl, fetch_fetches q 0 (.frame 0) c.abandonFill, ?_⟩
  rw [fetch_eq, abandonFill_eq]

/-! ### Stale cues skipped (R92, R93) -/

theorem goIdle_reads (ch : Fin 8) (rest : RestParams) (c : Channel) : (c.goIdle ch rest).2.filterMap Out.record? = [] := by
  by_cases h : rest.usedLen = 0
  · rw [(goIdle_of_no_rest h ch c).2.2.2]
    rfl
  · rw [(goIdle_of_rest h ch c).1]
    rfl

/-- A skipped cue is passed over (R93); where the next rank is FULL, this says nothing below the fourth skip. -/
theorem skip_passedOver (c : Channel) (ch : Fin 8) (rest : RestParams) (q : Cue)
    (promoted : Channel → Channel × List Out) :
    c.passedOver ch q (c.skip ch rest q promoted).1 ((c.skip ch rest q promoted).2.filterMap Out.event?)
      ((c.skip ch rest q promoted).2.filterMap Out.record?) := by
  by_cases hfourth : 3 ≤ c.skips
  · have hskip : c.skip ch rest q promoted = ((c.goIdle ch rest).1, (c.goIdle ch rest).2 ++ [.event .staleChain]) :=
      if_pos (Nat.succ_le_succ hfourth)
    obtain ⟨hstate, hcurrent, hnext, -, -, hskips, -⟩ := goIdle_clears ch rest c
    rw [hskip, List.filterMap_append, List.filterMap_append, goIdle_events, goIdle_reads]
    exact ⟨fun _ => ⟨hstate, hcurrent, hnext, hskips, rfl, rfl⟩, fun _ hlt => absurd hlt (not_lt.2 hfourth),
      fun hlt => absurd hlt (not_lt.2 hfourth), fun hlt => absurd hlt (not_lt.2 hfourth)⟩
  · have hfew : ¬ 4 ≤ c.skips + 1 := by omega
    have hidle (hnext : c.next = .empty) (hnone : q.next = 0 ∨ q.next.toNat % 8 ≠ 0) :
        ∃ d : Channel, c.skip ch rest q promoted =
          ((d.goIdle ch rest).1, (if q.next = 0 then [] else [.event .badCue]) ++ (d.goIdle ch rest).2) := by
      refine ⟨{ c.abandonFill with skips := c.skips + 1 }, ?_⟩
      simp only [Channel.skip, if_neg hfew, abandonFill_next, hnext]
      by_cases hzero : q.next = 0
      · rw [if_neg (not_not.2 hzero), if_pos hzero]
        rfl
      · rw [if_pos hzero, if_neg hzero, loadCurrent_of_bad (cueAddrOk_eq_false hnone)]
        rfl
    refine ⟨fun hge => absurd hge hfourth, fun b _ hnext => ?_, fun _ hnext hne halign => ?_, fun _ hnext hnone => ?_⟩
    · have hskip : c.skip ch rest q promoted = (({ c.abandonFill with skips := c.skips + 1 } : Channel).carry, []) := by
        simp only [Channel.skip, if_neg hfew, abandonFill_next, hnext]
      rw [hskip, carry_eq, abandonFill_eq]
      refine ⟨abandonFill_state c, (abandonFill_next c).trans hnext, rfl, ?_, rfl, rfl, rfl, abandonFill_serial c,
        abandonFill_shownBuf c, rfl, rfl⟩
      exact (abandonFill_of c .next).trans (if_neg fun h => fillPurpose_ne_next c h.2)
    · have hskip : c.skip ch rest q promoted = ({ c.abandonFill with skips := c.skips + 1 } : Channel).loadCurrent ch rest q.next := by
        simp only [Channel.skip, if_neg hfew, abandonFill_next, hnext]
        exact if_pos hne
      rw [hskip, loadCurrent_of_ok (cueAddrOk_eq_true hne halign)]
      refine ⟨abandonFill_state c, rfl, (abandonFill_next c).trans hnext, rfl, rfl, ?_, abandonFill_serial c,
        abandonFill_shownBuf c, rfl, rfl⟩
      exact (congrArg Channel.filling (abandonFill_eq c)).trans rfl
    · obtain ⟨d, hskip⟩ := hidle hnext hnone
      obtain ⟨hstate, hcurrent, hnext', -, -, hskips, -⟩ := goIdle_clears ch rest d
      rw [hskip, List.filterMap_append, List.filterMap_append, goIdle_events, goIdle_reads]
      refine ⟨hstate, hcurrent, hnext', hskips, ?_, ?_⟩
      · split <;> rfl
      · split <;> rfl

/-- Below the fourth skip a FULL next rank takes the skipped cue's place. -/
theorem skip_of_ready {c : Channel} {b : Addr} {n : Cue} (hfew : c.skips < 3) (hnext : c.next = .ready b n) (ch : Fin 8)
    (rest : RestParams) (q : Cue) (promoted : Channel → Channel × List Out) : c.skip ch rest q promoted =
      promoted { c.abandonFill with skips := c.skips + 1, current := .ready b n, next := .empty } := by
  have hlow : ¬ 4 ≤ c.skips + 1 := by omega
  simp only [Channel.skip, if_neg hlow, abandonFill_next, hnext]

/-- What passing over reads of the channel. -/
theorem passedOver_congr {c d : Channel} (hskips : d.skips = c.skips) (hnext : d.next = c.next) (hstate : d.state = c.state)
    (hno : d.nos.next = c.nos.next) (hserial : d.serial = c.serial) (hbuf : d.shownBuf = c.shownBuf) {ch : Fin 8} {q : Cue}
    {c' : Channel} {events : List EventKind} {reads : List AgentReq} (h : d.passedOver ch q c' events reads) :
    c.passedOver ch q c' events reads := by
  unfold Channel.passedOver at h ⊢
  rwa [hskips, hnext, hstate, hno, hserial, hbuf] at h

theorem judgeWith_of_begins {s : State} {c : Channel} {a : Addr} {q : Cue} (hcur : c.current = .ready a q)
    (hfresh : s.stale q = true → q.skipIfStale = false) (ch : Fin 8) (rest : RestParams)
    (promoted : Channel → Channel × List Out) (begin_ : Cue → Channel → Channel × List Out) :
    c.judgeWith s ch rest promoted begin_ = begin_ q { c with skips := 0 } := by
  simp only [Channel.judgeWith, hcur]
  refine if_neg fun h => ?_
  rw [Bool.and_eq_true] at h
  rw [hfresh h.1] at h
  cases h.2

theorem judgeWith_of_stale {s : State} {c : Channel} {a : Addr} {q : Cue} (hcur : c.current = .ready a q)
    (hstale : s.stale q = true) (hskip : q.skipIfStale = true) (ch : Fin 8) (rest : RestParams)
    (promoted : Channel → Channel × List Out) (begin_ : Cue → Channel → Channel × List Out) :
    c.judgeWith s ch rest promoted begin_ = c.skip ch rest q promoted := by
  simp only [Channel.judgeWith, hcur, hstale, hskip, Bool.and_self, if_true]

/-! ### What is stale (R92) -/

theorem stale_of_no_show (s : State) {q : Cue} (h : q.show_ = 0) : s.stale q = false := by
  simp [State.stale, h]

theorem stale_of_none {s : State} {q : Cue} (h : q.show_ ≠ 0)
    (hnone : ∀ i, ((s.tracker.entries.get i).state = .onSale ∨ (s.tracker.entries.get i).state = .closing) →
      (s.tracker.entries.get i).fields.id ≠ q.show_) : s.stale q = true := by
  have hfind : ((allFin 192).find? fun i => (s.tracker.entries.get i).state.sellingNow &&
      decide ((s.tracker.entries.get i).fields.id = q.show_)) = none := by
    refine List.find?_eq_none.2 fun i _ => ?_
    rw [Bool.and_eq_true, decide_eq_true_eq, sellingNow_iff]
    exact fun ⟨hselling, hid⟩ => hnone i hselling hid
  rw [State.stale, hfind, decide_eq_true h]
  rfl

theorem stale_of_show {s : State} {q : Cue} {i : Fin 192} (h : q.show_ ≠ 0)
    (hselling : (s.tracker.entries.get i).state = .onSale ∨ (s.tracker.entries.get i).state = .closing)
    (hid : (s.tracker.entries.get i).fields.id = q.show_)
    (honly : ∀ j, ((s.tracker.entries.get j).state = .onSale ∨ (s.tracker.entries.get j).state = .closing) →
      (s.tracker.entries.get j).fields.id = q.show_ → j = i) : s.stale q = true ↔ s.bandQuery i = .soldOut := by
  have hfind : ((allFin 192).find? fun i => (s.tracker.entries.get i).state.sellingNow &&
      decide ((s.tracker.entries.get i).fields.id = q.show_)) = some i := by
    refine find_allFin_eq_some ?_ fun j hj => ?_
    · rw [Bool.and_eq_true, decide_eq_true_eq, sellingNow_iff]
      exact ⟨hselling, hid⟩
    · rw [← Bool.not_eq_true, Bool.and_eq_true, decide_eq_true_eq, sellingNow_iff]
      rintro ⟨hselling', hid'⟩
      exact absurd (congrArg Fin.val (honly j hselling' hid')) (Nat.ne_of_lt hj)
  rw [State.stale, hfind, decide_eq_true h, Bool.true_and, decide_eq_true_eq]

end Sys2Proof.Machine
end

section
/-! Cue loads at their rank (R81, R82, R92, R93). -/

namespace Sys2Proof.Machine

/-! ### The response at its rank (R81, R82) -/

section
variable {s : State} {ch : Fin 8} {rest : RestParams} {c : Channel} {no : Nat} {bs : List Byte} {err : Bool}

theorem loadDone_current_valid {a : Addr} {q : Cue} (hno : c.nos.current = no) (hcur : c.current = .loading a)
    (hcue : (if err then none else cueRecord bs) = some q) : c.loadDone s ch rest no bs err =
      ({ c with current := .ready a q } : Channel).judge s ch rest Channel.beginFresh := by
  simp only [Channel.loadDone, hno, hcur, decide_true, hcue]

theorem loadDone_current_bad {a : Addr} (hno : c.nos.current = no) (hcur : c.current = .loading a)
    (hcue : (if err then none else cueRecord bs) = none) : c.loadDone s ch rest no bs err = c.badCurrent s ch rest := by
  simp only [Channel.loadDone, hno, hcur, decide_true, hcue]

/-- A response that the current rank does not await is one for the next rank, or of a load no longer kept. -/
theorem loadDone_past_current (hcur : c.nos.current ≠ no ∨ ∀ b, c.current ≠ .loading b) {p : Channel × List Out}
    (hnext : ∀ b, c.nos.next = no → c.next = .loading b → p = match (if err then none else cueRecord bs) with
      | some q => ({ c with next := .ready b q }, [])
      | none => ({ c with next := .empty }, [.event .badCue]))
    (hnone : (c.nos.next ≠ no ∨ ∀ b, c.next ≠ .loading b) → p = (c, [])) : c.loadDone s ch rest no bs err = p := by
  unfold Channel.loadDone
  dsimp only
  split
  case h_1 b hdec hload => exact (hcur.elim (· (of_decide_eq_true hdec)) (· b hload)).elim
  case h_2 b hdec hload _ => exact (hnext b (of_decide_eq_true hdec) hload).symm
  case h_3 _ hother =>
    refine (hnone ?_).symm
    by_cases hno : c.nos.next = no
    · exact .inr fun b hb => hother b (decide_eq_true hno) hb
    · exact .inl hno

theorem loadDone_next_valid {a : Addr} {q : Cue} (hcur : c.nos.current ≠ no ∨ ∀ b, c.current ≠ .loading b)
    (hno : c.nos.next = no) (hnext : c.next = .loading a) (hcue : (if err then none else cueRecord bs) = some q) :
    c.loadDone s ch rest no bs err = ({ c with next := .ready a q }, []) := by
  refine loadDone_past_current hcur (fun b _ hb => ?_) fun h => (h.elim (· hno) (· a hnext)).elim
  rw [hnext] at hb
  cases hb
  rw [hcue]

theorem loadDone_next_bad {a : Addr} (hcur : c.nos.current ≠ no ∨ ∀ b, c.current ≠ .loading b)
    (hno : c.nos.next = no) (hnext : c.next = .loading a) (hcue : (if err then none else cueRecord bs) = none) :
    c.loadDone s ch rest no bs err = ({ c with next := .empty }, [.event .badCue]) := by
  refine loadDone_past_current hcur (fun b _ hb => ?_) fun h => (h.elim (· hno) (· a hnext)).elim
  rw [hcue]

theorem loadDone_of_stale (hcur : c.nos.current ≠ no ∨ ∀ b, c.current ≠ .loading b)
    (hnext : c.nos.next ≠ no ∨ ∀ b, c.next ≠ .loading b) : c.loadDone s ch rest no bs err = (c, []) :=
  loadDone_past_current hcur (fun b hno hb => (hnext.elim (· hno) (· b hb)).elim) fun _ => rfl

theorem badCurrent_eq {p : Channel × List Out} (hempty : c.next = .empty → ({ c with current := .empty } : Channel).goIdle ch rest = p)
    (hload : ∀ b, c.next = .loading b → (c.carry, []) = p)
    (hready : ∀ b q, c.next = .ready b q →
      ({ c with current := .ready b q, next := .empty } : Channel).judge s ch rest Channel.beginFresh = p) :
    c.badCurrent s ch rest = (p.1, .event .badCue :: p.2) := by
  unfold Channel.badCurrent andThen
  dsimp only
  split
  case h_1 hnext => rw [← hempty hnext]; rfl
  case h_2 b hnext => rw [← hload b hnext]; rfl
  case h_3 b q hnext => rw [← hready b q hnext]; rfl

end

/-! ### The command -/

theorem cueLoadDone_run {s : State} {ch : Fin 8} {no : Nat} {data : List Beat} {err : Bool} {more : List Response} {c : Channel}
    {p : Channel × List Out} (hmsg : s.mail.reelResp = { tag := .cue ch no, data := data, err := err } :: more)
    (hc : s.reel.channels.get ch = c) (hp : c.loadDone s ch (s.restOf ch) no (beatsBytes data) err = p) :
    cueLoadDone s = ((s.withMail { s.mail with reelResp := more }).withReel
      { s.reel with channels := s.reel.channels.set ch p.1 }).emit p.2 := by
  subst hc hp
  simp only [cueLoadDone, hmsg, State.popReelResp]
  rfl

/-- A frame-0 fetch that begins a segment, what a channel keeps through it (R87). -/
theorem beginFresh_starts (q : Cue) (c : Channel) : ∃ d : Channel, c.beginFresh q = (d, []) ∧ d.state = c.state ∧
    d.current = c.current ∧ d.next = c.next ∧ d.skips = c.skips ∧ d.filling = .fetching ∧ d.fillFor = .frame 0 ∧ d.awaited = true ∧
    d.begins = true ∧ d.shownBuf = c.shownBuf ∧ d.serial = c.serial ∧ d.plan.length = q.length ∧
    (q.mode = .list → d.plan.pointer = some q.base ∧ d.plan.addr = none) ∧
    (q.mode ≠ .list → d.plan.pointer = none ∧ d.plan.addr = some q.base ∧ d.plan.total = (q.length + 7) / 8) := by
  obtain ⟨d, hd, ⟨hfilling, hfor, -, hplan⟩, hkeep⟩ := beginFresh_eq q c
  have hfield {α : Type} (f : Channel → α) := congrArg f hkeep
  refine ⟨d, hd, hfield (·.state), hfield (·.current), hfield (·.next), hfield (·.skips), hfilling, hfor, hfield (·.awaited),
    hfield (·.begins), hfield (·.shownBuf), hfield (·.serial), ?_⟩
  cases h : q.mode with
  | list =>
    rw [h] at hplan
    rw [hplan]
    simp
  | step =>
    rw [h] at hplan
    rw [hplan]
    simp
  | still =>
    rw [h] at hplan
    rw [hplan]
    simp

/-- A cue record is invalid exactly under a condition of R78, and a valid one gives the fields of R77. -/
theorem cueRecord_checked (bs : List Byte) (mode count length base stride : Nat) (bad : Prop) (hmode : mode = byteAt bs 0)
    (hcount : count = le16At bs 4) (hlength : length = le32At bs 8) (hbase : base = le32At bs 12)
    (hstride : stride = le32At bs 16 / 8 * 8)
    (hbad : bad = (2 < mode ∨ length = 0 ∨ 16384 < length ∨ count = 0 ∨ (mode = 0 ∧ base % 8 ≠ 0) ∨ (mode = 2 ∧ base % 8 ≠ 0) ∨
      (mode = 1 ∧ base % 4 ≠ 0) ∨ (mode = 0 ∧ 2 ^ 32 < base + (count - 1) * stride + length) ∨
      (mode = 2 ∧ 2 ^ 32 < base + length) ∨ (mode = 1 ∧ 2 ^ 32 < base + 4 * count))) :
    (bad → cueRecord bs = none) ∧ (¬ bad → cueRecord bs =
      some (cueFields bs (if mode = 0 then .step else if mode = 1 then .list else .still))) := by
  have hcode := ofCode_cases (byteAt bs 0)
  rw [← hmode] at hcode
  subst hbad hcount hlength hbase hstride
  by_cases hlow : 2 < mode
  · refine ⟨fun _ => cueRecord_of_none ?_, fun h => absurd (.inl hlow) h⟩
    rw [← hmode, hcode, if_neg (by omega), if_neg (by omega), if_neg (by omega)]
  · by_cases h0 : mode = 0
    · rw [if_pos h0] at hcode ⊢
      refine cueRecord_by_mode (hmode ▸ hcode) ?_
      rw [valid_step_iff _ rfl]
      simp only [cueFields, h0]
      simp
      omega
    · by_cases h1 : mode = 1
      · rw [if_neg h0, if_pos h1] at hcode ⊢
        refine cueRecord_by_mode (hmode ▸ hcode) ?_
        rw [valid_list_iff _ rfl]
        simp only [cueFields, h1]
        simp
        omega
      · have h2 : mode = 2 := by omega
        rw [if_neg h0, if_neg h1, if_pos h2] at hcode
        rw [if_neg h0, if_neg h1]
        refine cueRecord_by_mode (hmode ▸ hcode) ?_
        rw [valid_still_iff _ rfl]
        simp only [cueFields, h2]
        simp
        omega

theorem emit_raised (s : State) (events : List EventKind) :
    s.emit (events.map .event) = s.withMail { s.mail with events := s.mail.events ++ events } := by
  induction events generalizing s with
  | nil => simp [State.withMail]
  | cons k events ih => simp [emit_event, ih, State.withMail]

/-- Settles O44. -/
theorem cueLoadsFillTheirRank : Obligations.CueLoadsFillTheirRank := by
  refine ⟨fun bs mode count length base stride bad hmode hcount hlength hbase hstride hbad => ?_,
    fun s ch no data err more c cue starts moves hmsg hc hmoves hcue hstarts => ?_⟩
  · have hrecord := cueRecord_checked bs mode count length base stride bad hmode hcount hlength hbase hstride hbad
    subst hcount hlength hbase hstride
    exact hrecord
  have hplays (p) (hp : c.loadDone s ch (s.restOf ch) no (beatsBytes data) err = p) :
      ∃ t, exec .cueLoadDone s = .next t ∧ moves t p.1 (p.2.filterMap Out.event?) (p.2.filterMap Out.record?) := by
    have hplay : c.Plays ch p := hp ▸ loadDone_plays ..
    have hrun := cueLoadDone_run hmsg hc hp
    rw [emit_ofReel hplay.sent] at hrun
    refine ⟨_, rfl, (hmoves _ _ _ _).2 ⟨(cueLoadDone_frame s).commit, ?_⟩⟩
    simp only [commit_reel, commit_mail, commit_path, hrun, ← hplay.notes]
    exact ⟨rfl, rfl, rfl⟩
  have hraised (c' : Channel) (events : List EventKind)
      (hp : c.loadDone s ch (s.restOf ch) no (beatsBytes data) err = (c', events.map .event)) :
      exec .cueLoadDone s = .next (commit s (((s.withMail { s.mail with reelResp := more }).withReel
        { s.reel with channels := s.reel.channels.set ch c' }).withMail
          { s.mail with reelResp := more, events := s.mail.events ++ events })) := by
    have hrun := cueLoadDone_run hmsg hc hp
    rw [emit_raised] at hrun
    exact congrArg (goOn s) hrun
  have hframe (c' : Channel) (m : Mail) : Frame [.reel, .mail] s (commit s (((s.withMail { s.mail with reelResp := more }).withReel
        { s.reel with channels := s.reel.channels.set ch c' }).withMail m)) :=
    (((frame_withMail s _).mono (by simp)).trans (((frame_withReel _ _).mono (by simp)).trans
      ((frame_withMail _ _).mono (by simp)))).commit
  have hfresh {a : Addr} {q : Cue} {d e : Channel} (hd : e = { d with skips := 0 }) (hstate : d.state = c.state)
      (hcur : d.current = .ready a q) (hbuf : d.shownBuf = c.shownBuf) (hserial : d.serial = c.serial) :
      ∃ c', e.beginFresh q = (c', []) ∧ starts a q c' ∧ c'.next = d.next := by
    subst hd
    obtain ⟨c', hbegin, hstate', hcur', hnext', hskips', hfilling, hfor, hawaited, hbegins, hbuf', hserial', hplan⟩ :=
      beginFresh_starts q { d with skips := 0 }
    exact ⟨c', hbegin, (hstarts _ _ _).2 ⟨hstate'.trans hstate, hcur'.trans hcur, hskips', hfilling, hfor, hawaited, hbegins,
      hbuf'.trans hbuf, hserial'.trans hserial, hplan⟩, hnext'⟩
  refine ⟨fun hcur hnext => ?_, fun a hcur hno hnext => ⟨fun q hq => ?_, fun hq => ?_⟩, fun a hno hcur => ⟨fun q hq hfresh' => ?_,
    fun q hq hstale hskip hover => ?_, fun q b n hq hstale hskip hfew hnext => ⟨fun hfresh' => ?_, fun hstale' hskip' => ?_⟩,
    fun hq hnext => ?_, fun b hq hnext => ?_, fun b q hq hnext hfresh' => ?_, fun b q hq hnext hstale hskip => ?_⟩,
    fun q => ⟨stale_of_no_show s, stale_of_none, fun i => stale_of_show⟩⟩
  · have hrun := cueLoadDone_run hmsg hc (loadDone_of_stale hcur hnext)
    rw [← hc, set_channel_self, emit_nil] at hrun
    exact congrArg (goOn s) hrun
  · have hrun := cueLoadDone_run hmsg hc (loadDone_next_valid hcur hno hnext (hcue ▸ hq))
    exact congrArg (goOn s) hrun
  · have hrun := cueLoadDone_run hmsg hc (loadDone_next_bad hcur hno hnext (hcue ▸ hq))
    exact congrArg (goOn s) hrun
  · obtain ⟨c', hbegin, hstart, hnext⟩ := hfresh (d := { c with current := .ready a q }) rfl rfl rfl rfl rfl
    have hdone := loadDone_current_valid (s := s) (ch := ch) (rest := s.restOf ch) hno hcur (hcue ▸ hq)
    rw [Channel.judge, judgeWith_of_begins rfl hfresh', hbegin] at hdone
    refine ⟨_, c', hraised c' [] hdone, hframe _ _, ?_, ?_, hstart, hnext⟩
    · rw [commit_mail, List.append_nil]
      rfl
    · exact commit_reel ..
  · have hdone := loadDone_current_valid (s := s) (ch := ch) (rest := s.restOf ch) hno hcur (hcue ▸ hq)
    rw [Channel.judge, judgeWith_of_stale rfl hstale hskip] at hdone
    obtain ⟨t, hexec, hmove⟩ := hplays _ hdone
    exact ⟨t, _, _, _, hexec, hmove,
      passedOver_congr (d := { c with current := .ready a q }) rfl rfl rfl rfl rfl rfl (skip_passedOver ..)⟩
  · have hdone := loadDone_current_valid (s := s) (ch := ch) (rest := s.restOf ch) hno hcur (hcue ▸ hq)
    obtain ⟨c', hbegin, hstart, hnext'⟩ := hfresh
      (d := { ({ c with current := .ready a q } : Channel).abandonFill with skips := c.skips + 1, current := .ready b n, next := .empty })
      rfl (abandonFill_state _) rfl (abandonFill_shownBuf _) (abandonFill_serial _)
    rw [Channel.judge, judgeWith_of_stale rfl hstale hskip, skip_of_ready (c := { c with current := .ready a q }) hfew hnext, judgeWith_of_begins rfl hfresh',
      hbegin] at hdone
    obtain ⟨t, hexec, hmove⟩ := hplays _ hdone
    exact ⟨t, c', hexec, hmove, hstart, hnext'⟩
  · have hdone := loadDone_current_valid (s := s) (ch := ch) (rest := s.restOf ch) hno hcur (hcue ▸ hq)
    rw [Channel.judge, judgeWith_of_stale rfl hstale hskip, skip_of_ready (c := { c with current := .ready a q }) hfew hnext, judgeWith_of_stale rfl hstale' hskip'] at hdone
    obtain ⟨t, hexec, hmove⟩ := hplays _ hdone
    refine ⟨t, _, _, _, hexec, hmove, passedOver_congr
      (c := { c with skips := c.skips + 1, next := .empty })
      (d := { ({ c with current := .ready a q } : Channel).abandonFill with
        skips := c.skips + 1, current := .ready b n, next := .empty })
      rfl rfl (abandonFill_state _) ?_ (abandonFill_serial _) (abandonFill_shownBuf _) (skip_passedOver ..)⟩
    exact (abandonFill_of { c with current := .ready a q } .next).trans (if_neg fun h => fillPurpose_ne_next _ h.2)
  · have hdone := (loadDone_current_bad (s := s) (ch := ch) (rest := s.restOf ch) hno hcur (hcue ▸ hq)).trans
      (badCurrent_eq (fun _ => rfl) (fun b hb => by rw [hnext] at hb; cases hb) (fun b q hb => by rw [hnext] at hb; cases hb))
    have hsends : Sends [.mail] (({ c with current := .empty } : Channel).goIdle ch (s.restOf ch)).2 :=
      goIdle_sends ch (s.restOf ch) _
    have hrun := cueLoadDone_run hmsg hc hdone
    have hget : (s.reel.channels.set ch (({ c with current := .empty } : Channel).goIdle ch (s.restOf ch)).1).get ch =
      (({ c with current := .empty } : Channel).goIdle ch (s.restOf ch)).1 := Table.get_set_self _ _ _
    obtain ⟨hstate, hcurrent, -, -, -, hskips, -⟩ := goIdle_clears ch (s.restOf ch) { c with current := .empty }
    refine ⟨_, congrArg (goOn s) hrun, ?_, ?_, ?_, ?_, ?_, ?_⟩
    · rw [emit_event, emit_posts hsends]
      exact hframe _ _
    · rw [commit_mail, emit_event, emit_posts hsends, posts_eq, goIdle_events, List.append_nil]
      rfl
    · rw [commit_reel, emit_reel]
      exact (congrArg Channel.state hget).trans hstate
    · rw [commit_reel, emit_reel]
      exact (congrArg Channel.current hget).trans hcurrent
    · rw [commit_reel, emit_reel]
      exact (congrArg Channel.skips hget).trans hskips
    · rw [commit_reel, emit_reel]
      refine (congrArg (fun d => d.nos.current) hget).trans ((goIdle_of_not_hasLoad (p := .current)
        (c := { c with current := .empty }) (by decide) ?_ _ _).trans hno)
      rintro ⟨b, hb⟩
      cases hb
  · have hdone := (loadDone_current_bad (s := s) (ch := ch) (rest := s.restOf ch) hno hcur (hcue ▸ hq)).trans
      (badCurrent_eq (p := (c.carry, [])) (fun hb => by rw [hnext] at hb; cases hb) (fun b hb => rfl)
        (fun b q hb => by rw [hnext] at hb; cases hb))
    refine ⟨_, c.carry, hraised c.carry [.badCue] hdone, hframe _ _, commit_mail .., commit_reel .., ?_⟩
    rw [carry_eq]
    exact ⟨hnext, rfl, rfl, rfl, abandonFill_state c, abandonFill_shownBuf c⟩
  · obtain ⟨c', hbegin, hstart, hnext'⟩ := hfresh (d := { c with current := .ready b q, next := .empty }) rfl rfl rfl rfl rfl
    have hdone := (loadDone_current_bad (s := s) (ch := ch) (rest := s.restOf ch) hno hcur (hcue ▸ hq)).trans
      (badCurrent_eq (p := (c', [])) (fun hb => by rw [hnext] at hb; cases hb) (fun b hb => by rw [hnext] at hb; cases hb)
        (fun b' q' hb => by
          rw [hnext] at hb
          cases hb
          rw [Channel.judge, judgeWith_of_begins rfl hfresh', hbegin]))
    exact ⟨_, c', hraised c' [.badCue] hdone, hframe _ _, commit_mail .., commit_reel .., hstart, hnext'⟩
  · have hdone := (loadDone_current_bad (s := s) (ch := ch) (rest := s.restOf ch) hno hcur (hcue ▸ hq)).trans
      (badCurrent_eq (p := ({ c with current := .ready b q, next := .empty } : Channel).skip ch (s.restOf ch) q
          (Channel.judgeWith s ch (s.restOf ch) (fun c => (c, [])) Channel.beginFresh))
        (fun hb => by rw [hnext] at hb; cases hb) (fun b hb => by rw [hnext] at hb; cases hb)
        (fun b' q' hb => by
          rw [hnext] at hb
          cases hb
          rw [Channel.judge, judgeWith_of_stale rfl hstale hskip]))
    obtain ⟨t, hexec, hmove⟩ := hplays _ hdone
    exact ⟨t, _, _, _, hexec, hmove, passedOver_congr (d := { c with current := .ready b q, next := .empty })
      rfl rfl rfl rfl rfl rfl (skip_passedOver ..)⟩

end Sys2Proof.Machine
end

section
/-! A period boundary at the channels (R84, R87 to R90, R96). -/

namespace Sys2Proof.Machine

/-! ### Every channel in its turn (R88) -/

/-- A change taken at each channel in turn changes each alone, what they send in channel order. -/
theorem forAll_onChannel (f : Fin 8 → Channel → Channel × List Out) (q : Reel) :
    forAll (allFin 8) (fun ch q => q.onChannel ch (f ch)) q =
      ({ q with channels := q.channels.mapFin fun ch c => (f ch c).1 }, (allFin 8).flatMap fun ch => (f ch (q.channels.get ch)).2) := by
  have key (ks : List (Fin 8)) (hks : ks.Nodup) (x : Reel) (hx : ∀ k ∈ ks, x.channels.get k = q.channels.get k) (outs : List Out) :
      ks.foldl (fun p ch => andThen p fun q => q.onChannel ch (f ch)) (x, outs) =
        ({ x with channels := x.channels.mapFin fun k c => if k ∈ ks then (f k c).1 else c },
          outs ++ ks.flatMap fun k => (f k (q.channels.get k)).2) := by
    induction ks generalizing x outs with
    | nil =>
      have : (x.channels.mapFin fun _ c => c) = x.channels := by ext i; simp
      simp [this]
    | cons k ks ih =>
      obtain ⟨hk, hks'⟩ := List.nodup_cons.1 hks
      rw [List.foldl_cons, andThen, onChannel_eq (hx k List.mem_cons_self)]
      dsimp only
      rw [ih hks' _ fun j hj => ?_]
      · simp only [List.flatMap_cons, List.append_assoc, Prod.mk.injEq, and_true]
        congr 1
        refine Table.ext_get fun i => ?_
        by_cases hi : k = i
        · subst hi; simp [hk, hx]
        · simp [Table.get_set_of_ne _ hi, Ne.symm hi]
      · rw [Table.get_set_of_ne _ (fun h => hk (by rw [h]; exact hj)), hx j (List.mem_cons_of_mem _ hj)]
  refine (key (allFin 8) (List.nodup_finRange 8) q (fun _ _ => rfl) []).trans ?_
  simp [allFin]

/-- What several senders send, each kind in the order of the senders. -/
theorem filterMap_flatMap {α β γ : Type} (f : β → Option γ) (g : α → List β) (xs : List α) :
    (xs.flatMap g).filterMap f = xs.flatMap fun x => (g x).filterMap f := by
  induction xs with
  | nil => rfl
  | cons x xs ih => rw [List.flatMap_cons, List.flatMap_cons, List.filterMap_append, ih]

theorem reelBoundary_run {s : State} (hdue : 0 < s.time.dueReel) : reelPeriodBoundary s =
    ((s.withTime { s.time with dueReel := s.time.dueReel - 1 }).withReel { s.reel with
      channels := s.reel.channels.mapFin fun ch c => (c.boundary s ch (s.params.rest.get ch)).1 }).emit
        ((allFin 8).flatMap fun ch => ((s.reel.channels.get ch).boundary s ch (s.params.rest.get ch)).2) := by
  rw [reelPeriodBoundary, if_pos hdue, Reel.boundary,
    forAll_onChannel (fun ch c => c.boundary s ch (s.params.rest.get ch)), reelDo_eq]

/-! ### Slots and segments (R87 to R89) -/

theorem showOrDrop_complete {c : Channel} (h : c.filling = .complete) (ch : Fin 8) : c.showOrDrop ch =
    ({ c with
        shownBuf := c.fillBuf, fillBuf := c.shownBuf, filling := .empty, fillFor := .none, plan := FetchPlan.none
        awaited := false, begins := false, shownKind := .frame, serial := c.serial + 1, shownLen := c.plan.length },
      [.channelNote { channel := ch, serial := c.serial + 1, kind := .frame, len := c.plan.length }]) := if_pos h

theorem showOrDrop_dropped {c : Channel} (h : c.filling ≠ .complete) (ch : Fin 8) : c.showOrDrop ch =
    ({ c.abandonFill with late := sat16 c.late }, [.event .lateFrame]) := if_neg h

/-- A segment start sets the repeats, and loads the chained cue into an EMPTY next rank (R87). -/
theorem segmentStart_of_loads {ch : Fin 8} {q : Cue} {c : Channel} (hnext : c.next = .empty) (hne : q.next ≠ 0)
    (halign : q.next.toNat % 8 = 0) : c.segmentStart ch q =
      ({ c with repeatsLeft := q.repeats, next := .loading q.next, loads := c.loads + 1
                nos := { c.nos with next := c.loads + 1 } }, [cueRead ch q.next (c.loads + 1)]) := by
  simp only [Channel.segmentStart, hnext, if_pos hne, loadNext_of_ok (cueAddrOk_eq_true hne halign)]
  rfl

theorem segmentStart_of_stays {ch : Fin 8} {q : Cue} {c : Channel} (h : c.next ≠ .empty ∨ q.next = 0 ∨ q.next.toNat % 8 ≠ 0) :
    c.segmentStart ch q = ({ c with repeatsLeft := q.repeats },
      if c.next = .empty ∧ q.next ≠ 0 ∧ q.next.toNat % 8 ≠ 0 then [.event .badCue] else []) := by
  unfold Channel.segmentStart
  dsimp only
  split
  case h_1 hempty =>
    by_cases hzero : q.next = 0
    · rw [if_neg (not_not.2 hzero), if_neg fun h => h.2.1 hzero]
    · have hbad : q.next.toNat % 8 ≠ 0 := by tauto
      rw [if_pos hzero, if_pos ⟨hempty, hzero, hbad⟩, loadNext_of_bad (cueAddrOk_eq_false (.inr hbad))]
  case h_2 hfull => rw [if_neg fun h => hfull h.1]

/-- The prefetch changes the filling buffer and the load numbers alone (R89). -/
theorem prefetch_eq (q : Cue) (c : Channel) : c.prefetch q = { c with
    filling := (c.prefetch q).filling, fillFor := (c.prefetch q).fillFor, fillBuf := (c.prefetch q).fillBuf
    plan := (c.prefetch q).plan, awaited := false, begins := false, loads := (c.prefetch q).loads, nos := (c.prefetch q).nos } := by
  have hfetch (q : Cue) (k : Nat) (what : FillFor) : c.abandonFill.fetch q k what = { c with
      filling := (c.abandonFill.fetch q k what).filling, fillFor := (c.abandonFill.fetch q k what).fillFor
      fillBuf := (c.abandonFill.fetch q k what).fillBuf, plan := (c.abandonFill.fetch q k what).plan, awaited := false
      begins := false, loads := (c.abandonFill.fetch q k what).loads, nos := (c.abandonFill.fetch q k what).nos } := by
    rw [fetch_eq, abandonFill_eq]
  unfold Channel.prefetch
  dsimp only
  split
  · exact hfetch ..
  · split
    · exact hfetch ..
    · split
      · exact hfetch ..
      · split
        · exact hfetch ..
        · rw [abandonFill_eq]

/-- The prefetch is for the slot after this one, or for the predicted follower (R89). -/
theorem prefetch_fetches (q : Cue) (c : Channel) :
    (c.position + 1 < q.count → (c.prefetch q).fetches q (c.position + 1) (.frame (c.position + 1))) ∧
    (q.count ≤ c.position + 1 → 0 < c.repeatsLeft → (c.prefetch q).fetches q 0 (.frame 0)) ∧
    (q.count ≤ c.position + 1 → c.repeatsLeft = 0 →
      (∀ b n, c.next = .ready b n → (c.prefetch q).fetches n 0 (.follower true)) ∧
      ((∀ b n, c.next ≠ .ready b n) → q.loop = true → (c.prefetch q).fetches q 0 (.follower false)) ∧
      ((∀ b n, c.next ≠ .ready b n) → q.loop = false → (c.prefetch q).filling = .empty)) := by
  have hposition : c.abandonFill.position = c.position := by rw [abandonFill_eq]
  have hrepeats : c.abandonFill.repeatsLeft = c.repeatsLeft := by rw [abandonFill_eq]
  refine ⟨fun hmore => ?_, fun hlast hagain => ?_, fun hlast hdone => ?_⟩
  · simp only [Channel.prefetch, hposition, if_pos hmore]
    exact fetch_fetches ..
  · simp only [Channel.prefetch, hposition, hrepeats, if_neg (not_lt.2 hlast), if_pos hagain]
    exact fetch_fetches ..
  · have hdone' : ¬ 0 < c.repeatsLeft := by omega
    have hother (hnone : ∀ b n, c.next ≠ .ready b n) :
        c.prefetch q = if q.loop then c.abandonFill.fetch q 0 (.follower false) else c.abandonFill := by
      unfold Channel.prefetch
      dsimp only
      rw [hposition, if_neg (not_lt.2 hlast), hrepeats, if_neg hdone']
      split
      case h_1 b n hnext => exact absurd ((abandonFill_next c).symm.trans hnext) (hnone b n)
      case h_2 => rfl
    refine ⟨fun b n hnext => ?_, fun hnone hloop => ?_, fun hnone hloop => ?_⟩
    · simp only [Channel.prefetch, hposition, hrepeats, if_neg (not_lt.2 hlast), if_neg hdone', abandonFill_next, hnext]
      exact fetch_fetches ..
    · rw [hother hnone, if_pos hloop]
      exact fetch_fetches ..
    · rw [hother hnone, if_neg (by simp [hloop]), abandonFill_eq]

end Sys2Proof.Machine
end

section
/-! Slots begun and followers taken up at a boundary (R87 to R90, R96). -/

namespace Sys2Proof.Machine

/-! ### A slot begun -/

theorem abandonFill_next_no (c : Channel) : c.abandonFill.nos.next = c.nos.next :=
  (abandonFill_of c .next).trans (if_neg fun h => fillPurpose_ne_next c h.2)

theorem fetch_next_no (q : Cue) (k : Nat) (what : FillFor) (c : Channel) : (c.fetch q k what).nos.next = c.nos.next := by
  unfold Channel.fetch
  split <;> rfl

theorem prefetch_next_no (q : Cue) (c : Channel) : (c.prefetch q).nos.next = c.nos.next := by
  have hfetch (q : Cue) (k : Nat) (what : FillFor) : (c.abandonFill.fetch q k what).nos.next = c.nos.next :=
    (fetch_next_no ..).trans (abandonFill_next_no c)
  unfold Channel.prefetch
  dsimp only
  split
  · exact hfetch ..
  · split
    · exact hfetch ..
    · split
      · exact hfetch ..
      · split
        · exact hfetch ..
        · exact abandonFill_next_no c

/-- The channel with a frame shown or dropped: everything but the buffers, what is shown and the late count stays. -/
theorem showOrDrop_eq (ch : Fin 8) (c : Channel) : ∃ d : Channel, (c.showOrDrop ch).1 = d ∧
    d = { c with
      shownBuf := d.shownBuf, fillBuf := d.fillBuf, filling := d.filling, fillFor := d.fillFor, plan := d.plan
      awaited := d.awaited, begins := d.begins, shownKind := d.shownKind, serial := d.serial, shownLen := d.shownLen
      late := d.late, loads := d.loads, nos := d.nos } := by
  by_cases h : c.filling = .complete
  · rw [showOrDrop_complete h]
    exact ⟨_, rfl, rfl⟩
  · rw [showOrDrop_dropped h, abandonFill_eq]
    exact ⟨_, rfl, rfl⟩

/-- A slot's start, its frame shown or dropped: the segment start of a first slot changes the repeats, the next rank and the load numbers alone. -/
def Channel.segment (ch : Fin 8) (q : Cue) (starts : Bool) (c : Channel) : Channel × List Out :=
  if starts then c.segmentStart ch q else (c, [])

theorem segment_eq (ch : Fin 8) (q : Cue) (starts : Bool) (c : Channel) : ∃ d : Channel, (c.segment ch q starts).1 = d ∧
    d = { c with repeatsLeft := if starts then q.repeats else c.repeatsLeft, next := d.next, loads := d.loads, nos := d.nos } := by
  cases starts with
  | false => exact ⟨c, rfl, rfl⟩
  | true =>
    by_cases h : c.next = .empty ∧ q.next ≠ 0 ∧ q.next.toNat % 8 = 0
    · exact ⟨_, congrArg Prod.fst (segmentStart_of_loads h.1 h.2.1 h.2.2), rfl⟩
    · exact ⟨_, congrArg Prod.fst (segmentStart_of_stays (by tauto)), rfl⟩

theorem segment_loads {ch : Fin 8} {q : Cue} {starts : Bool} {c : Channel} (hstarts : starts = true) (hnext : c.next = .empty)
    (hne : q.next ≠ 0) (halign : q.next.toNat % 8 = 0) : (c.segment ch q starts).1.next = .loading q.next ∧
      (c.segment ch q starts).2 = [cueRead ch q.next (c.segment ch q starts).1.nos.next] := by
  subst hstarts
  have h : c.segment ch q true = _ := segmentStart_of_loads hnext hne halign
  rw [h]
  exact ⟨rfl, rfl⟩

theorem segment_stays {ch : Fin 8} {q : Cue} {starts : Bool} {c : Channel}
    (h : starts = false ∨ c.next ≠ .empty ∨ q.next = 0 ∨ q.next.toNat % 8 ≠ 0) : (c.segment ch q starts).1.next = c.next ∧
      (c.segment ch q starts).2 =
        if starts = true ∧ c.next = .empty ∧ q.next ≠ 0 ∧ q.next.toNat % 8 ≠ 0 then [.event .badCue] else [] := by
  cases starts with
  | false => exact ⟨rfl, rfl⟩
  | true =>
    have hstart : c.segment ch q true = _ := segmentStart_of_stays (h.resolve_left (by simp))
    rw [hstart]
    simp

/-- A slot's start, the frame shown or dropped and the position and periods set. -/
def Channel.entered (ch : Fin 8) (q : Cue) (k : Nat) (c : Channel) : Channel :=
  { (c.showOrDrop ch).1 with
    position := k, periodsLeft := q.multiple
    state := if (c.showOrDrop ch).1.state = .starting then .running else (c.showOrDrop ch).1.state }

theorem slot_eq (ch : Fin 8) (q : Cue) (k : Nat) (starts : Bool) (c : Channel) : c.slot ch q k starts =
    (((c.entered ch q k).segment ch q starts).1.prefetch q,
      (c.showOrDrop ch).2 ++ ((c.entered ch q k).segment ch q starts).2) := by
  simp only [Channel.slot, andThen, List.append_nil]
  rfl

/-- What a frame shown or dropped leaves shown (R87, R88). -/
theorem showOrDrop_shows (ch : Fin 8) {c d : Channel} (hd : (c.showOrDrop ch).1 = d) :
    (c.filling = .complete → d.shownBuf = c.fillBuf ∧ d.shownKind = .frame ∧ d.serial = c.serial + 1 ∧
      d.shownLen = c.plan.length ∧ d.late = c.late) ∧
    (c.filling ≠ .complete → d.shownBuf = c.shownBuf ∧ d.shownKind = c.shownKind ∧ d.serial = c.serial ∧
      d.shownLen = c.shownLen ∧ d.late = min (c.late + 1) 65535) := by
  subst hd
  refine ⟨fun h => ?_, fun h => ?_⟩
  · rw [showOrDrop_complete h]
    exact ⟨rfl, rfl, rfl, rfl, rfl⟩
  · rw [showOrDrop_dropped h, abandonFill_eq]
    exact ⟨rfl, rfl, rfl, rfl, rfl⟩

theorem showOrDrop_events (ch : Fin 8) (c : Channel) :
    (c.showOrDrop ch).2.filterMap Out.event? = if c.filling = .complete then [] else [.lateFrame] := by
  by_cases h : c.filling = .complete
  · rw [showOrDrop_complete h, if_pos h]
    rfl
  · rw [showOrDrop_dropped h, if_neg h]
    rfl

theorem showOrDrop_reads (ch : Fin 8) (c : Channel) : (c.showOrDrop ch).2.filterMap Out.record? = [] := by
  by_cases h : c.filling = .complete
  · rw [showOrDrop_complete h]
    rfl
  · rw [showOrDrop_dropped h]
    rfl

theorem segment_events (ch : Fin 8) (q : Cue) (starts : Bool) (c : Channel) : (c.segment ch q starts).2.filterMap Out.event? =
    if starts = true ∧ c.next = .empty ∧ q.next ≠ 0 ∧ q.next.toNat % 8 ≠ 0 then [.badCue] else [] := by
  by_cases hbad : starts = true ∧ c.next = .empty ∧ q.next ≠ 0 ∧ q.next.toNat % 8 ≠ 0
  · rw [(segment_stays (.inr (.inr (.inr hbad.2.2.2)))).2, if_pos hbad, if_pos hbad]
    rfl
  · rw [if_neg hbad]
    by_cases hload : starts = true ∧ c.next = .empty ∧ q.next ≠ 0 ∧ q.next.toNat % 8 = 0
    · rw [(segment_loads hload.1 hload.2.1 hload.2.2.1 hload.2.2.2).2]
      rfl
    · have hstay : starts = false ∨ c.next ≠ .empty ∨ q.next = 0 ∨ q.next.toNat % 8 ≠ 0 := by
        rw [← Bool.not_eq_true]
        tauto
      rw [(segment_stays hstay).2, if_neg hbad]
      rfl

theorem segment_reads {ch : Fin 8} {q : Cue} {starts : Bool} {c : Channel}
    (h : starts = false ∨ c.next ≠ .empty ∨ q.next = 0 ∨ q.next.toNat % 8 ≠ 0) :
    (c.segment ch q starts).2.filterMap Out.record? = [] := by
  rw [(segment_stays h).2]
  split <;> rfl

/-- The slot begun keeps what is shown, the marks of its cue, and its next rank and number as its start leaves them. -/
theorem prefetch_keeps_slot (q : Cue) (e : Channel) :
    (e.prefetch q).state = e.state ∧ (e.prefetch q).position = e.position ∧ (e.prefetch q).periodsLeft = e.periodsLeft ∧
    (e.prefetch q).skips = e.skips ∧ (e.prefetch q).cut = e.cut ∧ (e.prefetch q).repeatsLeft = e.repeatsLeft ∧
    (e.prefetch q).awaited = false ∧ (e.prefetch q).current = e.current ∧ (e.prefetch q).resume = e.resume ∧
    (e.prefetch q).next = e.next ∧ (e.prefetch q).shownBuf = e.shownBuf ∧ (e.prefetch q).shownKind = e.shownKind ∧
    (e.prefetch q).serial = e.serial ∧ (e.prefetch q).shownLen = e.shownLen ∧ (e.prefetch q).late = e.late := by
  have hfield {α : Type} (f : Channel → α) := congrArg f (prefetch_eq q e)
  exact ⟨hfield (·.state), hfield (·.position), hfield (·.periodsLeft), hfield (·.skips), hfield (·.cut), hfield (·.repeatsLeft),
    hfield (·.awaited), hfield (·.current), hfield (·.resume), hfield (·.next), hfield (·.shownBuf), hfield (·.shownKind),
    hfield (·.serial), hfield (·.shownLen), hfield (·.late)⟩

theorem slot_begun {c : Channel} (hstate : c.state = .running ∨ c.state = .starting) (ch : Fin 8) (q : Cue) (k : Nat)
    (starts : Bool) : (c.slot ch q k starts).1.current = c.current ∧ (c.slot ch q k starts).1.resume = c.resume ∧
      c.begun ch q k c.repeatsLeft starts (c.slot ch q k starts).1 ((c.slot ch q k starts).2.filterMap Out.event?)
        ((c.slot ch q k starts).2.filterMap Out.record?) := by
  obtain ⟨d, hshown, hd⟩ := showOrDrop_eq ch c
  obtain ⟨hcomplete, hdropped⟩ := showOrDrop_shows ch hshown
  have hentered : c.entered ch q k = { d with position := k, periodsLeft := q.multiple, state := .running } := by
    rw [Channel.entered, hshown, congrArg Channel.state hd]
    rcases hstate with h | h <;> rw [h] <;> rfl
  have hnext : (c.entered ch q k).next = c.next := by
    rw [hentered]
    have hkept := congrArg Channel.next hd
    exact hkept
  have hevents := segment_events ch q starts (c.entered ch q k)
  have hloads := segment_loads (ch := ch) (q := q) (starts := starts) (c := c.entered ch q k)
  have hstays := segment_stays (ch := ch) (q := q) (starts := starts) (c := c.entered ch q k)
  have hreads := segment_reads (ch := ch) (q := q) (starts := starts) (c := c.entered ch q k)
  obtain ⟨e, hsegment, he⟩ := segment_eq ch q starts (c.entered ch q k)
  rw [hsegment, hnext] at hloads hstays
  rw [hnext] at hevents hreads
  rw [slot_eq, hsegment, List.filterMap_append, List.filterMap_append, hevents, showOrDrop_events, showOrDrop_reads,
    List.nil_append]
  generalize (c.entered ch q k).segment ch q starts = g at *
  rw [hentered] at he
  have hefield {α : Type} (f : Channel → α) := congrArg f he
  have hdfield {α : Type} (f : Channel → α) := congrArg f hd
  have hposition : e.position = k := hefield (·.position)
  have hrepeats : e.repeatsLeft = if starts then q.repeats else c.repeatsLeft :=
    (hefield (·.repeatsLeft)).trans (congrArg (fun r => if starts then q.repeats else r) (hdfield (·.repeatsLeft)))
  have hbuf : e.shownBuf = d.shownBuf := hefield (·.shownBuf)
  have hkind : e.shownKind = d.shownKind := hefield (·.shownKind)
  have hserial : e.serial = d.serial := hefield (·.serial)
  have hlen : e.shownLen = d.shownLen := hefield (·.shownLen)
  have hlate : e.late = d.late := hefield (·.late)
  have hskips : e.skips = c.skips := (hefield (·.skips)).trans (hdfield (·.skips))
  have hcut : e.cut = c.cut := (hefield (·.cut)).trans (hdfield (·.cut))
  have hcurrent : e.current = c.current := (hefield (·.current)).trans (hdfield (·.current))
  have hresume : e.resume = c.resume := (hefield (·.resume)).trans (hdfield (·.resume))
  have hrunning : e.state = .running := hefield (·.state)
  have hperiods : e.periodsLeft = q.multiple := hefield (·.periodsLeft)
  clear hefield hdfield he hd hentered hevents hnext hsegment
  obtain ⟨hmore, hagain, hlast⟩ := prefetch_fetches q e
  obtain ⟨pstate, pposition, pperiods, pskips, pcut, prepeats, pawaited, pcurrent, presume, pnext, pbuf, pkind, pserial, plen,
    plate⟩ := prefetch_keeps_slot q e
  have pno := prefetch_next_no q e
  unfold Channel.begun
  dsimp only
  rw [pstate, pposition, pperiods, pskips, pcut, prepeats, pawaited, pcurrent, presume, pnext, pbuf, pkind, pserial, plen, plate,
    pno, hbuf, hkind, hserial, hlen, hlate, hskips, hcut, hcurrent, hresume, hrunning, hperiods, hposition]
  rw [hposition] at hmore hagain hlast
  refine ⟨rfl, rfl, ⟨rfl, rfl, rfl, rfl, rfl, rfl, hrepeats⟩, hcomplete, hdropped, fun hstarts hempty hne halign => ?_,
    fun h => ⟨(hstays h).1, hreads h⟩, rfl, hmore, hagain, hlast⟩
  obtain ⟨hload, hsent⟩ := hloads hstarts hempty hne halign
  rw [hsent]
  exact ⟨hload, rfl⟩

/-! ### Awaited frames and followers (R87, R90, R96) -/

theorem awaitedBoundary_of_fetching {c : Channel} (h : c.filling = .fetching) (ch : Fin 8) (q : Cue) :
    c.awaitedBoundary ch q = (c, []) := if_pos h

theorem awaitedBoundary_of_arrived {c : Channel} (h : c.filling ≠ .fetching) (ch : Fin 8) (q : Cue) :
    c.awaitedBoundary ch q = c.slot ch q c.fillFor.index c.begins := if_neg h

/-- The follower q takes up its segment from d, whose fetch for it is `ofNext`'s, resumed after hush where `resume` says so (R90, R96). -/
def Channel.takesUp (ch : Fin 8) (d : Channel) (ofNext resume : Bool) (a : Addr) (q : Cue) (d' : Channel) (ev : List EventKind)
    (rd : List AgentReq) : Prop :=
  d'.current = .ready a q ∧ d'.skips = 0 ∧ d'.cut = d.cut ∧
  (d.fillFor ≠ .follower ofNext → d'.state = d.state ∧ d'.next = d.next ∧ d'.awaited = true ∧ d'.begins = true ∧
    d'.fetches q 0 (.frame 0) ∧ d'.serial = d.serial ∧ d'.shownBuf = d.shownBuf ∧ ev = [] ∧ rd = []) ∧
  (d.fillFor = .follower ofNext → (d.state = .held ∨ (resume = true ∧ d.filling = .fetching)) → d'.state = d.state ∧
    d'.next = d.next ∧ d'.awaited = true ∧ d'.begins = true ∧ d'.filling = d.filling ∧ d'.fillFor = .frame 0 ∧
    d'.plan = d.plan ∧ d'.fillBuf = d.fillBuf ∧ d'.serial = d.serial ∧ d'.shownBuf = d.shownBuf ∧ ev = [] ∧ rd = []) ∧
  (d.fillFor = .follower ofNext → d.state ≠ .held → (resume = false ∨ d.filling ≠ .fetching) →
    { d with skips := 0 }.begun ch q 0 0 true d' ev rd)

/-- A first slot does not read the repeats left before it. -/
theorem begun_first {ch : Fin 8} {q : Cue} {k r r' : Nat} {c c' : Channel} {ev : List EventKind} {rd : List AgentReq}
    (h : c.begun ch q k r true c' ev rd) : c.begun ch q k r' true c' ev rd := h

theorem follow_takesUp {d : Channel} {a : Addr} {q : Cue} (hcur : d.current = .ready a q) (hstate : d.state ≠ .idle) (ch : Fin 8)
    (ofNext resume : Bool) {p : Channel × List Out} (hp : ({ d with skips := 0 } : Channel).follow ch ofNext resume q = p) :
    d.takesUp ch ofNext resume a q p.1 (p.2.filterMap Out.event?) (p.2.filterMap Out.record?) := by
  subst hp
  by_cases hfor : d.fillFor = .follower ofNext
  · have hfollow : ({ d with skips := 0 } : Channel).follow ch ofNext resume q = _ := if_pos hfor
    dsimp only at hfollow
    by_cases hwait : d.state = .held ∨ (resume = true ∧ d.filling = .fetching)
    · have hkept : ({ d with skips := 0 } : Channel).follow ch ofNext resume q =
          ({ d with skips := 0, fillFor := .frame 0, awaited := true, begins := true }, []) := by
        rw [hfollow]
        by_cases hheld : d.state = .held
        · rw [if_pos hheld]
        · obtain ⟨hresume, hfetching⟩ := hwait.resolve_left hheld
          rw [if_neg hheld, if_pos hresume]
          exact awaitedBoundary_of_fetching
            (c := { d with skips := 0, fillFor := .frame 0, awaited := true, begins := true }) hfetching ch q
      rw [hkept]
      exact ⟨hcur, rfl, rfl, fun h => absurd hfor h, fun _ _ => ⟨rfl, rfl, rfl, rfl, rfl, rfl, rfl, rfl, rfl, rfl, rfl, rfl⟩,
        fun _ hheld hgo => by
          obtain ⟨hresume, hfetching⟩ := hwait.resolve_left hheld
          exact (hgo.elim (by simp [hresume]) (· hfetching)).elim⟩
    · have hplays : d.state = .running ∨ d.state = .starting := by
        cases h : d.state with
        | idle => exact absurd h hstate
        | held => exact absurd (.inl h) hwait
        | running => exact .inl rfl
        | starting => exact .inr rfl
      have hheld : d.state ≠ .held := fun h => hwait (.inl h)
      have hslot : ∃ e : Channel, ({ d with skips := 0 } : Channel).follow ch ofNext resume q = e.slot ch q 0 true ∧
          e = { d with skips := 0, fillFor := e.fillFor, awaited := e.awaited, begins := e.begins } := by
        rw [hfollow, if_neg hheld]
        by_cases hresume : resume = true
        · rw [if_pos hresume]
          exact ⟨_, awaitedBoundary_of_arrived
            (c := { d with skips := 0, fillFor := .frame 0, awaited := true, begins := true })
            (fun h => hwait (.inr ⟨hresume, h⟩)) ch q, rfl⟩
        · rw [if_neg hresume]
          exact ⟨_, rfl, rfl⟩
      obtain ⟨e, heq, he⟩ := hslot
      rw [heq]
      have hbegun := slot_begun (c := e) (by rw [he]; exact hplays) ch q 0 true
      generalize e.slot ch q 0 true = p at hbegun
      rw [he] at hbegun
      obtain ⟨hcurrent, -, hb⟩ := hbegun
      exact ⟨hcurrent.trans hcur, hb.1.2.2.2.2.1, hb.1.2.2.2.2.2.1, fun h => absurd hfor h, fun _ h => absurd h hwait,
        fun _ _ _ => hb⟩
  · have hfollow : ({ d with skips := 0 } : Channel).follow ch ofNext resume q = _ := if_neg hfor
    obtain ⟨e, hbegin, hfetches, he⟩ := beginFresh_eq q { d with skips := 0 }
    have hfield {α : Type} (f : Channel → α) := congrArg f he
    rw [hfollow, hbegin]
    exact ⟨(hfield (·.current)).trans hcur, hfield (·.skips), hfield (·.cut),
      fun _ => ⟨hfield (·.state), hfield (·.next), hfield (·.awaited), hfield (·.begins), hfetches, hfield (·.serial),
        hfield (·.shownBuf), rfl, rfl⟩, fun h => absurd h hfor, fun h => absurd h hfor⟩

end Sys2Proof.Machine
end

section
/-! Segment ends, cuts and the period boundary at every channel (R84, R88, R90, R92, R93). -/

namespace Sys2Proof.Machine

/-! ### Segment ends (R90) -/

section
variable {s : State} {ch : Fin 8} {rest : RestParams} {command : Bool} {c : Channel}

theorem segmentEnd_of_ready {b : Addr} {n : Cue} (hnext : c.next = .ready b n) : c.segmentEnd s ch rest command =
    Channel.judge s ch rest (Channel.follow ch true c.resume)
      { c with periodsLeft := 0, resume := false, current := .ready b n, next := .empty } := by
  simp only [Channel.segmentEnd, hnext]

theorem segmentEnd_of_loop {a : Addr} {q : Cue} (hnext : ∀ b n, c.next ≠ .ready b n) (hcur : c.current = .ready a q)
    (hloop : q.loop = true) : c.segmentEnd s ch rest false =
      Channel.judge s ch rest (Channel.follow ch false c.resume) { c with periodsLeft := 0, resume := false } := by
  unfold Channel.segmentEnd
  dsimp only
  split
  case h_1 b n h => exact absurd h (hnext b n)
  case h_2 =>
    rw [hcur]
    dsimp only
    rw [hloop]
    rfl

theorem segmentEnd_of_last (hnext : ∀ b n, c.next ≠ .ready b n)
    (hlast : command = true ∨ ∀ a q, c.current = .ready a q → q.loop = false) {p : Channel × List Out}
    (hload : ∀ b, c.next = .loading b → (({ c with periodsLeft := 0, resume := false } : Channel).carry, []) = p)
    (hempty : c.next = .empty → ({ c with periodsLeft := 0, resume := false } : Channel).goIdle ch rest = p) :
    c.segmentEnd s ch rest command = p := by
  have hend : ∀ p' : Channel × List Out, p' = (match c.next with
      | .loading _ => (({ c with periodsLeft := 0, resume := false } : Channel).carry, [])
      | _ => ({ c with periodsLeft := 0, resume := false } : Channel).goIdle ch rest) → p' = p := by
    rintro _ rfl
    split
    case h_1 b h => exact hload b h
    case h_2 h =>
      refine hempty ?_
      cases hn : c.next with
      | empty => rfl
      | loading b => exact absurd hn (h b)
      | ready b n => exact absurd hn (hnext b n)
  unfold Channel.segmentEnd
  dsimp only
  split
  case h_1 b n h => exact absurd h (hnext b n)
  case h_2 =>
    split
    case h_1 a q hcur =>
      have hnot : (q.loop && !command) = false := by
        rcases hlast with h | h
        · simp [h]
        · simp [h a q hcur]
      rw [hnot]
      exact hend _ rfl
    case h_2 => exact hend _ rfl

theorem judge_takesUp {d : Channel} {a : Addr} {q : Cue} (hcur : d.current = .ready a q)
    (hfresh : s.stale q = true → q.skipIfStale = false) (hstate : d.state ≠ .idle) (ofNext resume : Bool) {p : Channel × List Out}
    (hp : d.judge s ch rest (Channel.follow ch ofNext resume) = p) :
    d.takesUp ch ofNext resume a q p.1 (p.2.filterMap Out.event?) (p.2.filterMap Out.record?) := by
  rw [Channel.judge, judgeWith_of_begins hcur hfresh] at hp
  exact follow_takesUp hcur hstate ch ofNext resume hp

theorem judge_passedOver {d : Channel} {a : Addr} {q : Cue} (hcur : d.current = .ready a q) (hstale : s.stale q = true)
    (hskip : q.skipIfStale = true) {begin_ : Cue → Channel → Channel × List Out} {p : Channel × List Out}
    (hp : d.judge s ch rest begin_ = p) :
    d.passedOver ch q p.1 (p.2.filterMap Out.event?) (p.2.filterMap Out.record?) := by
  rw [Channel.judge, judgeWith_of_stale hcur hstale hskip] at hp
  subst hp
  exact skip_passedOver ..

/-! ### Cuts (R84) -/

/-- A cut ends the segment of the channel with its flag cleared and a LOADING current rank abandoned. -/
theorem takeCut_eq (cause : Cut) : ∃ d : Channel,
    c.takeCut s ch rest cause = d.segmentEnd s ch rest (decide (cause = .command)) ∧
    d = { c with cut := none, current := d.current, loads := d.loads, nos := d.nos } ∧ d.nos.next = c.nos.next ∧
    (∀ a q, c.current = .ready a q → d.current = .ready a q) ∧ ∀ a q, d.current = .ready a q → c.current = .ready a q := by
  unfold Channel.takeCut
  dsimp only
  split
  case h_1 a hload =>
    refine ⟨_, rfl, rfl, rfl, fun b q h => ?_, fun b q h => ?_⟩
    · rw [hload] at h
      cases h
    · cases h
  case h_2 => exact ⟨_, rfl, rfl, rfl, fun _ _ h => h, fun _ _ h => h⟩

/-! ### The boundary at one channel (R88) -/

theorem boundary_of_waiting (h : c.state = .idle ∨ (c.state = .held ∧ c.cut = none) ∨ (c.cut = none ∧ ∀ a q, c.current ≠ .ready a q)) :
    c.boundary s ch rest = (c, []) := by
  unfold Channel.boundary
  by_cases hidle : c.state = .idle
  · rw [if_pos hidle]
  · have hcut : c.cut = none := by tauto
    rw [if_neg hidle, hcut]
    dsimp only
    by_cases hheld : c.state = .held
    · rw [if_pos hheld]
    · rw [if_neg hheld]
      split
      case h_1 a q hcur => exact absurd hcur ((h.resolve_left hidle).resolve_left (fun h => hheld h.1) |>.2 a q)
      case h_2 => rfl

theorem boundary_of_playing {a : Addr} {q : Cue} (hcut : c.cut = none) (hstate : c.state = .running ∨ c.state = .starting)
    (hcur : c.current = .ready a q) : c.boundary s ch rest =
      if c.awaited then c.awaitedBoundary ch q
      else if c.state = .running ∧ 0 < c.periodsLeft then
        if c.periodsLeft - 1 = 0 then ({ c with periodsLeft := c.periodsLeft - 1 } : Channel).runOut s ch rest q
        else ({ c with periodsLeft := c.periodsLeft - 1 }, [])
      else (c, []) := by
  have hidle : c.state ≠ .idle := by rcases hstate with h | h <;> simp [h]
  have hheld : c.state ≠ .held := by rcases hstate with h | h <;> simp [h]
  simp only [Channel.boundary, if_neg hidle, hcut, if_neg hheld, hcur]

theorem boundary_of_cut {cause : Cut} (hcut : c.cut = some cause) (hstate : c.state ≠ .idle) :
    c.boundary s ch rest = c.takeCut s ch rest cause := by
  simp only [Channel.boundary, if_neg hstate, hcut]

end

/-- A frame that is due begins its slot, or is taken as awaited after hush (R88, R96). -/
theorem due_begun {c d : Channel} (hd : d = { c with periodsLeft := 0, repeatsLeft := d.repeatsLeft })
    (hstate : c.state = .running) (ch : Fin 8) (q : Cue) (k : Nat) {p : Channel × List Out} (hp : d.due ch q k = p) :
    (c.resume = false → p.1.current = c.current ∧
      c.begun ch q k d.repeatsLeft false p.1 (p.2.filterMap Out.event?) (p.2.filterMap Out.record?)) ∧
    (c.resume = true → c.filling = .fetching →
      p.1 = { c with periodsLeft := 0, repeatsLeft := d.repeatsLeft, resume := false, awaited := true, begins := false } ∧
      p.2.filterMap Out.event? = [] ∧ p.2.filterMap Out.record? = []) ∧
    (c.resume = true → c.fillFor = .frame k → c.filling ≠ .fetching → p.1.current = c.current ∧ p.1.resume = false ∧
      c.begun ch q k d.repeatsLeft false p.1 (p.2.filterMap Out.event?) (p.2.filterMap Out.record?)) := by
  subst hp
  have hresume : d.resume = c.resume := by rw [hd]
  generalize d.repeatsLeft = r at *
  subst hd
  refine ⟨fun h => ?_, fun h hfetching => ?_, fun h hfor harrived => ?_⟩
  · have hdue : ({ c with periodsLeft := 0, repeatsLeft := r } : Channel).due ch q k = _ := if_neg (by simp [h])
    rw [hdue]
    obtain ⟨hcur, -, hbegun⟩ := slot_begun (c := { c with periodsLeft := 0, repeatsLeft := r }) (.inl hstate) ch q k false
    exact ⟨hcur, hbegun⟩
  · have hdue : ({ c with periodsLeft := 0, repeatsLeft := r } : Channel).due ch q k = _ := if_pos h
    rw [hdue, awaitedBoundary_of_fetching
      (c := { c with periodsLeft := 0, repeatsLeft := r, resume := false, awaited := true, begins := false }) hfetching ch q]
    exact ⟨rfl, rfl, rfl⟩
  · have hdue : ({ c with periodsLeft := 0, repeatsLeft := r } : Channel).due ch q k = _ := if_pos h
    rw [hdue, awaitedBoundary_of_arrived
      (c := { c with periodsLeft := 0, repeatsLeft := r, resume := false, awaited := true, begins := false }) harrived ch q]
    have hindex : c.fillFor.index = k := by rw [hfor]; rfl
    dsimp only
    rw [hindex]
    obtain ⟨hcur, hres, hbegun⟩ := slot_begun
      (c := { c with periodsLeft := 0, repeatsLeft := r, resume := false, awaited := true, begins := false }) (.inl hstate) ch q k false
    exact ⟨hcur, hres, hbegun⟩

/-- A channel cut plays its follower, or what its next rank calls for, with the flag cleared (R84, R90). -/
theorem cut_plays {s : State} {ch : Fin 8} {rest : RestParams} {c : Channel} {cause : Cut} (hcut : c.cut = some cause)
    (hstate : c.state ≠ .idle) {p : Channel × List Out} (hp : c.boundary s ch rest = p) :
    ((∀ b, c.next ≠ .loading b) → (∀ b n, c.next ≠ .ready b n) →
      (c.cut = some .command ∨ ∀ a q, c.current = .ready a q → q.loop = false) → p.1.state = .idle ∧ p.1.cut = none ∧
        p.2.filterMap Out.event? = [] ∧ p.2.filterMap Out.record? = []) ∧
    (∀ b, c.next = .loading b → (c.cut = some .command ∨ ∀ a q, c.current = .ready a q → q.loop = false) →
      p.1.state = c.state ∧ p.1.current = .loading b ∧ p.1.cut = none ∧ p.1.filling = .empty) ∧
    (∀ b n, c.next = .ready b n → (s.stale n = true → n.skipIfStale = false) →
      ({ c with cut := none, current := .ready b n, next := .empty } : Channel).takesUp ch true c.resume b n p.1
        (p.2.filterMap Out.event?) (p.2.filterMap Out.record?)) ∧
    (∀ a q, c.cut = some .show_ → c.current = .ready a q → (∀ b n, c.next ≠ .ready b n) → q.loop = true →
      (s.stale q = true → q.skipIfStale = false) → ({ c with cut := none } : Channel).takesUp ch false c.resume a q p.1
        (p.2.filterMap Out.event?) (p.2.filterMap Out.record?)) ∧
    (∀ b n, c.next = .ready b n → s.stale n = true → n.skipIfStale = true →
      ({ c with cut := none, next := .empty } : Channel).passedOver ch n p.1 (p.2.filterMap Out.event?)
        (p.2.filterMap Out.record?)) ∧
    (∀ a q, c.cut = some .show_ → c.current = .ready a q → (∀ b n, c.next ≠ .ready b n) → q.loop = true →
      s.stale q = true → q.skipIfStale = true → ({ c with cut := none } : Channel).passedOver ch q p.1
        (p.2.filterMap Out.event?) (p.2.filterMap Out.record?)) := by
  obtain ⟨d, htake, hd, hno, hcur, hcur'⟩ := takeCut_eq (s := s) (ch := ch) (rest := rest) (c := c) cause
  rw [boundary_of_cut hcut hstate, htake] at hp
  generalize d.current = k at *
  generalize d.loads = l at *
  generalize d.nos = n at *
  subst hd
  have hlast (h : c.cut = some .command ∨ ∀ a q, c.current = .ready a q → q.loop = false) :
      decide (cause = .command) = true ∨ ∀ a q, k = .ready a q → q.loop = false := by
    refine h.imp (fun h => ?_) fun h a q hk => h a q (hcur' a q hk)
    rw [hcut] at h
    cases h
    rfl
  have hcause (h : c.cut = some .show_) : decide (cause = .command) = false := by
    rw [hcut] at h
    cases h
    rfl
  refine ⟨fun hload hready hend => ?_, fun b hload hend => ?_, fun b q hready hfresh => ?_,
    fun a q hshow hq hready hloop hfresh => ?_, fun b q hready hstale hskip => ?_, fun a q hshow hq hready hloop hstale hskip => ?_⟩
  · have hidle := segmentEnd_of_last (s := s) (ch := ch) (rest := rest)
      (c := { c with cut := none, current := k, loads := l, nos := n }) hready (hlast hend)
      (fun b h => absurd h (hload b)) (fun _ => rfl)
    rw [hidle] at hp
    subst hp
    obtain ⟨hstate', -, -, -, hcut', -⟩ := goIdle_clears ch rest
      { c with periodsLeft := 0, resume := false, cut := none, current := k, loads := l, nos := n }
    exact ⟨hstate', hcut', goIdle_events .., goIdle_reads ..⟩
  · have hcarry := segmentEnd_of_last (s := s) (ch := ch) (rest := rest)
      (c := { c with cut := none, current := k, loads := l, nos := n }) (fun b' q h => by rw [show c.next = _ from h] at hload; cases hload)
      (hlast hend) (fun b h => rfl) (fun h => by rw [show c.next = _ from h] at hload; cases hload)
    rw [hcarry, carry_eq, abandonFill_eq] at hp
    subst hp
    exact ⟨rfl, hload, rfl, rfl⟩
  · rw [segmentEnd_of_ready (c := { c with cut := none, current := k, loads := l, nos := n }) hready] at hp
    exact judge_takesUp (d := { c with
      cut := none, loads := l, nos := n, periodsLeft := 0, resume := false, current := .ready b q, next := .empty })
      rfl hfresh hstate true c.resume hp
  · have hk := hcur a q hq
    subst hk
    rw [hcause hshow, segmentEnd_of_loop (c := { c with cut := none, current := .ready a q, loads := l, nos := n })
      hready rfl hloop] at hp
    exact judge_takesUp (d := { c with
      cut := none, loads := l, nos := n, periodsLeft := 0, resume := false, current := .ready a q })
      rfl hfresh hstate false c.resume hp
  · rw [segmentEnd_of_ready (c := { c with cut := none, current := k, loads := l, nos := n }) hready] at hp
    exact passedOver_congr (d := { c with
      cut := none, loads := l, nos := n, periodsLeft := 0, resume := false, current := .ready b q, next := .empty })
      (c := { c with cut := none, next := .empty }) rfl rfl rfl hno rfl rfl (judge_passedOver rfl hstale hskip hp)
  · have hk := hcur a q hq
    subst hk
    rw [hcause hshow, segmentEnd_of_loop (c := { c with cut := none, current := .ready a q, loads := l, nos := n })
      hready rfl hloop] at hp
    exact passedOver_congr (d := { c with
      cut := none, loads := l, nos := n, periodsLeft := 0, resume := false, current := .ready a q })
      (c := { c with cut := none }) rfl rfl rfl hno rfl rfl (judge_passedOver rfl hstale hskip hp)

/-- A channel whose slot has run out at the end of its last pass goes on to its follower, or becomes IDLE (R88, R90). -/
theorem lastSlot_plays {s : State} {ch : Fin 8} {rest : RestParams} {c : Channel} {a : Addr} {q : Cue} (hstate : c.state = .running)
    (hcur : c.current = .ready a q) {p : Channel × List Out}
    (hp : ({ c with periodsLeft := 0 } : Channel).segmentEnd s ch rest false = p) :
    (c.next = .empty → q.loop = false → p.1.state = .idle ∧ p.1.current = .empty ∧ p.1.periodsLeft = 0 ∧
      p.2.filterMap Out.event? = [] ∧ p.2.filterMap Out.record? = []) ∧
    (∀ b, c.next = .loading b → q.loop = false → p.1.state = .running ∧ p.1.current = .loading b ∧ p.1.next = .empty ∧
      p.1.filling = .empty ∧ p.1.nos.current = c.nos.next ∧ p.1.serial = c.serial ∧ p.2.filterMap Out.event? = [] ∧
      p.2.filterMap Out.record? = []) ∧
    (∀ b n, c.next = .ready b n → (s.stale n = true → n.skipIfStale = false) →
      ({ c with current := .ready b n, next := .empty } : Channel).takesUp ch true c.resume b n p.1
        (p.2.filterMap Out.event?) (p.2.filterMap Out.record?)) ∧
    ((∀ b n, c.next ≠ .ready b n) → q.loop = true → (s.stale q = true → q.skipIfStale = false) →
      c.takesUp ch false c.resume a q p.1 (p.2.filterMap Out.event?) (p.2.filterMap Out.record?)) ∧
    (∀ b n, c.next = .ready b n → s.stale n = true → n.skipIfStale = true →
      ({ c with next := .empty } : Channel).passedOver ch n p.1 (p.2.filterMap Out.event?) (p.2.filterMap Out.record?)) ∧
    ((∀ b n, c.next ≠ .ready b n) → q.loop = true → s.stale q = true → q.skipIfStale = true →
      c.passedOver ch q p.1 (p.2.filterMap Out.event?) (p.2.filterMap Out.record?)) := by
  have hlast (hloop : q.loop = false) : (false = true) ∨ ∀ a' q', c.current = .ready a' q' → q'.loop = false :=
    .inr fun a' q' h => by
      rw [hcur] at h
      cases h
      exact hloop
  have hbusy : c.state ≠ .idle := by simp [hstate]
  refine ⟨fun hempty hloop => ?_, fun b hload hloop => ?_, fun b n hready hfresh => ?_, fun hready hloop hfresh => ?_,
    fun b n hready hstale hskip => ?_, fun hready hloop hstale hskip => ?_⟩
  · have hidle := segmentEnd_of_last (s := s) (ch := ch) (rest := rest) (c := { c with periodsLeft := 0 })
      (fun b n h => by rw [show c.next = _ from h] at hempty; cases hempty) (hlast hloop)
      (fun b h => by rw [show c.next = _ from h] at hempty; cases hempty) (fun _ => rfl)
    rw [hidle] at hp
    subst hp
    obtain ⟨hstate', hcurrent, -, -, -, -, -, hperiods, -⟩ := goIdle_clears ch rest { c with periodsLeft := 0, resume := false }
    exact ⟨hstate', hcurrent, hperiods, goIdle_events .., goIdle_reads ..⟩
  · have hcarry := segmentEnd_of_last (s := s) (ch := ch) (rest := rest) (c := { c with periodsLeft := 0 })
      (fun b n h => by rw [show c.next = _ from h] at hload; cases hload) (hlast hloop) (fun b h => rfl)
      (fun h => by rw [show c.next = _ from h] at hload; cases hload)
    rw [hcarry, carry_eq, abandonFill_eq] at hp
    subst hp
    exact ⟨hstate, hload, rfl, rfl, rfl, rfl, rfl, rfl⟩
  · rw [segmentEnd_of_ready (c := { c with periodsLeft := 0 }) hready] at hp
    exact judge_takesUp (d := { c with periodsLeft := 0, resume := false, current := .ready b n, next := .empty })
      rfl hfresh hbusy true c.resume hp
  · rw [segmentEnd_of_loop (c := { c with periodsLeft := 0 }) hready hcur hloop] at hp
    have htakes := judge_takesUp (d := { c with periodsLeft := 0, resume := false }) hcur hfresh hbusy false c.resume hp
    exact htakes
  · rw [segmentEnd_of_ready (c := { c with periodsLeft := 0 }) hready] at hp
    exact passedOver_congr (d := { c with periodsLeft := 0, resume := false, current := .ready b n, next := .empty })
      (c := { c with next := .empty }) rfl rfl rfl rfl rfl rfl (judge_passedOver rfl hstale hskip hp)
  · rw [segmentEnd_of_loop (c := { c with periodsLeft := 0 }) hready hcur hloop] at hp
    exact passedOver_congr (d := { c with periodsLeft := 0, resume := false }) (c := c) rfl rfl rfl rfl rfl rfl
      (judge_passedOver (d := { c with periodsLeft := 0, resume := false }) hcur hstale hskip hp)

/-- Settles O46. -/
theorem boundariesPlayTheChannels : Obligations.BoundariesPlayTheChannels := by
  intro s hdue
  have hrun := reelBoundary_run hdue
  have hplays (ch : Fin 8) : (s.reel.channels.get ch).Plays ch ((s.reel.channels.get ch).boundary s ch (s.params.rest.get ch)) :=
    boundary_plays ..
  have hsent : ((allFin 8).flatMap fun ch => ((s.reel.channels.get ch).boundary s ch (s.params.rest.get ch)).2).all Out.ofReel =
      true := by
    rw [List.all_flatMap, List.all_eq_true]
    exact fun ch _ => (hplays ch).sent
  rw [emit_ofReel hsent, filterMap_flatMap, filterMap_flatMap, filterMap_flatMap] at hrun
  have hget (ch : Fin 8) : (s.reel.channels.mapFin fun ch c => (c.boundary s ch (s.params.rest.get ch)).1).get ch =
      ((s.reel.channels.get ch).boundary s ch (s.params.rest.get ch)).1 := Table.get_mapFin _ _ _
  refine ⟨_, rfl, (reelPeriodBoundary_frame s).commit, ?_⟩
  simp only [commit_time, commit_reel, commit_mail, commit_path, hrun, State.withPath_reel, State.withMail_reel,
    State.withReel_reel, hget]
  refine ⟨by trivial, by trivial, by trivial, by trivial, fun ch => ((s.reel.channels.get ch).boundary s ch (s.params.rest.get ch)).2.filterMap Out.event?,
    fun ch => ((s.reel.channels.get ch).boundary s ch (s.params.rest.get ch)).2.filterMap Out.record?, ?_, rfl,
    fun ch c c' hc hc' follows hfollows => ?_⟩
  · refine congrArg (fun notes => ({ s.mail with events := _, channelNotes := s.mail.channelNotes ++ notes } : Mail)) ?_
    exact List.flatMap_congr fun ch _ => (hplays ch).notes
  subst hc hc'
  dsimp only
  generalize s.reel.channels.get ch = c
  generalize hp : c.boundary s ch (s.params.rest.get ch) = p
  refine ⟨fun hwait => ?_, fun a q hcut hstate hcur => ⟨fun hawaited hfetching => ?_, fun k hawaited hfor harrived => ?_,
    fun hrunning hawaited hperiods => ?_, fun hrunning hawaited hperiods => ⟨fun k r hk => ?_, fun hlast hdone => ?_⟩⟩,
    fun hcut hstate => ?_⟩
  · rw [boundary_of_waiting hwait] at hp
    subst hp
    exact ⟨rfl, rfl, rfl⟩
  · rw [boundary_of_playing hcut hstate hcur, if_pos hawaited, awaitedBoundary_of_fetching hfetching] at hp
    subst hp
    exact ⟨rfl, rfl, rfl⟩
  · rw [boundary_of_playing hcut hstate hcur, if_pos hawaited, awaitedBoundary_of_arrived harrived, hfor] at hp
    subst hp
    simp only [FillFor.index]
    obtain ⟨hcurrent, -, hbegun⟩ := slot_begun hstate ch q k c.begins
    exact ⟨hcurrent, hbegun⟩
  · rw [boundary_of_playing hcut hstate hcur, if_neg (by simp [hawaited]), if_pos ⟨hrunning, by omega⟩, if_neg (by omega)] at hp
    subst hp
    exact ⟨rfl, rfl, rfl⟩
  · rw [boundary_of_playing hcut hstate hcur, if_neg (by simp [hawaited]), if_pos ⟨hrunning, by omega⟩, if_pos (by omega), hperiods] at hp
    rcases hk with ⟨hmore, rfl, rfl⟩ | ⟨hlast, hagain, rfl, rfl⟩
    · have hout : ({ c with periodsLeft := 1 - 1 } : Channel).runOut s ch (s.params.rest.get ch) q = _ := if_pos hmore
      rw [hout] at hp
      have hbegun := due_begun (c := c) (d := { c with periodsLeft := 0 }) rfl hrunning ch q _ hp
      exact hbegun
    · have hout : ({ c with periodsLeft := 1 - 1 } : Channel).runOut s ch (s.params.rest.get ch) q = _ :=
        (if_neg (not_lt.2 hlast)).trans (if_pos hagain)
      rw [hout] at hp
      have hbegun := due_begun (c := c) (d := { c with periodsLeft := 0, repeatsLeft := c.repeatsLeft - 1 }) rfl hrunning ch q _ hp
      exact hbegun
  · rw [boundary_of_playing hcut hstate hcur, if_neg (by simp [hawaited]), if_pos ⟨hrunning, by omega⟩, if_pos (by omega), hperiods] at hp
    have hout : ({ c with periodsLeft := 1 - 1 } : Channel).runOut s ch (s.params.rest.get ch) q = _ :=
      (if_neg (not_lt.2 hlast)).trans (if_neg (by simp [hdone]))
    rw [hout] at hp
    obtain ⟨hidle, hload, hready, hloop, hover, hover'⟩ := lastSlot_plays hrunning hcur hp
    exact ⟨hidle, hload, fun b n h h' => (hfollows ..).2 (hready b n h h'), fun h h' h'' => (hfollows ..).2 (hloop h h' h''), hover, hover'⟩
  · obtain ⟨cause, hcause⟩ := Option.ne_none_iff_exists'.1 hcut
    obtain ⟨hidle, hload, hready, hloop, hover, hover'⟩ := cut_plays hcause hstate hp
    exact ⟨hidle, hload, fun b n h h' => (hfollows ..).2 (hready b n h h'),
      fun a q h h' h'' h3 h4 => (hfollows ..).2 (hloop a q h h' h'' h3 h4), hover, hover'⟩

end Sys2Proof.Machine
end

section
/-! The fitness of panes judged (R101), and what a judgement changes and raises. -/

namespace Sys2Proof.Machine

/-! ### Fitness (R101) -/

/-- The fitness of a pane by the module information given, field by field. -/
theorem fitnessBy_some (s : State) (m : ModuleInfo) (sc : Fin 32) (p : Fin 4) (x : Pane) : s.fitnessBy (some m) (paneIx sc p) x =
    if x.kind = .none then .unjudged
    else if m.regions ≤ p.val ∨ (x.kind = .reel ∧
      m.maxFrame < (s.reel.channels.get x.channel).frameLength (s.params.rest.get x.channel)) then .unfit else .fit := by
  have hfit : s.fitnessBy (some m) (paneIx sc p) x = if x.kind = .none then .unjudged
      else if m.regions ≤ (paneNo (paneIx sc p)).val then .unfit
      else if x.kind = .reel ∧
        m.maxFrame < (s.reel.channels.get x.channel).frameLength (s.params.rest.get x.channel) then .unfit else .fit := rfl
  rw [hfit, paneNo_paneIx]
  by_cases hregions : m.regions ≤ p.val
  · simp only [hregions, if_true, true_or]
  · simp only [hregions, if_false, false_or]

/-- The fitness of a pane by the information in its screen's module slot, field by field. -/
theorem fitnessOf_eq (s : State) (sc : Fin 32) (p : Fin 4) (x : Pane) : s.fitnessOf (paneIx sc p) x =
    if x.kind = .none ∨ (s.slotOf sc).state = .absent then .unjudged
    else if (s.slotOf sc).regions ≤ p.val ∨ (x.kind = .reel ∧
      (s.slotOf sc).maxFrame < (s.reel.channels.get x.channel).frameLength (s.params.rest.get x.channel)) then .unfit else .fit := by
  rw [State.fitnessOf, paneScreen_paneIx, ModSlot.information]
  by_cases habsent : (s.slotOf sc).state = .absent
  · rw [if_pos habsent, if_pos (.inr habsent)]
    rfl
  · rw [if_neg habsent, fitnessBy_some]
    exact if_congr (by simp [habsent]) rfl rfl

/-! ### One pane judged -/

/-- A pane as a judgement leaves it: a new fitness, and on becoming FIT every item of its kind marked. -/
def Pane.judged (f : Fitness) (p : Pane) : Pane :=
  if f = p.fitness then p
  else if f = .fit then ({ p with fitness := f } : Pane).mapItems Item.mark
  else { p with fitness := f }

/-- A judgement makes a REEL pane FIT, and its module's serial of the pane's channel is forgotten (R112). -/
def Pane.refits (f : Fitness) (p : Pane) : Bool := decide (p.kind = .reel ∧ p.fitness ≠ .fit ∧ f = .fit)

/-- A judgement makes a pane UNFIT (R101). -/
def Pane.unfits (f : Fitness) (p : Pane) : Bool := decide (p.fitness ≠ .unfit ∧ f = .unfit)

/-- The last-accepted serials of the channels that meet a test forgotten. -/
def Screen.forget (test : Fin 8 → Bool) (x : Screen) : Screen :=
  { x with serials := x.serials.mapFin fun ch v => if test ch then none else v }

theorem Screen.forget_none (x : Screen) : x.forget (fun _ => false) = x := by
  have : (x.serials.mapFin fun _ v => v) = x.serials := by ext1 i; simp
  simp [Screen.forget, this]

theorem forget_screens (q : Comp) (sc : Fin 32) (ch : Fin 8) :
    (q.forget sc ch).screens = q.screens.mapFin fun k x => x.forget fun b => decide (k = sc ∧ b = ch) := by
  refine Table.ext_get fun k => ?_
  simp only [Comp.forget, Comp.onScreen, Table.get_mapFin]
  by_cases hk : sc = k
  · subst hk
    rw [Table.get_modify_self]
    simp only [Screen.forget, true_and]
    congr 1
    refine Table.ext_get fun b => ?_
    by_cases hb : ch = b
    · subst hb; simp
    · simp [Table.get_set_of_ne _ hb, Ne.symm hb]
  · rw [Table.get_modify_of_ne _ hk]
    simp [Ne.symm hk, Screen.forget_none]

theorem judge_eq (fit : Fin 128 → Pane → Fitness) (i : Fin 128) {q : Comp} {p : Pane} (hp : q.panes.get i = p) :
    q.judge fit i = ({ q with
        panes := q.panes.modify i (Pane.judged (fit i p))
        screens := q.screens.mapFin fun sc x => x.forget fun ch => p.refits (fit i p) && decide (sc = paneScreen i ∧ ch = p.channel) },
      if p.unfits (fit i p) then [.event .paneUnfit] else []) := by
  have hscreens : (q.screens.mapFin fun _ x => x.forget fun _ => false) = q.screens := by
    refine Table.ext_get fun k => ?_
    rw [Table.get_mapFin, Screen.forget_none]
  have hmodify {f g : Pane → Pane} (h : f p = g p) : q.panes.modify i f = q.panes.modify i g := by
    refine Table.ext_get fun k => ?_
    by_cases hk : i = k
    · subst hk; rw [Table.get_modify_self, Table.get_modify_self, hp, h]
    · rw [Table.get_modify_of_ne _ hk, Table.get_modify_of_ne _ hk]
  have hkeep : q.panes.modify i (fun p => p) = q.panes := by
    refine Table.ext_get fun k => ?_
    by_cases hk : i = k
    · subst hk; rw [Table.get_modify_self]
    · rw [Table.get_modify_of_ne _ hk]
  unfold Comp.judge
  rw [hp]
  dsimp only
  generalize fit i p = f
  by_cases hf : f = p.fitness
  · have hrefit : p.refits f = false := decide_eq_false (by rw [hf]; tauto)
    have hunfit : p.unfits f = false := decide_eq_false (by rw [hf]; tauto)
    rw [if_pos hf, hrefit, hunfit, hmodify (g := fun p => p) (show Pane.judged f p = p from if_pos hf), hkeep]
    simp only [Bool.false_and, hscreens]
    rfl
  · rw [if_neg hf]
    cases f with
    | unfit =>
      have hjudged : Pane.judged .unfit p = { p with fitness := .unfit } := by rw [Pane.judged, if_neg hf, if_neg (by simp)]
      have hrefit : p.refits .unfit = false := decide_eq_false (by simp)
      have hunfit : p.unfits .unfit = true := decide_eq_true ⟨Ne.symm hf, rfl⟩
      rw [hrefit, hunfit, hmodify (f := Pane.judged .unfit) (g := fun p => { p with fitness := .unfit }) hjudged]
      simp only [Bool.false_and, hscreens]
      rfl
    | unjudged =>
      have hjudged : Pane.judged .unjudged p = { p with fitness := .unjudged } := by rw [Pane.judged, if_neg hf, if_neg (by simp)]
      have hrefit : p.refits .unjudged = false := decide_eq_false (by simp)
      have hunfit : p.unfits .unjudged = false := decide_eq_false (by simp)
      rw [hrefit, hunfit, hmodify (f := Pane.judged .unjudged) (g := fun p => { p with fitness := .unjudged }) hjudged]
      simp only [Bool.false_and, hscreens]
      rfl
    | fit =>
      have hjudged : Pane.judged .fit p = ({ p with fitness := .fit } : Pane).mapItems Item.mark := by
        rw [Pane.judged, if_neg hf, if_pos rfl]
      have hunfit : p.unfits .fit = false := decide_eq_false (by simp)
      have hpanes : (q.panes.modify i fun p => { p with fitness := .fit }).modify i (Pane.mapItems Item.mark) =
          q.panes.modify i (Pane.judged .fit) := by
        refine Table.ext_get fun k => ?_
        by_cases hk : i = k
        · subst hk
          rw [Table.get_modify_self, Table.get_modify_self, Table.get_modify_self, hp, hjudged]
        · rw [Table.get_modify_of_ne _ hk, Table.get_modify_of_ne _ hk, Table.get_modify_of_ne _ hk]
      rw [hunfit]
      dsimp only [Comp.onPane]
      rw [hpanes]
      by_cases hreel : p.kind = .reel
      · have hrefit : p.refits .fit = true := decide_eq_true ⟨hreel, Ne.symm hf, rfl⟩
        rw [if_pos hreel, hrefit]
        simp only [Bool.true_and]
        rw [← forget_screens q (paneScreen i) p.channel]
        rfl
      · have hrefit : p.refits .fit = false := decide_eq_false fun h => hreel h.1
        rw [if_neg hreel, hrefit]
        simp only [Bool.false_and, hscreens]
        rfl

/-! ### Several panes judged -/

theorem Screen.forget_forget (f g : Fin 8 → Bool) (x : Screen) : (x.forget f).forget g = x.forget fun ch => f ch || g ch := by
  simp only [Screen.forget]
  congr 1
  refine Table.ext_get fun ch => ?_
  simp only [Table.get_mapFin]
  by_cases hf : f ch = true
  · simp [hf]
  · simp [hf]

/-- The panes of a list of places judged, each by what it held. -/
theorem judgeSome_eq (fit : Fin 128 → Pane → Fitness) (test : Fin 128 → Pane → Bool) (q : Comp) :
    q.judgeSome fit test = ({ q with
        panes := q.panes.mapFin fun i p => if test i p then p.judged (fit i p) else p
        screens := q.screens.mapFin fun sc x => x.forget fun ch => (allFin 128).any fun i =>
          test i (q.panes.get i) && (q.panes.get i).refits (fit i (q.panes.get i)) &&
            decide (sc = paneScreen i ∧ ch = (q.panes.get i).channel) },
      ((allFin 128).filter fun i => test i (q.panes.get i) && (q.panes.get i).unfits (fit i (q.panes.get i))).map
        fun _ => .event .paneUnfit) := by
  have key (ks : List (Fin 128)) (hks : ks.Nodup) (x : Comp) (hx : ∀ k ∈ ks, x.panes.get k = q.panes.get k) (outs : List Out) :
      ks.foldl (fun p i => andThen p fun q => if test i (q.panes.get i) then q.judge fit i else (q, [])) (x, outs) =
        ({ x with
            panes := x.panes.mapFin fun i p => if decide (i ∈ ks) && test i p then p.judged (fit i p) else p
            screens := x.screens.mapFin fun sc y => y.forget fun ch => ks.any fun i =>
              test i (q.panes.get i) && (q.panes.get i).refits (fit i (q.panes.get i)) &&
                decide (sc = paneScreen i ∧ ch = (q.panes.get i).channel) },
          outs ++ (ks.filter fun i => test i (q.panes.get i) && (q.panes.get i).unfits (fit i (q.panes.get i))).map
            fun _ => .event .paneUnfit) := by
    induction ks generalizing x outs with
    | nil =>
      have hpanes : (x.panes.mapFin fun _ p => p) = x.panes := by ext1 i; simp
      have hscreens : (x.screens.mapFin fun _ y => y.forget fun _ => false) = x.screens := by
        refine Table.ext_get fun k => ?_
        rw [Table.get_mapFin, Screen.forget_none]
      simp [hpanes, hscreens]
    | cons k ks ih =>
      obtain ⟨hk, hks'⟩ := List.nodup_cons.1 hks
      have hget := hx k List.mem_cons_self
      have hothers (i : Fin 128) (hi : i ≠ k) : decide (i ∈ k :: ks) = decide (i ∈ ks) := by simp [hi]
      rw [List.foldl_cons, andThen]
      by_cases htest : test k (q.panes.get k) = true
      · have hjudge : (if test k (x.panes.get k) = true then x.judge fit k else (x, [])) = _ :=
          (if_pos (by rw [hget]; exact htest)).trans (judge_eq fit k hget)
        dsimp only
        rw [hjudge]
        dsimp only
        rw [ih hks' _ fun j hj => ?_]
        · have hpanes : ((x.panes.modify k (Pane.judged (fit k (q.panes.get k)))).mapFin fun i p =>
              if (decide (i ∈ ks) && test i p) = true then p.judged (fit i p) else p) = x.panes.mapFin fun i p =>
              if (decide (i ∈ k :: ks) && test i p) = true then p.judged (fit i p) else p := by
            refine Table.ext_get fun i => ?_
            by_cases hi : k = i
            · subst hi
              simp [hk, hget, htest]
            · simp [Table.get_modify_of_ne _ hi, Ne.symm hi]
          have hscreens : ((x.screens.mapFin fun sc y => y.forget fun ch =>
              (q.panes.get k).refits (fit k (q.panes.get k)) && decide (sc = paneScreen k ∧ ch = (q.panes.get k).channel)).mapFin
              fun sc y => y.forget fun ch => ks.any fun i =>
              test i (q.panes.get i) && (q.panes.get i).refits (fit i (q.panes.get i)) &&
                decide (sc = paneScreen i ∧ ch = (q.panes.get i).channel)) = x.screens.mapFin fun sc y => y.forget fun ch =>
              (k :: ks).any fun i => test i (q.panes.get i) && (q.panes.get i).refits (fit i (q.panes.get i)) &&
                decide (sc = paneScreen i ∧ ch = (q.panes.get i).channel) := by
            refine Table.ext_get fun sc => ?_
            simp only [Table.get_mapFin, Screen.forget_forget, List.any_cons, htest, Bool.true_and]
          rw [hpanes, hscreens, List.filter_cons, htest, Bool.true_and, List.append_assoc]
          cases (q.panes.get k).unfits (fit k (q.panes.get k)) <;> rfl
        · rw [Table.get_modify_of_ne _ (fun h => hk (by rw [h]; exact hj)), hx j (List.mem_cons_of_mem _ hj)]
      · have hstay : (if test k (x.panes.get k) = true then x.judge fit k else (x, [])) = (x, []) :=
          if_neg (by rw [hget]; exact htest)
        have hfalse : test k (q.panes.get k) = false := by simpa using htest
        dsimp only
        rw [hstay]
        dsimp only
        rw [ih hks' x fun j hj => hx j (List.mem_cons_of_mem _ hj)]
        have hpanes : (x.panes.mapFin fun i p => if (decide (i ∈ ks) && test i p) = true then p.judged (fit i p) else p) =
            x.panes.mapFin fun i p => if (decide (i ∈ k :: ks) && test i p) = true then p.judged (fit i p) else p := by
          refine Table.ext_get fun i => ?_
          by_cases hi : k = i
          · subst hi
            simp [hk, hget, hfalse]
          · simp [Ne.symm hi]
        rw [hpanes, List.filter_cons, hfalse]
        simp only [List.any_cons, hfalse, Bool.false_and, Bool.false_or, List.append_nil]
        rfl
  refine (key (allFin 128) (List.nodup_finRange 128) q (fun _ _ => rfl) []).trans ?_
  simp [allFin]

end Sys2Proof.Machine
end

section
/-! Notes at the Composition Unit (R98, R101, R111, R113, R114). -/

namespace Sys2Proof.Machine

theorem paneIx_paneScreen (i : Fin 128) : paneIx (paneScreen i) (paneNo i) = i := by
  ext
  simp only [paneScreen, paneIx, paneNo]
  omega

/-! ### The frame length a channel gives (R98) -/

theorem frameLength_of_idle {c : Channel} (h : c.state = .idle) (rest : RestParams) : c.frameLength rest = rest.usedLen := by
  simp only [Channel.frameLength, h]

theorem frameLength_of_ready {c : Channel} {a : Addr} {q : Cue} (h : c.state ≠ .idle) (hcur : c.current = .ready a q)
    (rest : RestParams) : c.frameLength rest = q.length := by
  cases hstate : c.state with
  | idle => exact absurd hstate h
  | _ => simp only [Channel.frameLength, hstate, hcur]

theorem frameLength_of_other {c : Channel} (h : c.state ≠ .idle) (hcur : ∀ a q, c.current ≠ .ready a q) (rest : RestParams) :
    c.frameLength rest = c.shownLen := by
  cases hstate : c.state with
  | idle => exact absurd hstate h
  | _ =>
    cases hrank : c.current with
    | ready a q => exact absurd hrank (hcur a q)
    | _ => simp only [Channel.frameLength, hstate, hrank]

/-! ### Items marked (R109, R111, R114) -/

theorem markBanner_eq (p : Pane) : p.markBanner = if p.kind = .banner then { p with item := { p.item with dirty := true } } else p := by
  unfold Pane.markBanner
  split
  case h_1 h => simp only [Pane.mapItems, h, if_true]; rfl
  case h_2 h => rw [if_neg h]

theorem markClock_eq (p : Pane) : p.markClock = if p.kind = .clock then { p with item := { p.item with dirty := true } } else p := by
  unfold Pane.markClock
  split
  case h_1 h => simp only [Pane.mapItems, h, if_true]; rfl
  case h_2 h => rw [if_neg h]

theorem table_modify_eq_set {n : Nat} {α : Type} (t : Table n α) (i : Fin n) (f : α → α) : t.modify i f = t.set i (f (t.get i)) := by
  refine Table.ext_get fun k => ?_
  by_cases h : i = k
  · subst h; rw [Table.get_modify_self, Table.get_set_self]
  · rw [Table.get_modify_of_ne _ h, Table.get_set_of_ne _ h]

theorem onPane_eq {q : Comp} {i : Fin 128} {p : Pane} (hp : q.panes.get i = p) (f : Pane → Pane) :
    q.onPane i f = { q with panes := q.panes.set i (f p) } := by
  rw [Comp.onPane, table_modify_eq_set, hp]

theorem onScreen_eq {q : Comp} {sc : Fin 32} {x : Screen} (hx : q.screens.get sc = x) (f : Screen → Screen) :
    q.onScreen sc f = { q with screens := q.screens.set sc (f x) } := by
  rw [Comp.onScreen, table_modify_eq_set, hx]

theorem onPane_of_fixed {q : Comp} {i : Fin 128} {f : Pane → Pane} (h : f (q.panes.get i) = q.panes.get i) : q.onPane i f = q := by
  rw [onPane_eq rfl, h, Table.set_get_self]

/-- A note of a screen's alert that has gone. -/
theorem alertNote_ended {q : Comp} {sc : Fin 32} {x : Screen} (hx : q.screens.get sc = x) (hunder : x.underAlert = true) :
    q.alertNote sc false = { q with
      panes := q.panes.mapFin fun i p => if paneScreen i = sc then p.mapItems Item.mark else p
      screens := q.screens.set sc
        { underAlert := false, alert := { x.alert with dirty := false }, serials := Table.replicate 8 none } } := by
  subst hx
  unfold Comp.alertNote
  rw [if_neg (by simp), if_pos hunder]
  simp only [Comp.onPanesOf, Comp.forgetAll, Comp.onScreen, table_modify_eq_set, Table.get_set_self]
  congr 1
  refine Table.ext_get fun k => ?_
  by_cases h : sc = k
  · subst h; rw [Table.get_set_self, Table.get_set_self]
  · rw [Table.get_set_of_ne _ h, Table.get_set_of_ne _ h, Table.get_set_of_ne _ h]

/-! ### Judgements at a channel note (R101, R113) -/

theorem judged_fields (f : Fitness) (p : Pane) :
    p.judged f = { p with fitness := f, rowItems := (p.judged f).rowItems, item := (p.judged f).item } := by
  unfold Pane.judged
  split
  case isTrue h => rw [h]
  case isFalse =>
    split
    · unfold Pane.mapItems
      cases h : p.kind <;> rfl
    · rfl

/-- A REEL pane has no items of its own to mark. -/
theorem judged_reel {p : Pane} (h : p.kind = .reel) (f : Fitness) : p.judged f = { p with fitness := f } := by
  unfold Pane.judged
  split
  case isTrue hf => rw [hf]
  case isFalse =>
    split
    · simp only [Pane.mapItems, h]
    · rfl

theorem map_const_event {α : Type} (xs : List α) (k : EventKind) :
    (xs.map fun _ => Out.event k) = (List.replicate xs.length k).map .event := by
  rw [List.map_replicate, List.map_const']

/-- Settles O50. -/
theorem notesMarkTheItems : Obligations.NotesMarkTheItems := by
  refine ⟨fun c rest => ⟨fun hidle => ?_, fun a q h hcur => frameLength_of_ready h hcur rest,
    fun h hcur => frameLength_of_other h hcur rest⟩, fun s m rest hmsg => ?_, fun s sc p rest x hmsg hx => ⟨fun hkind => ?_, fun hkind => ?_⟩,
    fun s sc selected rest x hmsg hx => ⟨fun hsel => ?_, fun hsel hunder => ?_, fun hsel hunder => ?_⟩, fun s m rest hmsg => ?_,
    fun s n rest fit hmsg hfit => ?_⟩
  · rw [frameLength_of_idle hidle, RestParams.usedLen, min_comm]
  · have hrun : listNote s = (s.withMail { s.mail with noticesToComp := rest }).withComp (s.comp.listNote m) := by
      simp only [listNote, hmsg, State.popNoticeNote]
      rfl
    refine ⟨_, rfl, (listNote_frame s).commit, ?_⟩
    simp only [commit_mail, commit_comp, hrun]
    refine ⟨rfl, rfl, fun sc p x hx => ?_, fun sc x hx => ?_⟩
    · refine (Table.get_mapFin _ _ _).trans ?_
      rw [hx, paneScreen_paneIx, markBanner_eq]
      by_cases hmask : maskHits m sc = true
      · rw [if_pos hmask]
        exact if_congr (by rw [← maskHits_iff]; tauto) rfl rfl
      · rw [if_neg hmask, if_neg (by rw [← maskHits_iff]; tauto)]
    · refine (Table.get_mapFin _ _ _).trans ?_
      rw [hx]
      exact if_congr (by rw [Bool.and_eq_true, maskHits_iff]) rfl rfl
  · have hrun : bannerNote s = (s.withMail { s.mail with noticesToComp := rest }).withComp (s.comp.onPane (paneIx sc p) Pane.markBanner) := by
      simp only [bannerNote, hmsg, State.popNoticeNote]
      rfl
    rw [onPane_eq hx, markBanner_eq, if_pos hkind] at hrun
    exact congrArg (goOn s) hrun
  · have hrun : bannerNote s = (s.withMail { s.mail with noticesToComp := rest }).withComp (s.comp.onPane (paneIx sc p) Pane.markBanner) := by
      simp only [bannerNote, hmsg, State.popNoticeNote]
      rfl
    rw [onPane_of_fixed (by rw [hx, markBanner_eq, if_neg hkind])] at hrun
    exact congrArg (goOn s) hrun
  · have hrun : alertNote s = (s.withMail { s.mail with noticesToComp := rest }).withComp (s.comp.alertNote sc selected) := by
      simp only [alertNote, hmsg, State.popNoticeNote]
      rfl
    rw [Comp.alertNote, if_pos hsel, onScreen_eq hx] at hrun
    exact congrArg (goOn s) hrun
  · have hrun : alertNote s = (s.withMail { s.mail with noticesToComp := rest }).withComp (s.comp.alertNote sc selected) := by
      simp only [alertNote, hmsg, State.popNoticeNote]
      rfl
    rw [Comp.alertNote, if_neg (by simp [hsel]), hx, if_neg (by simp [hunder])] at hrun
    exact congrArg (goOn s) hrun
  · have hrun : alertNote s = (s.withMail { s.mail with noticesToComp := rest }).withComp (s.comp.alertNote sc selected) := by
      simp only [alertNote, hmsg, State.popNoticeNote]
      rfl
    rw [hsel, alertNote_ended hx hunder] at hrun
    refine ⟨_, rfl, (alertNote_frame s).commit, ?_⟩
    simp only [commit_mail, commit_comp, hrun]
    refine ⟨rfl, rfl, rfl, fun sc' p y hy => ⟨fun hne => ?_, fun heq => ?_⟩⟩
    · refine (Table.get_mapFin _ _ _).trans ?_
      rw [hy, paneScreen_paneIx, if_neg hne]
    · refine (Table.get_mapFin _ _ _).trans ?_
      rw [hy, paneScreen_paneIx, if_pos heq]
      unfold Pane.mapItems
      cases hkind : y.kind <;> rfl
  · have hrun : minuteNoteComposition s = (s.withMail { s.mail with toComp := rest }).withComp (s.comp.minuteNote m) := by
      simp only [minuteNoteComposition, hmsg, State.popCompMsg]
      rfl
    refine ⟨_, rfl, (minuteNoteComposition_frame s).commit, ?_⟩
    simp only [commit_mail, commit_comp, hrun]
    refine ⟨rfl, rfl, rfl, fun i x hx => ?_⟩
    refine (Table.get_map _ _ _).trans ?_
    rw [hx, markClock_eq]
  · have hfit' (i : Fin 128) : s.fitnessOf i (s.comp.panes.get i) = fit i := by
      have h := hfit (paneScreen i) (paneNo i) _ _ rfl rfl
      rw [paneIx_paneScreen] at h
      rw [h]
      have h' := fitnessOf_eq s (paneScreen i) (paneNo i) (s.comp.panes.get i)
      rwa [paneIx_paneScreen] at h'
    have hrun : channelNote s = (s.withMail { s.mail with channelNotes := rest }).compDo
        (s.comp.judgeSome s.fitnessOf fun _ p => decide (p.kind = .reel) && decide (p.channel = n.channel)) := by
      simp only [channelNote, hmsg]
    rw [judgeSome_eq, compDo_eq, map_const_event, emit_raised] at hrun
    refine ⟨_, rfl, (channelNote_frame s).commit, ?_⟩
    simp only [commit_mail, commit_comp, hrun]
    refine ⟨rfl, rfl, fun i x x' hx hx' => ?_, fun sc ch => ?_, ?_⟩
    · have hget : x' = if (decide (x.kind = .reel) && decide (x.channel = n.channel)) = true then x.judged (s.fitnessOf i x) else x := by
        rw [← hx', ← hx]
        exact Table.get_mapFin _ _ _
      simp only [Bool.and_eq_true, decide_eq_true_eq] at hget
      refine ⟨fun hnot => hget.trans (if_neg hnot), fun hreel hch => ?_⟩
      rw [hget, if_pos ⟨hreel, hch⟩, judged_reel hreel, ← hfit' i, hx]
    · refine (congrArg (fun x : Screen => x.serials.get ch) (Table.get_mapFin _ _ _)).trans ((Table.get_mapFin _ _ _).trans ?_)
      refine if_congr ?_ rfl rfl
      rw [List.any_eq_true]
      refine ⟨fun ⟨i, _, hi⟩ => ?_, fun ⟨hch, p, hreel, hchan, hold, hnew⟩ => ⟨paneIx sc p, List.mem_finRange _, ?_⟩⟩
      · rw [Bool.and_eq_true, Bool.and_eq_true, Bool.and_eq_true, decide_eq_true_eq, decide_eq_true_eq, decide_eq_true_eq,
          Pane.refits, decide_eq_true_eq, hfit'] at hi
        obtain ⟨⟨⟨hreel, hchan⟩, -, hold, hnew⟩, hsc, hch⟩ := hi
        refine ⟨hch.trans hchan, paneNo i, ?_⟩
        rw [hsc, paneIx_paneScreen]
        exact ⟨hreel, hchan, hold, hnew⟩
      · rw [Bool.and_eq_true, Bool.and_eq_true, Bool.and_eq_true, decide_eq_true_eq, decide_eq_true_eq, decide_eq_true_eq,
          Pane.refits, decide_eq_true_eq, hfit', paneScreen_paneIx]
        exact ⟨⟨⟨hreel, hchan⟩, hreel, hold, hnew⟩, rfl, hch.trans hchan.symm⟩
    · show s.mail.events ++ _ = _
      rw [List.countP_eq_length_filter]
      congr 3
      refine List.filter_congr fun i _ => ?_
      rw [Pane.unfits, hfit', Bool.eq_iff_iff, Bool.and_eq_true, Bool.and_eq_true, decide_eq_true_eq, decide_eq_true_eq, decide_eq_true_eq,
        decide_eq_true_eq]
      tauto

end Sys2Proof.Machine
end

section
/-! Board panes: their filtered list, their pages and their rows (R102 to R106). -/

namespace Sys2Proof.Machine

/-! ### The filtered list (R102) -/

theorem admits_iff (p : Pane) (e : ShowEntry) : p.admits e = true ↔ p.lo ≤ e.fields.auditorium ∧ e.fields.auditorium ≤ p.hi ∧
    (e.state = .onSale ∨ e.state = .closing ∨ (e.state = .started ∧ p.includeStarted = true) ∨
      (e.state = .cancelled ∧ p.includeCancelled = true)) := by
  rw [Pane.admits, Bool.and_eq_true, Bool.and_eq_true, decide_eq_true_eq, decide_eq_true_eq, and_assoc]
  refine and_congr_right fun _ => and_congr_right fun _ => ?_
  cases e.state <;> simp

/-- A BOARD pane's filtered list is the board order with the shows that pass. -/
theorem filtered_passes (t : Tracker) (p : Pane) : ∃ pass : Fin 192 → Bool, p.filtered t = t.board.filter pass ∧
    ∀ j d, t.entries.get j = d → (pass j = true ↔ p.lo ≤ d.fields.auditorium ∧ d.fields.auditorium ≤ p.hi ∧
      (d.state = .onSale ∨ d.state = .closing ∨ (d.state = .started ∧ p.includeStarted = true) ∨
        (d.state = .cancelled ∧ p.includeCancelled = true))) :=
  ⟨fun i => p.admits (t.entries.get i), rfl, fun j d hd => by rw [← hd]; exact admits_iff p _⟩

/-! ### Rows and pages -/

theorem markRows_rows (p : Pane) (test : Nat → Bool) (r : Fin 16) : (p.markRows test).rowItems.get r =
    if r.val < p.rows ∧ test r.val = true then { p.rowItems.get r with dirty := true } else p.rowItems.get r := by
  refine (Table.get_mapFin _ _ _).trans (if_congr ?_ rfl rfl)
  rw [Bool.and_eq_true, decide_eq_true_eq]

theorem markRows_eq (p : Pane) (test : Nat → Bool) : p.markRows test = { p with rowItems := (p.markRows test).rowItems } := rfl

/-- A page index beyond the page count is brought to the last page, every row marked (R104). -/
theorem fixPage_eq (p : Pane) : p.fixPage = { p with
    page := if p.page < p.pageCount then p.page else p.pageCount - 1, rowItems := p.fixPage.rowItems } := by
  by_cases h : p.page < p.pageCount
  · simp only [Pane.fixPage, if_pos h]
  · simp only [Pane.fixPage, if_neg h]
    rfl

theorem fixPage_rows (p : Pane) (r : Fin 16) : p.fixPage.rowItems.get r =
    if r.val < p.rows ∧ p.pageCount ≤ p.page then { p.rowItems.get r with dirty := true } else p.rowItems.get r := by
  by_cases h : p.page < p.pageCount
  · rw [Pane.fixPage, if_pos h, if_neg (by omega)]
  · rw [Pane.fixPage, if_neg h, markRows_rows]
    exact if_congr (by simp; omega) rfl rfl

theorem firstDiff_le_iff {α : Type} [DecidableEq α] {a b : List α} {q : Nat} (h : firstDiff a b = some q) (n : Nat) :
    q ≤ n ↔ ∃ f ≤ n, a[f]? ≠ b[f]? := by
  obtain ⟨hne, hbefore⟩ := firstDiff_eq_some h
  exact ⟨fun hle => ⟨q, hle, hne⟩, fun ⟨f, hle, hf⟩ => not_lt.1 fun hlt => hf (hbefore f (by omega))⟩

/-- A BOARD pane computed afresh (R103, R104). -/
theorem recompute_board (t : Tracker) {p : Pane} (h : p.kind = .board) {count : Nat}
    (hcount : count = max 1 (((p.filtered t).length + p.rows - 1) / p.rows)) :
    p.recompute t = { p with
      list := p.filtered t, page := if p.page < count then p.page else count - 1, rowItems := (p.recompute t).rowItems } ∧
    ∀ r : Fin 16, (p.recompute t).rowItems.get r =
      if r.val < p.rows ∧ (count ≤ p.page ∨ ∃ f ≤ p.page * p.rows + r.val, p.list[f]? ≠ (p.filtered t)[f]?) then
        { p.rowItems.get r with dirty := true } else p.rowItems.get r := by
  cases hdiff : firstDiff p.list (p.filtered t) with
  | none =>
    have hlist := firstDiff_eq_none hdiff
    have hpages : p.pageCount = count := by rw [hcount, ← hlist]; rfl
    have hsame : p.recompute t = p.fixPage := by simp only [Pane.recompute, h, hdiff]
    rw [hsame, ← hlist, ← hpages]
    refine ⟨fixPage_eq p, fun r => (fixPage_rows p r).trans (if_congr ?_ rfl rfl)⟩
    simp
  | some f0 =>
    have hmarked : p.recompute t = ({ p.markRows (fun r => decide (f0 ≤ p.position r)) with list := p.filtered t } : Pane).fixPage := by
      simp only [Pane.recompute, h, hdiff]
    have hpages : ({ p.markRows (fun r => decide (f0 ≤ p.position r)) with list := p.filtered t } : Pane).pageCount = count := hcount.symm
    have hfix := fixPage_eq { p.markRows (fun r => decide (f0 ≤ p.position r)) with list := p.filtered t }
    have hrows := fixPage_rows { p.markRows (fun r => decide (f0 ≤ p.position r)) with list := p.filtered t }
    rw [hpages] at hfix hrows
    rw [hmarked]
    refine ⟨hfix, fun r => (hrows r).trans ?_⟩
    have hrow : ({ p.markRows (fun r => decide (f0 ≤ p.position r)) with list := p.filtered t } : Pane).rowItems.get r = _ :=
      markRows_rows p (fun r => decide (f0 ≤ p.position r)) r
    simp only [hrow, ← firstDiff_le_iff hdiff, decide_eq_true_eq]
    show (if r.val < p.rows ∧ count ≤ p.page then _ else _) = _
    by_cases hpage : r.val < p.rows ∧ count ≤ p.page
    · have hmark : r.val < p.rows ∧ (count ≤ p.page ∨ f0 ≤ p.page * p.rows + r.val) := ⟨hpage.1, .inl hpage.2⟩
      rw [if_pos hpage, if_pos hmark]
      by_cases hdirty : r.val < p.rows ∧ f0 ≤ p.position r.val
      · rw [if_pos hdirty]
      · rw [if_neg hdirty]
    · rw [if_neg hpage]
      refine if_congr ?_ rfl rfl
      show r.val < p.rows ∧ f0 ≤ p.page * p.rows + r.val ↔ _
      tauto

theorem recompute_other (t : Tracker) {p : Pane} (h : p.kind ≠ .board) : p.recompute t = p := by
  unfold Pane.recompute
  split
  case h_1 hboard => exact absurd hboard h
  case h_2 => rfl

/-- The rows that show a slot marked (R106). -/
theorem markShow_rows (slot : Fin 192) (p : Pane) : p.markShow slot = { p with rowItems := (p.markShow slot).rowItems } ∧
    ∀ r : Fin 16, (p.markShow slot).rowItems.get r =
      if p.kind = .board ∧ r.val < p.rows ∧ p.list[p.page * p.rows + r.val]? = some slot then
        { p.rowItems.get r with dirty := true } else p.rowItems.get r := by
  by_cases h : p.kind = .board
  · have hmark : p.markShow slot = p.markRows fun r => decide (p.shows r = some slot) := by simp only [Pane.markShow, h]
    rw [hmark]
    refine ⟨rfl, fun r => (markRows_rows p _ r).trans (if_congr ?_ rfl rfl)⟩
    rw [decide_eq_true_eq]
    exact ⟨fun ⟨hr, hs⟩ => ⟨h, hr, hs⟩, fun ⟨_, hr, hs⟩ => ⟨hr, hs⟩⟩
  · have hsame : p.markShow slot = p := by
      unfold Pane.markShow
      split
      case h_1 hboard => exact absurd hboard h
      case h_2 => rfl
    rw [hsame]
    exact ⟨rfl, fun r => (if_neg fun hall => h hall.1).symm⟩

/-! ### The dwell timer (R105) -/

theorem pageDwell_of_other {p : Pane} (h : p.kind ≠ .board ∨ p.timer ≠ 0) : p.dwellExpiry = p := by
  unfold Pane.dwellExpiry
  split
  case h_1 hboard => exact if_neg (h.resolve_left (not_not.2 hboard))
  case h_2 => rfl

theorem pageDwell_of_due {p : Pane} (h : p.kind = .board) (htimer : p.timer = 0) : p.dwellExpiry =
    if 1 < p.pageCount then
      (({ p with page := if p.page + 1 < p.pageCount then p.page + 1 else 0 } : Pane).markRows fun _ => true).loadTimer
    else { p.loadTimer with page := 0 } := by
  simp only [Pane.dwellExpiry, h, if_pos htimer]

/-- Settles O49. -/
theorem boardPanesFollowTheBoard : Obligations.BoardPanesFollowTheBoard := by
  intro s afresh shows slot hafresh hshows
  have hrecompute (p : Pane) : afresh p (p.recompute s.tracker) := by
    refine (hafresh _ _).2 ⟨recompute_other s.tracker, fun hkind => ?_⟩
    obtain ⟨pass, hpass, hiff⟩ := filtered_passes s.tracker p
    obtain ⟨heq, hrows⟩ := recompute_board s.tracker hkind rfl
    have hlist : (p.recompute s.tracker).list = p.filtered s.tracker := congrArg Pane.list heq
    refine ⟨pass, _, hiff, rfl, ?_, fun r marked hmarked => ?_⟩
    · rw [hlist, ← hpass]
      exact heq
    · rw [hlist] at hmarked
      rw [hrows r, hmarked]
      exact ⟨fun h => if_pos h, fun h => if_neg h⟩
  have hmark (p : Pane) : shows p (p.markShow slot) := (hshows _ _).2 (markShow_rows slot p)
  refine ⟨fun q rest hmsg => ?_, fun n rest hmsg hslot => ?_, fun n rest hmsg hslot => ?_, fun sc p i x count hi hx hcount =>
    ⟨fun hwait => ?_, fun hkind htimer => ?_⟩⟩
  · have hrun : boardOrderNote s = (s.withMail { s.mail with toComp := rest }).withComp (s.comp.mapPanes (Pane.recompute s.tracker)) := by
      simp only [boardOrderNote, hmsg, State.popCompMsg]
      rfl
    refine ⟨_, rfl, (boardOrderNote_frame s).commit, ?_⟩
    simp only [commit_mail, commit_comp, hrun]
    refine ⟨rfl, rfl, fun i => ?_⟩
    have hget : (s.comp.mapPanes (Pane.recompute s.tracker)).panes.get i = (s.comp.panes.get i).recompute s.tracker := Table.get_map _ _ _
    exact hget ▸ hrecompute _
  · subst hslot
    have hrun : compositionShowChangedNote s = (s.withMail { s.mail with toComp := rest }).withComp (s.comp.showNote s.tracker n) := by
      simp only [compositionShowChangedNote, hmsg, State.popCompMsg]
      rfl
    have hpanes (i : Fin 128) : (s.comp.showNote s.tracker n).panes.get i =
        (if n.change.state || n.change.start || n.change.title || n.change.display then Pane.markShow n.slot else id)
          ((if n.change.state || n.change.display || n.change.removed then Pane.recompute s.tracker else id) (s.comp.panes.get i)) := by
      unfold Comp.showNote
      dsimp only
      split <;> split <;> simp [Comp.mapPanes]
    have hcomp : s.comp.showNote s.tracker n = { s.comp with panes := (s.comp.showNote s.tracker n).panes } := by
      unfold Comp.showNote
      dsimp only
      split <;> split <;> rfl
    refine ⟨_, rfl, (compositionShowChangedNote_frame s).commit, ?_⟩
    simp only [commit_mail, commit_comp, hrun]
    refine ⟨rfl, hcomp, fun i => ⟨(if n.change.state || n.change.display || n.change.removed then Pane.recompute s.tracker else id)
      (s.comp.panes.get i), fun h => ?_, fun h1 h2 h3 => ?_, fun h => ?_, fun h1 h2 h3 h4 => ?_⟩⟩
    · rw [if_pos (by rcases h with h | h | h <;> simp [h])]
      exact hrecompute _
    · simp [h1, h2, h3]
    · have hget : (s.comp.showNote s.tracker n).panes.get i = _ := hpanes i
      rw [if_pos (by rcases h with h | h | h | h <;> simp [h])] at hget
      exact hget ▸ hmark _
    · have hget : (s.comp.showNote s.tracker n).panes.get i = _ := hpanes i
      rw [if_neg (by simp [h1, h2, h3, h4])] at hget
      exact hget
  · subst hslot
    have hrun : compositionSeatsChangedNote s =
        (s.withMail { s.mail with seatsToComp := rest }).withComp (s.comp.mapPanes (Pane.markShow n.show_)) := by
      simp only [compositionSeatsChangedNote, hmsg]
    refine ⟨_, rfl, (compositionSeatsChangedNote_frame s).commit, ?_⟩
    simp only [commit_mail, commit_comp, hrun]
    refine ⟨rfl, rfl, fun i => ?_⟩
    have hget : (s.comp.mapPanes (Pane.markShow n.show_)).panes.get i = (s.comp.panes.get i).markShow n.show_ := Table.get_map _ _ _
    exact hget ▸ hmark _
  · subst hi
    have hrun : pageDwellExpiry sc p s = s := by
      rw [pageDwellExpiry, onPane_of_fixed (by rw [hx]; exact pageDwell_of_other hwait)]
      rfl
    exact goOn_of_nothing hrun
  · subst hi
    have hrun : pageDwellExpiry sc p s = s.withComp { s.comp with panes := s.comp.panes.set (paneIx sc p) x.dwellExpiry } := by
      rw [pageDwellExpiry, onPane_eq hx]
    refine ⟨_, x.dwellExpiry, rfl, (pageDwellExpiry_frame sc p s).commit, ?_⟩
    simp only [commit_comp, hrun]
    have hpages : x.pageCount = count := hcount.symm
    rw [pageDwell_of_due hkind htimer, hpages]
    by_cases hmany : 1 < count
    · rw [if_pos hmany]
      refine ⟨rfl, rfl, fun h => by omega, fun _ r => ?_⟩
      refine (markRows_rows { x with page := if x.page + 1 < count then x.page + 1 else 0 } (fun _ => true) r).trans ?_
      exact if_congr (by simp) rfl rfl
    · rw [if_neg hmany, if_neg (by omega)]
      exact ⟨rfl, rfl, fun _ _ => rfl, fun h => absurd h hmany⟩

end Sys2Proof.Machine
end

section
/-! Module reports and settlements at the Composition Unit (R101, R110, R112, R115). -/

namespace Sys2Proof.Machine

/-! ### Items of a pane changed -/

theorem mapItems_eq (f : Item → Item) (p : Pane) : p.mapItems f = { p with
    rowItems := if p.kind = .board then p.rowItems.map f else p.rowItems
    item := if p.kind = .banner ∨ p.kind = .clock then f p.item else p.item } := by
  unfold Pane.mapItems
  cases h : p.kind <;> simp <;> rw [← h]

theorem judged_of_not_fit {f : Fitness} (h : f ≠ .fit) (p : Pane) : p.judged f = { p with fitness := f } := by
  unfold Pane.judged
  by_cases hf : f = p.fitness
  · rw [if_pos hf, hf]
  · rw [if_neg hf, if_neg h]

theorem map_mark_mark (t : Table 16 Item) : (t.map Item.mark).map Item.mark = t.map Item.mark := by
  refine Table.ext_get fun k => ?_
  simp only [Table.get_map, Item.mark]

/-- A judgement marks no item that a mark of every item would not. -/
theorem judged_marked (f : Fitness) (p : Pane) : (p.judged f).mapItems Item.mark = ({ p with fitness := f } : Pane).mapItems Item.mark := by
  unfold Pane.judged
  by_cases hf : f = p.fitness
  · rw [if_pos hf, hf]
  · rw [if_neg hf]
    by_cases hfit : f = .fit
    · rw [if_pos hfit, mapItems_eq, mapItems_eq]
      by_cases hboard : p.kind = .board
      · simp [hboard, map_mark_mark]
      · by_cases hitem : p.kind = .banner ∨ p.kind = .clock
        · simp [hboard, hitem, Item.mark]
        · simp [hboard, hitem]
    · rw [if_neg hfit]

/-- Every item of a screen changed and every serial forgotten. -/
theorem itemsForgotten_eq {q : Comp} {sc : Fin 32} {x : Screen} (hx : q.screens.get sc = x) (f : Item → Item) :
    (q.onItemsOf sc f).forgetAll sc = { q with
      panes := q.panes.mapFin fun i p => if paneScreen i = sc then p.mapItems f else p
      screens := q.screens.set sc { x with alert := f x.alert, serials := Table.replicate 8 none } } := by
  subst hx
  simp only [Comp.onItemsOf, Comp.onPanesOf, Comp.forgetAll, Comp.onScreen, table_modify_eq_set, Table.get_set_self]
  congr 1
  refine Table.ext_get fun k => ?_
  by_cases h : sc = k
  · subst h; rw [Table.get_set_self, Table.get_set_self]
  · rw [Table.get_set_of_ne _ h, Table.get_set_of_ne _ h, Table.get_set_of_ne _ h]

/-! ### The panes of a screen judged -/

theorem filter_screen (sc : Fin 32) (f : Fin 128 → Bool) :
    ((allFin 128).filter fun i => decide (paneScreen i = sc) && f i).length = (allFin 4).countP fun p => f (paneIx sc p) := by
  have hflat : ((allFin 128).filter fun i => decide (paneScreen i = sc) && f i) =
      (allFin 32).flatMap fun j => if j = sc then ((allFin 4).map (paneIx sc)).filter f else [] := by
    rw [allFin_panes, List.filter_flatMap]
    refine List.flatMap_congr fun j _ => ?_
    by_cases hj : j = sc
    · subst hj
      rw [if_pos rfl]
      refine List.filter_congr fun i hi => ?_
      obtain ⟨p, _, rfl⟩ := List.mem_map.1 hi
      rw [paneScreen_paneIx, decide_eq_true rfl, Bool.true_and]
    · rw [if_neg hj, List.filter_eq_nil_iff]
      intro i hi
      obtain ⟨p, _, rfl⟩ := List.mem_map.1 hi
      simp [paneScreen_paneIx, hj]
  rw [hflat, flatMap_single (xs := allFin 32) (List.nodup_finRange 32) (List.mem_finRange sc), List.filter_map, List.length_map,
    ← List.countP_eq_length_filter]
  rfl

/-- A screen's panes judged: its own panes and serials alone change, with PANE_UNFIT for each that becomes UNFIT (R101). -/
theorem judgeScreen_eq (s : State) (info : Option ModuleInfo) (sc : Fin 32) (q : Comp) : ∃ screens : Table 32 Screen,
    q.judgeScreen s info sc = ({ q with
        panes := q.panes.mapFin fun i p => if paneScreen i = sc then p.judged (s.fitnessBy info i p) else p
        screens := screens },
      (List.replicate ((allFin 4).countP fun p => (q.panes.get (paneIx sc p)).unfits
        (s.fitnessBy info (paneIx sc p) (q.panes.get (paneIx sc p)))) EventKind.paneUnfit).map .event) ∧
    (∀ sc', sc' ≠ sc → screens.get sc' = q.screens.get sc') ∧
    (screens.get sc).underAlert = (q.screens.get sc).underAlert ∧ (screens.get sc).alert = (q.screens.get sc).alert ∧
    (info = none → screens = q.screens) := by
  have hjudge := judgeSome_eq (s.fitnessBy info) (fun i _ => decide (paneScreen i = sc)) q
  rw [map_const_event, filter_screen sc fun i => (q.panes.get i).unfits (s.fitnessBy info i (q.panes.get i))] at hjudge
  have hpanes : (q.panes.mapFin fun i p => if decide (paneScreen i = sc) = true then p.judged (s.fitnessBy info i p) else p) =
      q.panes.mapFin fun i p => if paneScreen i = sc then p.judged (s.fitnessBy info i p) else p := by
    refine Table.ext_get fun i => ?_
    simp only [Table.get_mapFin, decide_eq_true_eq]
  rw [hpanes] at hjudge
  refine ⟨_, hjudge, fun sc' hne => ?_, ?_, ?_, fun hnone => ?_⟩
  · rw [Table.get_mapFin]
    have hnot : (fun ch => (allFin 128).any fun i => decide (paneScreen i = sc) &&
        (q.panes.get i).refits (s.fitnessBy info i (q.panes.get i)) &&
          decide (sc' = paneScreen i ∧ ch = (q.panes.get i).channel)) = fun _ => false := by
      funext ch
      refine List.any_eq_false.2 fun i _ => ?_
      simp only [Bool.and_eq_true, decide_eq_true_eq, not_and]
      rintro ⟨rfl, -⟩ rfl
      exact absurd rfl hne
    rw [hnot, Screen.forget_none]
  · rw [Table.get_mapFin]
    rfl
  · rw [Table.get_mapFin]
    rfl
  · refine Table.ext_get fun k => ?_
    rw [Table.get_mapFin]
    have hnot : (fun ch => (allFin 128).any fun i => decide (paneScreen i = sc) &&
        (q.panes.get i).refits (s.fitnessBy info i (q.panes.get i)) &&
          decide (k = paneScreen i ∧ ch = (q.panes.get i).channel)) = fun _ => false := by
      funext ch
      refine List.any_eq_false.2 fun i _ => ?_
      simp [hnone, Pane.refits]
    rw [hnot, Screen.forget_none]

/-! ### Module reports (R115) -/

/-- A report of a slot LOST or ABSENT, or READY, as one change of the screen's panes and of the screen. -/
def Comp.reported (sc : Fin 32) (f : Item → Item) (g : Fin 128 → Pane → Pane) (q : Comp) : Comp :=
  { q with
    panes := q.panes.mapFin fun i p => if paneScreen i = sc then (g i p).mapItems f else p
    screens := q.screens.set sc
      { q.screens.get sc with alert := f (q.screens.get sc).alert, serials := Table.replicate 8 none } }

theorem report_of_lost {s : State} {r : ModuleReport} {q : Comp} (h : r.state = .lost) :
    q.report s r = (q.reported (ringScreen r.ring r.position) Item.afresh fun _ p => p, []) := by
  simp only [Comp.report, h]
  rw [itemsForgotten_eq rfl]
  rfl

theorem report_of_ready {s : State} {r : ModuleReport} {q : Comp} {sc : Fin 32} (h : r.state = .ready)
    (hsc : sc = ringScreen r.ring r.position) :
    q.report s r = (q.reported sc Item.mark fun i p => { p with fitness := s.fitnessBy r.info i p },
      (List.replicate ((allFin 4).countP fun p => (q.panes.get (paneIx sc p)).unfits
        (s.fitnessBy r.info (paneIx sc p) (q.panes.get (paneIx sc p)))) EventKind.paneUnfit).map .event) := by
  subst hsc
  obtain ⟨screens, hjudge, hothers, hunder, halert, -⟩ := judgeScreen_eq s r.info (ringScreen r.ring r.position) q
  simp only [Comp.report, h, andThen, hjudge, List.append_nil]
  rw [itemsForgotten_eq rfl]
  refine Prod.ext ?_ rfl
  simp only [Comp.reported]
  congr 1
  · refine Table.ext_get fun i => ?_
    simp only [Table.get_mapFin]
    by_cases hi : paneScreen i = ringScreen r.ring r.position
    · rw [if_pos hi, if_pos hi, if_pos hi, judged_marked]
    · rw [if_neg hi, if_neg hi, if_neg hi]
  · refine Table.ext_get fun k => ?_
    by_cases hk : ringScreen r.ring r.position = k
    · subst hk
      rw [Table.get_set_self, Table.get_set_self, halert]
      congr 1
    · rw [Table.get_set_of_ne _ hk, Table.get_set_of_ne _ hk, hothers k (Ne.symm hk)]

theorem report_of_absent {s : State} {r : ModuleReport} {q : Comp} (h : r.state = .absent) :
    q.report s r = (q.reported (ringScreen r.ring r.position) Item.afresh fun _ p => { p with fitness := .unjudged }, []) := by
  obtain ⟨screens, hjudge, -, -, -, hkeep⟩ := judgeScreen_eq s none (ringScreen r.ring r.position)
    ((q.onItemsOf (ringScreen r.ring r.position) Item.afresh).forgetAll (ringScreen r.ring r.position))
  simp only [Comp.report, h, hjudge, hkeep rfl]
  refine Prod.ext ?_ ?_
  · rw [itemsForgotten_eq rfl]
    simp only [Comp.reported]
    congr 1
    refine Table.ext_get fun i => ?_
    simp only [Table.get_mapFin]
    by_cases hi : paneScreen i = ringScreen r.ring r.position
    · rw [if_pos hi, if_pos hi, if_pos hi, judged_of_not_fit (by simp), mapItems_eq, mapItems_eq]
      rfl
    · rw [if_neg hi, if_neg hi, if_neg hi]
  · have hcount : ((allFin 4).countP fun p => Pane.unfits (s.fitnessBy none (paneIx (ringScreen r.ring r.position) p)
        (((q.onItemsOf (ringScreen r.ring r.position) Item.afresh).forgetAll (ringScreen r.ring r.position)).panes.get
          (paneIx (ringScreen r.ring r.position) p)))
        (((q.onItemsOf (ringScreen r.ring r.position) Item.afresh).forgetAll (ringScreen r.ring r.position)).panes.get
          (paneIx (ringScreen r.ring r.position) p))) = 0 :=
      List.countP_eq_zero.2 fun p _ => by simp [Pane.unfits]
    rw [hcount]
    rfl

/-- A report's change of a pane, item by item. -/
theorem reported_pane {q : Comp} {sc : Fin 32} {f : Item → Item} {g : Fin 128 → Pane → Pane} {p : Fin 4} {x : Pane} {fitness : Fitness}
    (hx : q.panes.get (paneIx sc p) = x) (hg : g (paneIx sc p) x = { x with fitness := fitness }) :
    (q.reported sc f g).panes.get (paneIx sc p) = { x with
      fitness := fitness, rowItems := if x.kind = .board then x.rowItems.map f else x.rowItems
      item := if x.kind = .banner ∨ x.kind = .clock then f x.item else x.item } := by
  refine (Table.get_mapFin _ _ _).trans ?_
  rw [hx, paneScreen_paneIx, if_pos rfl, hg, mapItems_eq]

/-- What a report of a slot's state other than LIVE changes, for the report's own choice of item change f and fitness. -/
theorem report_changes {s : State} {r : ModuleReport} {rest : List ModuleReport} {sc : Fin 32} {f : Item → Item}
    {g : Fin 128 → Pane → Pane} {n : Nat} {fitness : Fin 4 → Pane → Fitness} (hmsg : s.mail.moduleReports = r :: rest)
    (hf : ∀ y, f y = { dirty := true, flight := decide (r.state = .ready) && y.flight })
    (hg : ∀ p x, g (paneIx sc p) x = { x with fitness := fitness p x })
    (hreport : s.comp.report s r = (s.comp.reported sc f g, (List.replicate n EventKind.paneUnfit).map .event)) :
    ∃ t : State, exec .moduleReport s = .next t ∧ Frame [.comp, .mail] s t ∧ t.comp.minute = s.comp.minute ∧
      t.mail = { s.mail with moduleReports := rest, events := s.mail.events ++ List.replicate n .paneUnfit } ∧
      (∀ sc', sc' ≠ sc → t.comp.screens.get sc' = s.comp.screens.get sc' ∧
        ∀ p, t.comp.panes.get (paneIx sc' p) = s.comp.panes.get (paneIx sc' p)) ∧
      (t.comp.screens.get sc).serials = Table.replicate 8 none ∧
      (t.comp.screens.get sc).underAlert = (s.comp.screens.get sc).underAlert ∧
      (t.comp.screens.get sc).alert =
        { dirty := true, flight := decide (r.state = .ready) && (s.comp.screens.get sc).alert.flight } ∧
      ∀ p x x', s.comp.panes.get (paneIx sc p) = x → t.comp.panes.get (paneIx sc p) = x' →
        x' = { x with rowItems := x'.rowItems, item := x'.item, fitness := x'.fitness } ∧ x'.fitness = fitness p x ∧
        (x.kind = .board → ∀ k, x'.rowItems.get k =
          { dirty := true, flight := decide (r.state = .ready) && (x.rowItems.get k).flight }) ∧
        (x.kind = .banner ∨ x.kind = .clock → x'.item =
          { dirty := true, flight := decide (r.state = .ready) && x.item.flight }) := by
  have hrun : moduleReport s = (s.withMail { s.mail with moduleReports := rest }).compDo (s.comp.report s r) := by
    simp only [moduleReport, hmsg]
  rw [hreport, compDo_eq, emit_raised] at hrun
  refine ⟨_, rfl, (moduleReport_frame s).commit, ?_⟩
  simp only [commit_mail, commit_comp, hrun]
  have hscreen : (s.comp.reported sc f g).screens.get sc =
      { s.comp.screens.get sc with alert := f (s.comp.screens.get sc).alert, serials := Table.replicate 8 none } :=
    Table.get_set_self _ _ _
  have hserials := congrArg Screen.serials hscreen
  have hunder := congrArg Screen.underAlert hscreen
  have halert := (congrArg Screen.alert hscreen).trans (hf _)
  refine ⟨rfl, rfl, fun sc' hne => ⟨Table.get_set_of_ne _ (Ne.symm hne) _, fun p => ?_⟩, hserials, hunder, halert,
    fun p x x' hx hx' => ?_⟩
  · refine (Table.get_mapFin _ _ _).trans ?_
    rw [paneScreen_paneIx, if_neg hne]
  · have hpane : x' = _ := hx'.symm.trans (reported_pane hx (hg p x))
    subst hpane
    refine ⟨rfl, rfl, fun hboard k => ?_, fun hitem => ?_⟩
    · show (if x.kind = .board then x.rowItems.map f else x.rowItems).get k = _
      rw [if_pos hboard, Table.get_map, hf]
    · show (if x.kind = .banner ∨ x.kind = .clock then f x.item else x.item) = _
      rw [if_pos hitem, hf]

/-! ### Settlements (R110, R112) -/

theorem foldl_through {σ β κ : Type} {f : σ → κ → σ} {g : σ → β} {h : β → κ → β} (hf : ∀ q k, g (f q k) = h (g q) k) (ks : List κ) (q : σ) :
    g (ks.foldl f q) = ks.foldl h (g q) := by
  induction ks generalizing q with
  | nil => rfl
  | cons k ks ih => rw [List.foldl_cons, List.foldl_cons, ih, hf]

/-- A fold that acts at one member of its list alone. -/
theorem foldl_one {β κ : Type} [DecidableEq κ] {ks : List κ} (hks : ks.Nodup) {k0 : κ} (hk : k0 ∈ ks) (F : β → β) (b : β) :
    ks.foldl (fun b k => if k = k0 then F b else b) b = F b := by
  have hrest (ks : List κ) (hk : k0 ∉ ks) (b : β) : ks.foldl (fun b k => if k = k0 then F b else b) b = b := by
    induction ks generalizing b with
    | nil => rfl
    | cons k ks ih =>
      rw [List.mem_cons, not_or] at hk
      rw [List.foldl_cons, if_neg (Ne.symm hk.1), ih hk.2]
  induction ks generalizing b with
  | nil => cases hk
  | cons k ks ih =>
    obtain ⟨hnot, hks'⟩ := List.nodup_cons.1 hks
    rw [List.foldl_cons]
    by_cases h : k = k0
    · subst h
      rw [if_pos rfl, hrest ks hnot]
    · rw [if_neg h, ih hks' ((List.mem_cons.1 hk).resolve_left (Ne.symm h))]

theorem foldl_id {β κ : Type} {ks : List κ} (b : β) : ks.foldl (fun b _ => b) b = b := by
  induction ks with
  | nil => rfl
  | cons k ks ih => exact ih

theorem ringScreen_eq_iff (ring : Fin 4) (k : Fin 8) (sc : Fin 32) :
    ringScreen ring k = sc ↔ screenRing sc = ring ∧ k = screenPos sc := by
  simp only [Fin.ext_iff, ringScreen, screenRing, screenPos]
  omega

theorem paneIx_eq_iff (sc sc' : Fin 32) (p p' : Fin 4) : paneIx sc p = paneIx sc' p' ↔ sc = sc' ∧ p = p' := by
  simp only [Fin.ext_iff, paneIx]
  omega

/-- A settled car's part at a pane of its destination (R110). -/
def Pane.settleBy (p : Fin 4) (k : Fin 8) (x : Pane) (c : Car × BitVec 8) : Pane :=
  if c.1.pane = p ∧ c.1.layout = x.layout then
    if c.1.kind = .row then { x with rowItems := x.rowItems.modify c.1.row (Item.settle (c.2.getLsbD k.val)) }
    else if c.1.kind = .banner ∨ c.1.kind = .clock then { x with item := x.item.settle (c.2.getLsbD k.val) }
    else x
  else x

/-- A settled car's part at a screen of its destination, whose slot is not ABSENT where `present` says so (R110, R112). -/
def Screen.settleBy (present : Bool) (k : Fin 8) (x : Screen) (c : Car × BitVec 8) : Screen :=
  if c.1.kind = .alert then { x with alert := x.alert.settle (c.2.getLsbD k.val) }
  else if c.1.kind = .frame ∧ c.2.getLsbD k.val = true ∧ present = true then
    { x with serials := x.serials.set c.1.channel (some (BitVec.ofNat 16 (le16At c.1.payload 2))) }
  else x

theorem onPane_other {q : Comp} {i j : Fin 128} (h : i ≠ j) (f : Pane → Pane) : (q.onPane i f).panes.get j = q.panes.get j :=
  Table.get_modify_of_ne _ h _

theorem onPane_self (q : Comp) (i : Fin 128) (f : Pane → Pane) : (q.onPane i f).panes.get i = f (q.panes.get i) :=
  Table.get_modify_self _ _ _

/-- One module's part of a settled car, at a pane of its own screen and at any other. -/
theorem settleAt_pane (s : State) (ring : Fin 4) (c : Car × BitVec 8) (k : Fin 8) (q : Comp) (sc : Fin 32) (p : Fin 4) :
    (q.settleAt s ring c.1 c.2 k).panes.get (paneIx sc p) =
      if ringScreen ring k = sc then (q.panes.get (paneIx sc p)).settleBy p k c else q.panes.get (paneIx sc p) := by
  have hpane (f : Pane → Pane) : (if (q.panes.get (paneIx (ringScreen ring k) c.1.pane)).layout = c.1.layout then
      q.onPane (paneIx (ringScreen ring k) c.1.pane) f else q).panes.get (paneIx sc p) =
      if ringScreen ring k = sc ∧ c.1.pane = p ∧ c.1.layout = (q.panes.get (paneIx sc p)).layout then f (q.panes.get (paneIx sc p))
      else q.panes.get (paneIx sc p) := by
    by_cases hsame : paneIx (ringScreen ring k) c.1.pane = paneIx sc p
    · obtain ⟨hsc, hp⟩ := (paneIx_eq_iff _ _ _ _).1 hsame
      rw [hsame]
      by_cases hlayout : (q.panes.get (paneIx sc p)).layout = c.1.layout
      · rw [if_pos hlayout, if_pos ⟨hsc, hp, hlayout.symm⟩, onPane_self]
      · rw [if_neg hlayout, if_neg fun h => hlayout h.2.2.symm]
    · have hnot : ¬ (ringScreen ring k = sc ∧ c.1.pane = p ∧ c.1.layout = (q.panes.get (paneIx sc p)).layout) :=
        fun h => hsame (by rw [h.1, h.2.1])
      rw [if_neg hnot]
      split
      · exact onPane_other hsame f
      · rfl
  unfold Comp.settleAt Pane.settleBy
  dsimp only
  cases c.1.kind with
  | row =>
    rw [hpane]
    by_cases hsc : ringScreen ring k = sc <;> simp [hsc]
  | banner | clock =>
    rw [hpane]
    by_cases hsc : ringScreen ring k = sc <;> simp [hsc]
  | frame =>
    simp only [reduceCtorEq, if_false, or_self, ite_self]
    split <;> rfl
  | alert =>
    simp only [reduceCtorEq, if_false, or_self, ite_self]
    rfl
  | query | set | probe | enum => simp only [reduceCtorEq, if_false, or_self, ite_self]

theorem settleAt_screen (s : State) (ring : Fin 4) (c : Car × BitVec 8) (k : Fin 8) (q : Comp) (sc : Fin 32) :
    (q.settleAt s ring c.1 c.2 k).screens.get sc =
      if ringScreen ring k = sc then (q.screens.get sc).settleBy (decide ((s.slotOf sc).state ≠ .absent)) k c
      else q.screens.get sc := by
  have hscreen (f : Screen → Screen) : (q.onScreen (ringScreen ring k) f).screens.get sc =
      if ringScreen ring k = sc then f (q.screens.get sc) else q.screens.get sc := by
    by_cases hsc : ringScreen ring k = sc
    · subst hsc
      rw [if_pos rfl]
      exact Table.get_modify_self _ _ _
    · rw [if_neg hsc]
      exact Table.get_modify_of_ne _ hsc _
  unfold Comp.settleAt Screen.settleBy
  dsimp only
  cases c.1.kind with
  | alert =>
    rw [hscreen]
    rfl
  | frame =>
    simp only [reduceCtorEq, if_false, true_and, decide_eq_true_eq]
    by_cases hsc : ringScreen ring k = sc
    · subst hsc
      rw [if_pos rfl]
      by_cases htake : c.2.getLsbD k.val = true ∧ (s.slotOf (ringScreen ring k)).state ≠ .absent
      · rw [if_pos htake, if_pos htake, hscreen, if_pos rfl]
      · rw [if_neg htake, if_neg htake]
    · rw [if_neg hsc]
      split
      · rw [hscreen, if_neg hsc]
      · rfl
  | row | banner | clock =>
    simp only [reduceCtorEq, if_false, false_and, ite_self]
    split <;> rfl
  | query | set | probe | enum =>
    simp only [reduceCtorEq, if_false, false_and, ite_self]

theorem ite_minute {p : Prop} [Decidable p] {q q' : Comp} (h : q'.minute = q.minute) : (if p then q' else q).minute = q.minute := by
  split
  · exact h
  · rfl

theorem settleAt_minute (s : State) (ring : Fin 4) (c : Car) (accept : BitVec 8) (k : Fin 8) (q : Comp) :
    (q.settleAt s ring c accept k).minute = q.minute := by
  unfold Comp.settleAt
  dsimp only
  cases c.kind with
  | row | banner | clock | frame => exact ite_minute rfl
  | alert | query | set | probe | enum => rfl

/-- The cars of a settlement that name the module of a screen. -/
def ownCars (ring : Fin 4) (sc : Fin 32) (cars : List (Car × BitVec 8)) : List (Car × BitVec 8) :=
  if screenRing sc = ring then cars.filter fun c => c.1.dest.getLsbD (screenPos sc).val else []

/-- Something of a screen that each module's part changes where the module is the screen's, through a whole settlement. -/
theorem settle_through {β : Type} {s : State} {ring : Fin 4} {sc : Fin 32} {g : Comp → β} {h : β → Car × BitVec 8 → β}
    (hg : ∀ (c : Car × BitVec 8) (k : Fin 8) (q : Comp), g (q.settleAt s ring c.1 c.2 k) =
      if ringScreen ring k = sc then h (g q) c else g q) (cars : List (Car × BitVec 8)) (q : Comp) :
    g (q.settle s { ring := ring, cars := cars }) = (ownCars ring sc cars).foldl h (g q) := by
  have hcar (c : Car × BitVec 8) (q : Comp) : g (q.settleCar s ring c) =
      if screenRing sc = ring ∧ c.1.dest.getLsbD (screenPos sc).val = true then h (g q) c else g q := by
    have hfold := foldl_through (g := g) (f := fun q (k : Fin 8) => if c.1.dest.getLsbD k.val then q.settleAt s ring c.1 c.2 k else q)
      (h := fun b k => if k = screenPos sc then
        (if screenRing sc = ring ∧ c.1.dest.getLsbD (screenPos sc).val = true then h b c else b) else b) (fun q k => ?_) (allFin 8) q
    · exact hfold.trans (foldl_one (List.nodup_finRange 8) (List.mem_finRange _) _ _)
    · by_cases hk : k = screenPos sc
      · subst hk
        rw [if_pos rfl]
        by_cases hdest : c.1.dest.getLsbD (screenPos sc).val = true
        · rw [if_pos hdest, hg]
          exact if_congr (by rw [ringScreen_eq_iff]; simp [hdest]) rfl rfl
        · rw [if_neg hdest, if_neg fun hall => hdest hall.2]
      · rw [if_neg hk]
        split
        · rw [hg, if_neg fun hsc => hk ((ringScreen_eq_iff ring k sc).1 hsc).2]
        · rfl
  have hall := foldl_through (g := g) (f := fun q c => Comp.settleCar s ring c q) (h := fun b c =>
    if screenRing sc = ring ∧ c.1.dest.getLsbD (screenPos sc).val = true then h b c else b) (fun q c => hcar c q) cars q
  refine (show g (q.settle s { ring := ring, cars := cars }) = _ from hall).trans ?_
  unfold ownCars
  by_cases hring : screenRing sc = ring
  · rw [if_pos hring, List.foldl_filter]
    simp only [hring, true_and]
  · rw [if_neg hring]
    simp only [hring, false_and, if_false]
    exact foldl_id _

theorem settled_cons (c : Car × BitVec 8) (own : List (Car × BitVec 8)) (k : Fin 8) (x : Item) :
    x.settled (c :: own) k = (x.settle (c.2.getLsbD k.val)).settled own k := by
  cases own with
  | nil => simp [Item.settled, Item.settle]
  | cons d own => simp [Item.settled, Item.settle, Bool.or_assoc]

/-- A train's own cars settle a pane's items, each by the cars that carried it (R110). -/
theorem settleBy_pane (p : Fin 4) (k : Fin 8) (own : List (Car × BitVec 8)) (x : Pane) :
    own.foldl (Pane.settleBy p k) x = { x with
      rowItems := (own.foldl (Pane.settleBy p k) x).rowItems
      item := x.item.settled (own.filter fun c =>
        decide ((c.1.kind = .banner ∨ c.1.kind = .clock) ∧ c.1.pane = p ∧ c.1.layout = x.layout)) k } ∧
    ∀ row, (own.foldl (Pane.settleBy p k) x).rowItems.get row = (x.rowItems.get row).settled (own.filter fun c =>
      decide (c.1.kind = .row ∧ c.1.pane = p ∧ c.1.row = row ∧ c.1.layout = x.layout)) k := by
  induction own generalizing x with
  | nil => exact ⟨rfl, fun _ => rfl⟩
  | cons c own ih =>
    rw [List.foldl_cons]
    by_cases hplace : c.1.pane = p ∧ c.1.layout = x.layout
    · by_cases hrow : c.1.kind = .row
      · have hsettle : x.settleBy p k c = { x with rowItems := x.rowItems.modify c.1.row (Item.settle (c.2.getLsbD k.val)) } := by
          rw [Pane.settleBy, if_pos hplace, if_pos hrow]
        obtain ⟨hpane, hrows⟩ := ih (x.settleBy p k c)
        rw [hsettle] at hpane hrows ⊢
        refine ⟨?_, fun row => (hrows row).trans ?_⟩
        · rw [List.filter_cons_of_neg (by simp [hrow])]
          exact hpane
        · by_cases hr : c.1.row = row
          · subst hr
            rw [List.filter_cons_of_pos (by simp [hrow, hplace]), settled_cons]
            exact congrArg (fun y : Item => y.settled _ k) (Table.get_modify_self _ _ _)
          · rw [List.filter_cons_of_neg (by simp [hr])]
            exact congrArg (fun y : Item => y.settled _ k) (Table.get_modify_of_ne _ hr _)
      · by_cases hitem : c.1.kind = .banner ∨ c.1.kind = .clock
        · have hsettle : x.settleBy p k c = { x with item := x.item.settle (c.2.getLsbD k.val) } := by
            rw [Pane.settleBy, if_pos hplace, if_neg hrow, if_pos hitem]
          obtain ⟨hpane, hrows⟩ := ih (x.settleBy p k c)
          rw [hsettle] at hpane hrows ⊢
          refine ⟨?_, fun row => (hrows row).trans ?_⟩
          · rw [List.filter_cons_of_pos (by simp [hitem, hplace]), settled_cons]
            exact hpane
          · rw [List.filter_cons_of_neg (by simp [hrow])]
        · have hsettle : x.settleBy p k c = x := by rw [Pane.settleBy, if_pos hplace, if_neg hrow, if_neg hitem]
          obtain ⟨hpane, hrows⟩ := ih x
          rw [hsettle]
          refine ⟨?_, fun row => (hrows row).trans ?_⟩
          · rw [List.filter_cons_of_neg (by rw [decide_eq_true_eq]; exact fun h => hitem h.1)]
            exact hpane
          · rw [List.filter_cons_of_neg (by simp [hrow])]
    · have hsettle : x.settleBy p k c = x := by rw [Pane.settleBy, if_neg hplace]
      obtain ⟨hpane, hrows⟩ := ih x
      rw [hsettle]
      refine ⟨?_, fun row => (hrows row).trans ?_⟩
      · rw [List.filter_cons_of_neg (by rw [decide_eq_true_eq]; exact fun h => hplace h.2)]
        exact hpane
      · rw [List.filter_cons_of_neg (by rw [decide_eq_true_eq]; exact fun h => hplace ⟨h.2.1, h.2.2.2⟩)]

/-- A train's own cars settle a screen's alert item and leave the serials that its module accepted (R110, R112). -/
theorem settleBy_screen (present : Bool) (k : Fin 8) (own : List (Car × BitVec 8)) (x : Screen) :
    (own.foldl (Screen.settleBy present k) x).underAlert = x.underAlert ∧
    (own.foldl (Screen.settleBy present k) x).alert = x.alert.settled (own.filter fun c => decide (c.1.kind = .alert)) k ∧
    ∀ ch, (own.foldl (Screen.settleBy present k) x).serials.get ch =
      ((own.filter fun c => decide (c.1.kind = .frame ∧ c.1.channel = ch ∧ present = true) && c.2.getLsbD k.val).getLast?.map fun c =>
        some (BitVec.ofNat 16 (le16At c.1.payload 2))).getD (x.serials.get ch) := by
  induction own generalizing x with
  | nil => exact ⟨rfl, rfl, fun _ => rfl⟩
  | cons c own ih =>
    rw [List.foldl_cons]
    by_cases halert : c.1.kind = .alert
    · have hsettle : x.settleBy present k c = { x with alert := x.alert.settle (c.2.getLsbD k.val) } := if_pos halert
      obtain ⟨hunder, hitem, hserials⟩ := ih (x.settleBy present k c)
      rw [hsettle] at hunder hitem hserials ⊢
      refine ⟨hunder, ?_, fun ch => ?_⟩
      · rw [List.filter_cons_of_pos (by simp [halert]), settled_cons]
        exact hitem
      · rw [List.filter_cons_of_neg (by simp [halert])]
        exact hserials ch
    · by_cases htake : c.1.kind = .frame ∧ c.2.getLsbD k.val = true ∧ present = true
      · have hsettle : x.settleBy present k c =
            { x with serials := x.serials.set c.1.channel (some (BitVec.ofNat 16 (le16At c.1.payload 2))) } :=
          (if_neg halert).trans (if_pos htake)
        obtain ⟨hunder, hitem, hserials⟩ := ih (x.settleBy present k c)
        rw [hsettle] at hunder hitem hserials ⊢
        refine ⟨hunder, ?_, fun ch => (hserials ch).trans ?_⟩
        · rw [List.filter_cons_of_neg (by simp [halert])]
          exact hitem
        · by_cases hch : c.1.channel = ch
          · subst hch
            have hget : (x.serials.set c.1.channel (some (BitVec.ofNat 16 (le16At c.1.payload 2)))).get c.1.channel =
              some (BitVec.ofNat 16 (le16At c.1.payload 2)) := Table.get_set_self _ _ _
            rw [List.filter_cons_of_pos (by simp [htake]), List.getLast?_cons]
            dsimp only
            rw [hget]
            cases (own.filter fun d => decide (d.1.kind = .frame ∧ d.1.channel = c.1.channel ∧ present = true) &&
              d.2.getLsbD k.val).getLast? <;> rfl
          · rw [List.filter_cons_of_neg (by simp [hch])]
            dsimp only
            rw [Table.get_set_of_ne _ hch]
      · have hsettle : x.settleBy present k c = x := (if_neg halert).trans (if_neg htake)
        obtain ⟨hunder, hitem, hserials⟩ := ih x
        rw [hsettle]
        refine ⟨hunder, ?_, fun ch => (hserials ch).trans ?_⟩
        · rw [List.filter_cons_of_neg (by simp [halert])]
          exact hitem
        · rw [List.filter_cons_of_neg]
          rw [Bool.and_eq_true, decide_eq_true_eq]
          exact fun h => htake ⟨h.1.1, h.2, h.1.2.2⟩

/-- Settles O51. -/
theorem reportsAndReturnsSettleTheItems : Obligations.ReportsAndReturnsSettleTheItems := by
  refine ⟨fun s r rest sc hmsg hsc fit hfit => ⟨fun hlive => ?_, fun hnot => ?_⟩, fun s ring cars rest hmsg => ?_⟩
  · have hrun : moduleReport s = (s.withMail { s.mail with moduleReports := rest }).compDo (s.comp.report s r) := by
      simp only [moduleReport, hmsg]
    have hreport : s.comp.report s r = (s.comp, []) := by simp only [Comp.report, hlive]
    rw [hreport] at hrun
    exact congrArg (goOn s) hrun
  · cases hstate : r.state with
    | live => exact absurd hstate hnot
    | lost =>
      have hchanges := report_changes (s := s) (sc := sc) (f := Item.afresh) (n := 0) (fitness := fun _ x => x.fitness) hmsg
        (fun y => by simp [hstate, Item.afresh]) (fun _ _ => rfl) (by rw [hsc]; exact report_of_lost hstate)
      obtain ⟨t, hexec, hframe, hminute, hmail, hothers, hserials, hunder, halert, hpanes⟩ := hchanges
      refine ⟨t, hexec, hframe, hminute, ?_, hothers, hserials, hunder, hstate ▸ halert, fun p x x' hx hx' => ?_⟩
      · rw [hmail, List.countP_eq_zero.2 fun p _ => by simp]
      · obtain ⟨hkeep, hfitness, hrows, hitem⟩ := hpanes p x x' hx hx'
        exact ⟨hkeep, fun _ => hfitness, fun h => absurd rfl h, hstate ▸ hrows, hstate ▸ hitem⟩
    | absent =>
      have hunjudged (p : Fin 4) (x : Pane) : fit p x = .unjudged := by rw [hfit, hstate]
      have hchanges := report_changes (s := s) (sc := sc) (f := Item.afresh) (n := 0) (fitness := fun _ _ => .unjudged) hmsg
        (fun y => by simp [hstate, Item.afresh]) (fun _ _ => rfl) (by rw [hsc]; exact report_of_absent hstate)
      obtain ⟨t, hexec, hframe, hminute, hmail, hothers, hserials, hunder, halert, hpanes⟩ := hchanges
      refine ⟨t, hexec, hframe, hminute, ?_, hothers, hserials, hunder, hstate ▸ halert, fun p x x' hx hx' => ?_⟩
      · rw [hmail, List.countP_eq_zero.2 fun p _ => by simp [hunjudged]]
      · obtain ⟨hkeep, hfitness, hrows, hitem⟩ := hpanes p x x' hx hx'
        exact ⟨hkeep, fun h => by simp at h, fun _ => hfitness.trans (hunjudged p x).symm, hstate ▸ hrows, hstate ▸ hitem⟩
    | ready =>
      have hfitBy (p : Fin 4) (x : Pane) : s.fitnessBy r.info (paneIx sc p) x = fit p x := by
        rw [hfit, hstate]
        cases r.info with
        | none => rfl
        | some m => exact fitnessBy_some s m sc p x
      have hchanges := report_changes (s := s) (sc := sc) (f := Item.mark) (fitness := fit) hmsg
        (fun y => by simp [hstate, Item.mark]) (fun p x => by rw [← hfitBy]) (report_of_ready hstate hsc)
      obtain ⟨t, hexec, hframe, hminute, hmail, hothers, hserials, hunder, halert, hpanes⟩ := hchanges
      refine ⟨t, hexec, hframe, hminute, ?_, hothers, hserials, hunder, hstate ▸ halert, fun p x x' hx hx' => ?_⟩
      · have hcount : ((allFin 4).countP fun p => (s.comp.panes.get (paneIx sc p)).unfits
              (s.fitnessBy r.info (paneIx sc p) (s.comp.panes.get (paneIx sc p)))) = (allFin 4).countP fun p =>
              decide (ModState.ready ≠ .lost ∧ (s.comp.panes.get (paneIx sc p)).fitness ≠ .unfit ∧
                fit p (s.comp.panes.get (paneIx sc p)) = .unfit) :=
          List.countP_congr fun p _ => by
            rw [Pane.unfits, hfitBy, decide_eq_true_eq, decide_eq_true_eq]
            simp
        rw [hmail, hcount]
      · obtain ⟨hkeep, hfitness, hrows, hitem⟩ := hpanes p x x' hx hx'
        exact ⟨hkeep, fun h => by simp at h, fun _ => hfitness, hstate ▸ hrows, hstate ▸ hitem⟩
  · have hrun : acceptanceSettlement s = (s.withMail { s.mail with settlements := rest }).withComp
        (s.comp.settle s { ring := ring, cars := cars }) := by simp only [acceptanceSettlement, hmsg]
    refine ⟨_, congrArg (goOn s) hrun, ?_, fun sc k own hk hown => ?_⟩
    · have hminute (c : Car × BitVec 8) (k : Fin 8) (q : Comp) : (q.settleAt s ring c.1 c.2 k).minute = q.minute :=
        settleAt_minute ..
      exact (settle_through (sc := 0) (g := Comp.minute) (h := fun b _ => b)
        (fun c k q => (hminute c k q).trans (ite_self _).symm) cars s.comp).trans (foldl_id _)
    · have hpos : k = screenPos sc := Fin.ext hk
      subst hpos
      have hcars : own = ownCars ring sc cars := hown
      subst hcars
      refine ⟨fun p x y hx hy => ?_, fun x y hx hy => ?_⟩
      · have hpane := settle_through (g := fun q => q.panes.get (paneIx sc p)) (h := Pane.settleBy p (screenPos sc)) (s := s)
          (ring := ring) (sc := sc) (fun c k q => (settleAt_pane s ring c k q sc p).trans ?_) cars s.comp
        · have hy' : y = (ownCars ring sc cars).foldl (Pane.settleBy p (screenPos sc)) x := by rw [← hy, ← hx]; exact hpane
          rw [hy']
          exact settleBy_pane p (screenPos sc) (ownCars ring sc cars) x
        · by_cases hsc : ringScreen ring k = sc
          · rw [if_pos hsc, if_pos hsc, ((ringScreen_eq_iff ring k sc).1 hsc).2]
          · rw [if_neg hsc, if_neg hsc]
      · have hscreen := settle_through (g := fun q => q.screens.get sc)
          (h := Screen.settleBy (decide ((s.slotOf sc).state ≠ .absent)) (screenPos sc)) (s := s)
          (ring := ring) (sc := sc) (fun c k q => (settleAt_screen s ring c k q sc).trans ?_) cars s.comp
        · have hy' : y = (ownCars ring sc cars).foldl (Screen.settleBy (decide ((s.slotOf sc).state ≠ .absent)) (screenPos sc)) x := by
            rw [← hy, ← hx]; exact hscreen
          obtain ⟨hunder, halert, hserials⟩ := settleBy_screen (decide ((s.slotOf sc).state ≠ .absent)) (screenPos sc)
            (ownCars ring sc cars) x
          rw [hy']
          refine ⟨hunder, halert, fun ch frames hframes => ?_⟩
          have hlast := hserials ch
          simp only [decide_eq_true_eq] at hlast
          rw [← hframes] at hlast
          refine ⟨fun hnone => ?_, fun c hc => ?_⟩
          · rw [hlast, hnone]
            rfl
          · rw [hlast, hc]
            rfl
        · by_cases hsc : ringScreen ring k = sc
          · rw [if_pos hsc, if_pos hsc, ((ringScreen_eq_iff ring k sc).1 hsc).2]
          · rw [if_neg hsc, if_neg hsc]

end Sys2Proof.Machine
end

section
/-! A pane write (R100 to R102, R188). -/

namespace Sys2Proof.Machine

/-! ### The words of a pane (R172, R188) -/

theorem paneKind_ofCode (n : Nat) : (PaneKind.ofCode n).code = min 4 n := by
  match n with
  | 0 | 1 | 2 | 3 => rfl
  | n + 4 =>
    show 4 = min 4 (n + 4)
    omega

theorem index_of_pane {e : Entry} {sc : Fin 32} {p : Fin 4} {second : Bool} (h : e.row = .pane sc p second) :
    Index.of e.index = .pane sc p second := by
  unfold Entry.row at h
  dsimp only at h
  generalize Index.of e.index = i at h ⊢
  by_cases hmask : e.mask = 0
  · cases i <;> simp_all
  · cases i with
    | simple q => cases q <;> simp_all [simpleRow]
    | ring n f => cases f <;> simp_all
    | control => simp only [hmask, if_false] at h; split at h <;> simp_all
    | pane a b c =>
      simp only [hmask, if_false] at h
      cases h
      rfl
    | _ => simp_all

/-- The first word's fields as a write leaves them. -/
theorem storeWord_first (old : Pane) (v : BitVec 32) : ∃ x : Pane, old.storeWord false v = x ∧
    x.kind.code = min 4 (v.toNat % 8) ∧ x.channel.val = v.toNat / 256 % 8 ∧ x.minPriority = v.toNat / 65536 % 8 ∧
    (x.kind = .board → x.rows = max 1 old.rows ∧ x.lo = max 1 old.lo ∧ x.hi = max 1 old.hi ∧ x.dwell = max 4 old.dwell) ∧
    (x.kind ≠ .board → x.rows = old.rows ∧ x.lo = old.lo ∧ x.hi = old.hi ∧ x.dwell = old.dwell) ∧
    x = { old with kind := x.kind, channel := x.channel, minPriority := x.minPriority, rows := x.rows, lo := x.lo, hi := x.hi
                   dwell := x.dwell } := by
  have hkind : (PaneKind.ofCode (v.extractLsb' 0 3).toNat).code = min 4 (v.toNat % 8) := by
    rw [paneKind_ofCode]
    simp [BitVec.extractLsb'_toNat]
  have hchannel : (Fin.ofNat 8 (v.extractLsb' 8 3).toNat).val = v.toNat / 256 % 8 := by
    simp [BitVec.extractLsb'_toNat, Nat.shiftRight_eq_div_pow]
  have hpriority : (v.extractLsb' 16 3).toNat = v.toNat / 65536 % 8 := by
    simp [BitVec.extractLsb'_toNat, Nat.shiftRight_eq_div_pow]
  by_cases hboard : (old.setWord0 v).kind = .board
  · have hstore : old.storeWord false v = (old.setWord0 v).raiseBoard := if_pos hboard
    exact ⟨_, hstore, hkind, hchannel, hpriority, fun _ => ⟨rfl, rfl, rfl, rfl⟩, fun h => absurd hboard h, rfl⟩
  · have hstore : old.storeWord false v = old.setWord0 v := if_neg hboard
    exact ⟨_, hstore, hkind, hchannel, hpriority, fun h => absurd h hboard, fun _ => ⟨rfl, rfl, rfl, rfl⟩, rfl⟩

/-- The second word's fields as a write leaves them. -/
theorem storeWord_second (old : Pane) (v : BitVec 32) : ∃ x : Pane, old.storeWord true v = x ∧
    x.kind = old.kind ∧ x.channel = old.channel ∧ x.minPriority = old.minPriority ∧
    x.rows = max 1 (min 16 (v.toNat % 32)) ∧ x.lo = max 1 (min 24 (v.toNat / 32 % 32)) ∧
    x.hi = max 1 (min 24 (v.toNat / 1024 % 32)) ∧ x.includeStarted = v.getLsbD 15 ∧ x.includeCancelled = v.getLsbD 16 ∧
    x.dwell = max 4 (min 60 (v.toNat / 16777216 % 64)) ∧
    x = { old with rows := x.rows, lo := x.lo, hi := x.hi, includeStarted := x.includeStarted
                   includeCancelled := x.includeCancelled, dwell := x.dwell } := by
  have hrows : (v.extractLsb' 0 5).toNat = v.toNat % 32 := by simp [BitVec.extractLsb'_toNat]
  have hlo : (v.extractLsb' 5 5).toNat = v.toNat / 32 % 32 := by simp [BitVec.extractLsb'_toNat, Nat.shiftRight_eq_div_pow]
  have hhi : (v.extractLsb' 10 5).toNat = v.toNat / 1024 % 32 := by simp [BitVec.extractLsb'_toNat, Nat.shiftRight_eq_div_pow]
  have hdwell : (v.extractLsb' 24 6).toNat = v.toNat / 16777216 % 64 := by
    simp [BitVec.extractLsb'_toNat, Nat.shiftRight_eq_div_pow]
  refine ⟨old.setWord1 v, rfl, rfl, rfl, rfl, ?_, ?_, ?_, rfl, rfl, ?_, rfl⟩
  · rw [← hrows]; rfl
  · rw [← hlo]; rfl
  · rw [← hhi]; rfl
  · rw [← hdwell]; rfl

/-! ### The pane afresh (R100 to R102) -/

/-- The pane as a write starts it, before it is judged. -/
def Pane.started (t : Tracker) (old new : Pane) : Pane :=
  (({ new with layout := old.layout + 1 } : Pane).clearItems.mapItems Item.mark).restart t

theorem started_eq (t : Tracker) (old new : Pane) : old.started t new = { new with
    layout := old.layout + 1
    rowItems := Table.replicate 16 { dirty := decide (new.kind = .board), flight := false }
    item := { dirty := decide (new.kind = .banner ∨ new.kind = .clock), flight := false }
    list := if new.kind = .board then new.filtered t else [], page := 0
    timer := if new.kind = .board then new.dwell * 1000 else 0 } := by
  have hrows : (Table.replicate 16 Item.clear).map Item.mark = Table.replicate 16 { dirty := true, flight := false } := by
    refine Table.ext_get fun k => ?_
    simp [Item.mark, Item.clear]
  unfold Pane.started
  rw [mapItems_eq]
  unfold Pane.restart
  cases new.kind with
  | board =>
    simp only [Pane.clearItems, Pane.loadTimer, hrows]
    rfl
  | none | reel =>
    simp only [Pane.clearItems, reduceCtorEq, if_false, or_self, decide_false]
    rfl
  | banner | clock =>
    simp only [Pane.clearItems, reduceCtorEq, if_false, or_false, or_true, if_true, decide_true, decide_false]
    rfl

/-- A pane of a kind that has fitness judged, its items already marked by the write. -/
theorem judged_started (t : Tracker) (old new : Pane) (f : Fitness) :
    (old.started t new).judged f = { old.started t new with fitness := f } := by
  have hmarked : ({ old.started t new with fitness := f } : Pane).mapItems Item.mark = { old.started t new with fitness := f } := by
    rw [mapItems_eq, started_eq]
    by_cases hboard : new.kind = .board
    · have hrows : (Table.replicate 16 { dirty := decide (new.kind = .board), flight := false }).map Item.mark =
          Table.replicate 16 { dirty := decide (new.kind = .board), flight := false } := by
        refine Table.ext_get fun k => ?_
        simp [Item.mark, hboard]
      simp only [hrows, ite_self]
      by_cases hitem : new.kind = .banner ∨ new.kind = .clock
      · simp [hitem, Item.mark]
      · rw [if_neg hitem]
    · by_cases hitem : new.kind = .banner ∨ new.kind = .clock
      · simp [hboard, hitem, Item.mark]
      · simp [hboard, hitem]
  unfold Pane.judged
  by_cases hf : f = (old.started t new).fitness
  · rw [if_pos hf, hf]
  · rw [if_neg hf, hmarked, ite_self]

/-- What a pane write leaves of the unit, and what it sends. -/
theorem writePane_eq {s : State} {q : Comp} {i : Fin 128} {old new x : Pane} (hold : q.panes.get i = old)
    (hx : x = { old.started s.tracker new with fitness := s.fitnessOf i (old.started s.tracker new) })
    (hfitness : new.fitness = old.fitness) : ∃ screens : Table 32 Screen,
    q.writePane s i new = ({ q with panes := q.panes.set i x, screens := screens },
      (if old.fitness ≠ .unfit ∧ x.fitness = .unfit then [.event .paneUnfit] else []) ++ bannerReportOuts i old new) ∧
    (new.kind ≠ .reel → screens = q.screens) ∧
    (new.kind = .reel → ∀ sc' ch, (screens.get sc').serials.get ch =
      if sc' = paneScreen i ∧ ch = new.channel then none else (q.screens.get sc').serials.get ch) := by
  subst hx
  have hkind : (old.started s.tracker new).kind = new.kind := by rw [started_eq]
  have hchannel : (old.started s.tracker new).channel = new.channel := by rw [started_eq]
  have hfit : (old.started s.tracker new).fitness = old.fitness := by rw [started_eq]; exact hfitness
  have hset (f : Pane → Pane) : (q.panes.set i (old.started s.tracker new)).modify i f =
      q.panes.set i (f (old.started s.tracker new)) := by
    rw [table_modify_eq_set, Table.get_set_self]
    refine Table.ext_get fun k => ?_
    by_cases hk : i = k
    · subst hk; rw [Table.get_set_self, Table.get_set_self]
    · rw [Table.get_set_of_ne _ hk, Table.get_set_of_ne _ hk, Table.get_set_of_ne _ hk]
  have hunfits : (if (old.started s.tracker new).unfits (s.fitnessOf i (old.started s.tracker new)) = true then
      [Out.event EventKind.paneUnfit] else []) =
      if old.fitness ≠ .unfit ∧ s.fitnessOf i (old.started s.tracker new) = .unfit then [.event .paneUnfit] else [] :=
    if_congr (by rw [Pane.unfits, decide_eq_true_eq, hfit]) rfl rfl
  have hq1 : (q.onPane i fun _ => old.started s.tracker new) = { q with panes := q.panes.set i (old.started s.tracker new) } :=
    onPane_eq hold _
  have hwrite : q.writePane s i new = andThen ((if (old.started s.tracker new).kind = .reel then
      (q.onPane i fun _ => old.started s.tracker new).forget (paneScreen i) (old.started s.tracker new).channel
      else q.onPane i fun _ => old.started s.tracker new).judge s.fitnessOf i) fun q => (q, bannerReportOuts i old new) := by
    rw [← hold]
    rfl
  rw [hwrite, hkind, hchannel, hq1]
  by_cases hreel : new.kind = .reel
  · rw [if_pos hreel]
    have hforget := forget_screens { q with panes := q.panes.set i (old.started s.tracker new) } (paneScreen i) new.channel
    have hjudge := judge_eq s.fitnessOf i
      (q := ({ q with panes := q.panes.set i (old.started s.tracker new) } : Comp).forget (paneScreen i) new.channel)
      (p := old.started s.tracker new) (Table.get_set_self _ _ _)
    rw [hforget, hunfits] at hjudge
    have hpanes : (({ q with panes := q.panes.set i (old.started s.tracker new) } : Comp).forget (paneScreen i) new.channel).panes =
      q.panes.set i (old.started s.tracker new) := rfl
    rw [hpanes, hset, judged_started] at hjudge
    rw [hjudge]
    refine ⟨_, rfl, fun h => absurd hreel h, fun _ sc' ch => ?_⟩
    simp only [Table.get_mapFin, Screen.forget_forget]
    refine (Table.get_mapFin _ _ _).trans (if_congr ?_ rfl rfl)
    rw [hchannel, Bool.or_eq_true, decide_eq_true_eq, Bool.and_eq_true, decide_eq_true_eq]
    tauto
  · rw [if_neg hreel]
    have hrefits : (old.started s.tracker new).refits (s.fitnessOf i (old.started s.tracker new)) = false :=
      decide_eq_false fun h => hreel (hkind ▸ h.1)
    have hjudge := judge_eq s.fitnessOf i (q := { q with panes := q.panes.set i (old.started s.tracker new) })
      (p := old.started s.tracker new) (Table.get_set_self _ _ _)
    have hscreens : (q.screens.mapFin fun _ x => x.forget fun _ => false) = q.screens := by
      refine Table.ext_get fun k => ?_
      rw [Table.get_mapFin, Screen.forget_none]
    rw [hunfits, hset, judged_started, hrefits] at hjudge
    simp only [Bool.false_and, hscreens] at hjudge
    rw [hjudge]
    exact ⟨_, rfl, fun _ => rfl, fun h => absurd h hreel⟩

theorem bannerReports_eq {i : Fin 128} {sc : Fin 32} {p : Fin 4} (hi : i = paneIx sc p) (old new : Pane) : bannerReportOuts i old new =
    (if new.kind = .banner ∧ (old.kind ≠ .banner ∨ old.minPriority ≠ new.minPriority) then
      [{ screen := sc, pane := p, banner := some new.minPriority }]
    else if new.kind ≠ .banner ∧ old.kind = .banner then [{ screen := sc, pane := p, banner := none }] else []).map
      Out.bannerReport := by
  subst hi
  unfold bannerReportOuts
  rw [paneScreen_paneIx, paneNo_paneIx]
  by_cases hnew : new.kind = .banner
  · by_cases hsame : old.kind = .banner ∧ old.minPriority = new.minPriority
    · rw [if_pos hnew, if_pos hsame, if_neg (by tauto), if_neg (by tauto)]
      rfl
    · rw [if_pos hnew, if_neg hsame, if_pos ⟨hnew, by tauto⟩]
      rfl
  · rw [if_neg hnew]
    by_cases hold : old.kind = .banner
    · simp [hnew, hold]
    · simp [hnew, hold]

theorem paneWord_lt {x : Pane} {second : Bool} {v : BitVec 32} (hfirst : second = false → x.minPriority = v.toNat / 65536 % 8)
    (hsecond : second = true → x.rows = max 1 (min 16 (v.toNat % 32)) ∧ x.lo = max 1 (min 24 (v.toNat / 32 % 32)) ∧
      x.hi = max 1 (min 24 (v.toNat / 1024 % 32)) ∧ x.dwell = max 4 (min 60 (v.toNat / 16777216 % 64))) :
    (if second then x.word1 else x.word0) < 2 ^ 32 := by
  cases second with
  | true =>
    obtain ⟨hrows, hlo, hhi, hdwell⟩ := hsecond rfl
    have hstarted : bit x.includeStarted ≤ 1 := by cases x.includeStarted <;> simp [bit]
    have hcancelled : bit x.includeCancelled ≤ 1 := by cases x.includeCancelled <;> simp [bit]
    show x.word1 < 2 ^ 32
    unfold Pane.word1
    omega
  | false =>
    have hpriority := hfirst rfl
    have hkind : x.kind.code ≤ 4 := by cases x.kind <;> simp [PaneKind.code]
    have hchannel := x.channel.isLt
    show x.word0 < 2 ^ 32
    unfold Pane.word0
    omega

theorem posts_reports (m : Mail) (reports : List BannerReport) :
    m.posts (reports.map .bannerReport) = { m with bannerReports := m.bannerReports ++ reports } := by
  induction reports generalizing m with
  | nil => simp
  | cons r reports ih => simp [posts_cons, ih, Mail.post]

theorem posts_unfit (m : Mail) (b : Prop) [Decidable b] :
    m.posts (if b then [.event .paneUnfit] else []) = { m with events := m.events ++ if b then [.paneUnfit] else [] } := by
  split
  · rfl
  · simp

theorem posts_paneWrite (m : Mail) (b : Prop) [Decidable b] (reports : List BannerReport) :
    m.posts ((if b then [.event .paneUnfit] else []) ++ reports.map .bannerReport) = { m with
      events := m.events ++ if b then [.paneUnfit] else [], bannerReports := m.bannerReports ++ reports } := by
  rw [posts_append, posts_unfit, posts_reports]

/-- Settles O48. -/
theorem paneWritesStartThePaneAfresh : Obligations.PaneWritesStartThePaneAfresh := by
  intro s e sc p second i old v m he hrow hi hold hv hm
  have hmask : (if second then (0x3F01FFFF : BitVec 32) else 0x00070707) = paneMask second := by cases second <;> rfl
  rw [hmask] at hv
  obtain ⟨new, hnew, hfirst, hsecond, hlayout⟩ : ∃ new : Pane, old.storeWord second v = new ∧
      (second = false → new.kind.code = min 4 (v.toNat % 8) ∧ new.channel.val = v.toNat / 256 % 8 ∧
        new.minPriority = v.toNat / 65536 % 8 ∧
        (new.kind = .board → new.rows = max 1 old.rows ∧ new.lo = max 1 old.lo ∧ new.hi = max 1 old.hi ∧ new.dwell = max 4 old.dwell) ∧
        (new.kind ≠ .board → new.rows = old.rows ∧ new.lo = old.lo ∧ new.hi = old.hi ∧ new.dwell = old.dwell) ∧
        new.includeStarted = old.includeStarted ∧ new.includeCancelled = old.includeCancelled) ∧
      (second = true → new.kind = old.kind ∧ new.channel = old.channel ∧ new.minPriority = old.minPriority ∧
        new.rows = max 1 (min 16 (v.toNat % 32)) ∧ new.lo = max 1 (min 24 (v.toNat / 32 % 32)) ∧
        new.hi = max 1 (min 24 (v.toNat / 1024 % 32)) ∧ new.includeStarted = v.getLsbD 15 ∧ new.includeCancelled = v.getLsbD 16 ∧
        new.dwell = max 4 (min 60 (v.toNat / 16777216 % 64))) ∧ new.fitness = old.fitness := by
    cases second with
    | false =>
      obtain ⟨x, hx, hkind, hchannel, hpriority, hboard, hother, heq⟩ := storeWord_first old v
      have hstarted := congrArg Pane.includeStarted heq
      have hcancelled := congrArg Pane.includeCancelled heq
      have hfitness := congrArg Pane.fitness heq
      exact ⟨x, hx, fun _ => ⟨hkind, hchannel, hpriority, hboard, hother, hstarted, hcancelled⟩, fun h => (Bool.noConfusion h), hfitness⟩
    | true =>
      obtain ⟨x, hx, hkind, hchannel, hpriority, hrows, hlo, hhi, hstarted, hcancelled, hdwell, heq⟩ := storeWord_second old v
      have hfitness := congrArg Pane.fitness heq
      exact ⟨x, hx, fun h => (Bool.noConfusion h),
        fun _ => ⟨hkind, hchannel, hpriority, hrows, hlo, hhi, hstarted, hcancelled, hdwell⟩, hfitness⟩
  obtain ⟨x, hx⟩ : ∃ x : Pane, x = { old.started s.tracker new with fitness := s.fitnessOf i (old.started s.tracker new) } := ⟨_, rfl⟩
  obtain ⟨screens, hwrite, hscreens, hserials⟩ := writePane_eq (q := s.comp) hold hx hlayout
  obtain ⟨outs, houts⟩ : ∃ outs, outs = (if old.fitness ≠ .unfit ∧ x.fitness = .unfit then [.event .paneUnfit] else []) ++
    bannerReportOuts i old new := ⟨_, rfl⟩
  rw [← houts] at hwrite
  have hsends : Sends [.mail] (s.comp.writePane s i new).2 := writePane_sends s i new s.comp
  rw [hwrite] at hsends
  have hposts := (congrArg s.mail.posts houts).trans (congrArg (fun l => s.mail.posts (_ ++ l)) (bannerReports_eq hi old new))
  rw [posts_paneWrite] at hposts
  have hrun : paneWrite s = (s.takeEntry.compDo (s.comp.writePane s i new)).paramResult e v := by
    simp only [paneWrite, he, hrow, ← hi, hold, ← hv, hnew]
  rw [hwrite, compDo_eq] at hrun
  have hfit := fitnessOf_eq s sc p (old.started s.tracker new)
  rw [← hi, hm] at hfit
  have hword : (if second then new.word1 else new.word0) < 2 ^ 32 :=
    paneWord_lt (fun h => (hfirst h).2.2.1) fun h => by
      obtain ⟨-, -, -, hrows, hlo, hhi, -, -, hdwell⟩ := hsecond h
      exact ⟨hrows, hlo, hhi, hdwell⟩
  rw [started_eq] at hx
  have hfitness : x.fitness = if new.kind = .none ∨ m.state = .absent then .unjudged
      else if m.regions ≤ p.val ∨ (new.kind = .reel ∧
        m.maxFrame < (s.reel.channels.get new.channel).frameLength (s.params.rest.get new.channel)) then .unfit else .fit := by
    rw [hx, ← started_eq, hfit, started_eq]
  generalize hu : (s.takeEntry.withComp { s.comp with panes := s.comp.panes.set i x, screens := screens }).emit outs = u at hrun
  have hcomp : u.comp = { s.comp with panes := s.comp.panes.set i x, screens := screens } := by rw [← hu, emit_comp]; rfl
  have hmail : u.mail = s.mail.posts outs := by rw [← hu, emit_mail]; rfl
  have hframe : Frame [.intakes, .setup, .comp, .mail] s u := by
    rw [← hu]
    have hput : Frame [.intakes, .setup, .comp, .mail] s
        (s.takeEntry.withComp { s.comp with panes := s.comp.panes.set i x, screens := screens }) :=
      ((takeEntry_frame s).mono (by simp)).trans ((frame_withComp _ _).mono (by simp))
    exact hput.emit (hsends.mono (by simp))
  have hintakes : u.intakes = s.takeEntry.intakes := by rw [← hu, emit_intakes]; rfl
  have hsetup : u.setup = s.takeEntry.setup := by rw [← hu, emit_setup]; rfl
  have hstored : u.storedWord (.pane sc p second) = if second then new.word1 else new.word0 := by
    have hget : (s.comp.panes.set i x).get (paneIx sc p) = x := by rw [hi]; exact Table.get_set_self _ _ _
    cases second <;> simp only [State.storedWord, hcomp, hget] <;> rw [hx] <;> rfl
  have hreported : u.reportedWord (.pane sc p second) = BitVec.ofNat 32 (if second then new.word1 else new.word0) := by
    rw [← hstored]
    rfl
  have houtcome : clampOutcome v.toNat (if second then new.word1 else new.word0) =
      if BitVec.ofNat 32 (if second then new.word1 else new.word0) = v then .applied else .clamped := by
    refine if_congr ?_ rfl rfl
    generalize (if second then new.word1 else new.word0) = w at hword
    constructor
    · rintro rfl
      exact BitVec.ofNat_toNat _ _
    · rintro rfl
      exact (Nat.mod_eq_of_lt hword).symm
  rw [paramResult_eq, index_of_pane hrow, hstored, hreported, houtcome] at hrun
  obtain ⟨pass, hpass, hiff⟩ := filtered_passes s.tracker new
  rw [hposts] at hmail
  clear hu hstored hreported houtcome hposts
  have hscreen : u.comp.screens = screens := by rw [hcomp]
  refine ⟨u, x, BitVec.ofNat 32 (if second then new.word1 else new.word0), ?_, congrArg (goOn s) hrun, hframe, hintakes, hsetup,
    by rw [hcomp], by rw [hcomp], ?_⟩
  · rw [hx]
    cases second <;> rfl
  · generalize hf : x.fitness = fitness at *
    subst hx
    subst hf
    refine ⟨rfl, hfirst, hsecond, fun r => Table.get_replicate .., rfl,
      fun hboard => ⟨rfl, if_pos hboard, pass, (if_pos hboard).trans hpass, hiff⟩,
      fun hboard => ⟨rfl, if_neg hboard, if_neg hboard⟩, fun h => hfitness.trans (if_pos h),
      fun hkind habsent => hfitness.trans (if_neg (not_or.2 ⟨hkind, habsent⟩)),
      fun h => hscreen.trans (hscreens h), fun h sc' ch => ?_, ?_⟩
    · rw [hscreen, hserials h sc' ch]
      have hsc : paneScreen i = sc := by rw [hi, paneScreen_paneIx]
      rw [hsc]
    · rw [hmail]
      have hswap {a b : Prop} [Decidable a] [Decidable b] {l : List EventKind} : (if a ∧ b then l else []) = if b ∧ a then l else [] :=
        if_congr and_comm rfl rfl
      rw [hswap]

end Sys2Proof.Machine
end

section
/-! Rings coming up and going down, and the requests at the query slot (R118 to R123, R145, R171). -/

namespace Sys2Proof.Machine

/-! ### What a ring sends -/

/-- An event, a module report or a settlement: what a ring sends. -/
@[simp] def Out.ofRing : Out → Bool
  | .event _ => true
  | .moduleReport _ => true
  | .settlement _ => true
  | _ => false

theorem posts_ofRing {outs : List Out} (h : outs.all Out.ofRing = true) (m : Mail) :
    m.posts outs = { m with
      events := m.events ++ outs.filterMap Out.event?
      moduleReports := m.moduleReports ++ outs.filterMap Out.moduleReport?
      settlements := m.settlements ++ outs.filterMap Out.settlement? } := by
  induction outs generalizing m with
  | nil => simp
  | cons o outs ih =>
    rw [List.all_cons, Bool.and_eq_true] at h
    obtain ⟨ho, hrest⟩ := h
    rw [posts_cons, ih hrest]
    cases o with
    | event k => simp [List.filterMap_cons, Mail.post]
    | moduleReport r => simp [List.filterMap_cons, Mail.post]
    | settlement r => simp [List.filterMap_cons, Mail.post]
    | _ => cases ho

/-- What a ring sends goes to the inboxes alone. -/
theorem sends_ofRing {outs : List Out} (h : outs.all Out.ofRing = true) : Sends [.mail] outs := by
  intro o ho
  have hring := List.all_eq_true.1 h o ho
  cases o with
  | event k => simp [Out.block]
  | moduleReport r => simp [Out.block]
  | settlement r => simp [Out.block]
  | _ => cases hring

/-- One ring changed, with what it sends in its inboxes. -/
theorem ringDo_run (s : State) (n : Fin 4) {p : Ring × List Out} (h : p.2.all Out.ofRing = true) :
    s.ringDo n p = (s.withRings (s.rings.set n p.1)).withMail { s.mail with
      events := s.mail.events ++ p.2.filterMap Out.event?
      moduleReports := s.mail.moduleReports ++ p.2.filterMap Out.moduleReport?
      settlements := s.mail.settlements ++ p.2.filterMap Out.settlement? } := by
  rw [ringDo_eq, emit_posts (sends_ofRing h), posts_ofRing h]
  rfl

/-- A report for each slot that passes a test, in position order. -/
def slotReports (n : Fin 4) (test : Fin 8 → Bool) (st : ModState) : List ModuleReport :=
  ((allFin 8).filter test).map fun k => { ring := n, position := k, state := st, info := none }

/-- Slots reported one by one, where a test holds. -/
theorem flatMap_reportOut (n : Fin 4) (test : Fin 8 → Bool) (st : ModState) :
    ((allFin 8).flatMap fun k => if test k then [reportOut n k st] else []) =
      (slotReports n test st).map .moduleReport := by
  rw [flatMap_eq_filter_flatMap test (g := fun k => [reportOut n k st]) fun _ => rfl]
  rw [slotReports, List.map_map]
  exact List.map_eq_flatMap.symm

@[simp] theorem all_reports (reports : List ModuleReport) : (reports.map Out.moduleReport).all Out.ofRing = true := by
  simp

@[simp] theorem event_reports (reports : List ModuleReport) : (reports.map Out.moduleReport).filterMap Out.event? = [] := by
  simp [List.filterMap_map, Function.comp_def]

@[simp] theorem report_reports (reports : List ModuleReport) :
    (reports.map Out.moduleReport).filterMap Out.moduleReport? = reports := by
  simp [List.filterMap_map, Function.comp_def]

@[simp] theorem settlement_reports (reports : List ModuleReport) :
    (reports.map Out.moduleReport).filterMap Out.settlement? = [] := by
  simp [List.filterMap_map, Function.comp_def]

/-! ### The parameters of a ring (R167, R172) -/

theorem index_of_ringEnable {e : Entry} {n : Fin 4} (h : e.row = .ringEnable n) : Index.of e.index = .ring n .enable := by
  unfold Entry.row at h
  dsimp only at h
  generalize Index.of e.index = i at h ⊢
  by_cases hmask : e.mask = 0
  · cases i <;> simp_all
  · cases i with
    | simple q => cases q <;> simp_all [simpleRow]
    | ring n f => cases f <;> simp_all
    | control => simp only [hmask, if_false] at h; split at h <;> simp_all
    | _ => simp_all

theorem index_of_autoRestart {e : Entry} {n : Fin 4} (h : e.row = .autoRestart n) :
    Index.of e.index = .ring n .autoRestart := by
  unfold Entry.row at h
  dsimp only at h
  generalize Index.of e.index = i at h ⊢
  by_cases hmask : e.mask = 0
  · cases i <;> simp_all
  · cases i with
    | simple q => cases q <;> simp_all [simpleRow]
    | ring n f => cases f <;> simp_all
    | control => simp only [hmask, if_false] at h; split at h <;> simp_all
    | _ => simp_all

/-- The result of an entry whose ring parameter has been stored in u (R167, R169). -/
theorem paramResult_ring {u : State} {e : Entry} {n : Fin 4} {f : RingField} {v : BitVec 32} {x : Nat}
    (hindex : Index.of e.index = .ring n f) (hu : (u.params.ring.get n).field f = x) :
    u.paramResult e v = u.result e.index (BitVec.ofNat 32 x) (if x = v.toNat then .applied else .clamped) := by
  rw [paramResult_eq, hindex]
  simp only [State.reportedWord, State.storedWord, hu, clampOutcome]

/-! ### The query slot and the slots (R119, R121, R148) -/

theorem endQuery_eq (n : Fin 4) (o : QueryOutcome) (v : BitVec 32) (r : Ring) :
    r.endQuery n o v = ({ r with
        query := if r.query.state = .empty then r.query else Query.reset
        result := if r.query.state = .empty then r.result else r.resultOf n o v },
      if r.query.state = .empty then [] else [.event .queryDone]) := by
  unfold Ring.endQuery
  split
  · rfl
  · rfl

theorem query_of_empty {q : Query} (h : q.state = .empty) (x : Query) : (if q.state = .empty then q else x) = q := if_pos h

theorem enterLocking_reports (p : RingParams) (n : Fin 4) (r : Ring) :
    (r.enterLocking p n).2 =
      (slotReports n (fun k => decide ((r.slots.get k).state ≠ .absent)) .absent).map .moduleReport := by
  rw [enterLocking_eq, ← flatMap_reportOut]
  refine List.flatMap_congr fun k _ => ?_
  by_cases h : (r.slots.get k).state = .absent
  · simp [h]
  · simp [h]

theorem restart_eq (p : RingParams) (n : Fin 4) (r : Ring) :
    r.restart p n = ({ r with
        state := .locking, errors := 0, period := 0, lockTimer := some p.lockLimit, restartTimer := none
        flight := none, returnTimer := none, slots := r.slots.map ModSlot.cleared
        query := if r.query.state = .empty then r.query else Query.reset
        result := if r.query.state = .empty then r.result else r.resultOf n .lost 0 },
      (r.enterLocking p n).2 ++ if r.query.state = .empty then [] else [.event .queryDone]) := by
  unfold Ring.restart andThen
  dsimp only
  rw [endQuery_eq, enterLocking_eq]
  rfl

theorem goOff_eq (n : Fin 4) (r : Ring) :
    r.goOff n = ({ r with
        state := .off, flight := none, returnTimer := none, lockTimer := none, restartTimer := none, shift := none
        errors := 0, last := .none, slots := r.slots.map ModSlot.cleared
        query := if r.query.state = .empty then r.query else Query.reset
        result := if r.query.state = .empty then r.result else r.resultOf n .lost 0 },
      (slotReports n (fun k => decide ((r.slots.get k).state ≠ .absent)) .absent).map .moduleReport ++
        if r.query.state = .empty then [] else [.event .queryDone]) := by
  have hreports := enterLocking_reports RingParams.reset n r
  rw [enterLocking_eq] at hreports
  unfold Ring.goOff andThen
  dsimp only
  rw [clearSlots_eq, endQuery_eq]
  dsimp only
  rw [← hreports]
  rfl

theorem fault_eq (p : RingParams) (n : Fin 4) (r : Ring) :
    r.fault p n = ({ r with
        state := .fault, shift := none, returnTimer := none, lockTimer := none
        restartTimer := if p.autoRestart then some (p.restartDelay * 1000) else none
        slots := r.slots.map ModSlot.faulted
        query := if r.query.state = .empty then r.query else Query.reset
        result := if r.query.state = .empty then r.result else r.resultOf n .lost 0 },
      .event .ringFault :: ((slotReports n (fun k => decide ((r.slots.get k).state = .ready ∨ (r.slots.get k).state = .live))
          .lost).map .moduleReport ++
        if r.query.state = .empty then [] else [.event .queryDone])) := by
  unfold Ring.fault andThen
  dsimp only
  rw [loseSlots_eq, endQuery_eq, ← flatMap_reportOut]
  simp only [decide_eq_true_eq, ← taking_iff]
  rfl

end Sys2Proof.Machine
end

section
/-! Rings come up and go down, and requests take the query slot: the commands (R118 to R123, R145, R171). -/

namespace Sys2Proof.Machine

/-! ### MODULE_QUERY and MODULE_SET (R145) -/

theorem moduleRequest_run {s : State} {e : Entry} {isSet : Bool} (he : s.entry = some e)
    (hrow : e.row = if isSet then .moduleSet else .moduleQuery) :
    exec (if isSet then .moduleSet else .moduleQuery) s =
      .next (commit s (s.moduleRequest e isSet (if isSet then s.params.setValue else 0))) := by
  cases isSet with
  | false => exact congrArg (goOn s) (show moduleQuery s = _ by simp only [moduleQuery, he, hrow, Bool.false_eq_true, if_false])
  | true => exact congrArg (goOn s) (show moduleSet s = _ by simp only [moduleSet, he, hrow, if_true])

theorem requestOutcome_busy {r : Ring} {k : Fin 8} (h : r.query.state ≠ .empty) : r.requestOutcome k = .busy := if_pos h

theorem requestOutcome_of_empty {r : Ring} {k : Fin 8} (h : r.query.state = .empty) :
    r.requestOutcome k = if (r.slots.get k).taking then .accepted else .refused := if_neg (by simp [h])

/-- Settles O55. -/
theorem requestsTakeTheQuerySlot : Obligations.RequestsTakeTheQuerySlot := by
  intro s e isSet c n k r he hrow hc hn hk hr
  have hscreen : (argScreen e.argument).val = e.argument.toNat % 32 := by
    simp [argScreen, BitVec.extractLsb'_toNat]
  have hring : screenRing (argScreen e.argument) = n := by
    apply Fin.ext
    show (argScreen e.argument).val / 8 = n.val
    rw [hscreen, hn]
  have hpos : screenPos (argScreen e.argument) = k := by
    apply Fin.ext
    show (argScreen e.argument).val % 8 = k.val
    rw [hscreen, hk]
    omega
  have hrun := moduleRequest_run he hrow
  rw [← hc, State.moduleRequest] at hrun
  rw [hring, hpos, hr, ringDo_eq] at hrun
  have hset : s.takeEntry.rings.set n r = s.rings := by rw [← hr]; simp
  have hsame : s.takeEntry.withRings (s.takeEntry.rings.set n r) = s.takeEntry := by rw [hset]; rfl
  refine ⟨fun hbusy => ?_, fun hempty hready hlive => ?_, fun hempty htaking => ?_⟩
  · have houtcome := requestOutcome_busy (k := k) hbusy
    rw [hrun, houtcome]
    simp only [Ring.request, houtcome, emit_nil, hsame]
  · have houtcome : r.requestOutcome k = .refused := by
      rw [requestOutcome_of_empty hempty, if_neg (by simp [taking_iff, hready, hlive])]
    rw [hrun, houtcome]
    simp only [Ring.request, houtcome, hsame]
    rfl
  · have houtcome : r.requestOutcome k = .accepted := by
      rw [requestOutcome_of_empty hempty, if_pos ((taking_iff _).2 htaking)]
    rw [hrun, houtcome]
    simp only [Ring.request, houtcome, emit_nil]
    rfl

/-! ### Coming up and going down -/

/-- The result of an entry whose one-bit ring parameter has been stored in u (R167, R169). -/
theorem paramResult_flag {u : State} {e : Entry} {n : Fin 4} {f : RingField} {v : BitVec 32}
    (hindex : Index.of e.index = .ring n f) (hu : (u.params.ring.get n).field f = bit (decide (v.toNat ≠ 0))) :
    u.paramResult e v = u.result e.index (if v.toNat = 0 then 0 else 1) (if v.toNat ≤ 1 then .applied else .clamped) := by
  rw [paramResult_ring hindex hu]
  generalize v.toNat = v
  rcases v with _ | _ | v
  · rfl
  · rfl
  · rw [if_neg (by omega : ¬ v + 1 + 1 = 0), if_neg (by omega : ¬ v + 1 + 1 ≤ 1), if_neg (by simp [bit])]
    rfl

theorem min_one_eq (v : Nat) : (min 1 v = 1) = (v ≠ 0) := propext (by omega)

theorem ringEnableWrite_run {s : State} {e : Entry} {n : Fin 4} {v : Nat} {r : Ring} {p p' : RingParams}
    (he : s.entry = some e) (hrow : e.row = .ringEnable n) (hv : v = (s.masked e).toNat) (hr : s.rings.get n = r)
    (hp : s.params.ring.get n = p) (hp' : p' = { p with enable := decide (v ≠ 0) }) :
    ringEnableWrite s =
      ((s.takeEntry.withParams { s.params with ring := s.params.ring.set n p' }).ringDo n
        (r.enableWrite p' n p.enable (decide (v ≠ 0)))).result e.index (if v = 0 then 0 else 1)
          (if v ≤ 1 then .applied else .clamped) := by
  have hstore : s.takeEntry.storeRing n .enable (s.masked e) =
      s.takeEntry.withParams { s.params with ring := s.params.ring.set n p' } := by
    rw [storeRing_eq, ← hv, hp', Table.modify]
    simp only [takeEntry_params, hp, RingParams.setField, RingField.clamp, min_one_eq]
  have hget : (s.takeEntry.withParams { s.params with ring := s.params.ring.set n p' }).ringParams n = p' :=
    Table.get_set_self ..
  have hnew : p'.enable = decide (v ≠ 0) := by rw [hp']
  have hold : s.ringParams n = p := hp
  simp only [ringEnableWrite, he, hrow, hstore, hget, hr, hold, hnew]
  rw [paramResult_flag (index_of_ringEnable hrow), ← hv]
  rw [ringDo_eq, ← hv, emit_params, State.withRings_params, State.withParams_params]
  dsimp only
  rw [Table.get_set_self]
  exact congrArg bit hnew

theorem autoRestartWrite_run {s : State} {e : Entry} {n : Fin 4} {v : Nat} {r : Ring} {p p' : RingParams}
    (he : s.entry = some e) (hrow : e.row = .autoRestart n) (hv : v = (s.masked e).toNat) (hr : s.rings.get n = r)
    (hp : s.params.ring.get n = p) (hp' : p' = { p with autoRestart := decide (v ≠ 0) }) :
    autoRestartWrite s =
      ((s.takeEntry.withParams { s.params with ring := s.params.ring.set n p' }).ringDo n
        (r.autoRestartWrite p' p.autoRestart (decide (v ≠ 0)), [])).result e.index (if v = 0 then 0 else 1)
          (if v ≤ 1 then .applied else .clamped) := by
  have hstore : s.takeEntry.storeRing n .autoRestart (s.masked e) =
      s.takeEntry.withParams { s.params with ring := s.params.ring.set n p' } := by
    rw [storeRing_eq, ← hv, hp', Table.modify]
    simp only [takeEntry_params, hp, RingParams.setField, RingField.clamp, min_one_eq]
  have hget : (s.takeEntry.withParams { s.params with ring := s.params.ring.set n p' }).ringParams n = p' :=
    Table.get_set_self ..
  have hnew : p'.autoRestart = decide (v ≠ 0) := by rw [hp']
  have hold : s.ringParams n = p := hp
  simp only [autoRestartWrite, he, hrow, hstore, hget, hr, hold, hnew]
  rw [paramResult_flag (index_of_autoRestart hrow), ← hv]
  rw [ringDo_eq, ← hv, emit_params, State.withRings_params, State.withParams_params]
  dsimp only
  rw [Table.get_set_self]
  exact congrArg bit hnew

theorem cleared_get (r : Ring) (k : Fin 8) : (r.slots.map ModSlot.cleared).get k =
    if (r.slots.get k).state = .absent then r.slots.get k else ModSlot.reset := by
  rw [Table.get_map]
  rfl

theorem faulted_get (r : Ring) (k : Fin 8) : (r.slots.map ModSlot.faulted).get k =
    if (r.slots.get k).state = .ready ∨ (r.slots.get k).state = .live then { r.slots.get k with state := .lost }
    else r.slots.get k := by
  rw [Table.get_map, ModSlot.faulted]
  simp only [taking_iff]

/-- What goes out as a request ends. -/
theorem ofRing_done (b : Prop) [Decidable b] :
    (if b then [] else [Out.event .queryDone]).all Out.ofRing = true := by
  split <;> rfl

@[simp] theorem event_done (b : Prop) [Decidable b] :
    (if b then [] else [Out.event .queryDone]).filterMap Out.event? = if b then [] else [.queryDone] := by
  split <;> rfl

@[simp] theorem report_done (b : Prop) [Decidable b] :
    (if b then [] else [Out.event .queryDone]).filterMap Out.moduleReport? = [] := by
  split <;> rfl

@[simp] theorem settlement_done (b : Prop) [Decidable b] :
    (if b then [] else [Out.event .queryDone]).filterMap Out.settlement? = [] := by
  split <;> rfl

/-- A request ended, as the obligations state it. -/
theorem resultOf_eq (n : Fin 4) (o : QueryOutcome) (v : BitVec 32) (r : Ring) : r.resultOf n o v =
    { outcome := o, isSet := r.query.isSet, screen := 8 * n.val + r.query.position.val, item := r.query.item
      value := if r.query.isSet then r.query.value else 0, answer := v, trains := r.query.trains
      count := r.result.count + 1 } := rfl

theorem ended_of_endQuery (n : Fin 4) (r : Ring) {q : Query} {x : QueryResult}
    (hq : q = if r.query.state = .empty then r.query else Query.reset)
    (hx : x = if r.query.state = .empty then r.result else r.resultOf n .lost 0) :
    if r.query.state = .empty then q = r.query ∧ x = r.result else q = Query.reset ∧ x = r.resultOf n .lost 0 := by
  by_cases h : r.query.state = .empty
  · rw [if_pos h]
    rw [if_pos h] at hq hx
    exact ⟨hq, hx⟩
  · rw [if_neg h]
    rw [if_neg h] at hq hx
    exact ⟨hq, hx⟩

/-- A ring that a command leaves as it is. -/
theorem ringDo_same {s : State} {n : Fin 4} {r : Ring} (hr : s.rings.get n = r) : s.ringDo n (r, []) = s := by
  rw [ringDo_eq, emit_nil, ← hr, Table.set_get_self]
  rfl

theorem ringDo_frame_of {s : State} {n : Fin 4} {p : Ring × List Out} (h : p.2.all Out.ofRing = true) :
    Frame [.rings, .mail] s (s.ringDo n p) := ringDo_frame s n p (sends_ofRing h)

/-- Settles O52. -/
theorem ringsComeUpAndGoDown : Obligations.RingsComeUpAndGoDown := by
  intro s n r p report locking cleared ended done hr hp hreport hcleared hlocking hended hdone
  have hreports (test : ModSlot → Bool) (st : ModState) :
      report test st = slotReports n (fun k => test (r.slots.get k)) st := hreport test st
  have hsent := enterLocking_reports p n r
  have hclear {r' : Ring} (h : r'.slots = r.slots.map ModSlot.cleared) : cleared r' :=
    (hcleared r').2 fun k => by rw [h]; exact cleared_get r k
  have hlock : locking (r.enterLocking p n).1 := by
    rw [enterLocking_eq]
    exact (hlocking _).2 ⟨hclear rfl, rfl⟩
  have hend {r' : Ring} (hq : r'.query = if r.query.state = .empty then r.query else Query.reset)
      (hx : r'.result = if r.query.state = .empty then r.result else r.resultOf n .lost 0) : ended r' :=
    (hended r').2 (ended_of_endQuery n r hq hx)
  refine ⟨fun e v he hrow hv => ⟨fun hset hwas hoff => ?_, fun hclr hwas => ?_, fun hsame => ?_⟩,
    ⟨by decide, fun h => ?_, fun h => ?_⟩, ⟨fun h ht => ?_, fun h => ?_⟩, ⟨fun h ht => ?_, fun h => ?_⟩,
    fun e v he hrow hv timer htimer => ?_, fun e he hrow hn => ⟨fun h => ?_, fun h => ?_⟩⟩
  · have hgoes : r.enableWrite { p with enable := true } n p.enable (decide (v ≠ 0)) = r.enterLocking p n := by
      simp only [Ring.enableWrite, hset, hwas, hoff, ne_eq, not_false_eq_true, decide_true, Bool.not_false, Bool.and_true,
        if_true]
      rfl
    have hrun := ringEnableWrite_run he hrow hv hr hp (p' := { p with enable := true }) (by simp [hset])
    have hv1 : (v ≤ 1) = (v = 1) := propext (by omega)
    rw [hgoes, if_neg hset, if_congr (iff_of_eq hv1) rfl rfl] at hrun
    refine ⟨_, (r.enterLocking p n).1, congrArg (goOn s) hrun, ((takeEntry_frame s).mono (by simp)).trans
      (((frame_withParams _ _).mono (by simp)).trans
        ((ringDo_frame _ _ _ (enterLocking_sends p n r)).mono (by simp))), ?_⟩
    rw [ringDo_run _ _ (by rw [hsent]; exact all_reports _)]
    refine ⟨rfl, rfl, rfl, rfl, hlock, by rw [enterLocking_eq], by rw [enterLocking_eq], ?_⟩
    simp only [hsent, event_reports, report_reports, settlement_reports, List.append_nil, hreports]
    rfl
  · have hgoes : r.enableWrite { p with enable := false } n p.enable (decide (v ≠ 0)) = r.goOff n := by
      simp [Ring.enableWrite, hclr, hwas]
    have hrun := ringEnableWrite_run he hrow hv hr hp (p' := { p with enable := false }) (by simp [hclr])
    rw [hgoes, if_pos hclr, if_pos (by omega : v ≤ 1)] at hrun
    refine ⟨_, (r.goOff n).1, congrArg (goOn s) hrun, ((takeEntry_frame s).mono (by simp)).trans
      (((frame_withParams _ _).mono (by simp)).trans
        ((ringDo_frame _ _ _ (goOff_sends n r)).mono (by simp))), ?_⟩
    rw [ringDo_run _ _ (by rw [goOff_eq, List.all_append, all_reports, ofRing_done]; rfl), goOff_eq]
    refine ⟨rfl, rfl, rfl, hclear rfl, hend rfl rfl, ?_⟩
    simp only [List.filterMap_append, event_reports, report_reports, settlement_reports, event_done, report_done,
      settlement_done, List.append_nil, List.nil_append, hreports, hdone]
    rfl
  · have henable : decide (v ≠ 0) = p.enable := by
      rcases hsame with ⟨hset, hwas⟩ | ⟨hclr, hwas⟩
      · simp [hset, hwas]
      · simp [hclr, hwas]
    have hgoes : r.enableWrite p n p.enable (decide (v ≠ 0)) = (r, []) := by
      rw [henable, Ring.enableWrite]
      cases p.enable <;> rfl
    have hrun := ringEnableWrite_run he hrow hv hr hp (p' := p) (by rw [henable])
    have hparams : s.takeEntry.withParams { s.params with ring := s.params.ring.set n p } = s.takeEntry := by
      rw [← hp, Table.set_get_self]
      rfl
    rw [hgoes, hparams, ringDo_same (s := s.takeEntry) hr] at hrun
    exact congrArg (goOn s) hrun
  · refine congrArg (goOn s) (?_ : lockIndication n s = _)
    simp only [lockIndication, hr, ringDo_eq, emit_nil, Ring.locked, h, if_true]
    have hparams : s.ringParams n = p := hp
    rw [hparams]
    rfl
  · have hstay : lockIndication n s = s := by
      simp only [lockIndication, hr, Ring.locked, h, if_false]
      exact ringDo_same hr
    exact goOn_of_nothing hstay
  · have hrun : lockTimerExpiry n s = s.ringDo n (r.fault p n) := by
      rw [lockTimerExpiry, hr, Ring.lockExpiry, if_pos ⟨h, ht⟩]
      exact congrArg (fun q => s.ringDo n (r.fault q n)) hp
    have hframe : Frame [.rings, .mail] s (s.ringDo n (r.fault p n)) := ringDo_frame s n _ (fault_sends p n r)
    refine ⟨_, (r.fault p n).1, congrArg (goOn s) hrun, hframe.commit, ?_⟩
    rw [commit_rings, commit_mail, ringDo_run _ _ (by rw [fault_eq]; simp [ofRing_done]), fault_eq]
    refine ⟨rfl, hend rfl rfl, rfl, fun k m hm => ?_, ?_⟩
    · rw [← hm]
      exact faulted_get r k
    · simp only [List.filterMap_cons, Out.event?, Out.moduleReport?, Out.settlement?, List.filterMap_append, event_reports,
        report_reports, settlement_reports, event_done, report_done, settlement_done, List.append_nil, List.nil_append,
        hreports, hdone]
      rfl
  · refine goOn_of_nothing (?_ : lockTimerExpiry n s = s)
    rw [lockTimerExpiry, hr, Ring.lockExpiry, if_neg (by tauto)]
    exact ringDo_same hr
  · have hrun : restartTimerExpiry n s = s.ringDo n (r.enterLocking p n) := by
      rw [restartTimerExpiry, hr, Ring.restartExpiry, if_pos ⟨h, ht⟩]
      exact congrArg (fun q => s.ringDo n (r.enterLocking q n)) hp
    have hframe : Frame [.rings, .mail] s (s.ringDo n (r.enterLocking p n)) :=
      ringDo_frame s n _ (enterLocking_sends p n r)
    refine ⟨_, (r.enterLocking p n).1, congrArg (goOn s) hrun, hframe.commit, ?_⟩
    rw [commit_rings, commit_mail, ringDo_run _ _ (by rw [hsent]; exact all_reports _)]
    refine ⟨rfl, hlock, by rw [enterLocking_eq], by rw [enterLocking_eq], ?_⟩
    simp only [hsent, event_reports, report_reports, settlement_reports, List.append_nil, hreports]
    rfl
  · refine goOn_of_nothing (?_ : restartTimerExpiry n s = s)
    rw [restartTimerExpiry, hr, Ring.restartExpiry, if_neg (by tauto)]
    exact ringDo_same hr
  · have hrun := autoRestartWrite_run he hrow hv hr hp rfl
    have hgoes : r.autoRestartWrite { p with autoRestart := decide (v ≠ 0) } p.autoRestart (decide (v ≠ 0)) =
        { r with restartTimer := timer } := by
      rw [htimer, Ring.autoRestartWrite]
      by_cases hfault : r.state = .fault
      · by_cases hset : v = 0
        · cases hauto : p.autoRestart
          · simp [hset]
          · simp [hset, hfault]
        · cases hauto : p.autoRestart
          · simp [hset, hfault]
          · simp [hset]
      · simp [hfault]
    rw [hgoes, ringDo_eq, emit_nil] at hrun
    exact congrArg (goOn s) hrun
  · have hring : argRing e.argument = n := by
      apply Fin.ext
      simp [argRing, BitVec.extractLsb'_toNat, hn]
    have hoff : (s.ringParams n).enable = false := (congrArg RingParams.enable hp).trans h
    have hrun : ringRestart s = s.takeEntry.result e.index e.argument .applied := by
      simp only [ringRestart, he, hrow, hring, hoff, Bool.false_eq_true, if_false, hr]
      rw [ringDo_same (s := s.takeEntry) hr]
    exact congrArg (goOn s) hrun
  · have hring : argRing e.argument = n := by
      apply Fin.ext
      simp [argRing, BitVec.extractLsb'_toNat, hn]
    have hparams : s.ringParams n = p := hp
    have hrun : ringRestart s = (s.takeEntry.ringDo n (r.restart p n)).result e.index e.argument .applied := by
      simp only [ringRestart, he, hrow, hring, hparams, h, if_true, hr]
    refine ⟨_, (r.restart p n).1, congrArg (goOn s) hrun, ((takeEntry_frame s).mono (by simp)).trans
      ((ringDo_frame _ _ _ (ringRestart_sends p n r)).mono (by simp)), ?_⟩
    rw [ringDo_run _ _ (by rw [restart_eq, List.all_append, hsent, all_reports, ofRing_done]; rfl), restart_eq]
    refine ⟨rfl, rfl, rfl, (hlocking _).2 ⟨hclear rfl, rfl⟩, hend rfl rfl, ?_⟩
    simp only [hsent, List.filterMap_append, event_reports, report_reports, settlement_reports, event_done, report_done,
      settlement_done, List.append_nil, List.nil_append, hreports, hdone]
    rfl

end Sys2Proof.Machine
end

section
/-! Returned trains: their check, what is read of them, and what their settlement does at a ring (R132 to R135, R140 to R148). -/

namespace Sys2Proof.Machine

/-! ### Bytes and checks (R133) -/

@[simp] theorem length_leBytes (k v : Nat) : (leBytes k v).length = k := by simp [leBytes]

theorem le32At_leBytes (v : Nat) : le32At (leBytes 4 v) 0 = v % 4294967296 := by
  have h : leBytes 4 v = [BitVec.ofNat 8 (v / 1), BitVec.ofNat 8 (v / 256), BitVec.ofNat 8 (v / 65536), BitVec.ofNat 8 (v / 16777216)] :=
    rfl
  rw [h]
  simp only [le32At, le16At, byteAt, List.getD_cons_zero, List.getD_cons_succ, BitVec.toNat_ofNat]
  omega

theorem length_checkField (type : CheckType) (marker : BitVec 32) (body : List Byte) :
    (checkField type marker body).length = 4 := by
  cases type <;> exact length_leBytes 4 _

/-- The check field spells the check value, bit by bit as R133 gives it. -/
theorem le32At_checkField (type : CheckType) (marker : BitVec 32) (body : List Byte) :
    le32At (checkField type marker body) 0 = checkValue type marker body := by
  cases type with
  | marker =>
    rw [checkField, checkValue, le32At_leBytes]
    exact Nat.mod_eq_of_lt marker.isLt
  | crc16 =>
    rw [checkField, checkValue, le32At_leBytes, crc16, crc16_bits]
    have h := ((bitsMsbFirst body).foldl (crcBit 0x1021#16) 0xFFFF#16).isLt
    exact Nat.mod_eq_of_lt (by omega)
  | crc32 =>
    have hones : (0xFFFFFFFF#32).reverse = 0xFFFFFFFF#32 := by decide +kernel
    rw [checkField, checkValue, le32At_leBytes, crc32, ← crc32_bits, hones]
    exact Nat.mod_eq_of_lt (BitVec.isLt _)

/-! ### What is read of a return (R132, R135, R191) -/

theorem good_iff (f : Flight) (bs : List Byte) : f.good bs = true ↔
    bs.length = trainSize f.cars ∧ le32At bs 4 = trainSize f.cars ∧ le16At bs 8 = f.cars.length ∧
      checkField f.check f.marker (bs.take (bs.length - 4)) = bs.drop (bs.length - 4) := by
  simp [Flight.good, and_assoc]

theorem mem_notAccepted (f : Flight) (c : ReturnedCar) :
    c ∈ f.notAccepted ↔ c.car ∈ f.cars ∧ c.accept = 0 ∧ c.claimed = false ∧ c.payload = c.car.payload := by
  unfold Flight.notAccepted
  rw [List.mem_map]
  constructor
  · rintro ⟨car, hcar, rfl⟩
    exact ⟨hcar, rfl, rfl, rfl⟩
  · rintro ⟨hcar, haccept, hclaimed, hpayload⟩
    refine ⟨c.car, hcar, ?_⟩
    obtain ⟨car, accept, claimed, payload⟩ := c
    simp_all

theorem notAccepted_cars (f : Flight) : f.notAccepted.map ReturnedCar.car = f.cars := by
  simp [Flight.notAccepted, Function.comp_def]

/-- The offset of a car: what lies before it. -/
theorem carOffsets_get (done rest : List Car) (car : Car) (o : Nat) :
    (carOffsets o (done ++ car :: rest))[done.length]? = some (o + (done.map Car.size).sum) := by
  induction done generalizing o with
  | nil => simp [carOffsets]
  | cons c done ih => simp [carOffsets, ih, Nat.add_assoc]

theorem length_carOffsets (o : Nat) (cars : List Car) : (carOffsets o cars).length = cars.length := by
  induction cars generalizing o with
  | nil => rfl
  | cons c cars ih => simp [carOffsets, ih]

theorem returned_get (f : Flight) (bs : List Byte) {done rest : List Car} {car : Car} (h : f.cars = done ++ car :: rest) :
    (f.returned bs)[done.length]? = some
      { car := car, accept := bs.getD (16 + (done.map Car.size).sum + 2) 0
        claimed := (bs.getD (16 + (done.map Car.size).sum + 5) 0).getLsbD 0
        payload := (bs.drop (16 + (done.map Car.size).sum + 8)).take car.payload.length } := by
  have hcar : (f.cars.zip (carOffsets 16 f.cars))[done.length]? = some (car, 16 + (done.map Car.size).sum) := by
    rw [List.getElem?_zip_eq_some, h]
    exact ⟨by simp, carOffsets_get done rest car 16⟩
  rw [Flight.returned, List.getElem?_map, hcar]
  rfl

/-! ### The query slot at a settlement (R147) -/

theorem queryCarOf_eq (cars : List ReturnedCar) : cars.find? (fun c => c.car.kind.isQuery) = queryCarOf cars := by
  refine congrArg (List.find? · cars) (funext fun c => ?_)
  cases c.car.kind <;> rfl

/-- The returned car that answers the request of a ring, if any (R147). -/
def Ring.answerIn (r : Ring) (cars : List ReturnedCar) : Option ReturnedCar :=
  if r.query.state = .inFlight then (queryCarOf cars).filter fun c => c.accept.getLsbD r.query.position.val else none

theorem settleQuery_eq (n : Fin 4) (cars : List ReturnedCar) (r : Ring) :
    r.settleQuery n cars = ({ r with
        query := if (r.answerIn cars).isSome then Query.reset
          else if r.query.state = .inFlight ∧ (queryCarOf cars).isSome then { r.query with state := .waiting } else r.query
        result := match r.answerIn cars with
          | some c => r.resultOf n .answered (BitVec.ofNat 32 (le32At c.payload 4))
          | none => r.result },
      if (r.answerIn cars).isSome then [.event .queryDone] else []) := by
  rw [Ring.settleQuery, queryCarOf_eq, Ring.answerIn]
  by_cases hflight : r.query.state = .inFlight
  · rw [if_pos hflight]
    cases hcar : queryCarOf cars with
    | none => simp [hflight]
    | some c =>
      by_cases haccept : c.accept.getLsbD r.query.position.val = true
      · have hnonempty : ¬ r.query.state = .empty := by simp [hflight]
        simp only [hflight, haccept, if_true, Option.filter_some, Option.isSome_some]
        rw [endQuery_eq, if_neg hnonempty, if_neg hnonempty, if_neg hnonempty]
        rfl
      · simp only [hflight, haccept, if_true, if_false, Option.filter_some, Option.isSome_some, Option.isSome_none,
          Bool.false_eq_true, and_self]
  · rw [if_neg hflight]
    cases hstate : r.query.state with
    | inFlight => exact absurd hstate hflight
    | empty | waiting => simp

end Sys2Proof.Machine
end

section
/-! The module slots at a settlement: each slot meets its fate (R140, R141, R143, R144, R148). -/

namespace Sys2Proof.Machine

/-! ### The three judgements of one slot -/

/-- The slot becomes LIVE (R140). -/
def livesNow (s : State) (n : Fin 4) (cars : List ReturnedCar) (k : Fin 8) (m : ModSlot) : Bool :=
  decide (m.state = .ready ∧ (addressed k cars).any (fun c => c.car.kind.isContent && c.accept.getLsbD k.val) = true ∧
    s.comp.hasActive (ringScreen n k) = true)

/-- The slot is LOST by its count of cars not accepted (R141). -/
def lostNow (limit : Nat) (cars : List ReturnedCar) (k : Fin 8) (m : ModSlot) : Bool :=
  decide (m.taking = true ∧ counted k cars ≠ [] ∧ limit ≤ walkCount k (counted k cars) m.missed)

/-- A LOST slot comes back (R144). -/
def backNow (cars : List ReturnedCar) (k : Fin 8) (m : ModSlot) : Bool :=
  decide (m.state = .lost ∧
    (addressed k cars).any (fun c => decide (c.car.kind = .probe) && c.accept.getLsbD k.val) = true)

/-- The slot after the judgement of LIVE. -/
def lived (s : State) (n : Fin 4) (cars : List ReturnedCar) (k : Fin 8) (m : ModSlot) : ModSlot :=
  if livesNow s n cars k m then { m with state := .live } else m

/-- The slot after its count. -/
def walked (limit : Nat) (cars : List ReturnedCar) (period : BitVec 16) (k : Fin 8) (m : ModSlot) : ModSlot :=
  if lostNow limit cars k m then { m with state := .lost, lossPeriod := period, probePending := false, missed := 0 }
  else if m.taking then { m with missed := walkCount k (counted k cars) m.missed } else m

/-- The slot after rejoining. -/
def rejoined (cars : List ReturnedCar) (k : Fin 8) (m : ModSlot) : ModSlot :=
  if backNow cars k m then { m with state := .ready, missed := 0, lossPeriod := 0, probePending := false } else m

@[simp] theorem lived_taking (s : State) (n : Fin 4) (cars : List ReturnedCar) (k : Fin 8) (m : ModSlot) :
    (lived s n cars k m).taking = m.taking := by
  unfold lived
  split
  · rename_i h
    have hready := (of_decide_eq_true h).1
    simp [ModSlot.taking, hready]
  · rfl

@[simp] theorem lived_missed (s : State) (n : Fin 4) (cars : List ReturnedCar) (k : Fin 8) (m : ModSlot) :
    (lived s n cars k m).missed = m.missed := by
  unfold lived
  split <;> rfl

@[simp] theorem lived_fields (s : State) (n : Fin 4) (cars : List ReturnedCar) (k : Fin 8) (m : ModSlot) :
    (lived s n cars k m).fields = m.fields := by
  unfold lived
  split <;> rfl

@[simp] theorem walked_fields (limit : Nat) (cars : List ReturnedCar) (period : BitVec 16) (k : Fin 8) (m : ModSlot) :
    (walked limit cars period k m).fields = m.fields := by
  unfold walked
  split
  · rfl
  · split <;> rfl

theorem lostNow_lived (s : State) (n : Fin 4) (limit : Nat) (cars : List ReturnedCar) (k : Fin 8) (m : ModSlot) :
    lostNow limit cars k (lived s n cars k m) = lostNow limit cars k m := by
  simp only [lostNow, lived_taking, lived_missed]

/-! ### The fate of a slot (R140, R141, R144) -/

section
variable (s : State) (n : Fin 4) (p : RingParams) (cars : List ReturnedCar) (period : BitVec 16) (k : Fin 8) (m : ModSlot)

theorem counted_eq : counted k cars =
    (cars.filter fun c => c.car.dest.getLsbD k.val).filter fun c => decide (c.car.kind ≠ .probe ∧ c.car.kind ≠ .enum) := by
  refine congrArg (List.filter · _) (funext fun c => ?_)
  exact (Bool.decide_and _ _).symm

theorem isContent_eq (c : CarKind) : c.isContent = decide (c = .row ∨ c = .banner ∨ c = .clock ∨ c = .alert ∨ c = .frame) := by
  cases c <;> rfl

theorem fate_live : (slotFate s n p cars period k m).live = livesNow s n cars k m := by
  have hactive : s.comp.hasActive (ringScreen n k) = (allFin 4).any fun x =>
      decide ((s.comp.panes.get (paneIx (ringScreen n k) x)).kind ≠ .none ∧
        (s.comp.panes.get (paneIx (ringScreen n k) x)).fitness = .fit) := by
    refine congrArg (List.any (allFin 4)) (funext fun x => ?_)
    exact (Bool.decide_and _ _).symm
  simp only [slotFate, livesNow, Bool.decide_and, Bool.decide_eq_true, hactive, isContent_eq, addressed, Bool.and_assoc]

theorem fate_gone : (slotFate s n p cars period k m).gone = lostNow p.lossLimit cars k m := by
  simp only [slotFate, lostNow, Bool.decide_and, taking_iff]
  rfl

theorem fate_back : (slotFate s n p cars period k m).back =
    ((decide (m.state = .lost) || lostNow p.lossLimit cars k m) &&
      (addressed k cars).any fun c => decide (c.car.kind = .probe) && c.accept.getLsbD k.val) := by
  rw [← fate_gone s n p cars period k m]
  rfl

theorem fate_slot : (slotFate s n p cars period k m).slot =
    if (slotFate s n p cars period k m).back then { m with state := .ready, missed := 0, lossPeriod := 0, probePending := false }
    else if (slotFate s n p cars period k m).gone then
      { m with state := .lost, missed := 0, lossPeriod := period, probePending := false }
    else if m.state = .ready ∨ m.state = .live then
      { m with state := if (slotFate s n p cars period k m).live then .live else m.state
               missed := walkCount k (counted k cars) m.missed }
    else m := by
  rw [counted_eq]
  rfl

/-- A slot is LOST after its count where it was LOST before or has been lost now. -/
theorem walked_lost : decide ((walked p.lossLimit cars period k (lived s n cars k m)).state = .lost) =
    (decide (m.state = .lost) || lostNow p.lossLimit cars k m) := by
  unfold walked
  rw [lostNow_lived, lived_taking]
  by_cases hlost : lostNow p.lossLimit cars k m = true
  · rw [if_pos hlost, hlost]
    simp
  · rw [if_neg hlost, Bool.eq_false_iff.2 hlost, Bool.or_false]
    have hstate : ((lived s n cars k m).state = .lost) = (m.state = .lost) := by
      unfold lived
      split
      · rename_i h
        have hready := (of_decide_eq_true h).1
        simp [hready]
      · rfl
    split
    · simp only [hstate]
    · simp only [hstate]

theorem back_eq : backNow cars k (walked p.lossLimit cars period k (lived s n cars k m)) =
    (slotFate s n p cars period k m).back := by
  rw [fate_back, ← walked_lost s n p cars period k m, backNow, Bool.decide_and, Bool.decide_eq_true]

/-- The three judgements together are the slot's fate. -/
theorem fate_slot_eq : (slotFate s n p cars period k m).slot =
    rejoined cars k (walked p.lossLimit cars period k (lived s n cars k m)) := by
  rw [rejoined, back_eq, fate_slot, fate_gone, fate_live]
  have hfields : ∀ x : ModSlot, x.fields = m.fields → x.frameSkips = m.frameSkips →
      ({ x with state := .ready, missed := 0, lossPeriod := 0, probePending := false } : ModSlot) =
        { m with state := .ready, missed := 0, lossPeriod := 0, probePending := false } := by
    intro x hx hskips
    obtain ⟨htype, hregions, hframe, hfirm⟩ := ModuleInfo.mk.inj hx
    simp [htype, hregions, hframe, hfirm, hskips]
  have hskips : (lived s n cars k m).frameSkips = m.frameSkips := by
    unfold lived
    split <;> rfl
  have hskips' : (walked p.lossLimit cars period k (lived s n cars k m)).frameSkips = m.frameSkips := by
    unfold walked
    split
    · exact hskips
    · split
      · exact hskips
      · exact hskips
  by_cases hback : (slotFate s n p cars period k m).back = true
  · rw [if_pos hback, if_pos hback]
    exact (hfields _ (by simp) hskips').symm
  · rw [if_neg hback, if_neg hback, walked, lostNow_lived, lived_taking, lived_missed]
    by_cases hlost : lostNow p.lossLimit cars k m = true
    · rw [if_pos hlost, if_pos hlost]
      unfold lived
      split <;> rfl
    · rw [if_neg hlost, if_neg hlost]
      by_cases htaking : m.taking = true
      · rw [if_pos htaking, if_pos ((taking_iff m).1 htaking)]
        unfold lived
        split <;> rfl
      · rw [if_neg htaking, if_neg fun h => htaking ((taking_iff m).2 h)]
        have hnot : ¬ livesNow s n cars k m = true := fun h =>
          htaking ((taking_iff m).2 (.inl (of_decide_eq_true h).1))
        rw [lived, if_neg hnot]

end

/-! ### The slots of a ring judged in turn -/

theorem goLive_all (s : State) (n : Fin 4) (cars : List ReturnedCar) (r : Ring) :
    forAll (allFin 8) (Ring.goLive s n cars) r = ({ r with slots := r.slots.mapFin (lived s n cars) },
      (slotReports n (fun k => livesNow s n cars k (r.slots.get k)) .live).map .moduleReport) := by
  rw [forAll_onSlot (lived s n cars) fun k m => if livesNow s n cars k m then [reportOut n k .live] else []]
  · rw [flatMap_reportOut]
  · intro k x
    have hlive : x.goLive s n cars k = if livesNow s n cars k (x.slots.get k) then
        (x.onSlot k fun m => { m with state := .live }, [reportOut n k .live]) else (x, []) := by
      simp only [Ring.goLive, livesNow, decide_eq_true_eq]
    rw [hlive]
    split
    · rename_i h
      simp only [Ring.onSlot, Table.modify, lived, h, if_true]
    · rename_i h
      simp only [Table.modify, lived, h, Bool.false_eq_true, if_false, Table.set_get_self]

theorem rejoin_all (n : Fin 4) (cars : List ReturnedCar) (r : Ring) :
    forAll (allFin 8) (Ring.rejoin n cars) r = ({ r with slots := r.slots.mapFin (rejoined cars) },
      (((allFin 8).filter fun k => backNow cars k (r.slots.get k)).map fun k =>
        { ring := n, position := k, state := .ready, info := some (r.slots.get k).fields }).map .moduleReport) := by
  rw [forAll_onSlot (rejoined cars) fun k m => if backNow cars k m then [readyOut n k m] else []]
  · rw [flatMap_eq_filter_flatMap (fun k => backNow cars k (r.slots.get k)) (g := fun k => [readyOut n k (r.slots.get k)])
      fun _ => rfl, List.map_map]
    exact congrArg _ List.map_eq_flatMap.symm
  · intro k x
    have hback : x.rejoin n cars k = if backNow cars k (x.slots.get k) then
        (x.onSlot k fun m => { m with state := .ready, missed := 0, lossPeriod := 0, probePending := false },
          [readyOut n k (x.slots.get k)]) else (x, []) := by
      simp only [Ring.rejoin, backNow, decide_eq_true_eq]
    rw [hback]
    split
    · rename_i h
      simp only [Ring.onSlot, Table.modify, rejoined, h, if_true]
    · rename_i h
      simp only [Table.modify, rejoined, h, Bool.false_eq_true, if_false, Table.set_get_self]

/-! ### The counts walked, with the request of a lost target (R141, R148) -/

/-- The events and report of a slot that is lost, its request ended where it was the target. -/
def lossOuts (n : Fin 4) (k : Fin 8) (ended : Bool) : List Out :=
  [.event .moduleLost, reportOut n k .lost] ++ if ended then [.event .queryDone] else []

/-- The request of the query slot is for the module at position k. -/
def Ring.asks (r : Ring) (k : Fin 8) : Bool := decide (r.query.state ≠ .empty ∧ r.query.position = k)

theorem endQueryOf_eq (n : Fin 4) (k : Fin 8) (r : Ring) : r.endQueryOf n k = ({ r with
      query := if r.asks k then Query.reset else r.query, result := if r.asks k then r.resultOf n .lost 0 else r.result },
    if r.asks k then [.event .queryDone] else []) := by
  unfold Ring.endQueryOf Ring.asks
  rw [endQuery_eq]
  by_cases hpos : r.query.position = k
  · by_cases hempty : r.query.state = .empty
    · simp [hpos, hempty]
    · simp [hpos, hempty]
  · simp [hpos]

theorem walk_eq (limit : Nat) (n : Fin 4) (cars : List ReturnedCar) (k : Fin 8) (r : Ring) (lost : Bool)
    (hlost : lost = lostNow limit cars k (r.slots.get k)) :
    r.walk limit n cars k = ({ r with
        slots := r.slots.modify k (walked limit cars r.period k)
        query := if lost && r.asks k then Query.reset else r.query
        result := if lost && r.asks k then r.resultOf n .lost 0 else r.result },
      if lost then lossOuts n k (r.asks k) else []) := by
  unfold Ring.walk
  dsimp only
  by_cases hnone : (r.slots.get k).taking = false ∨ counted k cars = []
  · have hno : lost = false := by
      rw [hlost, lostNow, decide_eq_false_iff_not]
      rintro ⟨htaking, hown, -⟩
      rcases hnone with h | h
      · simp [h] at htaking
      · exact hown h
    have hsame : walked limit cars r.period k (r.slots.get k) = r.slots.get k := by
      rw [walked, ← hlost, hno, if_neg Bool.false_ne_true]
      split
      · rename_i htaking
        rcases hnone with h | h
        · simp [h] at htaking
        · rw [h]; rfl
      · rfl
    simp only [if_pos hnone, hno, Bool.false_and, Bool.false_eq_true, if_false, Table.modify, hsame, Table.set_get_self]
  · rw [if_neg hnone]
    have htaking : (r.slots.get k).taking = true := by
      cases h : (r.slots.get k).taking
      · exact absurd (.inl h) hnone
      · rfl
    have hown : counted k cars ≠ [] := fun h => hnone (.inr h)
    by_cases hlt : walkCount k (counted k cars) (r.slots.get k).missed < limit
    · have hno : lost = false := by
        rw [hlost, lostNow, decide_eq_false_iff_not]
        rintro ⟨-, -, hle⟩
        omega
      have hnext : walked limit cars r.period k (r.slots.get k) =
          { r.slots.get k with missed := walkCount k (counted k cars) (r.slots.get k).missed } := by
        rw [walked, ← hlost, hno, if_neg Bool.false_ne_true, if_pos htaking]
      simp only [if_pos hlt, hno, Bool.false_and, Bool.false_eq_true, if_false, Ring.onSlot, Table.modify, hnext]
    · have hyes : lost = true := by
        rw [hlost, lostNow, decide_eq_true_eq]
        exact ⟨htaking, hown, by omega⟩
      have hnext : walked limit cars r.period k (r.slots.get k) =
          { r.slots.get k with state := .lost, lossPeriod := r.period, probePending := false, missed := 0 } := by
        rw [walked, ← hlost, hyes, if_pos rfl]
      rw [if_neg hlt]
      simp only [andThen, endQueryOf_eq, Ring.onSlot, Table.modify, hyes, Bool.true_and, if_true, hnext]
      rfl

/-- The request of the ring loses its target among the positions listed. -/
def Ring.losesTarget (limit : Nat) (cars : List ReturnedCar) (ks : List (Fin 8)) (r : Ring) : Bool :=
  decide (r.query.state ≠ .empty ∧ r.query.position ∈ ks ∧
    lostNow limit cars r.query.position (r.slots.get r.query.position) = true)

theorem losesTarget_cons {limit : Nat} {cars : List ReturnedCar} {k : Fin 8} {ks : List (Fin 8)} (hk : k ∉ ks) (r : Ring)
    (slots : Table 8 ModSlot) (hslots : ∀ j, j ≠ k → slots.get j = r.slots.get j)
    (hstays : (lostNow limit cars k (r.slots.get k) && r.asks k) = false) :
    Ring.losesTarget limit cars ks { r with slots := slots } = r.losesTarget limit cars (k :: ks) := by
  unfold Ring.losesTarget
  refine decide_eq_decide.2 (and_congr_right fun hne => ?_)
  by_cases hpos : r.query.position = k
  · refine iff_of_false (fun h => hk (hpos ▸ h.1)) fun h => ?_
    have hasks : r.asks k = true := decide_eq_true ⟨hne, hpos⟩
    rw [hasks, Bool.and_true] at hstays
    have hlost := h.2
    rw [hpos, hstays] at hlost
    cases hlost
  · simp only [List.mem_cons, hpos, false_or, hslots _ hpos]

/-- Every slot's count walked, in position order. -/
theorem walk_all (limit : Nat) (n : Fin 4) (cars : List ReturnedCar) (r : Ring) :
    forAll (allFin 8) (Ring.walk limit n cars) r = ({ r with
        slots := r.slots.mapFin (walked limit cars r.period)
        query := if r.losesTarget limit cars (allFin 8) then Query.reset else r.query
        result := if r.losesTarget limit cars (allFin 8) then r.resultOf n .lost 0 else r.result },
      (allFin 8).flatMap fun k => if lostNow limit cars k (r.slots.get k) then lossOuts n k (r.asks k) else []) := by
  have key (ks : List (Fin 8)) (hks : ks.Nodup) (x : Ring) (outs : List Out) :
      ks.foldl (fun p a => andThen p (Ring.walk limit n cars a)) (x, outs) = ({ x with
          slots := x.slots.mapFin fun k m => if k ∈ ks then walked limit cars x.period k m else m
          query := if x.losesTarget limit cars ks then Query.reset else x.query
          result := if x.losesTarget limit cars ks then x.resultOf n .lost 0 else x.result },
        outs ++ ks.flatMap fun k => if lostNow limit cars k (x.slots.get k) then lossOuts n k (x.asks k) else []) := by
    induction ks generalizing x outs with
    | nil =>
      have hslots : (x.slots.mapFin fun _ m => m) = x.slots := by ext i; simp
      simp [hslots, Ring.losesTarget]
    | cons k ks ih =>
      obtain ⟨hk, hks'⟩ := List.nodup_cons.1 hks
      have hne : ∀ j ∈ ks, j ≠ k := fun j hj h => hk (h ▸ hj)
      have hother : ∀ j, j ≠ k → (x.slots.modify k (walked limit cars x.period k)).get j = x.slots.get j :=
        fun j hj => by simp [Ne.symm hj]
      have hslots : ((x.slots.modify k (walked limit cars x.period k)).mapFin fun i m =>
          if i ∈ ks then walked limit cars x.period i m else m) =
            x.slots.mapFin fun i m => if i ∈ k :: ks then walked limit cars x.period i m else m := by
        refine Table.ext_get fun i => ?_
        by_cases hi : i = k
        · subst hi; simp [hk]
        · simp [hi, Ne.symm hi]
      rw [List.foldl_cons, andThen, walk_eq limit n cars k x _ rfl]
      dsimp only
      rw [ih hks', List.flatMap_cons, List.append_assoc]
      dsimp only
      rw [hslots]
      cases hends : (lostNow limit cars k (x.slots.get k) && x.asks k) with
      | true =>
        have hboth : lostNow limit cars k (x.slots.get k) = true ∧ x.asks k = true := by simpa using hends
        obtain ⟨hempty, hpos⟩ := of_decide_eq_true hboth.2
        have hloses : x.losesTarget limit cars (k :: ks) = true :=
          decide_eq_true ⟨hempty, hpos ▸ List.mem_cons_self, by rw [hpos]; exact hboth.1⟩
        have houts : (ks.flatMap fun j =>
            if lostNow limit cars j ((x.slots.modify k (walked limit cars x.period k)).get j) then lossOuts n j false else []) =
              ks.flatMap fun j => if lostNow limit cars j (x.slots.get j) then lossOuts n j (x.asks j) else [] := by
          refine List.flatMap_congr fun j hj => ?_
          have hasks : x.asks j = false := decide_eq_false fun h => hne j hj (h.2.symm.trans hpos)
          rw [hother j (hne j hj), hasks]
        rw [hloses, ← houts]
        rfl
      | false =>
        have hloses := losesTarget_cons (ks := ks) hk x _ hother hends
        have houts : (ks.flatMap fun j =>
            if lostNow limit cars j ((x.slots.modify k (walked limit cars x.period k)).get j) then lossOuts n j (x.asks j)
            else []) = ks.flatMap fun j => if lostNow limit cars j (x.slots.get j) then lossOuts n j (x.asks j) else [] := by
          refine List.flatMap_congr fun j hj => ?_
          rw [hother j (hne j hj)]
        rw [← hloses, ← houts]
        rfl
  have h := key (allFin 8) (List.nodup_finRange 8) r []
  have hall : ∀ k : Fin 8, k ∈ allFin 8 := fun k => List.mem_finRange k
  simpa only [forAll, hall, if_true, List.nil_append] using h

end Sys2Proof.Machine
end

section
/-! A train's cars handed over, a fault, and the slots filled from an ENUM train (R120, R121, R134, R135, R139). -/

namespace Sys2Proof.Machine

/-! ### What a settlement sends -/

theorem lossOuts_ofRing (n : Fin 4) (k : Fin 8) (b : Bool) : (lossOuts n k b).all Out.ofRing = true := by
  cases b <;> rfl

theorem walkOuts_eq (n : Fin 4) (gone asks : Fin 8 → Bool) (ks : List (Fin 8)) :
    (ks.flatMap fun k => if gone k then lossOuts n k (asks k) else []).all Out.ofRing = true ∧
    (ks.flatMap fun k => if gone k then lossOuts n k (asks k) else []).filterMap Out.event? =
      (ks.flatMap fun k => if gone k then .moduleLost :: (if asks k then [.queryDone] else []) else []) ∧
    (ks.flatMap fun k => if gone k then lossOuts n k (asks k) else []).filterMap Out.moduleReport? =
      ((ks.filter gone).map fun k => { ring := n, position := k, state := .lost, info := none }) ∧
    (ks.flatMap fun k => if gone k then lossOuts n k (asks k) else []).filterMap Out.settlement? = [] := by
  induction ks with
  | nil => exact ⟨rfl, rfl, rfl, rfl⟩
  | cons k ks ih =>
    obtain ⟨hring, hevents, hreports, hsettled⟩ := ih
    simp only [List.flatMap_cons, List.all_append, List.filterMap_append, hring, hevents, hreports, hsettled, List.filter_cons]
    cases gone k with
    | false => exact ⟨rfl, rfl, rfl, rfl⟩
    | true =>
      cases asks k with
      | false => exact ⟨rfl, rfl, rfl, rfl⟩
      | true => exact ⟨rfl, rfl, rfl, rfl⟩

/-- The settlement that a train's cars make at the Composition Unit (R134). -/
def settlementOf (n : Fin 4) (cars : List ReturnedCar) : Settlement :=
  { ring := n, cars := (cars.filter fun c =>
      decide (c.car.kind ≠ .query ∧ c.car.kind ≠ .set ∧ c.car.kind ≠ .probe ∧ c.car.kind ≠ .enum)).map fun c =>
        (c.car, c.accept) }

theorem settlementOut_eq (n : Fin 4) (cars : List ReturnedCar) : settlementOut n cars = .settlement (settlementOf n cars) := by
  have h : (fun c : ReturnedCar => c.car.kind.isContent) = fun c =>
      decide (c.car.kind ≠ .query ∧ c.car.kind ≠ .set ∧ c.car.kind ≠ .probe ∧ c.car.kind ≠ .enum) := by
    funext c
    cases c.car.kind <;> rfl
  rw [settlementOut, settlementOf, h]

/-! ### A train's cars handed over (R134, R135) -/

/-- The request still stands where no car answered it. -/
theorem settleQuery_stands {n : Fin 4} {cars : List ReturnedCar} {r : Ring} (h : r.answerIn cars = none) :
    ((r.settleQuery n cars).1.query.state = .empty ↔ r.query.state = .empty) ∧
    (r.settleQuery n cars).1.query.position = r.query.position ∧
    (r.settleQuery n cars).1.resultOf n .lost 0 = r.resultOf n .lost 0 := by
  rw [settleQuery_eq, h]
  by_cases hwaits : r.query.state = .inFlight ∧ (queryCarOf cars).isSome = true
  · simp [hwaits, Ring.resultOf]
  · simp [hwaits, Ring.resultOf]

theorem asks_of_answer {n : Fin 4} {cars : List ReturnedCar} {r x : Ring} (hx : x.query = (r.settleQuery n cars).1.query)
    (k : Fin 8) : x.asks k =
      decide ((decide (r.query.state ≠ .empty) && (r.answerIn cars).isNone) = true ∧ r.query.position = k) := by
  unfold Ring.asks
  rw [hx]
  cases h : r.answerIn cars with
  | some c => simp [settleQuery_eq, h, Query.reset]
  | none =>
    obtain ⟨hstate, hpos, -⟩ := settleQuery_stands (n := n) h
    simp only [ne_eq, hstate, hpos, Option.isNone_none, Bool.and_true, decide_eq_true_eq]

theorem losesTarget_eq (limit : Nat) (cars : List ReturnedCar) (x : Ring) : x.losesTarget limit cars (allFin 8) =
    ((allFin 8).any fun k => x.asks k && lostNow limit cars k (x.slots.get k)) := by
  rw [Bool.eq_iff_iff, Ring.losesTarget, decide_eq_true_eq, List.any_eq_true]
  constructor
  · rintro ⟨hstate, hmem, hlost⟩
    exact ⟨_, hmem, by rw [hlost, Bool.and_true]; exact decide_eq_true ⟨hstate, rfl⟩⟩
  · rintro ⟨k, hmem, hk⟩
    obtain ⟨hasks, hlost⟩ : x.asks k = true ∧ _ = true := by simpa using hk
    obtain ⟨hstate, rfl⟩ := of_decide_eq_true hasks
    exact ⟨hstate, hmem, hlost⟩

/-- A regular train's cars handed over: the ring and what it sends (R134, R135, R140, R141, R144, R147, R148). -/
theorem handOver_settles (s : State) (p : RingParams) (n : Fin 4) (cars : List ReturnedCar) (r : Ring) :
    ∃ (r' : Ring) (outs : List Out), r.handOver s p n cars = (r', outs) ∧ outs.all Out.ofRing = true ∧
      Settles s n p cars r r' (outs.filterMap Out.event?) (outs.filterMap Out.moduleReport?) ∧
      outs.filterMap Out.settlement? = [settlementOf n cars] := by
  obtain ⟨r1, hr1⟩ : ∃ r1, r1 = (r.settleQuery n cars).1 := ⟨_, rfl⟩
  have hslots : r1.slots = r.slots := by rw [hr1, settleQuery_eq]
  have hperiod : r1.period = r.period := by rw [hr1, settleQuery_eq]
  have hanswered : (r.settleQuery n cars).2 = if (r.answerIn cars).isSome then [.event .queryDone] else [] := by
    rw [settleQuery_eq]
  obtain ⟨x, hx⟩ : ∃ x : Ring, x = { r1 with slots := r1.slots.mapFin (lived s n cars) } := ⟨_, rfl⟩
  have hasks (k : Fin 8) := asks_of_answer (x := x) (r := r) (n := n) (cars := cars) (by rw [hx, hr1]) k
  have hrun : r.handOver s p n cars = ({ x with
        slots := (x.slots.mapFin (walked p.lossLimit cars x.period)).mapFin (rejoined cars)
        query := if x.losesTarget p.lossLimit cars (allFin 8) then Query.reset else x.query
        result := if x.losesTarget p.lossLimit cars (allFin 8) then x.resultOf n .lost 0 else x.result },
      (([.settlement (settlementOf n cars)] ++ (if (r.answerIn cars).isSome then [.event .queryDone] else []) ++
          (slotReports n (fun k => livesNow s n cars k (r1.slots.get k)) .live).map .moduleReport) ++
        (allFin 8).flatMap fun k => if lostNow p.lossLimit cars k (x.slots.get k) then lossOuts n k (x.asks k) else []) ++
        (((allFin 8).filter fun k => backNow cars k ((x.slots.mapFin (walked p.lossLimit cars x.period)).get k)).map fun k =>
          { ring := n, position := k, state := .ready
            info := some ((x.slots.mapFin (walked p.lossLimit cars x.period)).get k).fields }).map .moduleReport) := by
    unfold Ring.handOver
    rw [settlementOut_eq]
    simp only [andThen]
    rw [← hr1, hanswered, goLive_all, ← hx]
    dsimp only
    rw [walk_all, rejoin_all]
  have hlives (k : Fin 8) : livesNow s n cars k (r1.slots.get k) = (slotFate s n p cars r.period k (r.slots.get k)).live := by
    rw [fate_live, hslots]
  have hxslot (k : Fin 8) : x.slots.get k = lived s n cars k (r.slots.get k) := by
    rw [hx, ← hslots]; exact Table.get_mapFin ..
  have hxperiod : x.period = r.period := by rw [hx]; exact hperiod
  have hgone (k : Fin 8) : lostNow p.lossLimit cars k (x.slots.get k) =
      (slotFate s n p cars r.period k (r.slots.get k)).gone := by
    rw [hxslot, fate_gone, lostNow_lived]
  have hwalked (k : Fin 8) : (x.slots.mapFin (walked p.lossLimit cars x.period)).get k =
      walked p.lossLimit cars r.period k (lived s n cars k (r.slots.get k)) := by
    rw [Table.get_mapFin, hxslot, hxperiod]
  obtain ⟨hring, hevents, hreports, hsettled⟩ := walkOuts_eq n
    (fun k => (slotFate s n p cars r.period k (r.slots.get k)).gone) x.asks (allFin 8)
  obtain ⟨stands, hstands⟩ : ∃ b, b = (decide (r.query.state ≠ .empty) && (r.answerIn cars).isNone) := ⟨_, rfl⟩
  rw [← hstands] at hasks
  have hlost : x.losesTarget p.lossLimit cars (allFin 8) =
      (stands && (slotFate s n p cars r.period r.query.position (r.slots.get r.query.position)).gone) := by
    rw [losesTarget_eq, Bool.eq_iff_iff, List.any_eq_true]
    simp only [hasks, hgone, Bool.and_eq_true, decide_eq_true_eq]
    constructor
    · rintro ⟨k, -, ⟨hyes, rfl⟩, hk⟩
      exact ⟨hyes, hk⟩
    · rintro ⟨hyes, hk⟩
      exact ⟨_, List.mem_finRange _, ⟨hyes, rfl⟩, hk⟩
  have hxquery : x.query = (r.settleQuery n cars).1.query := by rw [hx, hr1]
  have hxresult : x.result = (r.settleQuery n cars).1.result := by rw [hx, hr1]
  have hxlost : r.answerIn cars = none → x.resultOf n .lost 0 = r.resultOf n .lost 0 := fun h => by
    rw [← (settleQuery_stands (n := n) h).2.2, hx, hr1]
    rfl
  simp only [hlives, hgone, hwalked, back_eq] at hrun
  rw [hlost] at hrun
  obtain ⟨lost, hlost'⟩ : ∃ b, b =
    (stands && (slotFate s n p cars r.period r.query.position (r.slots.get r.query.position)).gone) := ⟨_, rfl⟩
  have hno : (r.answerIn cars).isSome = true → lost = false := fun h => by
    rw [hlost', hstands]
    cases hanswer : r.answerIn cars with
    | none => simp [hanswer] at h
    | some c => simp
  have hothers (slots : Table 8 ModSlot) (q : Query) (y : QueryResult) :
      ({ x with slots := slots, query := q, result := y } : Ring) = { r with slots := slots, query := q, result := y } := by
    rw [hx, hr1, settleQuery_eq]
  have hquery' : (if lost then Query.reset else x.query) = if (r.answerIn cars).isSome ∨ lost = true then Query.reset
      else if r.query.state = .inFlight ∧ (queryCarOf cars).isSome then { r.query with state := .waiting } else r.query := by
    rw [hxquery, settleQuery_eq]
    cases (r.answerIn cars).isSome <;> cases lost <;> simp
  have hresult' : (if lost then x.resultOf n .lost 0 else x.result) = match r.answerIn cars with
      | some c => r.resultOf n .answered (BitVec.ofNat 32 (le32At c.payload 4))
      | none => if lost then r.resultOf n .lost 0 else r.result := by
    rw [hxresult, settleQuery_eq]
    cases hanswer : r.answerIn cars with
    | some c => rw [hno (by rw [hanswer]; rfl)]; rfl
    | none => rw [hxlost hanswer]
  rw [← hlost', hquery', hresult'] at hrun
  refine ⟨_, _, hrun, ?_, ⟨r.answerIn cars, stands, lost, rfl, hstands, hlost', ?_, ?_, ?_, ?_⟩, ?_⟩
  · rw [List.all_append, List.all_append, hring]
    cases (r.answerIn cars).isSome <;> simp
  · exact hothers _ _ _
  · intro k
    rw [fate_slot_eq, ← hwalked]
    exact Table.get_mapFin ..
  · rw [List.filterMap_append, List.filterMap_append, hevents, event_reports, List.append_nil, List.filterMap_append,
      event_reports, List.append_nil]
    simp only [hasks, decide_eq_true_eq]
    cases (r.answerIn cars).isSome <;> rfl
  · rw [List.filterMap_append, List.filterMap_append, hreports, report_reports, List.filterMap_append, report_reports]
    simp only [walked_fields, lived_fields]
    cases (r.answerIn cars).isSome <;> rfl
  · rw [List.filterMap_append, List.filterMap_append, hsettled]
    cases (r.answerIn cars).isSome <;> simp

end Sys2Proof.Machine
end

section
/-! Returns at a ring: good, failed and missing (R120, R121, R131, R134, R135, R139). -/

namespace Sys2Proof.Machine

/-! ### A fault (R121) -/

theorem fault_faults (p : RingParams) (n : Fin 4) (r : Ring) : ∃ (r' : Ring) (outs : List Out), r.fault p n = (r', outs) ∧
    outs.all Out.ofRing = true ∧ Faults n p r r' (outs.filterMap Out.event?) (outs.filterMap Out.moduleReport?) ∧
    outs.filterMap Out.settlement? = [] := by
  refine ⟨_, _, fault_eq p n r, ?_, ⟨rfl, fun k m hm => ?_, ?_, ?_⟩, ?_⟩
  · simp [ofRing_done]
  · rw [← hm]
    exact faulted_get r k
  · rw [List.filterMap_cons, List.filterMap_append, event_reports, event_done]
    rfl
  · rw [List.filterMap_cons, List.filterMap_append, report_reports, report_done, List.append_nil]
    rfl
  · rw [List.filterMap_cons, List.filterMap_append, settlement_reports, settlement_done]
    rfl

/-! ### The slots filled from an ENUM train (R139) -/

/-- A slot after an ENUM train: filled from its own car, where that was claimed. -/
def filled (cars : List ReturnedCar) (k : Fin 8) (m : ModSlot) : ModSlot :=
  (((cars[k.val]?).filter fun c => c.claimed).map ReturnedCar.slot).getD m

theorem fill_eq (n : Fin 4) (cars : List ReturnedCar) (r : Ring) :
    r.fill n cars = ({ r with slots := r.slots.mapFin (filled cars) },
      ((allFin 8).flatMap fun k => (((cars[k.val]?).filter fun c => c.claimed).toList.map fun c =>
        { ring := n, position := k, state := .ready, info := some c.slot.fields })).map .moduleReport) := by
  rw [List.map_flatMap]
  refine forAll_onSlot (filled cars) (fun k _ => _) (fun k x => ?_) r
  cases hcar : cars[k.val]? with
  | none => simp [filled, hcar, Table.modify]
  | some c =>
    cases hclaimed : c.claimed with
    | false => simp [filled, hcar, hclaimed, Table.modify, Option.filter_some]
    | true => simp [filled, hcar, hclaimed, Table.modify, Option.filter_some, Ring.onSlot, readyOut]

/-! ### A failed or missing train (R135) -/

theorem badReturn_eq (s : State) (p : RingParams) (n : Fin 4) (o : TrainOutcome) (kind : EventKind) (f : Flight) (r : Ring) :
    r.badReturn s p n o kind f = andThen
      (andThen ({ r with flight := none, returnTimer := none, last := o, errors := min (r.errors + 1) 255 }, [.event kind])
        fun x => if x.state = .enumerating then (x, []) else x.handOver s p n f.notAccepted)
      fun x => if p.faultLimit ≤ x.errors then x.fault p n else (x, []) := by
  refine congrArg (fun g => andThen (andThen _ g) _) (funext fun x => ?_)
  cases h : x.state <;> rfl

/-- A failed or missing train at a ring that waits for it: the ring and what it sends. -/
theorem badReturn_goes (s : State) (p : RingParams) (n : Fin 4) (o : TrainOutcome) (kind : EventKind) (f : Flight) {r : Ring}
    (hstate : r.state = .enumerating ∨ r.state = .running) :
    ∃ (r' : Ring) (outs : List Out) (r0 r1 : Ring) (events : List EventKind) (reports : List ModuleReport)
      (more : List EventKind) (leaving : List ModuleReport),
      r.badReturn s p n o kind f = (r', outs) ∧ outs.all Out.ofRing = true ∧
      r0 = { r with flight := none, returnTimer := none, last := o, errors := min (r.errors + 1) 255 } ∧
      (r.state = .enumerating → r1 = r0 ∧ events = [] ∧ reports = []) ∧
      (r.state = .running → Settles s n p f.notAccepted r0 r1 events reports) ∧
      (r0.errors < p.faultLimit → r' = r1 ∧ more = [] ∧ leaving = []) ∧
      (p.faultLimit ≤ r0.errors → Faults n p r1 r' more leaving) ∧
      outs.filterMap Out.event? = kind :: (events ++ more) ∧
      outs.filterMap Out.moduleReport? = reports ++ leaving ∧
      outs.filterMap Out.settlement? = if r.state = .enumerating then [] else [settlementOf n f.notAccepted] := by
  obtain ⟨r0, hr0⟩ : ∃ r0 : Ring, r0 = { r with flight := none, returnTimer := none, last := o, errors := min (r.errors + 1) 255 } :=
    ⟨_, rfl⟩
  have hsettled : ∃ (r1 : Ring) (mid : List Out), (if r0.state = .enumerating then (r0, []) else r0.handOver s p n f.notAccepted) = (r1, mid) ∧ mid.all Out.ofRing = true ∧ r1.errors = r0.errors ∧
      (r.state = .enumerating → r1 = r0 ∧ mid.filterMap Out.event? = [] ∧ mid.filterMap Out.moduleReport? = []) ∧
      (r.state = .running →
        Settles s n p f.notAccepted r0 r1 (mid.filterMap Out.event?) (mid.filterMap Out.moduleReport?)) ∧
      mid.filterMap Out.settlement? = if r.state = .enumerating then [] else [settlementOf n f.notAccepted] := by
    have hsame : r0.state = r.state := by rw [hr0]
    rcases hstate with h | h
    · rw [hsame, h, if_pos rfl]
      exact ⟨r0, [], rfl, rfl, rfl, fun _ => ⟨rfl, rfl, rfl⟩, nofun, rfl⟩
    · obtain ⟨r1, mid, hrun, hring, hsettles, hsettlement⟩ := handOver_settles s p n f.notAccepted r0
      rw [hsame, h, if_neg (by decide)]
      refine ⟨r1, mid, hrun, hring, ?_, nofun, fun _ => hsettles, hsettlement⟩
      obtain ⟨_, _, _, -, -, -, hr1, -⟩ := hsettles
      rw [hr1]
  obtain ⟨r1, mid, hmid, hring, herrors, henum, hrunning, hsettlement⟩ := hsettled
  have hfault : ∃ (r' : Ring) (tail : List Out), (if p.faultLimit ≤ r1.errors then r1.fault p n else (r1, [])) = (r', tail) ∧
      tail.all Out.ofRing = true ∧
      (r0.errors < p.faultLimit → r' = r1 ∧ tail.filterMap Out.event? = [] ∧ tail.filterMap Out.moduleReport? = []) ∧
      (p.faultLimit ≤ r0.errors → Faults n p r1 r' (tail.filterMap Out.event?) (tail.filterMap Out.moduleReport?)) ∧
      tail.filterMap Out.settlement? = [] := by
    rw [herrors]
    split
    · rename_i h
      obtain ⟨r', tail, hrun, hring, hfaults, hsettlement⟩ := fault_faults p n r1
      exact ⟨r', tail, hrun, hring, fun hlt => absurd hlt (by omega), fun _ => hfaults, hsettlement⟩
    · rename_i h
      exact ⟨r1, [], rfl, rfl, fun _ => ⟨rfl, rfl, rfl⟩, fun hle => absurd hle h, rfl⟩
  obtain ⟨r', tail, htail, hring', hstays, hfaults, hnone⟩ := hfault
  refine ⟨r', ([.event kind] ++ mid) ++ tail, r0, r1, _, _, _, _, ?_, ?_, hr0, henum, hrunning, hstays, hfaults, ?_, ?_, ?_⟩
  · rw [badReturn_eq, ← hr0]
    simp only [andThen, hmid, htail]
  · simp [hring, hring']
  · simp
  · simp [List.filterMap_cons]
  · rw [List.filterMap_append, List.filterMap_append, hsettlement, hnone]
    simp

/-! ### The commands -/

theorem trainReturn_run {s : State} {n : Fin 4} {r : Ring} {p : RingParams} {f : Flight} {bs : List Byte}
    (hr : s.rings.get n = r) (hp : s.params.ring.get n = p) (hf : r.flight = some f) (hlen : 4 ≤ bs.length)
    (hseq : BitVec.ofNat 16 (le16At bs 2) = f.seq) :
    trainReturn n bs s =
      s.ringDo n (if f.good bs then r.goodReturn s p n f bs else r.badReturn s p n .checkFail .checkFail f) := by
  have hparams : s.ringParams n = p := hp
  have htaken : ¬ (bs.length < 4 ∨ returnedSeq bs ≠ f.seq) := fun h => h.elim (by omega) fun h => h hseq
  simp only [trainReturn, hr, hparams, Ring.returned, hf, htaken, if_false]

theorem trainReturn_stays {s : State} {n : Fin 4} {r : Ring} {bs : List Byte} (hr : s.rings.get n = r)
    (h : ∀ f, r.flight = some f → bs.length < 4 ∨ returnedSeq bs ≠ f.seq) : exec (.trainReturn n bs) s = .next s := by
  refine goOn_of_nothing (?_ : trainReturn n bs s = s)
  have hstays : r.returned s (s.ringParams n) n bs = (r, []) := by
    unfold Ring.returned
    split
    · rename_i f hf
      exact if_pos (h f hf)
    · rfl
  rw [trainReturn, hr, hstays]
  exact ringDo_same hr

theorem returnTimerExpiry_run {s : State} {n : Fin 4} {r : Ring} {p : RingParams} {f : Flight} (hr : s.rings.get n = r)
    (hp : s.params.ring.get n = p) (hf : r.flight = some f) (htimer : r.returnTimer = some 0) :
    returnTimerExpiry n s = s.ringDo n (r.badReturn s p n .missing .trainMissing f) := by
  have hparams : s.ringParams n = p := hp
  simp only [returnTimerExpiry, hr, hparams, Ring.returnExpiry, hf, htimer, if_true]

theorem returnTimerExpiry_stays {s : State} {n : Fin 4} {r : Ring} (hr : s.rings.get n = r)
    (h : r.flight = none ∨ r.returnTimer ≠ some 0) : exec (.returnTimerExpiry n) s = .next s := by
  refine goOn_of_nothing (?_ : returnTimerExpiry n s = s)
  have hstays : r.returnExpiry s (s.ringParams n) n = (r, []) := by
    unfold Ring.returnExpiry
    split
    · rename_i f hf
      exact if_neg (h.resolve_left (by simp [hf]))
    · rfl
  rw [returnTimerExpiry, hr, hstays]
  exact ringDo_same hr

theorem goodReturn_running (s : State) (p : RingParams) (n : Fin 4) (f : Flight) (bs : List Byte) {r : Ring}
    (h : r.state = .running) : r.goodReturn s p n f bs =
      Ring.handOver s p n (f.returned bs) { r with flight := none, returnTimer := none, last := .good, errors := 0 } := by
  have hstate : ({ r.landed .good with errors := 0 } : Ring).state = .running := h
  unfold Ring.goodReturn
  dsimp only
  split
  · rename_i hne
    rw [hstate] at hne
    cases hne
  · rfl

theorem goodReturn_enumerating (s : State) (p : RingParams) (n : Fin 4) (f : Flight) (bs : List Byte) {r : Ring}
    (h : r.state = .enumerating) : r.goodReturn s p n f bs =
      ({ r with
          flight := none, returnTimer := none, last := .good, errors := 0, state := .running
          slots := r.slots.mapFin (filled (f.returned bs)) },
        (Ring.fill n (f.returned bs) r).2 ++ if (bs.getD 10 0).getLsbD 0 then [.event .excessModules] else []) := by
  have hstate : ({ r.landed .good with errors := 0 } : Ring).state = .enumerating := h
  unfold Ring.goodReturn
  dsimp only
  split
  · simp only [andThen, fill_eq]
    rfl
  · rename_i hne
    exact absurd hstate hne

theorem filled_of_some {cars : List ReturnedCar} {k : Fin 8} {c : ReturnedCar} (hcar : cars[k.val]? = some c) (m : ModSlot) :
    filled cars k m = if c.claimed then c.slot else m := by
  unfold filled
  rw [hcar, Option.filter_some]
  cases c.claimed <;> rfl

/-- Settles O54. -/
theorem returnsAreJudgedAndSettled : Obligations.ReturnsAreJudgedAndSettled := by
  intro s n r p bs failed sent hr hp hsent hfailed
  have hsettlement (cars : List ReturnedCar) : sent cars = [settlementOf n cars] := hsent cars
  have hbad (o : TrainOutcome) (kind : EventKind) (f : Flight) (hstate : r.state = .enumerating ∨ r.state = .running) :
      failed o kind f (commit s (s.ringDo n (r.badReturn s p n o kind f))) := by
    obtain ⟨r', outs, r0, r1, events, reports, more, leaving, hrun, hring, hr0, henum, hrunning, hstays, hfaults, hevents,
      hreports, hsettled⟩ := badReturn_goes s p n o kind f hstate
    rw [hrun]
    refine (hfailed _ _ _ _).2 ⟨(ringDo_frame_of hring).commit, r0, r1, r', events, reports, more, leaving, hr0, henum,
      hrunning, hstays, hfaults, ?_⟩
    rw [commit_rings, commit_mail, ringDo_run s n hring]
    refine ⟨rfl, ?_⟩
    dsimp only
    rw [hsettlement, hevents, hreports, hsettled]
    rfl
  refine ⟨fun type marker body => ⟨length_checkField type marker body, le32At_checkField type marker body⟩,
    fun f => good_iff f bs, fun f c => ⟨mem_notAccepted f c, notAccepted_cars f⟩,
    fun f done car rest at_ hcars hat => by rw [returned_get f bs hcars, hat],
    fun hnone => ⟨trainReturn_stays hr fun f hf => by simp [hnone] at hf, returnTimerExpiry_stays hr (.inl hnone)⟩,
    fun hshort => trainReturn_stays hr fun f hf => .inl hshort,
    fun f hf => ⟨fun hseq => trainReturn_stays hr fun g hg => ?_, fun htimer => returnTimerExpiry_stays hr (.inr htimer),
      fun hlen hseq hgood hstate => ?_, fun htimer hstate => ?_, fun hseq hgood hstate => ?_, fun hseq hgood hstate => ?_⟩⟩
  · rw [hf] at hg
    cases hg
    exact .inr hseq
  · have hrun := trainReturn_run hr hp hf hlen hseq
    rw [hgood, if_neg Bool.false_ne_true] at hrun
    exact ⟨_, congrArg (goOn s) hrun, hbad _ _ _ hstate⟩
  · exact ⟨_, congrArg (goOn s) (returnTimerExpiry_run hr hp hf htimer), hbad _ _ _ hstate⟩
  · have hlen : 4 ≤ bs.length := by
      rw [((good_iff f bs).1 hgood).1, trainSize]
      omega
    have hrun := trainReturn_run hr hp hf hlen hseq
    rw [hgood, if_pos rfl, goodReturn_enumerating s p n f bs hstate, fill_eq] at hrun
    have hexcess : ∀ b : Bool, (if b then [Out.event .excessModules] else []).all Out.ofRing = true ∧
        (if b then [Out.event .excessModules] else []).filterMap Out.event? = (if b then [.excessModules] else []) ∧
        (if b then [Out.event .excessModules] else []).filterMap Out.moduleReport? = [] ∧
        (if b then [Out.event .excessModules] else []).filterMap Out.settlement? = [] := by decide
    obtain ⟨hring, hevents, hreports, hsettled⟩ := hexcess ((bs.getD 10 0).getLsbD 0)
    refine ⟨_, { r with
      flight := none, returnTimer := none, last := .good, errors := 0, state := .running
      slots := r.slots.mapFin (filled (f.returned bs)) }, congrArg (goOn s) hrun,
      (ringDo_frame_of (by rw [List.all_append, all_reports, hring]; rfl)).commit, ?_, rfl, ?_, fun k hnone => ?_,
      fun k c hcar => ⟨fun hclaimed => ?_, fun hclaimed => ?_⟩⟩
    · rw [commit_rings, ringDo_run s n (by rw [List.all_append, all_reports, hring]; rfl)]
      rfl
    · rw [commit_mail, ringDo_run s n (by rw [List.all_append, all_reports, hring]; rfl)]
      simp only [List.filterMap_append, event_reports, report_reports, settlement_reports, hevents, hreports, hsettled,
        List.nil_append, List.append_nil]
      rfl
    · rw [Table.get_mapFin, filled, hnone]
      rfl
    · rw [Table.get_mapFin, filled_of_some hcar, if_neg (by simp [hclaimed])]
    · rw [Table.get_mapFin, filled_of_some hcar, if_pos hclaimed]
      rfl
  · have hlen : 4 ≤ bs.length := by
      rw [((good_iff f bs).1 hgood).1, trainSize]
      omega
    have hrun := trainReturn_run hr hp hf hlen hseq
    rw [hgood, if_pos rfl, goodReturn_running s p n f bs hstate] at hrun
    obtain ⟨r', outs, hover, hring, hsettles, hsettled⟩ := handOver_settles s p n (f.returned bs)
      { r with flight := none, returnTimer := none, last := .good, errors := 0 }
    rw [hover] at hrun
    refine ⟨_, r', _, _, congrArg (goOn s) hrun, (ringDo_frame_of hring).commit, ?_, hsettles, ?_⟩
    · rw [commit_rings, ringDo_run s n hring]
      rfl
    · rw [commit_mail, ringDo_run s n hring, hsettlement, hsettled]
      rfl

end Sys2Proof.Machine
end

section
/-! The assembly of a train as a list of bids taken in their turn (R127 to R129). -/

namespace Sys2Proof.Machine

/-! ### Bids -/

/-- What may put a car into a train: the alert of a position, the query slot, a probe, a channel's frame, a pane's banner, a row of a pane, a pane's clock. -/
inductive Bid where
  | alert (k : Fin 8)
  | query
  | probe (k : Fin 8)
  | frame (ch : Fin 8)
  | banner (k : Fin 8) (p : Fin 4)
  | row (k : Fin 8) (p : Fin 4) (r : Fin 16)
  | clock (k : Fin 8) (p : Fin 4)

/-- The car of a bid on ring n, whose query slot stands as q. -/
def Bid.car (s : State) (n : Fin 4) (q : Query) : Bid → Car
  | .alert k => s.alertCar (ringScreen n k)
  | .query => q.car
  | .probe k => probeCar k
  | .frame ch => s.frameCar ch (framesDue s n ch)
  | .banner k p => s.bannerCar s.comp (paneIx (ringScreen n k) p)
  | .row k p r => s.rowCar s.comp (paneIx (ringScreen n k) p) r
  | .clock k p => clockCar s.comp (paneIx (ringScreen n k) p)

/-- What entering does to the flags of the Composition Unit (R108). -/
def Bid.build (n : Fin 4) : Bid → Comp → Comp
  | .alert k => Comp.buildAlert (ringScreen n k)
  | .banner k p => Comp.buildItem (paneIx (ringScreen n k) p)
  | .row k p r => Comp.buildRow (paneIx (ringScreen n k) p) r
  | .clock k p => Comp.buildItem (paneIx (ringScreen n k) p)
  | .query => id
  | .probe _ => id
  | .frame _ => id

/-- What entering does to the ring (R128, R143, R146). -/
def Bid.enter : Bid → Ring → Ring
  | .query => Ring.carryQuery
  | .probe k => Ring.onSlot k fun m => { m with probePending := false }
  | .frame ch => fun r => { r with chanPtr := ch }
  | .row k _ _ => fun r => { r with screenPtr := k }
  | .alert _ => id
  | .banner _ _ => id
  | .clock _ _ => id

/-- What being passed over does to the ring (R129). -/
def Bid.pass (s : State) (n : Fin 4) : Bid → Ring → Ring
  | .frame ch => Ring.skipFrames (framesDue s n ch)
  | .alert _ => id
  | .query => id
  | .probe _ => id
  | .banner _ _ => id
  | .row _ _ _ => id
  | .clock _ _ => id

/-- A bid taken in its turn (R127). -/
def Assembly.take (s : State) (n : Fin 4) (q : Query) (a : Assembly) (b : Bid) : Assembly :=
  a.offer (b.car s n q) (fun a => { a with comp := b.build n a.comp, ring := b.enter a.ring })
    fun a => { a with ring := b.pass s n a.ring }

/-! ### What no bid changes -/

/-- The Composition Unit as it stands in s but for the flags of its items. -/
structure Reflagged (s : State) (q : Comp) : Prop where
  panes : ∀ i, ∃ item rows, q.panes.get i = { s.comp.panes.get i with item := item, rowItems := rows }
  screens : ∀ sc, ∃ alert, q.screens.get sc = { s.comp.screens.get sc with alert := alert }
  minute : q.minute = s.comp.minute

theorem Reflagged.refl (s : State) : Reflagged s s.comp := ⟨fun _ => ⟨_, _, rfl⟩, fun _ => ⟨_, rfl⟩, rfl⟩

theorem Reflagged.onPane {s : State} {q : Comp} (h : Reflagged s q) (i : Fin 128) {f : Pane → Pane}
    (hf : ∀ p, ∃ item rows, f p = { p with item := item, rowItems := rows }) : Reflagged s (q.onPane i f) := by
  refine ⟨fun j => ?_, h.screens, h.minute⟩
  obtain ⟨item, rows, hj⟩ := h.panes j
  unfold Comp.onPane
  by_cases hij : i = j
  · subst hij
    obtain ⟨item', rows', hp⟩ := hf (q.panes.get i)
    exact ⟨item', rows', by rw [Table.get_modify_self, hp, hj]⟩
  · exact ⟨item, rows, by rw [Table.get_modify_of_ne _ hij, hj]⟩

theorem Reflagged.onScreen {s : State} {q : Comp} (h : Reflagged s q) (sc : Fin 32) (alert : Screen → Item) :
    Reflagged s (q.onScreen sc fun x => { x with alert := alert x }) := by
  refine ⟨h.panes, fun j => ?_, h.minute⟩
  obtain ⟨item, hj⟩ := h.screens j
  unfold Comp.onScreen
  by_cases hij : sc = j
  · subst hij
    exact ⟨_, by rw [Table.get_modify_self, hj]⟩
  · exact ⟨item, by rw [Table.get_modify_of_ne _ hij, hj]⟩

theorem Reflagged.build {s : State} {q : Comp} (h : Reflagged s q) (n : Fin 4) (b : Bid) : Reflagged s (b.build n q) := by
  cases b with
  | alert k => exact h.onScreen _ _
  | banner k p | clock k p => exact h.onPane _ fun x => ⟨_, x.rowItems, rfl⟩
  | row k p r => exact h.onPane _ fun x => ⟨x.item, _, rfl⟩
  | query | probe k | frame ch => exact h

theorem Reflagged.take {s : State} {n : Fin 4} {q : Query} {a : Assembly} (h : Reflagged s a.comp) (b : Bid) :
    Reflagged s (a.take s n q b).comp := by
  unfold Assembly.take Assembly.offer
  split
  · exact h.build n b
  · exact h

/-! ### Candidates offered one after another -/

/-- Candidates are offered where a condition holds that no other candidate of the list changes: those that meet it at the start are taken in their turn. -/
theorem foldl_bids {s : State} {n : Fin 4} {q : Query} {α : Type} {f : Assembly → α → Assembly} {bid : α → Bid}
    {cond : Assembly → α → Bool}
    (hf : ∀ a x, Reflagged s a.comp → f a x = if cond a x then a.take s n q (bid x) else a)
    (hcond : ∀ a x y, Reflagged s a.comp → x ≠ y → cond (a.take s n q (bid x)) y = cond a y)
    {xs : List α} (hxs : xs.Nodup) {a : Assembly} (ha : Reflagged s a.comp) :
    xs.foldl f a = ((xs.filter (cond a)).map bid).foldl (Assembly.take s n q) a := by
  induction xs generalizing a with
  | nil => rfl
  | cons x xs ih =>
    obtain ⟨hx, hxs'⟩ := List.nodup_cons.1 hxs
    rw [List.foldl_cons, hf a x ha, List.filter_cons]
    cases hc : cond a x with
    | false => exact ih hxs' ha
    | true =>
      have hsame : xs.filter (cond (a.take s n q (bid x))) = xs.filter (cond a) :=
        List.filter_congr fun y hy => hcond a x y ha fun h => hx (h ▸ hy)
      have hrest := ih hxs' (ha.take (n := n) (q := q) (bid x))
      rw [hsame] at hrest
      exact hrest

theorem Reflagged.takes {s : State} {n : Fin 4} {q : Query} (bs : List Bid) {a : Assembly} (h : Reflagged s a.comp) :
    Reflagged s (bs.foldl (Assembly.take s n q) a).comp := by
  induction bs generalizing a with
  | nil => exact h
  | cons b bs ih => exact ih (h.take b)

/-- What no bid of a list changes. -/
theorem takes_keep {s : State} {n : Fin 4} {q : Query} {β : Type} (get : Assembly → β) {bs : List Bid}
    (h : ∀ b ∈ bs, ∀ a, Reflagged s a.comp → get (a.take s n q b) = get a) {a : Assembly} (ha : Reflagged s a.comp) :
    get (bs.foldl (Assembly.take s n q) a) = get a := by
  induction bs generalizing a with
  | nil => rfl
  | cons b bs ih =>
    rw [List.foldl_cons, ih (fun c hc => h c (List.mem_cons_of_mem b hc)) (ha.take b), h b List.mem_cons_self a ha]

end Sys2Proof.Machine
end

section
/-! The six groups of a train's candidates as bids (R107, R112, R127 to R129, R143, R146). -/

namespace Sys2Proof.Machine

/-! ### The items a bid builds -/

/-- The pane whose banner or clock item a bid builds. -/
def Bid.item? (n : Fin 4) : Bid → Option (Fin 128)
  | .banner k p => some (paneIx (ringScreen n k) p)
  | .clock k p => some (paneIx (ringScreen n k) p)
  | _ => none

/-- The row item a bid builds. -/
def Bid.row? (n : Fin 4) : Bid → Option (Fin 128 × Fin 16)
  | .row k p r => some (paneIx (ringScreen n k) p, r)
  | _ => none

/-- The screen whose alert item a bid builds. -/
def Bid.alert? (n : Fin 4) : Bid → Option (Fin 32)
  | .alert k => some (ringScreen n k)
  | _ => none

/-- An item built into a car. -/
def builtItem : Item := { dirty := false, flight := true }

theorem build_item (n : Fin 4) (b : Bid) (q : Comp) (i : Fin 128) : ((b.build n q).panes.get i).item =
    if b.item? n = some i then builtItem else (q.panes.get i).item := by
  cases b with
  | banner k p | clock k p =>
    show ((q.panes.modify _ _).get i).item = _
    by_cases h : paneIx (ringScreen n k) p = i
    · subst h
      rw [Table.get_modify_self, if_pos (by rfl)]
      rfl
    · rw [Table.get_modify_of_ne _ h]
      exact (if_neg fun hi => h (Option.some.inj hi)).symm
  | row k p r =>
    show ((q.panes.modify _ _).get i).item = _
    by_cases h : paneIx (ringScreen n k) p = i
    · subst h
      rw [Table.get_modify_self, if_neg nofun]
    · rw [Table.get_modify_of_ne _ h, if_neg nofun]
  | alert k | query | probe k | frame ch => exact (if_neg nofun).symm

theorem build_row (n : Fin 4) (b : Bid) (q : Comp) (i : Fin 128) (r : Fin 16) : ((b.build n q).panes.get i).rowItems.get r =
    if b.row? n = some (i, r) then builtItem else (q.panes.get i).rowItems.get r := by
  cases b with
  | banner k p | clock k p =>
    show ((q.panes.modify _ _).get i).rowItems.get r = _
    by_cases h : paneIx (ringScreen n k) p = i
    · subst h
      rw [Table.get_modify_self, if_neg nofun]
    · rw [Table.get_modify_of_ne _ h, if_neg nofun]
  | row k p r' =>
    show ((q.panes.modify _ _).get i).rowItems.get r = _
    by_cases h : paneIx (ringScreen n k) p = i
    · subst h
      rw [Table.get_modify_self]
      by_cases hr : r' = r
      · subst hr
        rw [if_pos (by rfl)]
        exact Table.get_modify_self ..
      · exact (Table.get_modify_of_ne _ hr _).trans (if_neg fun hi => hr (Prod.mk.inj (Option.some.inj hi)).2).symm
    · rw [Table.get_modify_of_ne _ h]
      exact (if_neg fun hi => h (Prod.mk.inj (Option.some.inj hi)).1).symm
  | alert k | query | probe k | frame ch => exact (if_neg nofun).symm

theorem build_alert (n : Fin 4) (b : Bid) (q : Comp) (sc : Fin 32) : ((b.build n q).screens.get sc).alert =
    if b.alert? n = some sc then builtItem else (q.screens.get sc).alert := by
  cases b with
  | alert k =>
    show ((q.screens.modify _ _).get sc).alert = _
    by_cases h : ringScreen n k = sc
    · subst h
      rw [Table.get_modify_self, if_pos (by rfl)]
      rfl
    · rw [Table.get_modify_of_ne _ h]
      exact (if_neg fun hi => h (Option.some.inj hi)).symm
  | banner k p | clock k p | row k p r | query | probe k | frame ch => exact (if_neg nofun).symm

section
variable {s : State} {n : Fin 4} {q : Query}

/-- A bid taken enters or is passed over. -/
theorem take_comp (a : Assembly) (b : Bid) : (a.take s n q b).comp =
    if (b.car s n q).size ≤ a.space then b.build n a.comp else a.comp := by
  unfold Assembly.take Assembly.offer
  split <;> rfl

theorem take_ring (a : Assembly) (b : Bid) : (a.take s n q b).ring =
    if (b.car s n q).size ≤ a.space then b.enter a.ring else b.pass s n a.ring := by
  unfold Assembly.take Assembly.offer
  split <;> rfl

theorem take_item {a : Assembly} {b : Bid} {i : Fin 128} (h : b.item? n ≠ some i) :
    ((a.take s n q b).comp.panes.get i).item = (a.comp.panes.get i).item := by
  rw [take_comp]
  split
  · rw [build_item, if_neg h]
  · rfl

theorem take_row {a : Assembly} {b : Bid} {i : Fin 128} {r : Fin 16} (h : b.row? n ≠ some (i, r)) :
    ((a.take s n q b).comp.panes.get i).rowItems.get r = (a.comp.panes.get i).rowItems.get r := by
  rw [take_comp]
  split
  · rw [build_row, if_neg h]
  · rfl

theorem take_alert {a : Assembly} {b : Bid} {sc : Fin 32} (h : b.alert? n ≠ some sc) :
    ((a.take s n q b).comp.screens.get sc).alert = (a.comp.screens.get sc).alert := by
  rw [take_comp]
  split
  · rw [build_alert, if_neg h]
  · rfl

end

/-! ### What is offered (R107, R112) -/

theorem waits_eq (x : Item) : x.waits = decide (x = { dirty := true, flight := false }) := by
  obtain ⟨dirty, flight⟩ := x
  cases dirty <;> cases flight <;> rfl

theorem moduleTakes_eq (s : State) (sc : Fin 32) : (s.slotOf sc).taking = moduleTakes s sc := by
  rw [Bool.eq_iff_iff, taking_iff, moduleTakes, decide_eq_true_eq]

section
variable {s : State} {q : Comp}

theorem Reflagged.underAlert (h : Reflagged s q) (sc : Fin 32) :
    (q.screens.get sc).underAlert = (s.comp.screens.get sc).underAlert := by
  obtain ⟨alert, hsc⟩ := h.screens sc
  rw [hsc]

theorem Reflagged.serials (h : Reflagged s q) (sc : Fin 32) :
    (q.screens.get sc).serials = (s.comp.screens.get sc).serials := by
  obtain ⟨alert, hsc⟩ := h.screens sc
  rw [hsc]

theorem Reflagged.screenTakes (h : Reflagged s q) (sc : Fin 32) :
    s.screenTakes q sc = (moduleTakes s sc && !(s.comp.screens.get sc).underAlert) := by
  rw [State.screenTakes, h.underAlert, moduleTakes_eq]

theorem Reflagged.kindActive (h : Reflagged s q) (i : Fin 128) {kind : PaneKind} (hkind : kind ≠ .none) :
    (decide ((q.panes.get i).kind = kind) && (q.panes.get i).active) =
      decide ((s.comp.panes.get i).kind = kind ∧ (s.comp.panes.get i).fitness = .fit) := by
  obtain ⟨item, rows, hi⟩ := h.panes i
  rw [hi, Bool.eq_iff_iff]
  simp only [Pane.active, Bool.and_eq_true, decide_eq_true_eq]
  constructor
  · rintro ⟨hk, -, hf⟩
    exact ⟨hk, hf⟩
  · rintro ⟨hk, hf⟩
    exact ⟨hk, hk ▸ hkind, hf⟩

theorem Reflagged.itemOffered (h : Reflagged s q) (i : Fin 128) {kind : PaneKind} (hkind : kind ≠ .none) :
    s.itemOffered q kind i = (paneTakes s i kind && (q.panes.get i).item.waits) := by
  have hactive := h.kindActive i hkind
  rw [Bool.eq_iff_iff] at hactive ⊢
  simp only [State.itemOffered, paneTakes, h.screenTakes, Bool.and_eq_true] at hactive ⊢
  tauto

theorem Reflagged.rowOffered (h : Reflagged s q) (i : Fin 128) (r : Fin 16) :
    s.rowOffered q i r = (paneTakes s i .board && ((q.panes.get i).rowItems.get r).waits &&
      decide (r.val < (s.comp.panes.get i).rows)) := by
  have hactive := h.kindActive i (kind := .board) nofun
  have hrows : (q.panes.get i).rows = (s.comp.panes.get i).rows := by
    obtain ⟨item, rows, hi⟩ := h.panes i
    rw [hi]
  rw [Bool.eq_iff_iff] at hactive ⊢
  simp only [State.rowOffered, paneTakes, h.screenTakes, hrows, Bool.and_eq_true] at hactive ⊢
  tauto

theorem Reflagged.alertOffered (h : Reflagged s q) (sc : Fin 32) :
    s.alertOffered q sc = ((q.screens.get sc).alert.waits && (s.comp.screens.get sc).underAlert && moduleTakes s sc) := by
  rw [State.alertOffered, h.underAlert, moduleTakes_eq]

theorem Reflagged.dueModules (h : Reflagged s q) (n : Fin 4) (ch : Fin 8) : s.dueModules q n ch = framesDue s n ch := by
  refine List.filter_congr fun k _ => ?_
  have hany : ((allFin 4).any fun p => decide ((q.panes.get (paneIx (ringScreen n k) p)).kind = .reel) &&
        decide ((q.panes.get (paneIx (ringScreen n k) p)).channel = ch) && (q.panes.get (paneIx (ringScreen n k) p)).active) =
      (allFin 4).any fun p => decide ((s.comp.panes.get (paneIx (ringScreen n k) p)).kind = .reel ∧
        (s.comp.panes.get (paneIx (ringScreen n k) p)).fitness = .fit) &&
          decide ((s.comp.panes.get (paneIx (ringScreen n k) p)).channel = ch) := by
    refine congrArg (List.any _) (funext fun p => ?_)
    have hactive := h.kindActive (paneIx (ringScreen n k) p) (kind := .reel) nofun
    have hchannel : (q.panes.get (paneIx (ringScreen n k) p)).channel = (s.comp.panes.get (paneIx (ringScreen n k) p)).channel := by
      obtain ⟨item, rows, hi⟩ := h.panes (paneIx (ringScreen n k) p)
      rw [hi]
    rw [← hactive, hchannel, Bool.and_right_comm]
  have hpanes : ((allFin 4).any fun p => paneTakes s (paneIx (ringScreen n k) p) .reel &&
        decide ((s.comp.panes.get (paneIx (ringScreen n k) p)).channel = ch)) =
      (((allFin 4).any fun p => decide ((s.comp.panes.get (paneIx (ringScreen n k) p)).kind = .reel ∧
          (s.comp.panes.get (paneIx (ringScreen n k) p)).fitness = .fit) &&
            decide ((s.comp.panes.get (paneIx (ringScreen n k) p)).channel = ch)) &&
        (moduleTakes s (ringScreen n k) && !(s.comp.screens.get (ringScreen n k)).underAlert)) := by
    rw [Bool.eq_iff_iff]
    simp only [List.any_eq_true, paneTakes, paneScreen_paneIx, Bool.and_eq_true]
    constructor
    · rintro ⟨p, hp, ⟨⟨hfit, htakes⟩, halert⟩, hch⟩
      exact ⟨⟨p, hp, hfit, hch⟩, htakes, halert⟩
    · rintro ⟨⟨p, hp, hfit, hch⟩, htakes, halert⟩
      exact ⟨p, hp, ⟨⟨hfit, htakes⟩, halert⟩, hch⟩
  rw [State.reelDue, hany, h.screenTakes, h.serials, hpanes]

end

end Sys2Proof.Machine
end

section
/-! The bids of a train in their order, and what they do to the ring (R127 to R129, R142, R143, R146). -/

namespace Sys2Proof.Machine

/-! ### What a bid does to the ring -/

/-- The slot whose probe a bid sends. -/
def Bid.probe? : Bid → Option (Fin 8)
  | .probe k => some k
  | _ => none

/-- The channel a bid shows. -/
def Bid.frame? : Bid → Option (Fin 8)
  | .frame ch => some ch
  | _ => none

/-- The position a row bid is for. -/
def Bid.screen? : Bid → Option (Fin 8)
  | .row k _ _ => some k
  | _ => none

/-- The bid of the query slot. -/
def Bid.asks : Bid → Bool
  | .query => true
  | _ => false

/-- A frame bid that names position k. -/
def Bid.names (s : State) (n : Fin 4) (k : Fin 8) : Bid → Bool
  | .frame ch => decide (k ∈ framesDue s n ch)
  | _ => false

section
variable (s : State) (n : Fin 4) (b : Bid) (r : Ring)

theorem enter_eq : b.enter r = { r with
    chanPtr := b.frame?.getD r.chanPtr, screenPtr := b.screen?.getD r.screenPtr, slots := (b.enter r).slots
    query := if b.asks then { r.query with state := .inFlight, trains := min (r.query.trains + 1) 65535 } else r.query } := by
  cases b <;> rfl

theorem enter_slot (k : Fin 8) : (b.enter r).slots.get k =
    if b.probe? = some k then { r.slots.get k with probePending := false } else r.slots.get k := by
  cases b with
  | probe j =>
    show (r.slots.modify j _).get k = _
    by_cases h : j = k
    · subst h
      rw [Table.get_modify_self]
      exact (if_pos rfl).symm
    · rw [Table.get_modify_of_ne _ h]
      exact (if_neg fun hi => h (Option.some.inj hi)).symm
  | alert j | query | frame j | banner j p | row j p x | clock j p => exact (if_neg nofun).symm

theorem skipFrames_eq (ks : List (Fin 8)) : r.skipFrames ks = { r with slots := (r.skipFrames ks).slots } := by
  refine foldl_keeps (P := fun x : Ring => x = { r with slots := x.slots }) (fun k x hx => ?_) ks rfl
  rw [hx]
  rfl

theorem skipFrames_slot {ks : List (Fin 8)} (hks : ks.Nodup) (k : Fin 8) : (r.skipFrames ks).slots.get k =
    { r.slots.get k with frameSkips := advanced (r.slots.get k).frameSkips (if k ∈ ks then 1 else 0) } := by
  induction ks generalizing r with
  | nil => simp [Ring.skipFrames, advanced]
  | cons j ks ih =>
    obtain ⟨hj, hks'⟩ := List.nodup_cons.1 hks
    have hstep : r.skipFrames (j :: ks) =
        (r.onSlot j fun m => { m with frameSkips := sat16 m.frameSkips }).skipFrames ks := rfl
    rw [hstep, ih _ hks']
    unfold Ring.onSlot
    dsimp only
    by_cases h : j = k
    · subst h
      rw [Table.get_modify_self]
      simp [hj, advanced, sat16]
    · rw [Table.get_modify_of_ne _ h]
      simp [Ne.symm h]

theorem framesDue_nodup (ch : Fin 8) : (framesDue s n ch).Nodup := (List.nodup_finRange 8).filter _

theorem pass_eq : b.pass s n r = { r with slots := (b.pass s n r).slots } := by
  cases b with
  | frame ch => exact skipFrames_eq r _
  | _ => rfl

theorem pass_slot (k : Fin 8) : (b.pass s n r).slots.get k =
    { r.slots.get k with frameSkips := advanced (r.slots.get k).frameSkips (if b.names s n k then 1 else 0) } := by
  cases b with
  | frame ch =>
    have h := skipFrames_slot r (framesDue_nodup s n ch) k
    simp only [Bid.names, decide_eq_true_eq]
    exact h
  | _ => rfl

end

/-- A bid taken leaves what the conditions of the other bids read of the ring. -/
theorem take_pending {s : State} {n : Fin 4} {q : Query} {a : Assembly} {b : Bid} {k : Fin 8} (h : b.probe? ≠ some k) :
    ((a.take s n q b).ring.slots.get k).state = (a.ring.slots.get k).state ∧
    ((a.take s n q b).ring.slots.get k).probePending = (a.ring.slots.get k).probePending := by
  rw [take_ring]
  split
  · rw [enter_slot, if_neg h]
    exact ⟨rfl, rfl⟩
  · rw [pass_slot]
    exact ⟨rfl, rfl⟩

theorem take_query {s : State} {n : Fin 4} {q : Query} {a : Assembly} {b : Bid} (h : b.asks = false) :
    (a.take s n q b).ring.query = a.ring.query := by
  rw [take_ring]
  split
  · rw [enter_eq, h]
    rfl
  · rw [pass_eq]

theorem take_chanPtr {s : State} {n : Fin 4} {q : Query} {a : Assembly} {b : Bid} (h : b.frame? = none) :
    (a.take s n q b).ring.chanPtr = a.ring.chanPtr := by
  rw [take_ring]
  split
  · rw [enter_eq, h]
    rfl
  · rw [pass_eq]

theorem take_screenPtr {s : State} {n : Fin 4} {q : Query} {a : Assembly} {b : Bid} (h : b.screen? = none) :
    (a.take s n q b).ring.screenPtr = a.ring.screenPtr := by
  rw [take_ring]
  split
  · rw [enter_eq, h]
    rfl
  · rw [pass_eq]

/-! ### The groups -/

/-- The bids of the alerts. -/
def alertBids (s : State) (n : Fin 4) : List Bid := ((allFin 8).filter fun k => offersAlert s (ringScreen n k)).map .alert

/-- The bid of the query slot, while it waits. -/
def queryBids (r : Ring) : List Bid := if r.query.state = .waiting then [.query] else []

/-- The bids of the probes. -/
def probeBids (r : Ring) : List Bid :=
  ((allFin 8).filter fun k => decide ((r.slots.get k).state = .lost) && (r.slots.get k).probePending).map .probe

/-- The bids of the frames, after channel ch. -/
def frameBids (s : State) (n : Fin 4) (ch : Fin 8) : List Bid :=
  ((after ch).filter fun ch => decide (framesDue s n ch ≠ [])).map .frame

/-- The bids of the banners or clocks. -/
def itemBids (s : State) (n : Fin 4) (kind : PaneKind) (bid : Fin 8 → Fin 4 → Bid) : List Bid :=
  (allFin 8).flatMap fun k => ((allFin 4).filter fun p => offersItem s (paneIx (ringScreen n k) p) kind).map (bid k)

/-- The bids of the rows, after position k. -/
def rowBids (s : State) (n : Fin 4) (k : Fin 8) : List Bid :=
  (after k).flatMap fun k => (allFin 4).flatMap fun p =>
    ((allFin 16).filter fun row => offersRow s (paneIx (ringScreen n k) p) row).map (.row k p)

/-- The bids of a train, in the six groups of R127. -/
def bids (s : State) (n : Fin 4) (r : Ring) : List Bid :=
  alertBids s n ++ queryBids r ++ probeBids r ++ frameBids s n r.chanPtr ++ itemBids s n .banner .banner ++
    rowBids s n r.screenPtr ++ itemBids s n .clock .clock

/-- The candidates of a train are the cars of its bids. -/
theorem candidates_eq (s : State) (n : Fin 4) (r : Ring) : candidates s n r = (bids s n r).map (Bid.car s n r.query) := by
  unfold candidates bids alertBids probeBids frameBids itemBids rowBids
  simp only [List.map_append, List.map_map, List.map_flatMap]
  have hquery : (queryBids r).map (Bid.car s n r.query) = if r.query.state = .waiting then [r.query.car] else [] := by
    unfold queryBids
    split <;> rfl
  rw [hquery]
  rfl

theorem after_nodup (k : Fin 8) : (after k).Nodup := by
  revert k
  decide

end Sys2Proof.Machine
end

section
/-! The assembly of a train is its bids taken in their turn (R127, R128). -/

namespace Sys2Proof.Machine

variable {s : State} {n : Fin 4} {q : Query} {a : Assembly}

theorem alerts_takes (ha : Reflagged s a.comp) (hflag : ∀ sc, (a.comp.screens.get sc).alert = (s.comp.screens.get sc).alert) :
    a.alerts s n = (alertBids s n).foldl (Assembly.take s n q) a := by
  have hrun := foldl_bids (q := q) (bid := .alert) (cond := fun a k => s.alertOffered a.comp (ringScreen n k))
    (f := fun a k => if s.alertOffered a.comp (ringScreen n k) then
      a.offer (s.alertCar (ringScreen n k)) (Assembly.onComp (Comp.buildAlert (ringScreen n k))) id else a)
    (fun a k _ => rfl) (fun a x y ha hne => ?_) (List.nodup_finRange 8) ha
  · have hfilter : (allFin 8).filter (fun k => s.alertOffered a.comp (ringScreen n k)) =
        (allFin 8).filter fun k => offersAlert s (ringScreen n k) :=
      List.filter_congr fun k _ => by rw [ha.alertOffered, hflag, waits_eq]; rfl
    rw [← allFin, hfilter] at hrun
    exact hrun
  · have hother : (Bid.alert x).alert? n ≠ some (ringScreen n y) := fun h => by
      have hscreen := (ringScreen_eq_iff n x _).1 (Option.some.inj h)
      exact hne (hscreen.2.trans ((ringScreen_eq_iff n y _).1 rfl).2.symm)
    rw [(ha.take _).alertOffered, ha.alertOffered, take_alert hother]

theorem query_takes (hquery : a.ring.query = q) : (match a.ring.query.state with
      | .waiting => a.offer a.ring.query.car (Assembly.onRing Ring.carryQuery) id
      | _ => a) = (queryBids a.ring).foldl (Assembly.take s n q) a := by
  unfold queryBids
  subst hquery
  cases h : a.ring.query.state with
  | waiting => rw [if_pos rfl]; rfl
  | empty | inFlight => rfl

theorem probes_takes (ha : Reflagged s a.comp) :
    (allFin 8).foldl (fun a k => if decide ((a.ring.slots.get k).state = .lost) && (a.ring.slots.get k).probePending then
        a.offer (probeCar k) (Assembly.onRing (Ring.onSlot k fun m => { m with probePending := false })) id else a) a =
      (probeBids a.ring).foldl (Assembly.take s n q) a :=
  foldl_bids (q := q) (bid := .probe)
    (cond := fun a k => decide ((a.ring.slots.get k).state = .lost) && (a.ring.slots.get k).probePending)
    (fun a k _ => rfl) (fun a x y ha hne => by
      obtain ⟨hstate, hpending⟩ := take_pending (s := s) (n := n) (q := q) (a := a) (b := .probe x) (k := y)
        fun h => hne (Option.some.inj h)
      rw [hstate, hpending]) (List.nodup_finRange 8) ha

theorem frames_takes (ha : Reflagged s a.comp) :
    a.frames s n = (frameBids s n a.ring.chanPtr).foldl (Assembly.take s n q) a :=
  foldl_bids (q := q) (bid := .frame) (cond := fun _ ch => decide (framesDue s n ch ≠ []))
    (fun a ch ha => by
      rw [ha.dueModules]
      cases hdue : framesDue s n ch with
      | nil => rfl
      | cons k ks =>
        have htake : a.take s n q (.frame ch) = a.offer (s.frameCar ch (framesDue s n ch))
            (Assembly.onRing fun r => { r with chanPtr := ch }) (Assembly.onRing (Ring.skipFrames (framesDue s n ch))) := rfl
        rw [if_pos (by simp), htake, hdue])
    (fun _ _ _ _ _ => rfl) (after_nodup a.ring.chanPtr) ha

/-- The pairs of a position and a pane, in order. -/
theorem foldl_pairs {σ : Type} (f : σ → Fin 8 → Fin 4 → σ) (ks : List (Fin 8)) (ps : List (Fin 4)) (a : σ) :
    ks.foldl (fun a k => ps.foldl (fun a p => f a k p) a) a = (ks ×ˢ ps).foldl (fun a x => f a x.1 x.2) a := by
  show _ = (ks.flatMap fun k => ps.map (Prod.mk k)).foldl _ a
  rw [List.foldl_flatMap]
  simp only [List.foldl_map]

theorem paneOf_inj {x y : Fin 8 × Fin 4} (h : paneIx (ringScreen n x.1) x.2 = paneIx (ringScreen n y.1) y.2) : x = y := by
  obtain ⟨hscreen, hpane⟩ := (paneIx_eq_iff _ _ _ _).1 h
  have hpos := ((ringScreen_eq_iff n x.1 _).1 hscreen).2
  exact Prod.ext (hpos.trans ((ringScreen_eq_iff n y.1 _).1 rfl).2.symm) hpane

theorem itemBids_eq (s : State) (n : Fin 4) (kind : PaneKind) (bid : Fin 8 → Fin 4 → Bid) : itemBids s n kind bid =
    ((allFin 8 ×ˢ allFin 4).filter fun x => offersItem s (paneIx (ringScreen n x.1) x.2) kind).map fun x => bid x.1 x.2 := by
  show _ = (((allFin 8).flatMap fun k => (allFin 4).map (Prod.mk k)).filter _).map _
  rw [List.filter_flatMap, List.map_flatMap]
  simp only [List.filter_map, List.map_map]
  rfl

theorem rowBids_eq (s : State) (n : Fin 4) (ptr : Fin 8) : rowBids s n ptr =
    ((after ptr ×ˢ allFin 4 ×ˢ allFin 16).filter fun x => offersRow s (paneIx (ringScreen n x.1) x.2.1) x.2.2).map
      fun x => .row x.1 x.2.1 x.2.2 := by
  show _ = (((after ptr).flatMap fun k => ((allFin 4).flatMap fun p => (allFin 16).map (Prod.mk p)).map (Prod.mk k)).filter _).map _
  simp only [List.filter_flatMap, List.map_flatMap, List.filter_map, List.map_map]
  rfl

/-- The banner or clock of one pane offered. -/
def offerItem (s : State) (n : Fin 4) (kind : PaneKind) (car : Comp → Fin 128 → Car) (a : Assembly) (k : Fin 8) (p : Fin 4) :
    Assembly :=
  if s.itemOffered a.comp kind (paneIx (ringScreen n k) p) then
    a.offer (car a.comp (paneIx (ringScreen n k) p)) (Assembly.onComp (Comp.buildItem (paneIx (ringScreen n k) p))) id
  else a

theorem items_takes {kind : PaneKind} {car : Comp → Fin 128 → Car} {bid : Fin 8 → Fin 4 → Bid} (ha : Reflagged s a.comp)
    (hkind : kind ≠ .none)
    (hflag : ∀ i, (s.comp.panes.get i).kind = kind → (a.comp.panes.get i).item = (s.comp.panes.get i).item)
    (htake : ∀ (a : Assembly) k p, Reflagged s a.comp → a.offer (car a.comp (paneIx (ringScreen n k) p))
      (Assembly.onComp (Comp.buildItem (paneIx (ringScreen n k) p))) id = a.take s n q (bid k p))
    (hitem : ∀ k p, (bid k p).item? n = some (paneIx (ringScreen n k) p)) :
    a.items s n kind car = (itemBids s n kind bid).foldl (Assembly.take s n q) a := by
  have hrun := foldl_bids (q := q) (bid := fun x : Fin 8 × Fin 4 => bid x.1 x.2)
    (cond := fun a x => s.itemOffered a.comp kind (paneIx (ringScreen n x.1) x.2))
    (f := fun a x => offerItem s n kind car a x.1 x.2)
    (fun a x ha => by rw [offerItem, htake a x.1 x.2 ha]) (fun a x y ha hne => ?_)
    ((List.nodup_finRange 8).product (List.nodup_finRange 4)) ha
  · have hfilter : ((allFin 8 ×ˢ allFin 4).filter fun x => s.itemOffered a.comp kind (paneIx (ringScreen n x.1) x.2)).map
        (fun x => bid x.1 x.2) = itemBids s n kind bid := by
      have hcond : (allFin 8 ×ˢ allFin 4).filter (fun x => s.itemOffered a.comp kind (paneIx (ringScreen n x.1) x.2)) =
          (allFin 8 ×ˢ allFin 4).filter fun x => offersItem s (paneIx (ringScreen n x.1) x.2) kind := by
        refine List.filter_congr fun x _ => ?_
        rw [ha.itemOffered _ hkind, offersItem, waits_eq]
        by_cases h : (s.comp.panes.get (paneIx (ringScreen n x.1) x.2)).kind = kind
        · rw [hflag _ h]
        · simp [paneTakes, h]
      rw [hcond, itemBids_eq]
    rw [← allFin, ← allFin, hfilter] at hrun
    rw [← hrun, ← foldl_pairs (offerItem s n kind car)]
    rfl
  · have hother : (bid x.1 x.2).item? n ≠ some (paneIx (ringScreen n y.1) y.2) := fun h => by
      rw [hitem] at h
      exact hne (paneOf_inj (Option.some.inj h))
    rw [(ha.take _).itemOffered _ hkind, ha.itemOffered _ hkind, take_item hother]

/-- A row's car does not depend on the flags. -/
theorem Reflagged.rowCar {c : Comp} (h : Reflagged s c) (i : Fin 128) (r : Fin 16) : s.rowCar c i r = s.rowCar s.comp i r := by
  obtain ⟨item, rows, hi⟩ := h.panes i
  unfold State.rowCar
  rw [hi]
  rfl

theorem Reflagged.bannerCar {c : Comp} (h : Reflagged s c) (i : Fin 128) : s.bannerCar c i = s.bannerCar s.comp i := by
  obtain ⟨item, rows, hi⟩ := h.panes i
  unfold State.bannerCar
  rw [hi]

theorem Reflagged.clockCar {c : Comp} (h : Reflagged s c) (i : Fin 128) : clockCar c i = Machine.clockCar s.comp i := by
  obtain ⟨item, rows, hi⟩ := h.panes i
  unfold Machine.clockCar
  rw [hi, h.minute]

theorem banners_takes (ha : Reflagged s a.comp)
    (hflag : ∀ i, (s.comp.panes.get i).kind = .banner → (a.comp.panes.get i).item = (s.comp.panes.get i).item) :
    a.items s n .banner s.bannerCar = (itemBids s n .banner .banner).foldl (Assembly.take s n q) a :=
  items_takes (bid := .banner) ha (by decide) hflag (fun a k p ha => by rw [ha.bannerCar]; rfl) fun _ _ => rfl

theorem clocks_takes (ha : Reflagged s a.comp)
    (hflag : ∀ i, (s.comp.panes.get i).kind = .clock → (a.comp.panes.get i).item = (s.comp.panes.get i).item) :
    a.items s n .clock clockCar = (itemBids s n .clock .clock).foldl (Assembly.take s n q) a :=
  items_takes (bid := .clock) ha (by decide) hflag (fun a k p ha => by rw [ha.clockCar]; rfl) fun _ _ => rfl

/-- One row of a pane offered. -/
def offerRow (s : State) (n : Fin 4) (a : Assembly) (x : Fin 8 × Fin 4 × Fin 16) : Assembly :=
  if s.rowOffered a.comp (paneIx (ringScreen n x.1) x.2.1) x.2.2 then
    a.offer (s.rowCar a.comp (paneIx (ringScreen n x.1) x.2.1) x.2.2)
      (fun a => (a.onComp (Comp.buildRow (paneIx (ringScreen n x.1) x.2.1) x.2.2)).onRing fun g => { g with screenPtr := x.1 }) id
  else a

theorem rows_eq (a : Assembly) : a.rows s n =
    (after a.ring.screenPtr ×ˢ allFin 4 ×ˢ allFin 16).foldl (offerRow s n) a := by
  have hpane (k : Fin 8) (p : Fin 4) (a : Assembly) :
      a.rowsOf s k (paneIx (ringScreen n k) p) = (allFin 16).foldl (fun a r => offerRow s n a (k, p, r)) a := rfl
  show (after a.ring.screenPtr).foldl (fun a k => (allFin 4).foldl (fun a p => a.rowsOf s k (paneIx (ringScreen n k) p)) a) a =
    ((after a.ring.screenPtr).flatMap fun k => ((allFin 4).flatMap fun p => (allFin 16).map (Prod.mk p)).map (Prod.mk k)).foldl
      (offerRow s n) a
  simp only [hpane, List.map_flatMap, List.map_map, List.foldl_flatMap, List.foldl_map, Function.comp_def]

theorem rows_takes (ha : Reflagged s a.comp) (hflag : ∀ i, (a.comp.panes.get i).rowItems = (s.comp.panes.get i).rowItems) :
    a.rows s n = (rowBids s n a.ring.screenPtr).foldl (Assembly.take s n q) a := by
  have hrun := foldl_bids (q := q) (bid := fun x : Fin 8 × Fin 4 × Fin 16 => .row x.1 x.2.1 x.2.2)
    (cond := fun a x => s.rowOffered a.comp (paneIx (ringScreen n x.1) x.2.1) x.2.2) (f := offerRow s n)
    (fun a x ha => by rw [offerRow, ha.rowCar]; rfl) (fun a x y ha hne => ?_)
    ((after_nodup a.ring.screenPtr).product ((List.nodup_finRange 4).product (List.nodup_finRange 16))) ha
  · rw [rows_eq]
    refine hrun.trans ?_
    have hcond : (after a.ring.screenPtr ×ˢ allFin 4 ×ˢ allFin 16).filter
          (fun x => s.rowOffered a.comp (paneIx (ringScreen n x.1) x.2.1) x.2.2) =
        (after a.ring.screenPtr ×ˢ allFin 4 ×ˢ allFin 16).filter
          fun x => offersRow s (paneIx (ringScreen n x.1) x.2.1) x.2.2 := by
      refine List.filter_congr fun x _ => ?_
      rw [ha.rowOffered, offersRow, waits_eq, hflag]
    rw [← allFin, ← allFin, hcond, rowBids_eq]
  · have hother : Bid.row? n (.row x.1 x.2.1 x.2.2) ≠ some (paneIx (ringScreen n y.1) y.2.1, y.2.2) := fun h => by
      obtain ⟨hpane, hrow⟩ := Prod.mk.inj (Option.some.inj h)
      have hxy := paneOf_inj (n := n) (x := (x.1, x.2.1)) (y := (y.1, y.2.1)) hpane
      obtain ⟨hk, hp⟩ := Prod.mk.inj hxy
      exact hne (Prod.ext hk (Prod.ext hp hrow))
    rw [(ha.take _).rowOffered, ha.rowOffered, take_row hother]

/-! ### The whole assembly -/

theorem mem_itemBids {kind : PaneKind} {bid : Fin 8 → Fin 4 → Bid} {b : Bid} (h : b ∈ itemBids s n kind bid) :
    ∃ k p, b = bid k p ∧ (s.comp.panes.get (paneIx (ringScreen n k) p)).kind = kind := by
  obtain ⟨k, -, hk⟩ := List.mem_flatMap.1 h
  obtain ⟨p, hp, rfl⟩ := List.mem_map.1 hk
  have hoffers := (List.mem_filter.1 hp).2
  simp only [offersItem, paneTakes, Bool.and_eq_true, decide_eq_true_eq] at hoffers
  exact ⟨k, p, rfl, hoffers.1.1.1.1⟩

theorem mem_rowBids {ptr : Fin 8} {b : Bid} (h : b ∈ rowBids s n ptr) : ∃ k p r, b = .row k p r := by
  obtain ⟨k, -, hk⟩ := List.mem_flatMap.1 h
  obtain ⟨p, -, hp⟩ := List.mem_flatMap.1 hk
  obtain ⟨r, -, rfl⟩ := List.mem_map.1 hp
  exact ⟨k, p, r, rfl⟩

/-- A train in assembly with nothing in it yet. -/
def freshTrain (s : State) (budget : Nat) (r : Ring) : Assembly :=
  { ring := r, comp := s.comp, cars := [], space := budget - 20 }

theorem controls_eq (a : Assembly) : a.controls =
    (allFin 8).foldl (fun a k => if decide ((a.ring.slots.get k).state = .lost) && (a.ring.slots.get k).probePending then
        a.offer (probeCar k) (Assembly.onRing (Ring.onSlot k fun m => { m with probePending := false })) id else a)
      ((queryBids a.ring).foldl (Assembly.take s n a.ring.query) a) := by
  rw [← query_takes rfl]
  rfl

theorem mem_alertBids {b : Bid} (h : b ∈ alertBids s n) : ∃ k, b = .alert k := by
  obtain ⟨k, -, rfl⟩ := List.mem_map.1 h
  exact ⟨k, rfl⟩

theorem mem_queryBids {r : Ring} {b : Bid} (h : b ∈ queryBids r) : b = .query := by
  unfold queryBids at h
  split at h
  · exact List.mem_singleton.1 h
  · cases h

theorem mem_probeBids {r : Ring} {b : Bid} (h : b ∈ probeBids r) : ∃ k, b = .probe k := by
  obtain ⟨k, -, rfl⟩ := List.mem_map.1 h
  exact ⟨k, rfl⟩

theorem mem_frameBids {ptr : Fin 8} {b : Bid} (h : b ∈ frameBids s n ptr) : ∃ ch, b = .frame ch := by
  obtain ⟨k, -, rfl⟩ := List.mem_map.1 h
  exact ⟨k, rfl⟩

/-- The bids before the banners build no item of a pane and move no screen pointer. -/
theorem early_bids {r : Ring} {ptr : Fin 8} {b : Bid}
    (h : b ∈ alertBids s n ++ queryBids r ++ probeBids r ++ frameBids s n ptr) :
    b.item? n = none ∧ b.row? n = none ∧ b.screen? = none := by
  simp only [List.mem_append] at h
  rcases h with ((h | h) | h) | h
  · obtain ⟨k, rfl⟩ := mem_alertBids h
    exact ⟨rfl, rfl, rfl⟩
  · rw [mem_queryBids h]
    exact ⟨rfl, rfl, rfl⟩
  · obtain ⟨k, rfl⟩ := mem_probeBids h
    exact ⟨rfl, rfl, rfl⟩
  · obtain ⟨ch, rfl⟩ := mem_frameBids h
    exact ⟨rfl, rfl, rfl⟩

theorem assemble_eq (s : State) (n : Fin 4) (budget : Nat) (r : Ring) :
    assemble s n budget r s.comp = (bids s n r).foldl (Assembly.take s n r.query) (freshTrain s budget r) := by
  obtain ⟨a, ha⟩ : ∃ a, a = freshTrain s budget r := ⟨_, rfl⟩
  have hcomp : a.comp = s.comp := by rw [ha]; rfl
  have hring : a.ring = r := by rw [ha]; rfl
  have halike : Reflagged s a.comp := hcomp ▸ Reflagged.refl s
  have hafter (bs : List Bid) : Reflagged s (bs.foldl (Assembly.take s n r.query) a).comp := halike.takes bs
  have halerts : a.alerts s n = (alertBids s n).foldl (Assembly.take s n r.query) a :=
    alerts_takes halike fun sc => by rw [hcomp]
  have hring1 : ((alertBids s n).foldl (Assembly.take s n r.query) a).ring = r := by
    rw [takes_keep Assembly.ring (fun b hb a _ => ?_) halike, hring]
    obtain ⟨k, rfl⟩ := mem_alertBids hb
    rw [take_ring]
    split <;> rfl
  have hslots2 : ((alertBids s n ++ queryBids r).foldl (Assembly.take s n r.query) a).ring.slots = r.slots := by
    rw [takes_keep (fun a => a.ring.slots) (fun b hb a _ => ?_) halike, hring]
    rw [take_ring]
    rcases List.mem_append.1 hb with hb | hb
    · obtain ⟨k, rfl⟩ := mem_alertBids hb
      split <;> rfl
    · rw [mem_queryBids hb]
      split <;> rfl
  have hprobes : probeBids ((alertBids s n ++ queryBids r).foldl (Assembly.take s n r.query) a).ring = probeBids r := by
    unfold probeBids
    rw [hslots2]
  have hcontrols : (a.alerts s n).controls =
      (alertBids s n ++ queryBids r ++ probeBids r).foldl (Assembly.take s n r.query) a := by
    rw [controls_eq (s := s) (n := n), halerts, hring1, ← List.foldl_append, probes_takes (q := r.query) (n := n) (hafter _),
      hprobes, ← List.foldl_append]
  have hchan : ((alertBids s n ++ queryBids r ++ probeBids r).foldl (Assembly.take s n r.query) a).ring.chanPtr = r.chanPtr := by
    rw [takes_keep (fun a => a.ring.chanPtr) (fun b hb a _ => take_chanPtr ?_) halike, hring]
    simp only [List.mem_append] at hb
    rcases hb with (hb | hb) | hb
    · obtain ⟨k, rfl⟩ := mem_alertBids hb
      rfl
    · rw [mem_queryBids hb]
      rfl
    · obtain ⟨k, rfl⟩ := mem_probeBids hb
      rfl
  have hframes : (a.alerts s n).controls.frames s n =
      (alertBids s n ++ queryBids r ++ probeBids r ++ frameBids s n r.chanPtr).foldl (Assembly.take s n r.query) a := by
    rw [hcontrols, frames_takes (q := r.query) (hafter _), hchan, ← List.foldl_append]
  have hbanners : ((a.alerts s n).controls.frames s n).items s n .banner s.bannerCar =
      (alertBids s n ++ queryBids r ++ probeBids r ++ frameBids s n r.chanPtr ++ itemBids s n .banner .banner).foldl
        (Assembly.take s n r.query) a := by
    rw [hframes, banners_takes (q := r.query) (hafter _) (fun i _ => ?_), ← List.foldl_append]
    rw [takes_keep (fun a => (a.comp.panes.get i).item) (fun b hb a _ => take_item ?_) halike, hcomp]
    rw [(early_bids hb).1]
    exact nofun
  have hscreen : ((alertBids s n ++ queryBids r ++ probeBids r ++ frameBids s n r.chanPtr ++ itemBids s n .banner .banner).foldl
      (Assembly.take s n r.query) a).ring.screenPtr = r.screenPtr := by
    rw [takes_keep (fun a => a.ring.screenPtr) (fun b hb a _ => take_screenPtr ?_) halike, hring]
    rcases List.mem_append.1 hb with hb | hb
    · exact (early_bids hb).2.2
    · obtain ⟨k, p, rfl, -⟩ := mem_itemBids hb
      rfl
  have hrows : (((a.alerts s n).controls.frames s n).items s n .banner s.bannerCar).rows s n =
      (alertBids s n ++ queryBids r ++ probeBids r ++ frameBids s n r.chanPtr ++ itemBids s n .banner .banner ++
        rowBids s n r.screenPtr).foldl (Assembly.take s n r.query) a := by
    rw [hbanners, rows_takes (q := r.query) (hafter _) (fun i => Table.ext_get fun row => ?_), hscreen, ← List.foldl_append]
    rw [takes_keep (fun a => (a.comp.panes.get i).rowItems.get row) (fun b hb a _ => take_row ?_) halike, hcomp]
    rcases List.mem_append.1 hb with hb | hb
    · rw [(early_bids hb).2.1]
      exact nofun
    · obtain ⟨k, p, rfl, -⟩ := mem_itemBids hb
      exact nofun
  have hall : assemble s n budget r s.comp =
      ((((a.alerts s n).controls.frames s n).items s n .banner s.bannerCar).rows s n).items s n .clock clockCar := by
    rw [ha]
    rfl
  rw [hall, hrows, clocks_takes (q := r.query) (hafter _) (fun i hclock => ?_), ← List.foldl_append, ha]
  · rfl
  · rw [takes_keep (fun a => (a.comp.panes.get i).item) (fun b hb a _ => take_item ?_) halike, hcomp]
    rcases List.mem_append.1 hb with hb | hb
    · rcases List.mem_append.1 hb with hb | hb
      · rw [(early_bids hb).1]
        exact nofun
      · obtain ⟨k, p, rfl, hbanner⟩ := mem_itemBids hb
        intro h
        rw [← Option.some.inj h, hbanner] at hclock
        cases hclock
    · obtain ⟨k, p, row, rfl⟩ := mem_rowBids hb
      exact nofun

end Sys2Proof.Machine
end

section
/-! What the bids of a train leave: its cars, its pointers, its probes and skips, and the flags of the items built (R108, R127 to R129, R142, R143, R146). -/

namespace Sys2Proof.Machine

/-! ### The bids that enter and those passed over -/

/-- The bids that enter a train with some space left (R127). -/
def entering (car : Bid → Car) : Nat → List Bid → List Bid
  | _, [] => []
  | space, b :: bs => if (car b).size ≤ space then b :: entering car (space - (car b).size) bs else entering car space bs

/-- The bids passed over for size (R127). -/
def passing (car : Bid → Car) : Nat → List Bid → List Bid
  | _, [] => []
  | space, b :: bs => if (car b).size ≤ space then passing car (space - (car b).size) bs else b :: passing car space bs

section
variable (car : Bid → Car)

theorem entering_cars (space : Nat) (bs : List Bid) : (entering car space bs).map car = fitting space (bs.map car) := by
  induction bs generalizing space with
  | nil => rfl
  | cons b bs ih =>
    unfold entering
    rw [List.map_cons, fitting]
    split
    · rw [List.map_cons, ih]
    · exact ih space

theorem entering_sublist (space : Nat) (bs : List Bid) : (entering car space bs).Sublist bs := by
  induction bs generalizing space with
  | nil => exact .slnil
  | cons b bs ih =>
    unfold entering
    split
    · exact (ih _).cons_cons b
    · exact (ih _).cons b

/-- The cars of the bids passed over are the candidates that are not in the train. -/
theorem passing_cars {space : Nat} {bs : List Bid} (hbs : (bs.map car).Nodup) :
    (passing car space bs).map car = (bs.map car).filter fun c => decide (c ∉ fitting space (bs.map car)) := by
  induction bs generalizing space with
  | nil => rfl
  | cons b bs ih =>
    rw [List.map_cons, List.nodup_cons] at hbs
    obtain ⟨hb, hbs⟩ := hbs
    have hsub (sp : Nat) : ∀ c ∈ fitting sp (bs.map car), c ∈ bs.map car := by
      rw [← entering_cars]
      exact ((entering_sublist car sp bs).map car).subset
    unfold passing
    rw [List.map_cons, fitting]
    by_cases hfits : (car b).size ≤ space
    · rw [if_pos hfits, if_pos hfits, List.filter_cons_of_neg (by simp), ih hbs]
      refine List.filter_congr fun c hc => ?_
      have hne : c ≠ car b := fun h => hb (h ▸ hc)
      simp [hne]
    · rw [if_neg hfits, if_neg hfits, List.filter_cons_of_pos (by simpa using fun h => hb (hsub space _ h)), List.map_cons,
        ih hbs]

end

/-! ### The cars of bids -/

section
variable (s : State) (n : Fin 4) (q : Query)

/-- The position a destination names. -/
def positionOf (dest : BitVec 8) : Fin 8 := ((allFin 8).find? fun k => decide (onePosition k = dest)).getD 0

@[simp] theorem positionOf_onePosition (k : Fin 8) : positionOf (onePosition k) = k := by
  revert k
  decide

/-- The bid a car belongs to. -/
def Bid.ofCar (c : Car) : Bid :=
  match c.kind with
  | .alert => .alert (positionOf c.dest)
  | .query => .query
  | .set => .query
  | .probe => .probe (positionOf c.dest)
  | .frame => .frame c.channel
  | .banner => .banner (positionOf c.dest) c.pane
  | .row => .row (positionOf c.dest) c.pane c.row
  | .clock => .clock (positionOf c.dest) c.pane
  | .enum => .query

theorem ringScreen_pos (k : Fin 8) : screenPos (ringScreen n k) = k := ((ringScreen_eq_iff n k _).1 rfl).2.symm

theorem ofCar_banner (c : Comp) (i : Fin 128) : Bid.ofCar (s.bannerCar c i) = .banner (screenPos (paneScreen i)) (paneNo i) := by
  show Bid.banner (positionOf (onePosition _)) _ = _
  rw [positionOf_onePosition]
  rfl

theorem ofCar_clock (c : Comp) (i : Fin 128) : Bid.ofCar (clockCar c i) = .clock (screenPos (paneScreen i)) (paneNo i) := by
  show Bid.clock (positionOf (onePosition _)) _ = _
  rw [positionOf_onePosition]
  rfl

theorem ofCar_row (c : Comp) (i : Fin 128) (r : Fin 16) :
    Bid.ofCar (s.rowCar c i r) = .row (screenPos (paneScreen i)) (paneNo i) r := by
  show Bid.row (positionOf (onePosition _)) _ _ = _
  rw [positionOf_onePosition]
  rfl

theorem ofCar_alert (sc : Fin 32) : Bid.ofCar (s.alertCar sc) = .alert (screenPos sc) := by
  show Bid.alert (positionOf (onePosition _)) = _
  rw [positionOf_onePosition]

theorem ofCar_probe (k : Fin 8) : Bid.ofCar (probeCar k) = .probe k := by
  show Bid.probe (positionOf (onePosition _)) = _
  rw [positionOf_onePosition]

theorem ofCar_query : Bid.ofCar q.car = .query := by
  have hkind : q.car.kind = .query ∨ q.car.kind = .set := by
    unfold Query.car plainCar
    cases q.isSet
    · exact .inl rfl
    · exact .inr rfl
  unfold Bid.ofCar
  rcases hkind with h | h
  · rw [h]
  · rw [h]

/-- A car tells its bid. -/
theorem ofCar_car (b : Bid) : Bid.ofCar (b.car s n q) = b := by
  cases b with
  | alert k => exact (ofCar_alert s _).trans (by rw [ringScreen_pos])
  | query => exact ofCar_query q
  | probe k => exact ofCar_probe k
  | frame ch => rfl
  | banner k p => exact (ofCar_banner s _ _).trans (by rw [paneScreen_paneIx, ringScreen_pos, paneNo_paneIx])
  | row k p r => exact (ofCar_row s _ _ _).trans (by rw [paneScreen_paneIx, ringScreen_pos, paneNo_paneIx])
  | clock k p => exact (ofCar_clock _ _).trans (by rw [paneScreen_paneIx, ringScreen_pos, paneNo_paneIx])

theorem car_injective : Function.Injective (Bid.car s n q) :=
  Function.LeftInverse.injective (ofCar_car s n q)

/-- A car is among those of some bids exactly where its bid is. -/
theorem mem_cars {c : Car} {b : Bid} (hb : Bid.ofCar c = b) (hcar : b.car s n q = c) (bs : List Bid) :
    c ∈ bs.map (Bid.car s n q) ↔ b ∈ bs := by
  rw [List.mem_map]
  constructor
  · rintro ⟨x, hx, rfl⟩
    rw [ofCar_car] at hb
    exact hb ▸ hx
  · intro h
    exact ⟨b, h, hcar⟩

end

/-! ### The flags after the bids -/

section
variable {s : State} {n : Fin 4} {q : Query}

theorem takes_space (bs : List Bid) (a : Assembly) : (bs.foldl (Assembly.take s n q) a).cars =
    a.cars ++ fitting a.space (bs.map (Bid.car s n q)) := by
  induction bs generalizing a with
  | nil => simp [fitting]
  | cons b bs ih =>
    rw [List.foldl_cons, ih, List.map_cons, fitting]
    unfold Assembly.take Assembly.offer
    by_cases h : (b.car s n q).size ≤ a.space
    · rw [if_pos h, if_pos h]
      simp
    · rw [if_neg h, if_neg h]

theorem take_space (a : Assembly) (b : Bid) : (a.take s n q b).space =
    if (b.car s n q).size ≤ a.space then a.space - (b.car s n q).size else a.space := by
  unfold Assembly.take Assembly.offer
  split <;> rfl

theorem entering_cons (car : Bid → Car) (space : Nat) (b : Bid) (bs : List Bid) : entering car space (b :: bs) =
    if (car b).size ≤ space then b :: entering car (space - (car b).size) bs else entering car space bs := rfl

theorem passing_cons (car : Bid → Car) (space : Nat) (b : Bid) (bs : List Bid) : passing car space (b :: bs) =
    if (car b).size ≤ space then passing car (space - (car b).size) bs else b :: passing car space bs := rfl

/-- What entering alone changes: the value got follows the bids that enter. -/
theorem takes_follow {β : Type} (get : Assembly → β) (step : β → Bid → β)
    (henter : ∀ (a : Assembly) b, (b.car s n q).size ≤ a.space → get (a.take s n q b) = step (get a) b)
    (hpass : ∀ (a : Assembly) b, ¬ (b.car s n q).size ≤ a.space → get (a.take s n q b) = get a) (bs : List Bid) (a : Assembly) :
    get (bs.foldl (Assembly.take s n q) a) = (entering (Bid.car s n q) a.space bs).foldl step (get a) := by
  induction bs generalizing a with
  | nil => rfl
  | cons b bs ih =>
    rw [List.foldl_cons, ih, entering_cons, take_space]
    by_cases h : (b.car s n q).size ≤ a.space
    · rw [if_pos h, if_pos h, List.foldl_cons, henter a b h]
    · rw [if_neg h, if_neg h, hpass a b h]

/-- What being passed over alone changes: the value got follows the bids passed over. -/
theorem takes_follow_passing {β : Type} (get : Assembly → β) (step : β → Bid → β)
    (henter : ∀ (a : Assembly) b, (b.car s n q).size ≤ a.space → get (a.take s n q b) = get a)
    (hpass : ∀ (a : Assembly) b, ¬ (b.car s n q).size ≤ a.space → get (a.take s n q b) = step (get a) b) (bs : List Bid)
    (a : Assembly) :
    get (bs.foldl (Assembly.take s n q) a) = (passing (Bid.car s n q) a.space bs).foldl step (get a) := by
  induction bs generalizing a with
  | nil => rfl
  | cons b bs ih =>
    rw [List.foldl_cons, ih, passing_cons, take_space]
    by_cases h : (b.car s n q).size ≤ a.space
    · rw [if_pos h, if_pos h, henter a b h]
    · rw [if_neg h, if_neg h, List.foldl_cons, hpass a b h]

/-- A flag set by some of the bids. -/
theorem foldl_set {β : Type} (set : Bid → Bool) (y : β) (bs : List Bid) (x : β) :
    bs.foldl (fun x b => if set b then y else x) x = if bs.any set then y else x := by
  induction bs generalizing x with
  | nil => rfl
  | cons b bs ih =>
    rw [List.foldl_cons, ih, List.any_cons]
    cases set b <;> cases bs.any set <;> rfl

/-- A pointer moved by some of the bids. -/
theorem foldl_pointer {β : Type} (move : Bid → Option β) (bs : List Bid) (x : β) :
    bs.foldl (fun x b => (move b).getD x) x = (bs.filterMap move).getLast?.getD x := by
  induction bs generalizing x with
  | nil => rfl
  | cons b bs ih =>
    rw [List.foldl_cons, ih, List.filterMap_cons]
    cases h : move b with
    | none => rfl
    | some y =>
      dsimp only
      rw [List.getLast?_cons]
      rfl

/-- A count advanced by some of the bids. -/
theorem foldl_advanced (test : Bid → Bool) (bs : List Bid) (x : Nat) :
    bs.foldl (fun x b => advanced x (if test b then 1 else 0)) x = advanced x (bs.countP test) := by
  induction bs generalizing x with
  | nil => rfl
  | cons b bs ih =>
    rw [List.foldl_cons, ih, List.countP_cons]
    cases test b with
    | false => rfl
    | true =>
      unfold advanced
      by_cases h : bs.countP test = 0
      · simp [h]
      · simp [h]
        omega

theorem takes_item (bs : List Bid) (a : Assembly) (i : Fin 128) :
    ((bs.foldl (Assembly.take s n q) a).comp.panes.get i).item =
      if (entering (Bid.car s n q) a.space bs).any (fun b => decide (b.item? n = some i)) then builtItem
      else (a.comp.panes.get i).item := by
  rw [takes_follow (fun a => (a.comp.panes.get i).item) (fun x b => if decide (b.item? n = some i) then builtItem else x)
    (fun a b h => by rw [take_comp, if_pos h, build_item]; simp only [decide_eq_true_eq])
    (fun a b h => by rw [take_comp, if_neg h]), foldl_set]

theorem takes_row (bs : List Bid) (a : Assembly) (i : Fin 128) (r : Fin 16) :
    ((bs.foldl (Assembly.take s n q) a).comp.panes.get i).rowItems.get r =
      if (entering (Bid.car s n q) a.space bs).any (fun b => decide (b.row? n = some (i, r))) then builtItem
      else (a.comp.panes.get i).rowItems.get r := by
  rw [takes_follow (fun a => (a.comp.panes.get i).rowItems.get r)
    (fun x b => if decide (b.row? n = some (i, r)) then builtItem else x)
    (fun a b h => by rw [take_comp, if_pos h, build_row]; simp only [decide_eq_true_eq])
    (fun a b h => by rw [take_comp, if_neg h]), foldl_set]

theorem takes_alert (bs : List Bid) (a : Assembly) (sc : Fin 32) :
    ((bs.foldl (Assembly.take s n q) a).comp.screens.get sc).alert =
      if (entering (Bid.car s n q) a.space bs).any (fun b => decide (b.alert? n = some sc)) then builtItem
      else (a.comp.screens.get sc).alert := by
  rw [takes_follow (fun a => (a.comp.screens.get sc).alert) (fun x b => if decide (b.alert? n = some sc) then builtItem else x)
    (fun a b h => by rw [take_comp, if_pos h, build_alert]; simp only [decide_eq_true_eq])
    (fun a b h => by rw [take_comp, if_neg h]), foldl_set]

/-! ### The ring after the bids -/

theorem takes_chanPtr (bs : List Bid) (a : Assembly) : (bs.foldl (Assembly.take s n q) a).ring.chanPtr =
    ((entering (Bid.car s n q) a.space bs).filterMap Bid.frame?).getLast?.getD a.ring.chanPtr := by
  rw [takes_follow (fun a => a.ring.chanPtr) (fun x b => b.frame?.getD x) (fun a b h => by rw [take_ring, if_pos h, enter_eq])
    (fun a b h => by rw [take_ring, if_neg h, pass_eq]), foldl_pointer]

theorem takes_screenPtr (bs : List Bid) (a : Assembly) : (bs.foldl (Assembly.take s n q) a).ring.screenPtr =
    ((entering (Bid.car s n q) a.space bs).filterMap Bid.screen?).getLast?.getD a.ring.screenPtr := by
  rw [takes_follow (fun a => a.ring.screenPtr) (fun x b => b.screen?.getD x) (fun a b h => by rw [take_ring, if_pos h, enter_eq])
    (fun a b h => by rw [take_ring, if_neg h, pass_eq]), foldl_pointer]

/-- A slot after the bids: its probe sent, and its skips counted. -/
theorem takes_slot (bs : List Bid) (a : Assembly) (k : Fin 8) : (bs.foldl (Assembly.take s n q) a).ring.slots.get k =
    { a.ring.slots.get k with
      probePending := if (entering (Bid.car s n q) a.space bs).any (fun b => decide (b.probe? = some k)) then false
        else (a.ring.slots.get k).probePending
      frameSkips := advanced (a.ring.slots.get k).frameSkips ((passing (Bid.car s n q) a.space bs).countP (Bid.names s n k)) } := by
  have hpending := takes_follow (s := s) (n := n) (q := q) (fun a => (a.ring.slots.get k).probePending)
    (fun x b => if decide (b.probe? = some k) then false else x)
    (fun a b h => by
      rw [take_ring, if_pos h, enter_slot]
      simp only [decide_eq_true_eq]
      split <;> rfl)
    (fun a b h => by rw [take_ring, if_neg h, pass_slot]) bs a
  have hskips := takes_follow_passing (s := s) (n := n) (q := q) (fun a => (a.ring.slots.get k).frameSkips)
    (fun x b => advanced x (if b.names s n k then 1 else 0))
    (fun a b h => by
      rw [take_ring, if_pos h, enter_slot]
      split <;> rfl)
    (fun a b h => by rw [take_ring, if_neg h, pass_slot]) bs a
  have hrest : ∃ pending skips, (bs.foldl (Assembly.take s n q) a).ring.slots.get k =
      { a.ring.slots.get k with probePending := pending, frameSkips := skips } := by
    refine foldl_keeps (P := fun x : Assembly => ∃ pending skips, x.ring.slots.get k =
      { a.ring.slots.get k with probePending := pending, frameSkips := skips }) (fun b x hx => ?_) bs ⟨_, _, rfl⟩
    obtain ⟨pending, skips, hx⟩ := hx
    rw [take_ring]
    split
    · rw [enter_slot]
      split
      · exact ⟨_, _, by rw [hx]⟩
      · exact ⟨_, _, hx⟩
    · rw [pass_slot]
      exact ⟨_, _, by rw [hx]⟩
  rw [foldl_set] at hpending
  rw [foldl_advanced] at hskips
  obtain ⟨pending, skips, hslot⟩ := hrest
  rw [hslot] at hpending hskips ⊢
  rw [← hpending, ← hskips]

/-- The ring after the bids but for its pointers, slots and request. -/
theorem takes_ring (bs : List Bid) (a : Assembly) : ∃ chan screen slots query,
    (bs.foldl (Assembly.take s n q) a).ring =
      { a.ring with chanPtr := chan, screenPtr := screen, slots := slots, query := query } := by
  refine foldl_keeps (P := fun x : Assembly => ∃ chan screen slots query, x.ring =
    { a.ring with chanPtr := chan, screenPtr := screen, slots := slots, query := query }) (fun b x hx => ?_) bs
    ⟨_, _, _, _, rfl⟩
  obtain ⟨chan, screen, slots, query, hx⟩ := hx
  rw [take_ring]
  split
  · exact ⟨_, _, _, _, by rw [enter_eq, hx]⟩
  · exact ⟨_, _, _, _, by rw [pass_eq, hx]⟩

/-- The request of the ring after bids among which there is no double: carried where its bid enters. -/
theorem takes_query {bs : List Bid} (hbs : bs.Nodup) (a : Assembly) : (bs.foldl (Assembly.take s n q) a).ring.query =
    if (entering (Bid.car s n q) a.space bs).any Bid.asks then
      { a.ring.query with state := .inFlight, trains := min (a.ring.query.trains + 1) 65535 } else a.ring.query := by
  have hstep := takes_follow (s := s) (n := n) (q := q) (fun a => a.ring.query)
    (fun x b => if b.asks then { x with state := .inFlight, trains := min (x.trains + 1) 65535 } else x)
    (fun a b h => by rw [take_ring, if_pos h, enter_eq]) (fun a b h => by rw [take_ring, if_neg h, pass_eq]) bs a
  refine hstep.trans ?_
  have hnodup := hbs.sublist (entering_sublist (Bid.car s n q) a.space bs)
  generalize entering (Bid.car s n q) a.space bs = es at hnodup
  have hnone (es : List Bid) (h : Bid.query ∉ es) (x : Query) :
      es.foldl (fun x b => if b.asks then { x with state := .inFlight, trains := min (x.trains + 1) 65535 } else x) x = x := by
    induction es with
    | nil => rfl
    | cons b es ih =>
      have hb : b.asks = false := by
        cases b with
        | query => exact absurd List.mem_cons_self h
        | _ => rfl
      rw [List.foldl_cons, hb]
      exact ih fun hmem => h (List.mem_cons_of_mem b hmem)
  induction es with
  | nil => rfl
  | cons b es ih =>
    obtain ⟨hb, hes⟩ := List.nodup_cons.1 hnodup
    rw [List.foldl_cons, List.any_cons]
    cases b with
    | query => exact hnone es hb _
    | _ => exact ih hes

end

end Sys2Proof.Machine
end

section
/-! The order of a train's cars, and the ring and flags after it has been sent (R125 to R129, R131, R142, R143, R146). -/

namespace Sys2Proof.Machine

/-! ### The order of the bids (R127) -/

section
variable {s : State} {n : Fin 4} {q : Query}

/-- The group of a bid's car. -/
def Bid.rank (s : State) (n : Fin 4) (q : Query) (b : Bid) : Nat := (b.car s n q).kind.code

/-- A list of bids without doubles, in the order of the groups up to m. -/
structure RankedTo (s : State) (n : Fin 4) (q : Query) (m : Nat) (bs : List Bid) : Prop where
  nodup : bs.Nodup
  sorted : bs.Pairwise fun b c => b.rank s n q ≤ c.rank s n q
  bound : ∀ b ∈ bs, b.rank s n q ≤ m

theorem RankedTo.nil (m : Nat) : RankedTo s n q m [] := ⟨.nil, .nil, nofun⟩

/-- A further group of bids. -/
theorem RankedTo.append {m m' r : Nat} {bs cs : List Bid} (h : RankedTo s n q m bs) (hcs : cs.Nodup)
    (hr : ∀ c ∈ cs, c.rank s n q = r) (hlt : m < r) (hle : r ≤ m') : RankedTo s n q m' (bs ++ cs) := by
  have hbefore : ∀ b ∈ bs, ∀ c ∈ cs, b.rank s n q < c.rank s n q := fun b hb c hc => by
    have := h.bound b hb
    have := hr c hc
    omega
  refine ⟨List.nodup_append'.2 ⟨h.nodup, hcs, fun b hb hc => absurd (hbefore b hb b hc) (by omega)⟩,
    List.pairwise_append.2 ⟨h.sorted, ?_, fun b hb c hc => (hbefore b hb c hc).le⟩, fun b hb => ?_⟩
  · refine List.pairwise_of_forall_mem_list fun b hb c hc => ?_
    rw [hr b hb, hr c hc]
  · rcases List.mem_append.1 hb with hb | hb
    · have := h.bound b hb
      omega
    · have := hr b hb
      omega

theorem query_code (q : Query) : q.car.kind.code = 2 ∨ q.car.kind.code = 3 := by
  unfold Query.car plainCar
  cases q.isSet
  · exact .inl rfl
  · exact .inr rfl

/-- The bids of a train are without doubles and in the order of the groups. -/
theorem bids_ranked (s : State) (n : Fin 4) (r : Ring) : RankedTo s n r.query 8 (bids s n r) := by
  have hfin (m : Nat) : (allFin m).Nodup := List.nodup_finRange m
  have halerts : RankedTo s n r.query 1 (alertBids s n) := by
    have h := (RankedTo.nil (s := s) (n := n) (q := r.query) 0).append (cs := alertBids s n) (r := 1) (m' := 1)
      (((hfin 8).filter _).map fun _ _ h => Bid.alert.inj h) (fun c hc => by
        obtain ⟨k, rfl⟩ := mem_alertBids hc
        rfl) (by omega) (by omega)
    exact h
  have hquery : RankedTo s n r.query 3 (alertBids s n ++ queryBids r) := by
    refine halerts.append (r := r.query.car.kind.code) ?_ (fun c hc => by rw [mem_queryBids hc]; rfl) ?_ ?_
    · unfold queryBids
      split
      · exact List.nodup_singleton _
      · exact .nil
    · rcases query_code r.query with h | h
      · omega
      · omega
    · rcases query_code r.query with h | h
      · omega
      · omega
  have hprobes := hquery.append (cs := probeBids r) (r := 4) (m' := 4) (((hfin 8).filter _).map fun _ _ h => Bid.probe.inj h)
    (fun c hc => by
      obtain ⟨k, rfl⟩ := mem_probeBids hc
      rfl) (by omega) (by omega)
  have hframes := hprobes.append (cs := frameBids s n r.chanPtr) (r := 5) (m' := 5)
    (((after_nodup _).filter _).map fun _ _ h => Bid.frame.inj h) (fun c hc => by
      obtain ⟨ch, rfl⟩ := mem_frameBids hc
      rfl) (by omega) (by omega)
  have hbanners := hframes.append (cs := itemBids s n .banner .banner) (r := 6) (m' := 6) (by
      rw [itemBids_eq]
      refine (((hfin 8).product (hfin 4)).filter _).map fun x y h => ?_
      obtain ⟨hk, hp⟩ := Bid.banner.inj h
      exact Prod.ext hk hp) (fun c hc => by
      obtain ⟨k, p, rfl, -⟩ := mem_itemBids hc
      rfl) (by omega) (by omega)
  have hrows := hbanners.append (cs := rowBids s n r.screenPtr) (r := 7) (m' := 7) (by
      rw [rowBids_eq]
      refine (((after_nodup _).product ((hfin 4).product (hfin 16))).filter _).map fun x y h => ?_
      obtain ⟨hk, hp, hr⟩ := Bid.row.inj h
      exact Prod.ext hk (Prod.ext hp hr)) (fun c hc => by
      obtain ⟨k, p, x, rfl⟩ := mem_rowBids hc
      rfl) (by omega) (by omega)
  exact hrows.append (r := 8) (by
      rw [itemBids_eq]
      refine (((hfin 8).product (hfin 4)).filter _).map fun x y h => ?_
      obtain ⟨hk, hp⟩ := Bid.clock.inj h
      exact Prod.ext hk hp) (fun c hc => by
      obtain ⟨k, p, rfl, -⟩ := mem_itemBids hc
      rfl) (by omega) (by omega)

end

/-! ### The cars that fit (R126, R127) -/

theorem fitting_sublist (space : Nat) (cars : List Car) : (fitting space cars).Sublist cars := by
  induction cars generalizing space with
  | nil => exact .slnil
  | cons c cars ih =>
    unfold fitting
    split
    · exact (ih _).cons_cons c
    · exact (ih _).cons c

theorem fitting_size (space : Nat) (cars : List Car) : carsSize (fitting space cars) ≤ space := by
  induction cars generalizing space with
  | nil => exact Nat.zero_le _
  | cons c cars ih =>
    unfold fitting
    split
    · have hrest := ih (space - c.size)
      have hsize : carsSize (c :: fitting (space - c.size) cars) = c.size + carsSize (fitting (space - c.size) cars) := by
        simp [carsSize]
      omega
    · exact ih space

theorem fitting_train {s : State} {n : Fin 4} {r : Ring} {budget : Nat} {cars : List Car}
    (hcars : cars = fitting (budget - 20) (candidates s n r)) :
    (20 ≤ budget → trainSize cars ≤ budget) ∧ (cars.Pairwise fun a b => a.kind.code ≤ b.kind.code) ∧
    (candidates s n r = [] → cars = [] ∧ trainSize cars = 20) := by
  subst hcars
  refine ⟨fun h => ?_, ?_, fun h => ?_⟩
  · have := fitting_size (budget - 20) (candidates s n r)
    rw [trainSize]
    omega
  · refine List.Pairwise.sublist (fitting_sublist _ _) ?_
    rw [candidates_eq]
    exact List.pairwise_map.2 (bids_ranked s n r).sorted
  · rw [h]
    exact ⟨rfl, rfl⟩

end Sys2Proof.Machine
end

section
/-! A ring's boundary (R124 to R129, R131, R142, R143, R146). -/

namespace Sys2Proof.Machine

/-! ### The ring's boundary before the train (R125, R143, R146) -/

/-- A slot at a boundary: its probe due where it is LOST a multiple of 32 periods (R143). -/
def ModSlot.probed (period : BitVec 16) (m : ModSlot) : ModSlot :=
  if m.state = .lost ∧ (period + 1 - m.lossPeriod).toNat % 32 = 0 then { m with probePending := true } else m

theorem countPeriod_eq (g : Ring) : g.countPeriod = { g with
    period := g.period + 1, slots := g.slots.map (ModSlot.probed g.period) } := rfl

theorem probesMarked_map (g : Ring) : g.probesMarked (g.slots.map (ModSlot.probed g.period)) := by
  intro k m hm
  rw [Table.get_map, hm]
  rfl

/-- The ring with its period counted and its request judged for timeout. -/
def Ring.counted (p : RingParams) (n : Fin 4) (g : Ring) : Ring := { g with
  period := g.period + 1, slots := g.slots.map (ModSlot.probed g.period)
  query := if g.outOfTime p then Query.reset else g.query
  result := if g.outOfTime p then g.resultOf n .timeout 0 else g.result }

theorem judgeTimeout_eq (p : RingParams) (n : Fin 4) (g : Ring) : g.countPeriod.judgeTimeout p n =
    (g.counted p n, if g.outOfTime p then [.event .queryDone] else []) := by
  have hdue : (g.countPeriod.query.state = .waiting ∧
      p.queryTimeout < (g.countPeriod.period - g.countPeriod.query.start).toNat) = (g.outOfTime p = true) := by
    rw [Ring.outOfTime, Bool.and_eq_true, decide_eq_true_eq, decide_eq_true_eq]
    rfl
  unfold Ring.judgeTimeout Ring.counted
  simp only [hdue]
  cases h : g.outOfTime p with
  | false => rfl
  | true =>
    have hwaiting : g.countPeriod.query.state = .waiting := (hdue.symm ▸ h : _ ∧ _).1
    have hne : ¬ g.countPeriod.query.state = .empty := by rw [hwaiting]; nofun
    rw [if_pos rfl, endQuery_eq, if_neg hne, if_neg hne, if_neg hne]
    rfl

/-! ### The cars as bids -/

section
variable {s : State} {n : Fin 4} {q : Query}

theorem any_eq_mem {es : List Bid} {test : Bid → Bool} {b : Bid} (h : ∀ x, test x = true ↔ x = b) :
    es.any test = true ↔ b ∈ es := by
  rw [List.any_eq_true]
  constructor
  · rintro ⟨x, hx, ht⟩
    exact (h x).1 ht ▸ hx
  · intro hb
    exact ⟨b, hb, (h b).2 rfl⟩

theorem item?_iff {b : Bid} {i : Fin 128} : b.item? n = some i ↔ screenRing (paneScreen i) = n ∧
    (b = .banner (screenPos (paneScreen i)) (paneNo i) ∨ b = .clock (screenPos (paneScreen i)) (paneNo i)) := by
  have hpane (k : Fin 8) (p : Fin 4) : some (paneIx (ringScreen n k) p) = some i ↔
      screenRing (paneScreen i) = n ∧ k = screenPos (paneScreen i) ∧ p = paneNo i := by
    rw [Option.some_inj]
    conv_lhs => rw [← paneIx_paneScreen i]
    rw [paneIx_eq_iff, ringScreen_eq_iff, and_assoc]
  cases b with
  | banner k p | clock k p => simpa [Bid.item?] using hpane k p
  | _ => simp [Bid.item?]

theorem row?_iff {b : Bid} {i : Fin 128} {r : Fin 16} : b.row? n = some (i, r) ↔ screenRing (paneScreen i) = n ∧
    b = .row (screenPos (paneScreen i)) (paneNo i) r := by
  cases b with
  | row k p x =>
    simp only [Bid.row?, Option.some_inj, Prod.mk.injEq, Bid.row.injEq]
    conv_lhs => rw [← paneIx_paneScreen i]
    rw [paneIx_eq_iff, ringScreen_eq_iff]
    tauto
  | _ => simp [Bid.row?]

theorem alert?_iff {b : Bid} {sc : Fin 32} : b.alert? n = some sc ↔ screenRing sc = n ∧ b = .alert (screenPos sc) := by
  cases b with
  | alert k =>
    simp only [Bid.alert?, Option.some_inj, Bid.alert.injEq]
    exact ringScreen_eq_iff n k sc
  | _ => simp [Bid.alert?]

theorem ringScreen_of {sc : Fin 32} (h : screenRing sc = n) : ringScreen n (screenPos sc) = sc :=
  (ringScreen_eq_iff _ _ _).2 ⟨h, rfl⟩

theorem pane_of {i : Fin 128} (h : screenRing (paneScreen i) = n) :
    paneIx (ringScreen n (screenPos (paneScreen i))) (paneNo i) = i := by
  rw [ringScreen_of h, paneIx_paneScreen]

theorem any_item (es : List Bid) (i : Fin 128) : es.any (fun b => decide (b.item? n = some i)) = true ↔
    screenRing (paneScreen i) = n ∧
      (s.bannerCar s.comp i ∈ es.map (Bid.car s n q) ∨ clockCar s.comp i ∈ es.map (Bid.car s n q)) := by
  by_cases hring : screenRing (paneScreen i) = n
  · have hbanner := mem_cars s n q (ofCar_banner s s.comp i) (congrArg (s.bannerCar s.comp) (pane_of hring)) es
    have hclock := mem_cars s n q (ofCar_clock s.comp i) (congrArg (clockCar s.comp) (pane_of hring)) es
    rw [hbanner, hclock, List.any_eq_true]
    simp only [decide_eq_true_eq, item?_iff, hring, true_and]
    constructor
    · rintro ⟨b, hb, rfl | rfl⟩
      · exact .inl hb
      · exact .inr hb
    · rintro (h | h)
      · exact ⟨_, h, .inl rfl⟩
      · exact ⟨_, h, .inr rfl⟩
  · simp [item?_iff, hring]

theorem any_row (es : List Bid) (i : Fin 128) (r : Fin 16) : es.any (fun b => decide (b.row? n = some (i, r))) = true ↔
    screenRing (paneScreen i) = n ∧ s.rowCar s.comp i r ∈ es.map (Bid.car s n q) := by
  by_cases hring : screenRing (paneScreen i) = n
  · rw [mem_cars s n q (ofCar_row s s.comp i r) (congrArg (s.rowCar s.comp · r) (pane_of hring)) es,
      and_iff_right hring]
    exact any_eq_mem fun x => by rw [decide_eq_true_eq, row?_iff, and_iff_right hring]
  · simp [row?_iff, hring]

theorem any_alert (es : List Bid) (sc : Fin 32) : es.any (fun b => decide (b.alert? n = some sc)) = true ↔
    screenRing sc = n ∧ s.alertCar sc ∈ es.map (Bid.car s n q) := by
  by_cases hring : screenRing sc = n
  · rw [mem_cars s n q (ofCar_alert s sc) (congrArg s.alertCar (ringScreen_of hring)) es, and_iff_right hring]
    exact any_eq_mem fun x => by rw [decide_eq_true_eq, alert?_iff, and_iff_right hring]
  · simp [alert?_iff, hring]

theorem any_probe (es : List Bid) (k : Fin 8) : es.any (fun b => decide (b.probe? = some k)) = true ↔
    probeCar k ∈ es.map (Bid.car s n q) := by
  rw [mem_cars s n q (ofCar_probe k) rfl es]
  refine any_eq_mem fun x => ?_
  cases x <;> simp [Bid.probe?]

theorem any_asks (es : List Bid) : es.any Bid.asks = true ↔ q.car ∈ es.map (Bid.car s n q) := by
  rw [mem_cars s n q (ofCar_query q) rfl es]
  refine any_eq_mem fun x => ?_
  cases x <;> simp [Bid.asks]

theorem query_kind_ne (q : Query) : ¬ (Bid.query.car s n q).kind = .frame ∧ ¬ (Bid.query.car s n q).kind = .row := by
  show ¬ q.car.kind = .frame ∧ ¬ q.car.kind = .row
  unfold Query.car plainCar
  cases q.isSet <;> exact ⟨nofun, nofun⟩

/-- The frame cars of some bids, by their channels. -/
theorem frames_of_bids (es : List Bid) :
    ((es.map (Bid.car s n q)).filter fun c => decide (c.kind = .frame)).map Car.channel = es.filterMap Bid.frame? := by
  induction es with
  | nil => rfl
  | cons b es ih =>
    cases b with
    | frame ch =>
      rw [List.map_cons, List.filter_cons_of_pos (by rfl), List.map_cons, ih]
      rfl
    | query =>
      rw [List.map_cons, List.filter_cons_of_neg (by simpa using (query_kind_ne (s := s) (n := n) q).1), ih]
      rfl
    | _ =>
      rw [List.map_cons, List.filter_cons_of_neg (by exact Bool.false_ne_true), ih]
      rfl

/-- The row cars of some bids, by their positions. -/
theorem rows_of_bids (es : List Bid) :
    ((es.map (Bid.car s n q)).filter fun c => decide (c.kind = .row)).map Car.dest =
      (es.filterMap Bid.screen?).map onePosition := by
  induction es with
  | nil => rfl
  | cons b es ih =>
    cases b with
    | row k p r =>
      rw [List.map_cons, List.filter_cons_of_pos (by rfl), List.map_cons, ih]
      show onePosition _ :: _ = _
      rw [paneScreen_paneIx, ringScreen_pos]
      rfl
    | query =>
      rw [List.map_cons, List.filter_cons_of_neg (by simpa using (query_kind_ne (s := s) (n := n) q).2), ih]
      rfl
    | _ =>
      rw [List.map_cons, List.filter_cons_of_neg (by exact Bool.false_ne_true), ih]
      rfl

theorem getLsbD_onePosition (j k : Fin 8) : (onePosition j).getLsbD k.val = decide (j = k) := by
  revert j k
  decide

theorem getLsbD_positions (ks : List (Fin 8)) (k : Fin 8) : (positions ks).getLsbD k.val = decide (k ∈ ks) := by
  have key (m : BitVec 8) : (ks.foldl (fun m j => m ||| onePosition j) m).getLsbD k.val =
      (m.getLsbD k.val || decide (k ∈ ks)) := by
    induction ks generalizing m with
    | nil => simp
    | cons j ks ih =>
      rw [List.foldl_cons, ih, BitVec.getLsbD_or, getLsbD_onePosition, Bool.or_assoc]
      refine congrArg (m.getLsbD k.val || ·) ?_
      rw [← Bool.decide_or, decide_eq_decide, List.mem_cons]
      exact or_congr_left eq_comm
  rw [positions, key]
  simp

theorem names_eq (k : Fin 8) (b : Bid) : b.names s n k =
    (decide ((b.car s n q).kind = .frame) && (b.car s n q).dest.getLsbD k.val) := by
  cases b with
  | frame ch => exact (getLsbD_positions _ k).symm
  | query =>
    rw [decide_eq_false (query_kind_ne (s := s) (n := n) q).1]
    rfl
  | _ => rfl

/-- The frames passed over that name a position are the candidates of the kind that are not in the train. -/
theorem countP_passing {space : Nat} {bs : List Bid} (hbs : bs.Nodup) (k : Fin 8) :
    (passing (Bid.car s n q) space bs).countP (Bid.names s n k) = (bs.map (Bid.car s n q)).countP fun c =>
      decide (c.kind = .frame ∧ c ∉ fitting space (bs.map (Bid.car s n q))) && c.dest.getLsbD k.val := by
  have hcars := passing_cars (Bid.car s n q) (space := space) (hbs.map (car_injective s n q))
  have hnames : Bid.names s n k = (fun c : Car => decide (c.kind = .frame) && c.dest.getLsbD k.val) ∘ Bid.car s n q :=
    funext fun b => names_eq k b
  rw [hnames, ← List.countP_map, hcars, List.countP_filter]
  refine List.countP_congr fun c _ => ?_
  simp only [Bool.and_eq_true, decide_eq_true_eq]
  tauto

end

end Sys2Proof.Machine
end

section
/-! The train a ring sends at its boundary (R125 to R129, R131). -/

namespace Sys2Proof.Machine

theorem boundary_running {s : State} {p : RingParams} {n : Fin 4} {g : Ring} (hstate : g.state = .running) (hnone : g.flight = none)
    {a : Assembly} (ha : a = assemble s n p.budget (g.counted p n) s.comp) :
    Ring.boundary s p n (g, s.comp) =
      ((a.ring.send p s.params.period a.cars, a.comp), if g.outOfTime p then [.event .queryDone] else []) := by
  have hflight : g.countPeriod.flight = none := hnone
  rw [ha]
  unfold Ring.boundary
  dsimp only
  rw [hstate]
  dsimp only
  rw [hflight]
  dsimp only
  rw [judgeTimeout_eq]

/-- A RUNNING ring without a train in flight sends one at its boundary. -/
theorem sendsTrain_boundary {s base : State} {n : Fin 4} {p : RingParams} {g : Ring} {time : Timebase}
    (hbase : base = s.withTime time) (hstate : g.state = .running) (hnone : g.flight = none) :
    SendsTrain s (commit s (base.ringCompDo n (Ring.boundary s p n (g, s.comp)))) time n p g := by
  obtain ⟨q, hq⟩ : ∃ q, q = g.counted p n := ⟨_, rfl⟩
  obtain ⟨es, hes⟩ : ∃ es, es = entering (Bid.car s n q.query) (p.budget - 20) (bids s n q) := ⟨_, rfl⟩
  obtain ⟨a, ha⟩ : ∃ a, a = (bids s n q).foldl (Assembly.take s n q.query) (freshTrain s p.budget q) := ⟨_, rfl⟩
  have hnodup := (bids_ranked s n q).nodup
  have hcars : a.cars = fitting (p.budget - 20) (candidates s n q) := by
    rw [ha, takes_space, candidates_eq]
    rfl
  have hentered : es.map (Bid.car s n q.query) = a.cars := by rw [hes, entering_cars, hcars, candidates_eq]
  obtain ⟨chan, screen, slots, query, hring⟩ := takes_ring (s := s) (n := n) (q := q.query) (bids s n q) (freshTrain s p.budget q)
  rw [← ha] at hring
  have hringq : (freshTrain s p.budget q).ring = q := rfl
  rw [hringq] at hring
  have hchan := takes_chanPtr (s := s) (n := n) (q := q.query) (bids s n q) (freshTrain s p.budget q)
  have hscreen := takes_screenPtr (s := s) (n := n) (q := q.query) (bids s n q) (freshTrain s p.budget q)
  have hquery := takes_query (s := s) (n := n) (q := q.query) hnodup (freshTrain s p.budget q)
  have hslot (k : Fin 8) := takes_slot (s := s) (n := n) (q := q.query) (bids s n q) (freshTrain s p.budget q) k
  have hspace : (freshTrain s p.budget q).space = p.budget - 20 := rfl
  simp only [← ha, hspace, ← hes, hringq, hring] at hchan hscreen hquery hslot
  have hoffered : q.query.car ∈ a.cars → q.query.state = .waiting := fun h => by
    rw [← hentered, mem_cars s n q.query (ofCar_query _) rfl] at h
    have hbid := (entering_sublist (Bid.car s n q.query) (p.budget - 20) (bids s n q)).subset (hes ▸ h)
    have hmem : Bid.query ∈ queryBids q := by
      simp only [bids, List.mem_append] at hbid
      rcases hbid with (((((h | h) | h) | h) | h) | h) | h
      · obtain ⟨k, h⟩ := mem_alertBids h
        cases h
      · exact h
      · obtain ⟨k, h⟩ := mem_probeBids h
        cases h
      · obtain ⟨k, h⟩ := mem_frameBids h
        cases h
      · obtain ⟨k, x, h, -⟩ := mem_itemBids h
        cases h
      · obtain ⟨k, x, r, h⟩ := mem_rowBids h
        cases h
      · obtain ⟨k, x, h, -⟩ := mem_itemBids h
        cases h
    unfold queryBids at hmem
    split at hmem
    · assumption
    · cases hmem
  have hasks : es.any Bid.asks = decide (q.query.state = .waiting ∧ q.query.car ∈ a.cars) := by
    rw [Bool.eq_iff_iff, any_asks (s := s) (n := n) (q := q.query), hentered, decide_eq_true_eq]
    exact ⟨fun h => ⟨hoffered h, h⟩, fun h => h.2⟩
  have hassemble : a = assemble s n p.budget (g.counted p n) s.comp := by rw [ha, ← hq, assemble_eq]
  have hreflagged : Reflagged s a.comp := by
    rw [ha]
    exact (Reflagged.refl s).takes _
  rw [boundary_running hstate hnone hassemble, ringCompDo_eq]
  obtain ⟨u, hu⟩ : ∃ u, u = ((base.withComp a.comp).withRings (base.rings.set n (a.ring.send p s.params.period a.cars))).emit
    (if g.outOfTime p then [.event .queryDone] else []) := ⟨_, rfl⟩
  have hposted : u = ((base.withComp a.comp).withRings (base.rings.set n (a.ring.send p s.params.period a.cars))).withMail
      { s.mail with events := s.mail.events ++ if g.outOfTime p then [.queryDone] else [] } := by
    rw [hu, hbase]
    cases g.outOfTime p
    · simp only [Bool.false_eq_true, if_false, emit_nil, List.append_nil]
      rfl
    · rfl
  have hframe : Frame [.time, .comp, .rings, .mail] s u := by
    have hb : Frame [.time] s base := hbase ▸ frame_withTime s time
    rw [hposted]
    exact (hb.mono (by simp)).trans (((frame_withComp _ _).mono (by simp)).trans
      (((frame_withRings _ _).mono (by simp)).trans ((frame_withMail _ _).mono (by simp))))
  have hcomp : u.comp = a.comp := by rw [hposted]; rfl
  have hbids (k : Fin 8) := countP_passing (s := s) (n := n) (q := q.query) (space := p.budget - 20) hnodup k
  rw [← candidates_eq, ← hcars] at hbids
  dsimp only
  rw [← hu]
  refine ⟨q, a.ring.send p s.params.period a.cars, { seq := g.seq, cars := a.cars, check := p.check, marker := p.marker },
    by rw [hq]; rfl, ?_, by rw [hcars], ?_, fun hrows => ?_, fun c k hlast hdest => ?_,
    fun k m hm => ?_, hframe.commit, ?_, ?_, ?_, ?_, fun i x y hx hy => ?_, fun sc x hx => ?_⟩
  · rw [hq]
    exact probesMarked_map g
  · have hrow : a.ring.query = if q.query.state = .waiting ∧ q.query.car ∈ a.cars then
        { q.query with state := .inFlight, trains := min (q.query.trains + 1) 65535 } else q.query := by
      rw [hring, hquery, hasks]
      simp only [decide_eq_true_eq]
    have hch : a.ring.chanPtr = (((a.cars.filter fun c => decide (c.kind = .frame)).getLast?).map Car.channel).getD g.chanPtr := by
      rw [← List.getLast?_map, ← hentered, frames_of_bids, hring, hchan, hq]
      rfl
    have hseq : g.seq = q.seq := by rw [hq]; rfl
    dsimp only
    rw [← hch, ← hrow, hseq, hring]
    rfl
  · have hnorows : es.filterMap Bid.screen? = [] := by
      have h := rows_of_bids (s := s) (n := n) (q := q.query) es
      rw [hentered, List.filter_eq_nil_iff.2 fun c hc => by simpa using hrows c hc] at h
      exact List.map_eq_nil_iff.1 h.symm
    show a.ring.screenPtr = _
    rw [hring, hscreen, hnorows, hq]
    rfl
  · have h := rows_of_bids (s := s) (n := n) (q := q.query) es
    rw [hentered] at h
    have hlast' := congrArg List.getLast? h
    rw [List.getLast?_map, List.getLast?_map, hlast] at hlast'
    obtain ⟨j, hj, hposition⟩ := Option.map_eq_some_iff.1 hlast'.symm
    show a.ring.screenPtr = _
    rw [hring, hscreen, hj]
    exact (positionOf_onePosition j).symm.trans ((congrArg positionOf (hposition.trans hdest)).trans (positionOf_onePosition k))
  · show a.ring.slots.get k = _
    rw [hring]
    dsimp only
    rw [hslot, hm, hbids]
    have hprobe : (if es.any fun b => decide (b.probe? = some k) then false else m.probePending) =
        (m.probePending && !decide (probeCar k ∈ a.cars)) := by
      by_cases h : probeCar k ∈ a.cars
      · rw [if_pos ((any_probe (s := s) (n := n) (q := q.query) es k).2 (hentered ▸ h))]
        simp [h]
      · rw [if_neg fun hany => h (hentered ▸ (any_probe (s := s) (n := n) (q := q.query) es k).1 hany)]
        simp [h]
    rw [hprobe]
  · rw [commit_time, hposted, hbase]
    rfl
  · rw [commit_rings, hposted, hbase]
    rfl
  · rw [commit_mail, hposted]
    rfl
  · rw [commit_comp, hcomp, hreflagged.minute]
  · rw [commit_comp, hcomp] at hy
    have hitem := takes_item (s := s) (n := n) (q := q.query) (bids s n q) (freshTrain s p.budget q) i
    have hrow (r : Fin 16) := takes_row (s := s) (n := n) (q := q.query) (bids s n q) (freshTrain s p.budget q) i r
    simp only [← ha, hspace, ← hes, hy] at hitem hrow
    have hcomp0 : (freshTrain s p.budget q).comp.panes.get i = x := hx
    rw [hcomp0] at hitem
    simp only [hcomp0, any_row (s := s) (q := q.query), hentered] at hrow
    obtain ⟨item, rows, hpane⟩ := hreflagged.panes i
    rw [hy, hx] at hpane
    simp only [any_item (s := s) (q := q.query), hentered] at hitem
    refine ⟨?_, hrow⟩
    have hsame : y = { x with rowItems := y.rowItems, item := y.item } := by rw [hpane]
    exact hsame.trans (by rw [hitem]; rfl)
  · have halert := takes_alert (s := s) (n := n) (q := q.query) (bids s n q) (freshTrain s p.budget q) sc
    have hcomp0 : (freshTrain s p.budget q).comp.screens.get sc = x := hx
    simp only [← ha, hspace, ← hes, hcomp0, any_alert (s := s) (q := q.query), hentered] at halert
    obtain ⟨alert, hscreen'⟩ := hreflagged.screens sc
    rw [commit_comp, hcomp, hscreen', hx]
    rw [hscreen'] at halert
    dsimp only at halert ⊢
    rw [halert]
    split
    · rfl
    · rfl

end Sys2Proof.Machine
end

section
/-! The commands of a ring's boundary (R124, R125). -/

namespace Sys2Proof.Machine

theorem ringCompDo_quiet (s base : State) (n : Fin 4) (g : Ring) (hcomp : base.comp = s.comp) (hrings : base.rings = s.rings) :
    base.ringCompDo n ((g, s.comp), []) = base.withRings (s.rings.set n g) := by
  rw [ringCompDo_eq, emit_nil, ← hcomp, ← hrings]
  rfl

theorem sat16_eq (k : Nat) : sat16 k = min (k + 1) 65535 := rfl

/-- The boundary of a ring that stands as g. -/
theorem atBoundary {s base : State} {n : Fin 4} {p : RingParams} {time : Timebase} (hbase : base = s.withTime time) (g : Ring) :
    AtBoundary s (commit s (base.ringCompDo n (Ring.boundary s p n (g, s.comp)))) base n p g := by
  have hcomp : base.comp = s.comp := by rw [hbase]; rfl
  have hrings : base.rings = s.rings := by rw [hbase]; rfl
  have htime : base.time = time := by rw [hbase]; rfl
  refine ⟨fun h => ?_, fun h hflight => ?_, fun h hflight => ?_, fun h hflight => ?_, fun h hflight => ?_⟩
  · have hstays : Ring.boundary s p n (g, s.comp) = ((g, s.comp), []) := by
      unfold Ring.boundary
      rcases h with h | h | h
      · simp only [h]
      · simp only [h]
      · simp only [h]
    rw [hstays, ringCompDo_quiet s base n g hcomp hrings]
  · obtain ⟨f, hf⟩ := Option.ne_none_iff_exists'.1 hflight
    have hskips : Ring.boundary s p n (g, s.comp) = (({ g with skipped := sat16 g.skipped }, s.comp), []) := by
      unfold Ring.boundary
      simp only [h, hf]
    rw [hskips, ringCompDo_quiet s base n _ hcomp hrings]
    rfl
  · have hsends : Ring.boundary s p n (g, s.comp) = ((g.sendEnum p s.params.period, s.comp), []) := by
      unfold Ring.boundary
      simp only [h, hflight]
    rw [hsends, ringCompDo_quiet s base n _ hcomp hrings]
    rfl
  · obtain ⟨f, hf⟩ := Option.ne_none_iff_exists'.1 hflight
    have hf' : g.countPeriod.flight = some f := hf
    have hskips : Ring.boundary s p n (g, s.comp) = (({ g.countPeriod with skipped := sat16 g.skipped }, s.comp), []) := by
      unfold Ring.boundary
      dsimp only
      rw [h]
      dsimp only
      rw [hf']
      rfl
    rw [hskips, ringCompDo_quiet s base n _ hcomp hrings]
    exact ⟨_, probesMarked_map g, rfl⟩
  · rw [htime]
    exact sendsTrain_boundary hbase h hflight

theorem ringUnshiftedBoundary_run {s base : State} {n : Fin 4} {r : Ring} {p : RingParams} (hr : s.rings.get n = r)
    (hp : s.params.ring.get n = p)
    (hbase : base = s.withTime { s.time with dueRing := s.time.dueRing.set n (s.time.dueRing.get n - 1) })
    (hdue : 0 < s.time.dueRing.get n) :
    ringUnshiftedBoundary n s = base.ringCompDo n (Ring.unshifted s p n (r, s.comp)) := by
  have hparams : s.ringParams n = p := hp
  rw [ringUnshiftedBoundary, if_pos hdue, hr, hparams, hbase]
  rfl

theorem takesBoundaries_iff (st : RingState) :
    st.takesBoundaries = true ↔ st = .locking ∨ st = .enumerating ∨ st = .running := by
  cases st <;> simp [RingState.takesBoundaries]

/-- Every clause of O53 about the two commands. -/
theorem ringBoundaries (s : State) (n : Fin 4) (r : Ring) (p : RingParams) (base : State) (hr : s.rings.get n = r)
    (hp : s.params.ring.get n = p)
    (hbase : base = s.withTime { s.time with dueRing := s.time.dueRing.set n (s.time.dueRing.get n - 1) }) :
    (s.time.dueRing.get n = 0 → exec (.ringUnshiftedBoundary n) s = .next s) ∧
    (0 < s.time.dueRing.get n → r.state = .off ∨ r.state = .fault →
      exec (.ringUnshiftedBoundary n) s = .next (commit s base)) ∧
    (∀ shift, 0 < s.time.dueRing.get n → r.state = .locking ∨ r.state = .enumerating ∨ r.state = .running →
      shift = (if s.time.inUse ≤ p.shift then s.time.inUse - 1 else p.shift) →
      (0 < shift → exec (.ringUnshiftedBoundary n) s = .next (commit s
        (base.withRings (s.rings.set n { r with shift := some shift })))) ∧
      (shift = 0 → ∃ t : State, exec (.ringUnshiftedBoundary n) s = .next t ∧
        AtBoundary s t base n p { r with shift := none })) ∧
    (r.shift ≠ some 0 → exec (.ringBoundary n) s = .next s) ∧
    (r.shift = some 0 → ∃ t : State, exec (.ringBoundary n) s = .next t ∧ AtBoundary s t s n p { r with shift := none }) := by
  have hcomp : base.comp = s.comp := by rw [hbase]; rfl
  have hrings : base.rings = s.rings := by rw [hbase]; rfl
  refine ⟨fun hnone => goOn_of_nothing (if_neg (by omega)), fun hdue hoff => ?_, fun shift hdue hon hshift => ⟨fun hpos => ?_,
    fun hzero => ?_⟩, fun hnot => goOn_of_nothing (if_neg (by rwa [hr])), fun hdone => ?_⟩
  · have hno : ¬ r.state.takesBoundaries = true := by
      rw [takesBoundaries_iff]
      rcases hoff with h | h <;> simp [h]
    have hrun := ringUnshiftedBoundary_run hr hp hbase hdue
    rw [Ring.unshifted, if_neg hno, ringCompDo_quiet s base n r hcomp hrings, ← hr, Table.set_get_self, ← hrings] at hrun
    exact congrArg (goOn s) hrun
  · have hrun := ringUnshiftedBoundary_run hr hp hbase hdue
    have hinUse : p.shiftInUse s.time.inUse = shift := hshift.symm
    rw [Ring.unshifted, if_pos ((takesBoundaries_iff _).2 hon), hinUse, if_neg (by omega),
      ringCompDo_quiet s base n _ hcomp hrings] at hrun
    exact congrArg (goOn s) hrun
  · have hrun := ringUnshiftedBoundary_run hr hp hbase hdue
    have hinUse : p.shiftInUse s.time.inUse = shift := hshift.symm
    rw [Ring.unshifted, if_pos ((takesBoundaries_iff _).2 hon), hinUse, if_pos hzero] at hrun
    exact ⟨_, congrArg (goOn s) hrun, atBoundary hbase _⟩
  · have hparams : s.ringParams n = p := hp
    have hrun : ringBoundary n s = s.ringCompDo n (Ring.boundary s p n ({ r with shift := none }, s.comp)) := by
      unfold ringBoundary
      rw [hr, hparams]
      exact if_pos hdone
    exact ⟨_, congrArg (goOn s) hrun, atBoundary (time := s.time) rfl _⟩

end Sys2Proof.Machine
end

section
/-! The statement about a ring's trains: what holds of it and where it fails (R108, R126, R127). -/

namespace Sys2Proof.Machine

/-- Refutes O53: its clause on ROW cars says of every list b that it is the payload of the car, and a car has one payload. Any state refutes it: the ROW car of any pane, with b empty and with b one byte. (Its clauses on the boundary commands are `ringBoundaries`, and those on the order and size of a train `fitting_train`.) -/
theorem not_ringsSendOneTrainAtATime : ¬ Obligations.RingsSendOneTrainAtATime := by
  rintro ⟨-, -, hcars, -⟩
  have hrow (b : List Byte) := (hcars State.reset 0 0 (paneIx 0 0) _ 0 _ _ b rfl rfl rfl rfl).1
  have hpayload : ([] : List Byte) = [0] := congrArg Car.payload ((hrow []).symm.trans (hrow [0]))
  cases hpayload

end Sys2Proof.Machine
end

section
/-! Grants of the downstream port (R149 to R151, R158, R159). -/

namespace Sys2Proof.Machine

/-! ### What a grant does -/

theorem guardOuts_eq (bs : List PlacedBeat) : guardOuts bs =
    (List.replicate (bs.countP fun b => decide (b.cls = .guarded) && decide (b.beat.enables ≠ 0)) .guardHit).map .event := by
  rw [guardOuts, List.map_const', List.map_replicate, List.countP_eq_length_filter]

/-- The beats of a request that go to the seat intake. -/
def seatAddrs (bs : List PlacedBeat) : List Addr := (bs.filter fun b => decide (b.cls = .seat)).map PlacedBeat.addr

/-- A passing request granted, as one new state. -/
theorem grantPassing_eq (s : State) (r : PassReq) (share : Nat) {bs : List PlacedBeat} (hbs : bs = s.path.windows.place r) :
    s.grantPassing r share =
      ((s.withIntakes (bs.foldl (Intakes.deliver s.notices.produced s.path.grants) s.intakes)).withPath { s.path with
        queue := s.path.queue.tail ++ s.path.held.take 1, held := s.path.held.drop 1
        responses := s.path.responses ++
          [{ source := .passing r.tag (seatAddrs bs), write := r.write, beats := r.beats, grant := s.path.grants }]
        grants := s.path.grants + 1
        downPort := some { write := r.write, addr := r.addr, beats := r.beats, data := bs.map PlacedBeat.sent }
        share := share }).withMail { s.mail with
          events := s.mail.events ++
            List.replicate (bs.countP fun b => decide (b.cls = .guarded) && decide (b.beat.enables ≠ 0)) .guardHit } := by
  subst hbs
  unfold State.grantPassing
  dsimp only
  rw [guardOuts_eq, emit_raised]
  rfl

theorem grantPassing_frame (s : State) (r : PassReq) (share : Nat) : Frame [.port, .intakes, .mail] s (s.grantPassing r share) := by
  rw [grantPassing_eq s r share rfl]
  intro b hb
  by_cases hqueues : b = .classQueues
  · subst hqueues
    exact ⟨rfl, rfl, rfl, rfl⟩
  · have hframe : Frame [.port, .classQueues, .intakes, .mail] s (s.grantPassing r share) := by
      rw [grantPassing_eq s r share rfl]
      exact ((frame_withIntakes s _).mono (by simp)).trans
        (((frame_withPath _ _).mono (by simp)).trans ((frame_withMail _ _).mono (by simp)))
    rw [grantPassing_eq s r share rfl] at hframe
    exact hframe b (by simp_all)

/-! ### Who is granted (R150, R158, R159) -/

theorem hasRoom_iff (x : Intakes) (bs : List PlacedBeat) : x.hasRoom bs = true ↔
    (beatsTo .setup bs = 0 ∨ x.setup.length + beatsTo .setup bs ≤ 4) ∧
    (beatsTo .shows bs = 0 ∨ x.shows.length + beatsTo .shows bs ≤ 8) ∧
    (beatsTo .seat bs = 0 ∨ x.seat.length + beatsTo .seat bs ≤ 8) := by
  unfold Intakes.hasRoom
  rw [Bool.and_eq_true, Bool.and_eq_true, decide_eq_true_eq, decide_eq_true_eq, decide_eq_true_eq, and_assoc]
  exact and_congr or_comm (and_congr or_comm or_comm)

theorem eligibleHead_iff (s : State) : (∃ r, s.eligibleHead = some r) ↔ ∃ r q, s.path.queue = r :: q ∧
    ∀ bs, bs = s.path.windows.place r →
      (beatsTo .setup bs = 0 ∨ s.intakes.setup.length + beatsTo .setup bs ≤ 4) ∧
      (beatsTo .shows bs = 0 ∨ s.intakes.shows.length + beatsTo .shows bs ≤ 8) ∧
      (beatsTo .seat bs = 0 ∨ s.intakes.seat.length + beatsTo .seat bs ≤ 8) := by
  unfold State.eligibleHead
  cases h : s.path.queue with
  | nil => simp
  | cons r q =>
    simp only [List.head?_cons, Option.filter_eq_some_iff, Option.some.injEq, List.cons.injEq, hasRoom_iff]
    constructor
    · rintro ⟨x, rfl, hroom⟩
      exact ⟨_, _, ⟨rfl, rfl⟩, fun bs hbs => hbs ▸ hroom⟩
    · rintro ⟨x, xs, ⟨rfl, rfl⟩, hroom⟩
      exact ⟨_, rfl, hroom _ rfl⟩

theorem nextAgent_eq_none (p : Path) : p.nextAgent = none ↔ ∀ c, p.classQueue c = [] := by
  have hall (d c : AgentClass) : c ∈ d.after := by
    cases d <;> cases c <;> decide
  unfold Path.nextAgent
  rw [List.findSome?_eq_none_iff]
  constructor
  · intro h c
    exact List.head?_eq_none_iff.1 (h c (hall _ c))
  · intro h c _
    rw [h c]
    rfl

theorem nextAgent_none_iff (p : Path) :
    p.nextAgent = none ↔ ¬ (p.frameQ ≠ [] ∨ p.recordQ ≠ [] ∨ p.sweepQ ≠ [] ∨ p.writebackQ ≠ []) := by
  rw [nextAgent_eq_none]
  constructor
  · intro h
    simpa using ⟨h .frame, h .record, h .sweep, h .writeback⟩
  · intro h c
    push Not at h
    obtain ⟨hframe, hrecord, hsweep, hwriteback⟩ := h
    cases c
    · exact hframe
    · exact hrecord
    · exact hsweep
    · exact hwriteback

/-- The request granted next: the oldest of the first class with one. -/
theorem nextAgent_eq_some {p : Path} {before after : List AgentClass} {c : AgentClass} {r : AgentReq} {rest : List AgentReq}
    (horder : p.lastClass.after = before ++ c :: after) (hbefore : ∀ d ∈ before, p.classQueue d = [])
    (hc : p.classQueue c = r :: rest) : p.nextAgent = some r := by
  unfold Path.nextAgent
  rw [horder, List.findSome?_append, List.findSome?_eq_none_iff.2 fun d hd => by rw [hbefore d hd]; rfl, List.findSome?_cons, hc]
  rfl

theorem grantAgent_eq (s : State) {c : AgentClass} {r : AgentReq} {rest : List AgentReq} (hc : s.path.classQueue c = r :: rest)
    (hcls : r.cls = c) : s.grantAgent r = s.withPath { s.path with
      frameQ := if c = .frame then rest else s.path.frameQ
      recordQ := if c = .record then rest else s.path.recordQ
      sweepQ := if c = .sweep then rest else s.path.sweepQ
      writebackQ := if c = .writeback then rest else s.path.writebackQ
      responses := s.path.responses ++ [{ source := .agent r.tag false, write := r.write, beats := r.beats, grant := s.path.grants }]
      grants := s.path.grants + 1
      downPort := some { write := r.write, addr := r.addr, beats := r.beats, data := r.data }
      share := 0, lastClass := c } := by
  have htail : (s.path.classQueue c).tail = rest := by rw [hc]; rfl
  unfold State.grantAgent
  rw [hcls]
  cases c
  · subst htail; rfl
  · subst htail; rfl
  · subst htail; rfl
  · subst htail; rfl

theorem portGrant_full {s : State} (h : 32 ≤ s.path.responses.length) : portGrant s = s := if_pos h

/-- What a grant does while the port is ready, by who may be granted. -/
theorem portGrant_idle {s : State} (hroom : s.path.responses.length < 32) (hpass : s.eligibleHead = none)
    (hagent : s.path.nextAgent = none) : portGrant s = s := by
  unfold portGrant
  rw [if_neg (by omega), hpass, hagent]

theorem portGrant_passing {s : State} (hroom : s.path.responses.length < 32) {r : PassReq} (hpass : s.eligibleHead = some r)
    {share : Nat} (hshare : (s.path.nextAgent = none ∧ share = 0) ∨
      (s.path.nextAgent ≠ none ∧ s.path.share < 3 ∧ share = s.path.share + 1)) : portGrant s = s.grantPassing r share := by
  unfold portGrant
  rw [if_neg (by omega), hpass]
  rcases hshare with ⟨hnone, rfl⟩ | ⟨hsome, hlt, rfl⟩
  · rw [hnone]
  · obtain ⟨x, hx⟩ := Option.ne_none_iff_exists'.1 hsome
    rw [hx]
    exact if_pos hlt

theorem portGrant_agent {s : State} (hroom : s.path.responses.length < 32) {x : AgentReq} (hagent : s.path.nextAgent = some x)
    (hpass : s.eligibleHead = none ∨ 3 ≤ s.path.share) : portGrant s = s.grantAgent x := by
  unfold portGrant
  rw [if_neg (by omega), hagent]
  cases h : s.eligibleHead with
  | none => rfl
  | some r => exact if_neg (by have := hpass.resolve_left (by simp [h]); omega)

/-- Settles O56. -/
theorem portGrantsShareThePort : Obligations.PortGrantsShareThePort := by
  intro s eligible waiting heligible hwaiting
  rw [← eligibleHead_iff] at heligible
  have hagent : waiting ↔ s.path.nextAgent ≠ none := by
    rw [hwaiting, ne_eq s.path.nextAgent, nextAgent_none_iff, not_not]
  have hpass : ¬ eligible ↔ s.eligibleHead = none := by
    rw [heligible]
    cases s.eligibleHead <;> simp
  refine ⟨fun h => goOn_of_nothing (portGrant_full h), fun hroom => ⟨fun hno hnone => ?_, fun share hyes hshare => ?_,
    fun hwait hturn order before after c r rest horder hsplit hbefore hc hcls => ?_⟩, fun strap => ⟨_, rfl, rfl, rfl⟩,
    fun e he hrow => ?_⟩
  · exact goOn_of_nothing (portGrant_idle hroom (hpass.1 hno) (by simpa [hagent] using hnone))
  · obtain ⟨r, hr⟩ := heligible.1 hyes
    have hrun := portGrant_passing hroom hr (share := share) (by
      rw [hagent, not_not] at hshare
      exact hshare)
    refine ⟨_, congrArg (goOn s) hrun, (grantPassing_frame s r share).commit, ?_⟩
    rw [commit_path, grantPassing_eq s r share rfl]
    refine ⟨rfl, rfl, rfl, rfl, fun x hx => ?_⟩
    rw [(of_eligibleHead hr).1] at hx
    cases hx
    rfl
  · have hafter : s.path.lastClass.after = order := by
      rw [horder]
      cases s.path.lastClass <;> rfl
    have hnext := nextAgent_eq_some (hafter.trans hsplit) hbefore hc
    have hrun := portGrant_agent hroom hnext (hturn.imp_left hpass.1)
    rw [grantAgent_eq s hc hcls] at hrun
    exact congrArg (goOn s) hrun
  · have hrun : softReset s = s.softReset.result 0 0 .applied := by
      simp only [softReset, he, hrow]
    have hbare := result_bare s.softReset 0 0 .applied
    refine ⟨_, congrArg (goOn s) hrun, ?_, ?_⟩
    · rw [commit_path]
      exact congrArg Path.share hbare
    · rw [commit_path]
      exact congrArg Path.lastClass hbare

end Sys2Proof.Machine
end

section
/-! Passing requests, the classes of their beats, and the responses (R149, R151, R154 to R156, R160, R161). -/

namespace Sys2Proof.Machine

/-! ### The window table (R152 to R154) -/

theorem allDisjoint_iff (l : List (Nat × Nat)) :
    allDisjoint l = true ↔ l.Pairwise fun a b => a.1 + a.2 ≤ b.1 ∨ b.1 + b.2 ≤ a.1 := by
  induction l with
  | nil => simp [allDisjoint]
  | cons a rest ih => simp [allDisjoint, disjoint, ih]

/-- A window disjoint from another while both are enabled. -/
def Apart (a : Addr) (m : Nat) (b : Addr) (n : Nat) : Prop :=
  a.toNat ≠ 0 → b.toNat ≠ 0 → a.toNat + m ≤ b.toNat ∨ b.toNat + n ≤ a.toNat

/-- What a table that passes its test says of the five windows. -/
theorem of_passes {w : Windows} (h : w.passes = true) :
    (Apart w.setupBase 64 w.showBase 12288 ∧ Apart w.setupBase 64 w.seatBase (8192 * w.seatUnits) ∧
      Apart w.setupBase 64 w.noticeBase 4160 ∧ Apart w.setupBase 64 w.statusBase 4096) ∧
    (Apart w.showBase 12288 w.seatBase (8192 * w.seatUnits) ∧ Apart w.showBase 12288 w.noticeBase 4160 ∧
      Apart w.showBase 12288 w.statusBase 4096) ∧
    (Apart w.seatBase (8192 * w.seatUnits) w.noticeBase 4160 ∧ Apart w.seatBase (8192 * w.seatUnits) w.statusBase 4096) ∧
    Apart w.noticeBase 4160 w.statusBase 4096 ∧
    (w.setupBase.toNat ≠ 0 → w.setupBase.toNat + 64 ≤ 2 ^ 32) ∧ (w.noticeBase.toNat ≠ 0 → w.noticeBase.toNat + 4160 ≤ 2 ^ 32) := by
  unfold Windows.passes Windows.enabled Windows.seatSize at h
  rw [Bool.and_eq_true, allDisjoint_iff, List.pairwise_filter, List.all_filter] at h
  obtain ⟨hapart, hfits⟩ := h
  simp only [List.pairwise_cons, List.mem_cons, List.not_mem_nil, or_false, forall_eq_or_imp, forall_eq, decide_eq_true_eq,
    Nat.mul_comm w.seatUnits, showSize, noticeSize, statusSize] at hapart
  simp only [List.all_cons, Bool.and_eq_true, Bool.or_eq_true, Bool.not_eq_true', decide_eq_false_iff_not, decide_eq_true_eq,
    not_not, noticeSize] at hfits
  obtain ⟨⟨h1, h2, h3, h4⟩, ⟨h5, h6, h7⟩, ⟨h8, h9⟩, h10, -⟩ := hapart
  obtain ⟨hsetup, -, -, hnotice, -⟩ := hfits
  exact ⟨⟨h1, h2, h3, h4⟩, ⟨h5, h6, h7⟩, ⟨h8, h9⟩, h10, fun h => hsetup.resolve_left h, fun h => hnotice.resolve_left h⟩

theorem covers_iff (base : Addr) (size : Nat) (a : Addr) :
    covers base size a = true ↔ base ≠ 0 ∧ base.toNat ≤ a.toNat ∧ a.toNat < base.toNat + size := by
  unfold covers
  simp only [Bool.and_eq_true, decide_eq_true_eq, and_assoc]

/-- An address lies in an enabled window. -/
def Inside (base : Addr) (size : Nat) (a : Addr) : Prop := base ≠ 0 ∧ base.toNat ≤ a.toNat ∧ a.toNat < base.toNat + size

theorem Inside.covers {base a : Addr} {size : Nat} (h : Inside base size a) : covers base size a = true :=
  (covers_iff base size a).2 h

theorem not_covers {base a : Addr} {size : Nat} (h : ¬ Inside base size a) : ¬ covers base size a = true :=
  mt (covers_iff base size a).1 h

theorem Inside.not_right {b c a : Addr} {m n : Nat} (h : Inside b m a) (hapart : Apart b m c n) : ¬ Inside c n a := by
  intro hc
  obtain ⟨hb0, hb1, hb2⟩ := h
  obtain ⟨hc0, hc1, hc2⟩ := hc
  have := hapart (by bv_omega) (by bv_omega)
  omega

theorem Inside.not_left {b c a : Addr} {m n : Nat} (h : Inside c n a) (hapart : Apart b m c n) : ¬ Inside b m a :=
  fun hb => hb.not_right hapart h

theorem inside_beat {base : Addr} {size j : Nat} (hbase : base ≠ 0) (hfits : base.toNat + size ≤ 2 ^ 32) (hj : 8 * j < size) :
    Inside base size (beatAddr base j) := by
  have hto : (beatAddr base j).toNat = base.toNat + 8 * j := by
    unfold beatAddr
    rw [BitVec.toNat_add, BitVec.toNat_ofNat, Nat.mod_eq_of_lt (by omega : 8 * j < 2 ^ 32), Nat.mod_eq_of_lt (by omega)]
  exact ⟨hbase, by omega, by omega⟩

/-- Outside the SETUP window no address is one of its watched or guarded words. -/
theorem ne_setup_of_not_inside {w : Windows} {a : Addr} (hbase : w.setupBase ≠ 0) (hfits : w.setupBase.toNat + 64 ≤ 2 ^ 32)
    (h : ¬ Inside w.setupBase 64 a) :
    ¬ (a = w.setupBase ∨ a = beatAddr w.setupBase 1) ∧ ¬ a = beatAddr w.setupBase 2 := by
  have hbeat (j : Nat) (hj : j < 8) : a ≠ beatAddr w.setupBase j := by
    rintro rfl
    exact h (inside_beat hbase hfits (by omega))
  have hzero : beatAddr w.setupBase 0 = w.setupBase := by
    unfold beatAddr
    simp
  have h0 := hbeat 0 (by omega)
  rw [hzero] at h0
  exact ⟨not_or.2 ⟨h0, hbeat 1 (by omega)⟩, hbeat 2 (by omega)⟩

/-- The class of a beat by the window that it lies in (R154), for a table that passes its test. -/
theorem classify_of_passes {w : Windows} (a : Addr) (en : BitVec 8) (h : w.passes = true) (hbase : w.setupBase ≠ 0) :
    (Inside w.setupBase 64 a → w.classify a en =
      if a = w.setupBase ∨ a = w.setupBase + 8 then .setup else if a = w.setupBase + 16 then .guarded else .plain) ∧
    (Inside w.showBase 12288 a → w.classify a en =
      if (a.toNat - w.showBase.toNat) % 64 = 0 ∧ (en.getLsbD 0 = true ∨ en.getLsbD 1 = true) then .shows else .plain) ∧
    (Inside w.seatBase (8192 * w.seatUnits) a → w.classify a en = .seat) ∧
    (Inside w.noticeBase 4160 a → w.classify a en =
      if a = w.noticeBase then .notice else if a = w.noticeBase + 8 then .guarded else .plain) ∧
    (Inside w.statusBase 4096 a → w.classify a en = .guarded) ∧
    (¬ Inside w.setupBase 64 a → ¬ Inside w.showBase 12288 a → ¬ Inside w.seatBase (8192 * w.seatUnits) a →
      ¬ Inside w.noticeBase 4160 a → ¬ Inside w.statusBase 4096 a → w.classify a en = .plain) := by
  obtain ⟨⟨hsh, hst, hsn, hss⟩, ⟨hht, hhn, hhs⟩, ⟨htn, hts⟩, hns, hfits, -⟩ := of_passes h
  have hfits := hfits (by bv_omega)
  have hsize : w.seatSize = 8192 * w.seatUnits := Nat.mul_comm _ _
  unfold Windows.classify
  rw [hsize, show showSize = 12288 from rfl, show noticeSize = 4160 from rfl, show statusSize = 4096 from rfl]
  refine ⟨fun hin => ?_, fun hin => ?_, fun hin => ?_, fun hin => ?_, fun hin => ?_, fun hsetup hshow hseat hnotice hstatus => ?_⟩
  · rw [if_neg (not_covers (hin.not_right hsh)), if_neg (not_covers (hin.not_right hst)),
      if_neg (not_covers (hin.not_right hsn)), if_neg (not_covers (hin.not_right hss))]
    rfl
  · obtain ⟨hwatched, hguarded⟩ := ne_setup_of_not_inside hbase hfits (hin.not_left hsh)
    rw [if_neg hwatched, if_neg hguarded, if_pos (hin.covers)]
  · obtain ⟨hwatched, hguarded⟩ := ne_setup_of_not_inside hbase hfits (hin.not_left hst)
    rw [if_neg hwatched, if_neg hguarded, if_neg (not_covers (hin.not_left hht)), if_pos (hin.covers)]
  · obtain ⟨hwatched, hguarded⟩ := ne_setup_of_not_inside hbase hfits (hin.not_left hsn)
    rw [if_neg hwatched, if_neg hguarded, if_neg (not_covers (hin.not_left hhn)), if_neg (not_covers (hin.not_left htn)),
      if_pos (hin.covers)]
    rfl
  · obtain ⟨hwatched, hguarded⟩ := ne_setup_of_not_inside hbase hfits (hin.not_left hss)
    rw [if_neg hwatched, if_neg hguarded, if_neg (not_covers (hin.not_left hhs)), if_neg (not_covers (hin.not_left hts)),
      if_neg (not_covers (hin.not_left hns)), if_pos (hin.covers)]
  · obtain ⟨hwatched, hguarded⟩ := ne_setup_of_not_inside hbase hfits hsetup
    rw [if_neg hwatched, if_neg hguarded, if_neg (not_covers hshow), if_neg (not_covers hseat), if_neg (not_covers hnotice),
      if_neg (not_covers hstatus)]

/-! ### Delivery (R53, R155, R156) -/

/-- A placed beat as its owner's intake holds it. -/
def PlacedBeat.intake (grant : Nat) (b : PlacedBeat) : IntakeBeat :=
  { addr := b.addr, data := b.beat.data, enables := b.beat.enables, grant := grant }

/-- The beats of one class, as an intake holds them. -/
def arrivals (grant : Nat) (c : BeatClass) (bs : List PlacedBeat) : List IntakeBeat :=
  (bs.filter fun b => decide (b.cls = c)).map (PlacedBeat.intake grant)

theorem arrivals_cons_same (grant : Nat) (b : PlacedBeat) (bs : List PlacedBeat) :
    arrivals grant b.cls (b :: bs) = b.intake grant :: arrivals grant b.cls bs := by
  simp [arrivals]

theorem arrivals_cons_of_ne (grant : Nat) {c : BeatClass} {b : PlacedBeat} (bs : List PlacedBeat) (h : b.cls ≠ c) :
    arrivals grant c (b :: bs) = arrivals grant c bs := by
  simp [arrivals, h]

/-- The producer intake after the value that an intake beat brings. -/
def takeProducer (p : BitVec 16) (old : Option (BitVec 16)) (b : IntakeBeat) : Option (BitVec 16) :=
  producerIntake p old { data := b.data, enables := b.enables }

theorem deliver_eq (p : BitVec 16) (grant : Nat) (x : Intakes) (bs : List PlacedBeat) :
    bs.foldl (Intakes.deliver p grant) x =
      { setup := x.setup ++ arrivals grant .setup bs, shows := x.shows ++ arrivals grant .shows bs
        seat := x.seat ++ arrivals grant .seat bs
        notice := (arrivals grant .notice bs).foldl (takeProducer p) x.notice } := by
  induction bs generalizing x with
  | nil => simp [arrivals]
  | cons b bs ih =>
    obtain ⟨addr, beat, cls⟩ := b
    rw [List.foldl_cons, ih]
    cases cls <;> simp [Intakes.deliver, arrivals, PlacedBeat.intake, takeProducer]

theorem place_of_write {w : Windows} {r : PassReq} (hwrite : r.write = true) {cls : Nat → BeatClass}
    (hcls : ∀ j b, r.data[j]? = some b → cls j = w.classify (r.addr + BitVec.ofNat 32 (8 * j)) b.enables) :
    w.place r = r.data.zipIdx.map fun x =>
      { addr := r.addr + BitVec.ofNat 32 (8 * x.2), beat := x.1, cls := cls x.2 } := by
  unfold Windows.place
  rw [if_pos hwrite]
  refine List.map_congr_left fun x hx => ?_
  rw [hcls x.2 x.1 (List.mem_zipIdx_iff_getElem?.1 hx)]
  rfl

theorem arrivals_map {α : Type} (grant : Nat) (c : BeatClass) (f : α → PlacedBeat) (l : List α) :
    arrivals grant c (l.map f) = l.filterMap fun x => if (f x).cls = c then some ((f x).intake grant) else none := by
  induction l with
  | nil => rfl
  | cons x l ih =>
    rw [List.map_cons, List.filterMap_cons, ← ih]
    by_cases h : (f x).cls = c
    · rw [← h, arrivals_cons_same, if_pos rfl]
    · rw [arrivals_cons_of_ne _ _ h, if_neg h]

theorem seatAddrs_eq (grant : Nat) (bs : List PlacedBeat) : seatAddrs bs = (arrivals grant .seat bs).map IntakeBeat.addr := by
  unfold seatAddrs arrivals
  rw [List.map_map]
  rfl

/-- The producer value after a beat (R53): the enabled bytes replace those of the value not yet taken, or of P. -/
theorem takeProducer_of_none {p : BitVec 16} {old : Option (BitVec 16)} {b : IntakeBeat} (h0 : b.enables.getLsbD 0 = false)
    (h1 : b.enables.getLsbD 1 = false) : takeProducer p old b = old := by
  unfold takeProducer producerIntake
  exact if_neg (by rw [h0, h1]; decide)

theorem takeProducer_of_some {p : BitVec 16} {old : Option (BitVec 16)} {b : IntakeBeat}
    (h : b.enables.getLsbD 0 = true ∨ b.enables.getLsbD 1 = true) : ∃ v : BitVec 16, takeProducer p old b = some v ∧
      ∀ i < 16, v.getLsbD i = if b.enables.getLsbD (i / 8) then b.data.getLsbD i else (old.getD p).getLsbD i := by
  refine ⟨_, if_pos h, fun i hi => ?_⟩
  rw [BitVec.getLsbD_setWidth, getLsbD_mergeBeat _ _ _ (by omega), BitVec.getLsbD_setWidth]
  simp [hi, show i < 64 by omega]

/-! ### The commands -/

theorem passReq_wf {r : PassReq} (haddr : r.addr.toNat % 8 = 0) (h1 : 1 ≤ r.beats) (h8 : r.beats ≤ 8)
    (hdata : r.data.length = (if r.write then r.beats else 0)) : r.wf = true := by
  unfold PassReq.wf
  cases hw : r.write with
  | false =>
    rw [hw] at hdata
    simp [haddr, h1, h8, List.length_eq_zero_iff.1 hdata]
  | true =>
    rw [hw] at hdata
    simp [haddr, h1, h8, hdata]

theorem exec_passingRequest_of_wf {r : PassReq} (s : State) (h : r.wf = true) :
    exec (.passingRequest r) s = .next (commit s (passingRequest r s)) := if_pos h

/-- A grant to the passing head while it may be served. -/
theorem portGrant_head {s : State} {r : PassReq} (hpass : s.eligibleHead = some r) (hroom : s.path.responses.length < 32)
    (hturn : s.path.nextAgent = none ∨ s.path.share < 3) : ∃ share, portGrant s = s.grantPassing r share := by
  by_cases hnone : s.path.nextAgent = none
  · exact ⟨0, portGrant_passing hroom hpass (.inl ⟨hnone, rfl⟩)⟩
  · exact ⟨_, portGrant_passing hroom hpass (.inr ⟨hnone, hturn.resolve_left hnone, rfl⟩)⟩

theorem portGrant_write {s : State} {r : PassReq} {cls : Nat → BeatClass} (hpass : s.eligibleHead = some r)
    (hroom : s.path.responses.length < 32) (hturn : s.path.nextAgent = none ∨ s.path.share < 3) (hwrite : r.write = true)
    (hlength : r.data.length = r.beats)
    (hcls : ∀ j b, r.data[j]? = some b → cls j = s.path.windows.classify (r.addr + BitVec.ofNat 32 (8 * j)) b.enables) :
    ∃ (t : State) (sent : List WriteBeat), exec .portGrant s = .next t ∧
      t.path.downPort = some { write := true, addr := r.addr, beats := r.beats, data := sent } ∧ sent.length = r.beats ∧
      (∀ j b, r.data[j]? = some b → sent[j]? = some (if cls j = .guarded then { b with enables := 0 } else b)) ∧
      t.mail = { s.mail with
        events := s.mail.events ++ List.replicate
          (r.data.zipIdx.countP fun x => decide (cls x.2 = .guarded ∧ x.1.enables ≠ 0)) .guardHit } ∧
      ∀ put : BeatClass → List IntakeBeat, (∀ c, put c = r.data.zipIdx.filterMap fun x =>
          if cls x.2 = c then some
            { addr := r.addr + BitVec.ofNat 32 (8 * x.2), data := x.1.data, enables := x.1.enables, grant := s.path.grants }
          else none) →
        t.intakes.setup = s.intakes.setup ++ put .setup ∧ t.intakes.shows = s.intakes.shows ++ put .shows ∧
        t.intakes.seat = s.intakes.seat ++ put .seat ∧
        t.path.responses = s.path.responses ++
          [{ source := .passing r.tag ((put .seat).map IntakeBeat.addr), write := true, beats := r.beats
             grant := s.path.grants }] ∧
        t.intakes.notice = (put .notice).foldl (takeProducer s.notices.produced) s.intakes.notice := by
  obtain ⟨share, hrun⟩ := portGrant_head hpass hroom hturn
  have hplace := place_of_write (w := s.path.windows) hwrite hcls
  rw [grantPassing_eq s r share hplace.symm, hwrite] at hrun
  refine ⟨_, _, congrArg (goOn s) hrun, by rw [commit_path]; rfl, ?_, fun j b hb => ?_, ?_, fun put hput => ?_⟩
  · rw [List.length_map, List.length_map, List.length_zipIdx, hlength]
  · rw [List.getElem?_map, List.getElem?_map, List.getElem?_zipIdx, hb]
    cases h : cls (0 + j) <;> simp_all [PlacedBeat.sent]
  · rw [commit_mail]
    have hcount : (r.data.zipIdx.map fun x => PlacedBeat.mk (r.addr + BitVec.ofNat 32 (8 * x.2)) x.1 (cls x.2)).countP
        (fun b => decide (b.cls = .guarded) && decide (b.beat.enables ≠ 0)) =
          r.data.zipIdx.countP fun x => decide (cls x.2 = .guarded ∧ x.1.enables ≠ 0) := by
      rw [List.countP_map]
      exact List.countP_congr fun x _ => by rw [Function.comp_apply, Bool.decide_and]
    rw [← hcount]
    rfl
  · have hput (c : BeatClass) : put c = arrivals s.path.grants c (r.data.zipIdx.map fun x =>
        { addr := r.addr + BitVec.ofNat 32 (8 * x.2), beat := x.1, cls := cls x.2 }) := by
      rw [hput c, arrivals_map]
      rfl
    rw [commit_intakes, commit_path, hput, hput, hput, hput, ← seatAddrs_eq]
    dsimp only [State.withMail, State.withPath, State.withIntakes]
    rw [deliver_eq]
    exact ⟨rfl, rfl, rfl, rfl, rfl⟩

theorem portGrant_read {s : State} {r : PassReq} {q : List PassReq} (hqueue : s.path.queue = r :: q)
    (hroom : s.path.responses.length < 32) (hturn : s.path.nextAgent = none ∨ s.path.share < 3) (hwrite : r.write = false) :
    ∃ t : State, exec .portGrant s = .next t ∧
      t.path.downPort = some { write := false, addr := r.addr, beats := r.beats, data := [] } ∧ t.intakes = s.intakes ∧
      t.mail = s.mail ∧ t.path.responses = s.path.responses ++
        [{ source := .passing r.tag [], write := false, beats := r.beats, grant := s.path.grants }] := by
  have hplace : s.path.windows.place r = [] := if_neg (by simp [hwrite])
  obtain ⟨x, hx⟩ := (eligibleHead_iff s).2 ⟨r, q, hqueue, fun bs hbs => by rw [hbs, hplace]; simp [beatsTo]⟩
  have hhead := (of_eligibleHead hx).1
  rw [hqueue] at hhead
  cases hhead
  obtain ⟨share, hrun⟩ := portGrant_head hx hroom hturn
  rw [grantPassing_eq s r share hplace.symm, hwrite] at hrun
  refine ⟨_, congrArg (goOn s) hrun, by rw [commit_path]; rfl, ?_, ?_, by rw [commit_path]; rfl⟩
  · rw [commit_intakes]
    rfl
  · rw [commit_mail]
    change { s.mail with events := s.mail.events ++ [] } = s.mail
    rw [List.append_nil]

theorem beatsOf_eq {g : Granted} {data : List Beat} (h : g.write = false → data.length = g.beats) :
    g.beatsOf data = if g.write then [] else data := by
  unfold Granted.beatsOf
  cases hw : g.write with
  | true => rfl
  | false =>
    rw [if_neg (by simp), if_neg (by simp), ← h hw]
    exact List.ext_getElem (by simp) fun i hi _ => by
      rw [List.length_map, List.length_range] at hi
      simp [hi]

theorem downstreamResponse_of_cons {s : State} {g : Granted} {rest : List Granted} (data : List Beat) (err : Bool)
    (hstale : s.path.stale = 0) (hlist : s.path.responses = g :: rest) :
    downstreamResponse data err s = (s.withPath { s.path with responses := rest }).respond g data err := by
  unfold downstreamResponse
  rw [if_neg (by omega), hlist]

theorem respond_passing (s : State) {g : Granted} {tag : Nat} {seatBeats : List Addr} (data : List Beat) (err : Bool)
    (h : g.source = .passing tag seatBeats) : s.respond g data err =
      (s.withPath { s.path with upPort := some { tag := tag, data := data, err := err } }).withMail
        { s.mail with
          seatErrors := s.mail.seatErrors ++ if err = true ∧ seatBeats ≠ [] then [(g.grant, seatBeats)] else [] } := by
  unfold State.respond
  rw [h]
  by_cases herr : err = true ∧ seatBeats ≠ []
  · simp only [if_pos herr]
    rfl
  · simp only [if_neg herr, List.append_nil]
    rfl

theorem respond_voided (s : State) {g : Granted} {tag : Tag} (data : List Beat) (err : Bool) (h : g.source = .agent tag true) :
    s.respond g data err = s := by
  unfold State.respond
  rw [h]

theorem respond_agent (s : State) {g : Granted} {tag : Tag} {data : List Beat} (err : Bool) (h : g.source = .agent tag false)
    (hdata : g.write = false → data.length = g.beats) : s.respond g data err =
      s.withMail (Mail.hand { s.mail with events := s.mail.events ++ if err then [.memError] else [] }
        { tag := tag, data := if g.write then [] else data, err := err }) := by
  unfold State.respond
  rw [h]
  cases err with
  | false => simp only [beatsOf_eq hdata, Bool.false_eq_true, if_false, List.append_nil]
  | true =>
    simp only [beatsOf_eq hdata, if_true, emit_event, emit_nil]
    rfl

/-- Settles O57. -/
theorem requestsPassAndResponsesReturn : Obligations.RequestsPassAndResponsesReturn := by
  refine ⟨fun s r haddr h1 h8 hdata => ?_, fun w a en inside hpasses hbase hinside => ?_,
    fun s r q cls hqueue hpass hroom hturn hwrite hlength hcls => ?_,
    fun s r q hqueue hroom hturn hwrite => portGrant_read hqueue hroom hturn hwrite, fun s data err => ⟨fun hstale => ?_,
    fun hstale hnone => ?_, fun g rest hstale hlist => ?_⟩⟩
  · rw [exec_passingRequest_of_wf s (passReq_wf haddr h1 h8 hdata)]
    unfold passingRequest
    exact ⟨fun h => by rw [if_pos h], fun h => by rw [if_neg (by omega)]⟩
  · have hfun : inside = fun base size => Inside base size a := by
      funext base size
      exact propext (hinside base size)
    rw [hfun]
    exact classify_of_passes a en hpasses hbase
  · obtain ⟨t, sent, hexec, hport, hsent, hbeats, hmail, hput⟩ := portGrant_write hpass hroom hturn hwrite hlength hcls
    refine ⟨t, sent, hexec, hport, hsent, hbeats, hmail, fun put h => ?_⟩
    obtain ⟨hsetup, hshows, hseat, hresponses, hnotice⟩ := hput put h
    refine ⟨hsetup, hshows, hseat, hresponses, fun hnone => ?_, fun b hb => ?_⟩
    · rw [hnotice, hnone]
      rfl
    · rw [hb] at hnotice
      exact ⟨fun h0 h1 => hnotice.trans (takeProducer_of_none h0 h1), fun h => by
        obtain ⟨v, hv, hbits⟩ := takeProducer_of_some (p := s.notices.produced) (old := s.intakes.notice) h
        exact ⟨v, hnotice.trans hv, hbits⟩⟩
  · exact congrArg (goOn s) (if_pos hstale)
  · refine goOn_of_nothing ?_
    unfold downstreamResponse
    rw [if_neg (by omega), hnone]
  · have hrun := downstreamResponse_of_cons data err hstale hlist
    refine ⟨fun tag seatBeats hsource => ?_, fun tag hsource => ?_, fun tag m hsource hdata hm => ?_⟩
    · rw [respond_passing _ data err hsource] at hrun
      exact congrArg (goOn s) hrun
    · rw [respond_voided _ data err hsource] at hrun
      exact congrArg (goOn s) hrun
    · rw [respond_agent _ err hsource hdata] at hrun
      subst hm
      exact congrArg (goOn s) hrun

end Sys2Proof.Machine
end

section
/-! Setup entries taken and read, and the words of results (R165, R166, R169, R170, R187, R188). -/

namespace Sys2Proof.Machine

/-! ### Bytes of a number -/

theorem leBytes_succ (k v : Nat) : leBytes (k + 1) v = BitVec.ofNat 8 v :: leBytes k (v / 256) := by
  unfold leBytes
  rw [List.range_succ_eq_map, List.map_cons, List.map_map, pow_zero, Nat.div_one]
  refine congrArg _ (List.map_congr_left fun i _ => ?_)
  simp only [Function.comp_apply, Nat.succ_eq_add_one]
  rw [Nat.div_div_eq_div_mul, pow_succ, Nat.mul_comm 256]

/-- The number that the bytes of a number spell, other bytes following. -/
theorem leNat_leBytes_append (k v : Nat) (bs : List Byte) : leNat (leBytes k v ++ bs) = v % 256 ^ k + 256 ^ k * leNat bs := by
  induction k generalizing v with
  | zero => simp [leBytes, Nat.mod_one]
  | succ k ih =>
    rw [leBytes_succ, List.cons_append, leNat, ih, BitVec.toNat_ofNat, show 2 ^ 8 = 256 from rfl, pow_succ, Nat.mul_comm (256 ^ k) 256, Nat.mod_mul]
    ring

theorem leNat_leBytes (k v : Nat) : leNat (leBytes k v) = v % 256 ^ k := by
  have h := leNat_leBytes_append k v []
  rwa [List.append_nil, leNat, Nat.mul_zero, Nat.add_zero] at h

/-- The number that a result word spells (R187). -/
theorem resultBeat_toNat (r : Result) : r.beat.toNat =
    r.index.toNat + 1024 * r.outcome.code + 65536 * r.seq.toNat + 4294967296 * r.value.toNat := by
  have hcode : r.outcome.code < 16 := by
    cases r.outcome <;> decide
  have hindex := r.index.isLt
  have hseq := r.seq.isLt
  have hvalue := r.value.isLt
  unfold Result.beat beatOfBytes
  rw [List.append_assoc, leNat_leBytes_append, leNat_leBytes_append, leNat_leBytes, BitVec.toNat_ofNat]
  omega

/-- The four fields of a result word (R187). -/
theorem resultBeat_fields (r : Result) : r.beat.extractLsb' 0 10 = r.index ∧ (r.beat.extractLsb' 10 4).toNat = r.outcome.code ∧
    r.beat.extractLsb' 16 16 = r.seq ∧ r.beat.extractLsb' 32 32 = r.value := by
  have hcode : r.outcome.code < 16 := by
    cases r.outcome <;> decide
  have hindex := r.index.isLt
  have hseq := r.seq.isLt
  have hvalue := r.value.isLt
  have hword := resultBeat_toNat r
  refine ⟨BitVec.eq_of_toNat_eq ?_, ?_, BitVec.eq_of_toNat_eq ?_, BitVec.eq_of_toNat_eq ?_⟩ <;>
    (rw [BitVec.extractLsb'_toNat, Nat.shiftRight_eq_div_pow, hword]; omega)

/-! ### Results written (R170) -/

theorem issueResult_of_room {s : State} (r : Result) (h : s.setup.outstanding < 4) :
    s.issueResult r = (s.withSetup { s.setup with outstanding := s.setup.outstanding + 1 }).withPath
      { s.path with writebackQ := s.path.writebackQ ++
        [{ cls := .writeback, write := true, addr := s.path.windows.setupBase + 16, beats := 1,
           data := [{ data := r.beat, enables := 0xFF }], tag := .result }] } := if_pos h

theorem result_of_room {u : State} (index : BitVec 10) (v : BitVec 32) (o : Outcome) (h : u.setup.outstanding < 4) :
    u.result index v o =
      (u.withSetup { u.setup with seq := u.setup.seq + 1, outstanding := u.setup.outstanding + 1 }).withPath
        { u.path with writebackQ := u.path.writebackQ ++
          [{ cls := .writeback, write := true, addr := u.path.windows.setupBase + 16, beats := 1,
             data := [{ data := Result.beat { index := index, value := v, outcome := o, seq := u.setup.seq + 1 },
                        enables := 0xFF }], tag := .result }] } := by
  rw [State.result, issueResult_of_room _ (by exact h)]
  rfl

theorem result_of_full {u : State} (index : BitVec 10) (v : BitVec 32) (o : Outcome) (h : 4 ≤ u.setup.outstanding) :
    u.result index v o = u.withSetup { u.setup with
      seq := u.setup.seq + 1, waiting := some { index := index, value := v, outcome := o, seq := u.setup.seq + 1 } } := by
  unfold State.result State.issueResult
  rw [if_neg (by simpa using h)]
  rfl

theorem resultWriteDone_run {s : State} {x : Response} {rest : List Response} (h : s.mail.setupResp = x :: rest) :
    resultWriteDone s = ((s.withMail { s.mail with setupResp := rest }).withSetup
      { s.setup with outstanding := s.setup.outstanding - 1 }).issueWaiting := by
  simp only [resultWriteDone, h]

theorem resultWriteDone_none {s : State} {x : Response} {rest : List Response} (h : s.mail.setupResp = x :: rest)
    (hnone : s.setup.waiting = none) : resultWriteDone s = (s.withMail { s.mail with setupResp := rest }).withSetup
      { s.setup with outstanding := s.setup.outstanding - 1 } := by
  rw [resultWriteDone_run h]
  unfold State.issueWaiting
  simp only [State.withSetup_setup, hnone]

theorem resultWriteDone_held {s : State} {x : Response} {rest : List Response} {r : Result} (h : s.mail.setupResp = x :: rest)
    (hheld : s.setup.waiting = some r) (hfour : s.setup.outstanding = 4) : resultWriteDone s =
      ((s.withMail { s.mail with setupResp := rest }).withSetup { s.setup with waiting := none }).withPath
        { s.path with writebackQ := s.path.writebackQ ++
          [{ cls := .writeback, write := true, addr := s.path.windows.setupBase + 16, beats := 1,
             data := [{ data := r.beat, enables := 0xFF }], tag := .result }] } := by
  have hback : s.setup.outstanding - 1 + 1 = s.setup.outstanding := by omega
  rw [resultWriteDone_run h]
  unfold State.issueWaiting
  simp only [State.withSetup_setup, hheld]
  rw [issueResult_of_room _ (by simp only [State.withSetup_setup]; omega)]
  simp only [State.withSetup_setup, hback]
  rfl

/-! ### The beat at the head of the setup intake (R165, R188) -/

section
variable {s : State} {b : IntakeBeat} {rest : List IntakeBeat}

theorem setupBeat_eq (hhead : s.intakes.setup = b :: rest) (hwaiting : s.setup.waiting = none) (hopen : s.setup.dayOpen = none) :
    s.setupBeat = some b := by
  unfold State.setupBeat
  rw [hwaiting, hopen, hhead]
  rfl

theorem popSetup_eq (hhead : s.intakes.setup = b :: rest) : s.popSetup = s.withIntakes { s.intakes with setup := rest } := by
  unfold State.popSetup
  rw [hhead]
  rfl

theorem takeEntry_of_cons (hhead : s.intakes.setup = b :: rest) :
    s.takeEntry = (s.withIntakes { s.intakes with setup := rest }).withSetup
      { s.setup with index := if s.setup.step then s.setup.index + 1 else s.setup.index } := by
  unfold State.takeEntry
  rw [popSetup_eq hhead]
  rfl

theorem indexBeat_run (hhead : s.intakes.setup = b :: rest) (hwaiting : s.setup.waiting = none) (hopen : s.setup.dayOpen = none)
    (haddr : b.addr = s.path.windows.setupBase) :
    indexBeat s = (s.withIntakes { s.intakes with setup := rest }).withSetup (s.setup.latch b) := by
  have hbeat : s.indexBeat = some b := by
    unfold State.indexBeat
    rw [setupBeat_eq hhead hwaiting hopen]
    rw [Option.filter_some, if_pos (by simpa using haddr)]
  unfold indexBeat
  rw [hbeat, ← popSetup_eq hhead]

theorem dataBeat_eq (hhead : s.intakes.setup = b :: rest) (hwaiting : s.setup.waiting = none) (hopen : s.setup.dayOpen = none)
    (haddr : b.addr ≠ s.path.windows.setupBase) : s.dataBeat = some b := by
  unfold State.dataBeat
  rw [setupBeat_eq hhead hwaiting hopen]
  rw [Option.filter_some, if_pos (by simpa using haddr)]

/-- The entry that the head beat forms, if any. -/
theorem entry_of_dataBeat (h : s.dataBeat = some b) : s.entry = if b.enables = 0 then none else some (entryOf s.setup.index b) := by
  unfold State.entry
  rw [h]

theorem readEntry_of_empty (hbeat : s.dataBeat = some b) (hnone : s.entry = none) : readEntry s = s.popSetup := by
  unfold readEntry
  rw [hnone, hbeat]

theorem readEntry_of_read {e : Entry} (he : s.entry = some e) (hrow : e.row = .read) :
    readEntry s = s.takeEntry.result e.index (s.reportedWord (Index.of e.index)) (Index.of e.index).readOutcome := by
  unfold readEntry
  rw [he]
  simp only [hrow]

end

theorem latch_index (u : Setup) (b : IntakeBeat) :
    (∀ i < 8, (u.latch b).index.getLsbD i = if b.enables.getLsbD 0 then b.data.getLsbD i else u.index.getLsbD i) ∧
    (∀ i, 8 ≤ i → i < 10 →
      (u.latch b).index.getLsbD i = if b.enables.getLsbD 1 then b.data.getLsbD i else u.index.getLsbD i) := by
  unfold Setup.latch
  refine ⟨fun i hi => ?_, fun i hlo hhi => ?_⟩
  · dsimp only
    rw [BitVec.getLsbD_append]
    cases b.enables.getLsbD 0 <;> simp [hi]
  · dsimp only
    rw [BitVec.getLsbD_append]
    cases b.enables.getLsbD 1 <;>
      simp [show ¬ i < 8 by omega, show 8 + (i - 8) = i by omega, show i - 8 < 2 by omega, show i < 10 by omega]

theorem entryOf_bits (index : BitVec 10) (b : IntakeBeat) {j i : Nat} (hj : j < 4) (hi : i < 8) :
    (entryOf index b).value.getLsbD (8 * j + i) = (b.enables.getLsbD j && b.data.getLsbD (8 * j + i)) ∧
      (entryOf index b).mask.getLsbD (8 * j + i) = (b.enables.getLsbD (4 + j) && b.data.getLsbD (32 + 8 * j + i)) := by
  unfold entryOf
  dsimp only
  rw [BitVec.getLsbD_extractLsb', BitVec.getLsbD_extractLsb', getLsbD_mergeBeat _ _ _ (by omega),
    getLsbD_mergeBeat _ _ _ (by omega), show (0 + (8 * j + i)) / 8 = j by omega, show (32 + (8 * j + i)) / 8 = 4 + j by omega,
    show 0 + (8 * j + i) = 8 * j + i by omega, show 32 + (8 * j + i) = 32 + 8 * j + i by omega]
  simp only [show 8 * j + i < 32 by omega, decide_true, Bool.true_and]
  cases b.enables.getLsbD j <;> cases b.enables.getLsbD (4 + j) <;> simp

/-! ### Entries that are read (R166, R169) -/

theorem row_of_mask {e : Entry} (h : e.mask = 0) : e.row = .read := by
  unfold Entry.row
  dsimp only
  cases Index.of e.index <;> simp [h]

/-- An index that no write reaches. -/
def Index.readsAlways : Index → Bool
  | .unused | .lobbyClock | .setupBase | .info _ _ => true
  | _ => false

theorem row_of_readsAlways {e : Entry} (h : (Index.of e.index).readsAlways = true) : e.row = .read := by
  unfold Entry.row
  dsimp only
  cases hi : Index.of e.index with
  | unused | lobbyClock | setupBase | info => rfl
  | _ => simp [hi, Index.readsAlways] at h

/-- A read answers with the word of its index (R169). -/
theorem readEntry_word {s : State} {e : Entry} {i : Index} {v : BitVec 32} (he : s.entry = some e) (hrow : e.row = .read)
    (hi : Index.of e.index = i) (hv : s.reportedWord i = v) :
    readEntry s = s.takeEntry.result e.index v i.readOutcome := by
  rw [readEntry_of_read he hrow, hi, hv]

/-- The word of a simple parameter, the manager key's hidden (R169). -/
theorem reportedWord_simple (s : State) (p : Simple) :
    s.reportedWord (.simple p) = if p = .managerKey then 0 else BitVec.ofNat 32 (s.params.simple p) := by
  cases p <;> rfl

end Sys2Proof.Machine
end

section
/-! Parameters stored by masked application (R153, R167, R168, R172). -/

namespace Sys2Proof.Machine

/-! ### The index of a row -/

theorem index_of_plain {e : Entry} {p : Simple} (h : e.row = .plain p) : Index.of e.index = .simple p ∧ simpleRow p = .plain p := by
  unfold Entry.row at h
  dsimp only at h
  generalize Index.of e.index = i at h ⊢
  by_cases hmask : e.mask = 0
  · cases i <;> simp_all
  · cases i with
    | simple q => cases q <;> simp_all [simpleRow] <;> subst h <;> rfl
    | ring n f => cases f <;> simp_all
    | control => simp only [hmask, if_false] at h; split at h <;> simp_all
    | _ => simp_all

theorem index_of_plainRing {e : Entry} {n : Fin 4} {f : RingField} (h : e.row = .plainRing n f) :
    Index.of e.index = .ring n f ∧ f ≠ .enable ∧ f ≠ .autoRestart := by
  unfold Entry.row at h
  dsimp only at h
  generalize Index.of e.index = i at h ⊢
  by_cases hmask : e.mask = 0
  · cases i <;> simp_all
  · cases i with
    | simple q => cases q <;> simp_all [simpleRow]
    | ring m g => cases g <;> simp_all <;> (obtain ⟨-, rfl⟩ := h; simp)
    | control => simp only [hmask, if_false] at h; split at h <;> simp_all
    | _ => simp_all

theorem index_of_window {e : Entry} {p : WindowParam} (h : e.row = .window p) : Index.of e.index = .window p := by
  unfold Entry.row at h
  dsimp only at h
  generalize Index.of e.index = i at h ⊢
  by_cases hmask : e.mask = 0
  · cases i <;> simp_all
  · cases i with
    | simple q => cases q <;> simp_all [simpleRow]
    | ring n f => cases f <;> simp_all
    | control => simp only [hmask, if_false] at h; split at h <;> simp_all
    | _ => simp_all

/-! ### Values stored (R167) -/

/-- The word that masked application starts from (R167). -/
theorem masked_eq {s : State} {e : Entry} {i : Index} (hi : Index.of e.index = i) {applied : BitVec 32 → BitVec 32}
    (happlied : ∀ old, applied old = (old &&& ~~~ e.mask) ||| (e.value &&& e.mask)) :
    s.masked e = applied (BitVec.ofNat 32 (s.storedWord i)) := by
  rw [happlied]
  unfold State.masked
  rw [hi]
  rfl

/-- The store after a plain parameter has taken a value. -/
def storedPlain (q : Params) (p : Simple) (x : Nat) (v : BitVec 32) : Params :=
  match p with
  | .managerKey => { q with managerKey := x }
  | .debounce => { q with debounce := x }
  | .setValue => { q with setValue := v }
  | .grace => { q with grace := x }
  | .cancelDisplay => { q with cancelDisplay := x }
  | .autoPriority => { q with autoPriority := x }
  | .period => { q with period := x }
  | _ => q

theorem setSimple_plain (q : Params) {p : Simple} {x : Nat} {v : BitVec 32} (hp : simpleRow p = .plain p)
    (hx : x = q.clampSimple p v.toNat) : q.setSimple p x = storedPlain q p x v := by
  subst hx
  cases p with
  | setValue => simp [Params.setSimple, Params.clampSimple, storedPlain]
  | managerKey | debounce | grace | cancelDisplay | autoPriority | period => rfl
  | _ => simp [simpleRow] at hp

theorem parameterEntry_plain {s : State} {e : Entry} {p : Simple} {x : Nat} (he : s.entry = some e) (hrow : e.row = .plain p)
    (hx : x = nearest (simpleRange p).1 (simpleRange p).2 (s.masked e).toNat) :
    parameterEntry s = (s.takeEntry.withParams (storedPlain s.params p x (s.masked e))).result e.index
      (if p = .managerKey then 0 else BitVec.ofNat 32 x) (if x = (s.masked e).toNat then .applied else .clamped) := by
  obtain ⟨hindex, hp⟩ := index_of_plain hrow
  have hclamp : x = s.params.clampSimple p (s.masked e).toNat := by
    rw [hx, clampSimple_eq _ (s.masked e).isLt fun h => by simp [h, simpleRow] at hp, if_neg]
    rintro ⟨rfl, -⟩
    simp [simpleRow] at hp
  have hstored := setSimple_plain s.params hp hclamp
  unfold parameterEntry
  simp only [he, hrow]
  rw [storeSimple_eq, takeEntry_params, ← hclamp, hstored, paramResult_simple hindex hclamp (by rw [hstored]; rfl)]

/-- A ring's parameters after a plain one has taken a value. -/
def RingParams.storedPlain (r : RingParams) (f : RingField) (x : Nat) (v : BitVec 32) : RingParams :=
  match f with
  | .shift => { r with shift := x }
  | .budget => { r with budget := x }
  | .check => { r with check := if x = 0 then .marker else if x = 1 then .crc16 else .crc32 }
  | .marker => { r with marker := v }
  | .returnLimit => { r with returnLimit := x }
  | .faultLimit => { r with faultLimit := x }
  | .lossLimit => { r with lossLimit := x }
  | .restartDelay => { r with restartDelay := x }
  | .lockLimit => { r with lockLimit := x }
  | .queryTimeout => { r with queryTimeout := x }
  | .enable | .autoRestart => r

theorem nearest_word (v : BitVec 32) : nearest 0 4294967295 v.toNat = v.toNat := by
  have := v.isLt
  unfold nearest
  rw [if_neg (by omega), if_neg (by omega)]

theorem ringClamp_eq (f : RingField) (v : BitVec 32) : f.clamp v.toNat = nearest (ringRange f).1 (ringRange f).2 v.toNat := by
  cases f with
  | marker => exact (nearest_word v).symm
  | enable | shift | check | autoRestart => exact min_eq_nearest _ _
  | _ => exact clampTo_eq_nearest (by decide)

theorem ofCode_eq (x : Nat) : CheckType.ofCode x = if x = 0 then .marker else if x = 1 then .crc16 else .crc32 := by
  rcases x with _ | _ | x
  · rfl
  · rfl
  · simp [CheckType.ofCode]

/-- A ring parameter as stored, and the word that it then reads as. -/
theorem setField_plain (r : RingParams) {f : RingField} {x : Nat} {v : BitVec 32}
    (hx : x = nearest (ringRange f).1 (ringRange f).2 v.toNat) (henable : f ≠ .enable) (hauto : f ≠ .autoRestart) :
    r.setField f (f.clamp v.toNat) = r.storedPlain f x v ∧ (r.storedPlain f x v).field f = x := by
  rw [ringClamp_eq, ← hx]
  cases f with
  | enable => exact absurd rfl henable
  | autoRestart => exact absurd rfl hauto
  | check =>
    have hle : x ≤ 2 := by
      have hrange : x = nearest 0 2 v.toNat := hx
      rw [hrange, ← min_eq_nearest]
      exact min_le_left _ _
    refine ⟨congrArg (fun c => { r with check := c }) (ofCode_eq x), ?_⟩
    simp only [RingParams.storedPlain, RingParams.field]
    rcases (by omega : x = 0 ∨ x = 1 ∨ x = 2) with rfl | rfl | rfl <;> rfl
  | marker =>
    have hsame : x = v.toNat := hx.trans (nearest_word v)
    subst hsame
    simp [RingParams.setField, RingParams.storedPlain, RingParams.field]
  | _ => exact ⟨rfl, rfl⟩

theorem parameterEntry_ring {s : State} {e : Entry} {n : Fin 4} {f : RingField} {x : Nat} {r : RingParams} (he : s.entry = some e)
    (hrow : e.row = .plainRing n f) (hr : s.params.ring.get n = r)
    (hx : x = nearest (ringRange f).1 (ringRange f).2 (s.masked e).toNat) :
    parameterEntry s =
      (s.takeEntry.withParams { s.params with ring := s.params.ring.set n (r.storedPlain f x (s.masked e)) }).result e.index
        (BitVec.ofNat 32 x) (if x = (s.masked e).toNat then .applied else .clamped) := by
  obtain ⟨hindex, henable, hauto⟩ := index_of_plainRing hrow
  obtain ⟨hset, hfield⟩ := setField_plain r hx henable hauto
  unfold parameterEntry
  simp only [he, hrow]
  rw [storeRing_eq, takeEntry_params, table_modify_eq_set, hr, hset, paramResult_ring hindex (x := x) (by
    rw [State.withParams_params, Table.get_set_self]
    exact hfield)]

theorem parameterEntry_control {s : State} {e : Entry} (he : s.entry = some e) (hrow : e.row = .controlNoReset) :
    parameterEntry s = s.takeEntry.result e.index 0 .applied := by
  unfold parameterEntry
  simp only [he, hrow]

/-! ### The window table (R153, R168) -/

/-- A window's value as stored (R168). -/
theorem windowClamp_eq (p : WindowParam) (v : BitVec 32) :
    p.clamp v = if p = .seatSize then BitVec.ofNat 32 (nearest 1 128 v.toNat) else v &&& ~~~ 0x3F#32 := by
  cases p with
  | seatSize =>
    rw [if_pos rfl, ← clampTo_eq_nearest (by decide)]
    rfl
  | _ => rfl

theorem param_setParam (w : Windows) (p : WindowParam) (x : BitVec 32) : (w.setParam p x).param p = x.toNat := by
  cases p <;> rfl

theorem windowBaseWrite_refused {s : State} {e : Entry} {p : WindowParam} {w : Windows} (he : s.entry = some e)
    (hrow : e.row = .window p) (hw : w = s.path.windows.setParam p (p.clamp (s.masked e))) (hfails : w.passes = false) :
    windowBaseWrite s = (s.takeEntry.withMail { s.mail with events := s.mail.events ++ [.setupRefused] }).result e.index
      (BitVec.ofNat 32 (s.path.windows.param p)) .refused := by
  unfold windowBaseWrite
  simp only [he, hrow]
  rw [← hw, hfails, index_of_window hrow]
  rfl

/-- A window's value stored: what follows at once, and the result. -/
theorem windowBaseWrite_stored {s u : State} {e : Entry} {p : WindowParam} {w : Windows} {x : BitVec 32} (he : s.entry = some e)
    (hrow : e.row = .window p) (hx : x = p.clamp (s.masked e)) (hw : w = s.path.windows.setParam p x) (hpasses : w.passes = true)
    (hu : (s.takeEntry.withPath { s.path with windows := w }).windowMoved p = u) (hwindows : u.path.windows = w) :
    windowBaseWrite s = u.result e.index x (if x.toNat = (s.masked e).toNat then .applied else .clamped) := by
  have hparam : u.path.windows.param p = x.toNat := by
    rw [hwindows, hw, param_setParam]
  unfold windowBaseWrite
  simp only [he, hrow]
  rw [← hx, ← hw, hpasses, if_pos rfl, hu, paramResult_eq, index_of_window hrow]
  simp only [State.reportedWord, State.storedWord, hparam, clampOutcome, BitVec.ofNat_toNat, BitVec.setWidth_eq]

end Sys2Proof.Machine
end

section
/-! Maps that leave the SEAT window (R26, R32, R51). -/

namespace Sys2Proof.Machine

theorem andThen_assoc {σ : Type} (p : σ × List Out) (f g : σ → σ × List Out) :
    andThen (andThen p f) g = andThen p fun x => andThen (f x) g := by
  simp [andThen]

theorem forAll_cons {σ α : Type} (a : α) (xs : List α) (f : α → σ → σ × List Out) (x : σ) :
    forAll (a :: xs) f x = andThen (f a x) (forAll xs f) := by
  induction xs using List.reverseRecOn with
  | nil => simp [forAll, andThen]
  | append_singleton xs b ih =>
    rw [← List.cons_append, forAll_concat, ih, andThen_assoc]
    simp only [andThen, forAll_concat]

/-! ### A slot freed while no other is UNBOUND -/

/-- A freed slot, and the show that takes it at once, if one waits. -/
def SeatSlot.passedOn (sl : SeatSlot) : Option WaitEntry → SeatSlot
  | none => sl.unbind
  | some w => sl.unbind.taken w

/-- The unit after a slot has been freed and offered, no other slot being UNBOUND while a show waits. -/
def Seats.passOn (q : Seats) (i : Fin 64) : Seats :=
  { q with
    slots := q.slots.set i ((q.slots.get i).passedOn q.waiting.head?)
    waiting := q.waiting.tail, reissues := q.reissues.filter fun r => decide (r.slot ≠ i) }

/-- What a freed slot sends, and the binding of the show that takes it. -/
def passOnOuts (s : State) (i : Fin 64) (sl : SeatSlot) (w : Option WaitEntry) : List Out :=
  (sl.statusOuts .none none ++ sl.noteOuts s Figure.none .none) ++ w.toList.map fun w => .entrySeat w.show_ .sweeping (some i)

/-- No slot is UNBOUND while a show waits (R34). -/
def Seats.Full (q : Seats) : Prop := q.waiting ≠ [] → ∀ i, (q.slots.get i).state ≠ .unbound

theorem free_of_full {q : Seats} (s : State) (i : Fin 64) (h : q.Full) :
    q.free s i = (q.passOn i, passOnOuts s i (q.slots.get i) q.waiting.head?) := by
  cases hw : q.waiting with
  | nil =>
    rw [free_of_nil hw]
    simp [Seats.passOn, SeatSlot.passedOn, passOnOuts, Seats.rebind, hw]
  | cons w ws =>
    have hall := h (by simp [hw])
    obtain ⟨j, -, -, hj, hfree⟩ := free_of_cons (s := s) (i := i) hw
    obtain rfl := hj.resolve_right (hall j)
    rw [hfree]
    simp [Seats.passOn, SeatSlot.passedOn, passOnOuts, Seats.rebind, hw, set_set_self]

theorem Seats.Full.passOn {q : Seats} (h : q.Full) (i : Fin 64) : (q.passOn i).Full := by
  intro hne j
  cases hw : q.waiting with
  | nil => exact absurd (by simp [Seats.passOn, hw]) hne
  | cons w ws =>
    by_cases hj : i = j
    · subst hj
      simp [Seats.passOn, SeatSlot.passedOn, hw, SeatSlot.taken]
    · simpa [Seats.passOn, hj] using h (by simp [hw]) j

/-! ### Slots freed one after another -/

/-- The unit after some slots have been freed in turn. -/
def Seats.passOnAll (q : Seats) (freed : List (Fin 64)) : Seats := freed.foldl Seats.passOn q

/-- What freed slots send, each followed by the binding of the show that takes it. -/
def passOnAllOuts (s : State) (slots : Table 64 SeatSlot) : List (Fin 64) → List WaitEntry → List Out
  | [], _ => []
  | i :: freed, waiting => passOnOuts s i (slots.get i) waiting.head? ++ passOnAllOuts s slots freed waiting.tail

theorem passOnAllOuts_congr (s : State) {slots slots' : Table 64 SeatSlot} {freed : List (Fin 64)} (waiting : List WaitEntry)
    (h : ∀ i ∈ freed, slots.get i = slots'.get i) : passOnAllOuts s slots freed waiting = passOnAllOuts s slots' freed waiting := by
  induction freed generalizing waiting with
  | nil => rfl
  | cons i freed ih =>
    rw [passOnAllOuts, passOnAllOuts, h i List.mem_cons_self, ih _ fun j hj => h j (List.mem_cons_of_mem _ hj)]

/-- A slot that holds a map outside the window (R26). -/
def SeatSlot.leaves (w : Windows) (sl : SeatSlot) : Bool := sl.active && !w.holdsMap sl.map sl.count

theorem passOn_get_of_ne {q : Seats} {i j : Fin 64} (h : i ≠ j) : (q.passOn i).slots.get j = q.slots.get j :=
  Table.get_set_of_ne _ h _

/-- The slots taken in their order: those that leave are freed in turn. -/
theorem forAll_leaves (s : State) (w : Windows) {l : List (Fin 64)} (hl : l.Nodup) {q : Seats} (h : q.Full) :
    forAll l (fun i q => if (q.slots.get i).leaves w then q.free s i else (q, [])) q =
      (q.passOnAll (l.filter fun i => (q.slots.get i).leaves w),
        passOnAllOuts s q.slots (l.filter fun i => (q.slots.get i).leaves w) q.waiting) := by
  induction l generalizing q with
  | nil => rfl
  | cons i l ih =>
    obtain ⟨hi, hl⟩ := List.nodup_cons.1 hl
    rw [forAll_cons]
    by_cases hit : (q.slots.get i).leaves w = true
    · have hother : ∀ j ∈ l, (q.passOn i).slots.get j = q.slots.get j := fun j hj =>
        passOn_get_of_ne fun heq => hi (heq ▸ hj)
      have hfilter : (l.filter fun j => ((q.passOn i).slots.get j).leaves w) = l.filter fun j => (q.slots.get j).leaves w :=
        List.filter_congr fun j hj => by rw [hother j hj]
      rw [if_pos hit, free_of_full s i h, List.filter_cons_of_pos (p := fun i => (q.slots.get i).leaves w) hit, andThen]
      dsimp only
      rw [ih hl (h.passOn i), hfilter,
        passOnAllOuts_congr s _ (fun j hj => hother j (List.mem_of_mem_filter hj))]
      rfl
    · rw [if_neg hit, List.filter_cons_of_neg (p := fun i => (q.slots.get i).leaves w) hit, andThen]
      dsimp only
      rw [ih hl h, List.nil_append]

theorem passOnAll_eq (q : Seats) (freed : List (Fin 64)) : q.passOnAll freed = { q with
    slots := (q.passOnAll freed).slots, waiting := q.waiting.drop freed.length
    reissues := q.reissues.filter fun r => decide (r.slot ∉ freed) } := by
  induction freed generalizing q with
  | nil => simp [Seats.passOnAll]
  | cons i freed ih =>
    have hstep : q.passOnAll (i :: freed) = (q.passOn i).passOnAll freed := rfl
    rw [hstep, ih]
    simp [Seats.passOn, List.filter_filter, Bool.and_comm]

theorem passOnAll_get_of_not_mem (q : Seats) {freed : List (Fin 64)} {i : Fin 64} (h : i ∉ freed) :
    (q.passOnAll freed).slots.get i = q.slots.get i := by
  induction freed generalizing q with
  | nil => rfl
  | cons j freed ih =>
    obtain ⟨hne, hrest⟩ := not_or.1 (mt List.mem_cons.2 h)
    exact (ih (q.passOn j) hrest).trans (passOn_get_of_ne fun heq => hne heq.symm)

/-- The slot freed at place k passes to the show that waits at place k. -/
theorem passOnAll_get (q : Seats) {freed : List (Fin 64)} (hfreed : freed.Nodup) {k : Nat} {i : Fin 64} (h : freed[k]? = some i) :
    (q.passOnAll freed).slots.get i = (q.slots.get i).passedOn q.waiting[k]? := by
  induction freed generalizing q k with
  | nil => simp at h
  | cons j freed ih =>
    obtain ⟨hj, hfreed⟩ := List.nodup_cons.1 hfreed
    cases k with
    | zero =>
      obtain rfl : j = i := by simpa using h
      refine (passOnAll_get_of_not_mem (q.passOn j) hj).trans ?_
      rw [Seats.passOn, Table.get_set_self, List.head?_eq_getElem?]
    | succ k =>
      have hne : j ≠ i := fun heq => hj (heq ▸ List.mem_of_getElem? h)
      refine (ih (q.passOn j) hfreed h).trans ?_
      rw [passOn_get_of_ne hne, Seats.passOn, List.getElem?_tail]

/-! ### What is sent -/

theorem posts_entrySeats {α : Type} (m : Mail) (l : List α) (f : α → Out) (h : ∀ x, ∃ j st sl, f x = .entrySeat j st sl) :
    m.posts (l.map f) = m := by
  induction l generalizing m with
  | nil => rfl
  | cons x l ih =>
    obtain ⟨j, st, sl, hx⟩ := h x
    rw [List.map_cons, posts_cons, hx]
    exact ih m

theorem posts_status (m : Mail) (sl : SeatSlot) (st : SeatStatus) (i : Option (Fin 64)) : m.posts (sl.statusOuts st i) = m := by
  unfold SeatSlot.statusOuts
  split <;> rfl

theorem posts_passOn (s : State) (m : Mail) (i : Fin 64) (sl : SeatSlot) (w : Option WaitEntry) :
    m.posts (passOnOuts s i sl w) = m.noted (seatsNotes s sl.bound sl.figure Figure.none .none) [] := by
  unfold passOnOuts
  rw [posts_append, posts_append, posts_status, slotNoteOuts_eq, noted_posts, soldOutEvents_none,
    posts_entrySeats _ _ _ fun w => ⟨_, _, _, rfl⟩]

theorem posts_passOnAll (s : State) (slots : Table 64 SeatSlot) (m : Mail) (freed : List (Fin 64)) (waiting : List WaitEntry) :
    m.posts (passOnAllOuts s slots freed waiting) =
      m.noted (freed.flatMap fun i => seatsNotes s (slots.get i).bound (slots.get i).figure Figure.none .none) [] := by
  induction freed generalizing m waiting with
  | nil => exact (noted_nil m).symm
  | cons i freed ih =>
    rw [passOnAllOuts, posts_append, posts_passOn, ih, noted_noted, List.flatMap_cons]
    rfl

/-- The outs of the Seat Tally Unit that write no status alone. -/
def SeatWrites (outs : List Out) : Prop := ∀ o ∈ outs, o.block = .mail ∨ ∃ j st sl, o = .entrySeat j st sl

theorem seatWrites_append {a b : List Out} (ha : SeatWrites a) (hb : SeatWrites b) : SeatWrites (a ++ b) := fun o ho =>
  (List.mem_append.1 ho).elim (ha o) (hb o)

theorem seatWrites_passOn (s : State) (i : Fin 64) (sl : SeatSlot) (w : Option WaitEntry) : SeatWrites (passOnOuts s i sl w) := by
  refine seatWrites_append (seatWrites_append (fun o ho => ?_) fun o ho => ?_) fun o ho => ?_
  · unfold SeatSlot.statusOuts at ho
    split at ho
    · obtain rfl := List.mem_singleton.1 ho
      exact .inr ⟨_, _, _, rfl⟩
    · cases ho
  · exact .inl (List.mem_singleton.1 (slotNoteOuts_sends s sl Figure.none .none o ho))
  · obtain ⟨w, -, rfl⟩ := List.mem_map.1 ho
    exact .inr ⟨_, _, _, rfl⟩

theorem seatWrites_passOnAll (s : State) (slots : Table 64 SeatSlot) (freed : List (Fin 64)) (waiting : List WaitEntry) :
    SeatWrites (passOnAllOuts s slots freed waiting) := by
  induction freed generalizing waiting with
  | nil => intro o ho; cases ho
  | cons i freed ih => exact seatWrites_append (seatWrites_passOn _ _ _ _) (ih _)

theorem send_of_mail_tracker (s : State) {o : Out} (h : o.block = .mail) : (s.send o).tracker = s.tracker := by
  cases o <;> simp_all [Out.block, State.send, Tracker.post]

theorem send_entrySeat_get (s : State) (k j : Fin 192) (st : SeatStatus) (sl : Option (Fin 64)) :
    (s.send (.entrySeat k st sl)).tracker.entries.get j =
      if k = j then { s.tracker.entries.get j with seatStatus := st, boundSlot := sl } else s.tracker.entries.get j := by
  by_cases h : k = j
  · subst h
    simp [State.send, Tracker.post]
  · simp [State.send, Tracker.post, h]

/-- An entry that no write names is as before. -/
theorem emit_entry_of_unnamed {outs : List Out} (h : SeatWrites outs) (s : State) {j : Fin 192}
    (hj : ∀ st sl, .entrySeat j st sl ∉ outs) : (s.emit outs).tracker.entries.get j = s.tracker.entries.get j := by
  induction outs generalizing s with
  | nil => rfl
  | cons o outs ih =>
    rw [emit_cons, ih (fun o ho => h o (List.mem_cons_of_mem _ ho)) _ fun st sl hm => hj st sl (List.mem_cons_of_mem _ hm)]
    rcases h o List.mem_cons_self with hmail | ⟨k, st, sl, rfl⟩
    · rw [send_of_mail_tracker s hmail]
    · rw [send_entrySeat_get, if_neg]
      rintro rfl
      exact hj st sl List.mem_cons_self

/-- An entry whose writes all agree holds what they say. -/
theorem emit_entry_of_agreed {outs : List Out} (h : SeatWrites outs) (s : State) {j : Fin 192} {st : SeatStatus}
    {sl : Option (Fin 64)} (hall : ∀ st' sl', .entrySeat j st' sl' ∈ outs → st' = st ∧ sl' = sl)
    (hsome : .entrySeat j st sl ∈ outs ∨
      ((s.tracker.entries.get j).seatStatus = st ∧ (s.tracker.entries.get j).boundSlot = sl)) :
    ((s.emit outs).tracker.entries.get j).seatStatus = st ∧ ((s.emit outs).tracker.entries.get j).boundSlot = sl := by
  induction outs generalizing s with
  | nil => exact hsome.resolve_left (by simp)
  | cons o outs ih =>
    rw [emit_cons]
    refine ih (fun o ho => h o (List.mem_cons_of_mem _ ho)) _ (fun st' sl' hm => hall st' sl' (List.mem_cons_of_mem _ hm)) ?_
    rcases h o List.mem_cons_self with hmail | ⟨k, st', sl', rfl⟩
    · rw [send_of_mail_tracker s hmail]
      refine hsome.imp_left fun hm => (List.mem_cons.1 hm).resolve_left ?_
      rintro rfl
      simp [Out.block] at hmail
    · rw [send_entrySeat_get]
      by_cases hk : k = j
      · subst hk
        obtain ⟨rfl, rfl⟩ := hall st' sl' List.mem_cons_self
        rw [if_pos rfl]
        exact .inr ⟨rfl, rfl⟩
      · rw [if_neg hk]
        refine hsome.imp_left fun hm => (List.mem_cons.1 hm).resolve_left ?_
        rintro heq
        injection heq with heq
        exact hk heq.symm

/-- The writes that freed slots bring. -/
theorem mem_passOnAll (s : State) (slots : Table 64 SeatSlot) {freed : List (Fin 64)} {waiting : List WaitEntry} {j : Fin 192}
    {st : SeatStatus} {sl : Option (Fin 64)} : .entrySeat j st sl ∈ passOnAllOuts s slots freed waiting ↔
      (∃ i ∈ freed, (slots.get i).bound = some j ∧ st = .none ∧ sl = none) ∨
      ∃ (k : Nat) (i : Fin 64) (w : WaitEntry), freed[k]? = some i ∧ waiting[k]? = some w ∧ w.show_ = j ∧ st = .sweeping ∧
        sl = some i := by
  have hone (i : Fin 64) (w : Option WaitEntry) : .entrySeat j st sl ∈ passOnOuts s i (slots.get i) w ↔
      ((slots.get i).bound = some j ∧ st = .none ∧ sl = none) ∨
        ∃ x, w = some x ∧ x.show_ = j ∧ st = .sweeping ∧ sl = some i := by
    have hstatus : .entrySeat j st sl ∈ (slots.get i).statusOuts .none none ↔
        (slots.get i).bound = some j ∧ st = .none ∧ sl = none := by
      unfold SeatSlot.statusOuts
      cases (slots.get i).bound with
      | none => simp
      | some sh => simp [eq_comm]
    have hnote : .entrySeat j st sl ∉ (slots.get i).noteOuts s Figure.none .none := by
      rw [slotNoteOuts_eq]
      simp
    unfold passOnOuts
    rw [List.mem_append, List.mem_append, or_iff_left hnote, hstatus]
    cases w <;> simp [eq_comm]
  revert waiting
  induction freed with
  | nil => simp [passOnAllOuts]
  | cons i freed ih =>
    intro waiting
    refine (List.mem_append.trans (or_congr (hone i waiting.head?) ih)).trans ?_
    constructor
    · rintro ((h | ⟨x, hx, h⟩) | (⟨i', hi', h⟩ | ⟨k, i', w, hk, hw, h⟩))
      · exact .inl ⟨i, List.mem_cons_self, h⟩
      · exact .inr ⟨0, i, x, rfl, by rwa [← List.head?_eq_getElem?], h⟩
      · exact .inl ⟨i', List.mem_cons_of_mem _ hi', h⟩
      · exact .inr ⟨k + 1, i', w, hk, by rwa [List.getElem?_tail] at hw, h⟩
    · rintro (⟨i', hi', h⟩ | ⟨k, i', w, hk, hw, h⟩)
      · rcases List.mem_cons.1 hi' with rfl | hi'
        · exact .inl (.inl h)
        · exact .inr (.inl ⟨i', hi', h⟩)
      · cases k with
        | zero =>
          obtain rfl : i = i' := by simpa using hk
          exact .inl (.inr ⟨w, by rwa [List.head?_eq_getElem?], h⟩)
        | succ k => exact .inr (.inr ⟨k, i', w, hk, by rwa [List.getElem?_tail], h⟩)

end Sys2Proof.Machine
end

section
/-! The Seat Tally Unit after a write of the SEAT base or size (R26), and the setup entries as a whole (O58). -/

namespace Sys2Proof.Machine

theorem outside_eq (w : Windows) (map : Addr) (count : Nat) : outside w map count = !w.holdsMap map count := by
  unfold outside Windows.holdsMap Windows.seatSize mapBeats
  rw [Nat.mul_comm w.seatUnits, Bool.decide_and, Bool.decide_and, Bool.and_assoc]

/-- The waiting shows whose maps are still inside. -/
def Seats.kept (q : Seats) (w : Windows) : List WaitEntry := q.waiting.filter fun x => !outside w x.map x.count

/-- The slots whose maps are outside. -/
def Seats.freed (q : Seats) (w : Windows) : List (Fin 64) :=
  (allFin 64).filter fun i => decide ((q.slots.get i).state ≠ .unbound) && outside w (q.slots.get i).map (q.slots.get i).count

/-- The writes to the waiting shows that leave. -/
def Seats.goneOuts (q : Seats) (w : Windows) : List Out :=
  (q.waiting.filter fun x => outside w x.map x.count).map fun x => .entrySeat x.show_ .none none

/-- What a moved SEAT window does, with no slot UNBOUND while a show waits. -/
theorem mapsLeft_eq (t : State) (w : Windows) {q : Seats} (h : q.Full) :
    q.mapsLeft t w = (({ q with waiting := q.kept w } : Seats).passOnAll (q.freed w),
      q.goneOuts w ++ passOnAllOuts t q.slots (q.freed w) (q.kept w)) := by
  have hkept : ({ q with waiting := q.kept w } : Seats).Full := fun hne => h fun hnil => hne (by simp [Seats.kept, hnil])
  have hfreed : ((allFin 64).filter fun i => (q.slots.get i).leaves w) = q.freed w := by
    refine List.filter_congr fun i _ => ?_
    rw [outside_eq]
    rfl
  have hall := forAll_leaves t w (l := allFin 64) (List.nodup_finRange 64) hkept
  have hin : (fun x : WaitEntry => w.holdsMap x.map x.count) = fun x => !outside w x.map x.count := by
    funext x
    rw [outside_eq, Bool.not_not]
  have hout : (fun x : WaitEntry => !w.holdsMap x.map x.count) = fun x => outside w x.map x.count := by
    funext x
    rw [outside_eq]
  unfold Seats.mapsLeft
  dsimp only
  rw [hin, hout, andThen]
  refine (congrArg (fun p : Seats × List Out => (p.1, q.goneOuts w ++ p.2)) hall).trans ?_
  dsimp only
  rw [hfreed]

theorem mapsLeft_sends (t : State) (w : Windows) (q : Seats) : Sends [.seats, .mail, .seatFields] (q.mapsLeft t w).2 := by
  refine Sends.andThen (sends_map _ _ _ fun _ => by simp [Out.block]) fun q => Sends.forAll (fun i q => ?_) _ _
  dsimp only
  split
  · exact free_sends _ _ _
  · exact sends_nil _

section
variable {s : State} {w : Windows}

theorem SeatsOk.full (h : SeatsOk s) : s.seats.Full := by
  obtain ⟨-, -, -, -, hfull, -⟩ := h
  exact hfull

/-- Two waiting shows of one number are one. -/
theorem SeatsOk.waiting_unique (h : SeatsOk s) {k m : Nat} {x y : WaitEntry} (hx : (s.seats.kept w)[k]? = some x)
    (hy : (s.seats.kept w)[m]? = some y) (hxy : x.show_ = y.show_) : k = m := by
  obtain ⟨-, -, -, hsorted, -⟩ := h
  have hkept : (s.seats.kept w).Pairwise fun a b => a.show_ ≠ b.show_ :=
    (hsorted.imp And.right).sublist List.filter_sublist
  obtain ⟨hk, rfl⟩ := List.getElem?_eq_some_iff.1 hx
  obtain ⟨hm, rfl⟩ := List.getElem?_eq_some_iff.1 hy
  rcases lt_trichotomy k m with hlt | heq | hgt
  · exact absurd hxy (List.pairwise_iff_getElem.1 hkept k m hk hm hlt)
  · exact heq
  · exact absurd hxy.symm (List.pairwise_iff_getElem.1 hkept m k hm hk hgt)

/-- A show that leaves the wait list is not one that stays. -/
theorem SeatsOk.gone_not_kept (h : SeatsOk s) {x y : WaitEntry} (hx : x ∈ s.seats.waiting) (hgone : outside w x.map x.count = true)
    (hy : y ∈ s.seats.kept w) : x.show_ ≠ y.show_ := by
  obtain ⟨-, -, -, hsorted, -⟩ := h
  obtain ⟨hy, hin⟩ := List.mem_filter.1 hy
  have hne : x ≠ y := by
    rintro rfl
    simp [hgone] at hin
  have hsymm : Std.Symm fun a b : WaitEntry => a.show_ ≠ b.show_ := ⟨fun _ _ h => h.symm⟩
  exact (hsorted.imp And.right).forall hx hy hne

theorem SeatsOk.bound_not_waiting (h : SeatsOk s) {i : Fin 64} {x : WaitEntry} (hx : x ∈ s.seats.waiting) :
    (s.seats.slots.get i).bound ≠ some x.show_ := by
  obtain ⟨-, -, hapart, -⟩ := h
  exact hapart i x hx

/-- The writes that a moved SEAT window brings. -/
theorem mem_mapsLeft {t : State} {j : Fin 192} {st : SeatStatus} {sl : Option (Fin 64)} :
    .entrySeat j st sl ∈ s.seats.goneOuts w ++ passOnAllOuts t s.seats.slots (s.seats.freed w) (s.seats.kept w) ↔
      (((∃ x ∈ s.seats.waiting, outside w x.map x.count = true ∧ x.show_ = j) ∨
          ∃ i ∈ s.seats.freed w, (s.seats.slots.get i).bound = some j) ∧ st = .none ∧ sl = none) ∨
      ∃ (k : Nat) (i : Fin 64) (x : WaitEntry), (s.seats.freed w)[k]? = some i ∧ (s.seats.kept w)[k]? = some x ∧ x.show_ = j ∧
        st = .sweeping ∧ sl = some i := by
  rw [List.mem_append]
  refine (or_congr_right (mem_passOnAll t s.seats.slots)).trans ?_
  rw [← or_assoc]
  refine or_congr_left ?_
  simp only [Seats.goneOuts, List.mem_map, List.mem_filter, Out.entrySeat.injEq]
  constructor
  · rintro (⟨x, ⟨hx, hgone⟩, rfl, rfl, rfl⟩ | ⟨i, hi, hb, rfl, rfl⟩)
    · exact ⟨.inl ⟨x, hx, hgone, rfl⟩, rfl, rfl⟩
    · exact ⟨.inr ⟨i, hi, hb⟩, rfl, rfl⟩
  · rintro ⟨⟨x, hx, hgone, rfl⟩ | ⟨i, hi, hb⟩, rfl, rfl⟩
    · exact .inl ⟨x, ⟨hx, hgone⟩, rfl, rfl, rfl⟩
    · exact .inr ⟨i, hi, hb, rfl, rfl⟩

/-- The shows whose fields return to NONE take no slot. -/
theorem SeatsOk.leaving_takes_none (h : SeatsOk s) {j : Fin 192}
    (hj : (∃ x ∈ s.seats.waiting, outside w x.map x.count = true ∧ x.show_ = j) ∨
      ∃ i ∈ s.seats.freed w, (s.seats.slots.get i).bound = some j) {y : WaitEntry} (hy : y ∈ s.seats.kept w) : y.show_ ≠ j := by
  rcases hj with ⟨x, hx, hgone, rfl⟩ | ⟨i, -, hb⟩
  · exact (h.gone_not_kept hx hgone hy).symm
  · rintro rfl
    exact h.bound_not_waiting (List.mem_of_mem_filter hy) hb

theorem seatWrites_mapsLeft (t : State) :
    SeatWrites (s.seats.goneOuts w ++ passOnAllOuts t s.seats.slots (s.seats.freed w) (s.seats.kept w)) := by
  refine seatWrites_append (fun o ho => ?_) (seatWrites_passOnAll _ _ _ _)
  obtain ⟨x, -, rfl⟩ := List.mem_map.1 ho
  exact .inr ⟨_, _, _, rfl⟩

/-- What a write of the SEAT base or size does in the Seat Tally Unit (R26). -/
theorem mapsLeave_of_seatsOk {t : State} (htracker : t.tracker = s.tracker) (hmail : t.mail = s.mail) (hok : SeatsOk s) :
    MapsLeave s (t.seatsDo (s.seats.mapsLeft t w)) w := by
  have hrun : t.seatsDo (s.seats.mapsLeft t w) =
      (t.withSeats (({ s.seats with waiting := s.seats.kept w } : Seats).passOnAll (s.seats.freed w))).emit
        (s.seats.goneOuts w ++ passOnAllOuts t s.seats.slots (s.seats.freed w) (s.seats.kept w)) := by
    rw [mapsLeft_eq t w hok.full]
    rfl
  have hnodup : (s.seats.freed w).Nodup := (List.nodup_finRange 64).filter _
  rw [hrun]
  refine ⟨s.seats.kept w, s.seats.freed w, rfl, rfl, ?_, fun i hi => ?_, fun k i sl sl' hk hsl hsl' => ?_, ?_,
    fun j e f he hf => ?_⟩
  · rw [emit_seats]
    exact passOnAll_eq _ _
  · rw [emit_seats]
    exact passOnAll_get_of_not_mem _ hi
  · rw [emit_seats] at hsl'
    have hslot := passOnAll_get ({ s.seats with waiting := s.seats.kept w } : Seats) hnodup hk
    rw [← hsl', ← hsl]
    refine ⟨fun hnone => hslot.trans (by simp only [hnone]; rfl), fun x hx => ?_⟩
    have htaken : (({ s.seats with waiting := s.seats.kept w } : Seats).passOnAll (s.seats.freed w)).slots.get i =
        (s.seats.slots.get i).unbind.taken x := hslot.trans (by simp only [hx]; rfl)
    rw [State.withSeats_seats, htaken]
    refine ⟨rfl, rfl, rfl, rfl, rfl, rfl, ?_, rfl, rfl, rfl, rfl, rfl⟩
    simp only [SeatSlot.taken, SeatSlot.unbind]
    bv_omega
  · have hnotes (sh : Option (Fin 192)) (old new : Figure) (st : SeatStatus) : seatsNotes t sh old new st = seatsNotes s sh old new st := by
      unfold seatsNotes
      rw [htracker]
    rw [emit_mail, posts_append, Seats.goneOuts, posts_entrySeats _ _ _ fun x => ⟨_, _, _, rfl⟩, posts_passOnAll]
    simp only [hnotes, State.withSeats_mail, hmail]
  · have hwrites := seatWrites_mapsLeft (s := s) (w := w) t
    have hentry : (t.withSeats (({ s.seats with waiting := s.seats.kept w } : Seats).passOnAll (s.seats.freed w))).tracker.entries.get
        j = e := by
      rw [State.withSeats_tracker, htracker, he]
    subst hf
    refine ⟨?_, fun k i x hk hx hj => ?_, fun hj => ?_, fun x hx hj => ?_, fun hwait hbound => ?_⟩
    · obtain ⟨st, sl, hval⟩ := emit_entry _ (s.seats.goneOuts w ++ passOnAllOuts t s.seats.slots (s.seats.freed w) (s.seats.kept w)) j
      rw [hval, hentry]
    · refine emit_entry_of_agreed hwrites _ (fun st sl hm => ?_) (.inl (mem_mapsLeft.2 (.inr ⟨k, i, x, hk, hx, hj, rfl, rfl⟩)))
      rcases mem_mapsLeft.1 hm with ⟨hleaves, -⟩ | ⟨m, i', y, hm, hy, hj', rfl, rfl⟩
      · exact absurd hj (hok.leaving_takes_none hleaves (List.mem_of_getElem? hx))
      · obtain rfl := hok.waiting_unique hx hy (hj.trans hj'.symm)
        rw [hk] at hm
        exact ⟨rfl, hm.symm⟩
    · refine emit_entry_of_agreed hwrites _ (fun st sl hm => ?_) (.inl (mem_mapsLeft.2 (.inl ⟨by simpa using hj, rfl, rfl⟩)))
      rcases mem_mapsLeft.1 hm with ⟨-, rfl, rfl⟩ | ⟨m, i', y, hm, hy, hj', -⟩
      · exact ⟨rfl, rfl⟩
      · exact absurd hj' (hok.leaving_takes_none (by simpa using hj) (List.mem_of_getElem? hy))
    · rw [emit_entry_of_unnamed hwrites _ fun st sl hm => ?_, hentry]
      obtain ⟨m, hm'⟩ := List.mem_iff_getElem?.1 hx
      rw [List.getElem?_drop] at hm'
      rcases mem_mapsLeft.1 hm with ⟨hleaves, -⟩ | ⟨k, i', y, hk, hy, hj', -⟩
      · exact hok.leaving_takes_none hleaves (List.mem_of_mem_drop hx) hj
      · have heq := hok.waiting_unique hm' hy (hj.trans hj'.symm)
        obtain ⟨hlt, -⟩ := List.getElem?_eq_some_iff.1 hk
        omega
    · rw [emit_entry_of_unnamed hwrites _ fun st sl hm => ?_, hentry]
      rcases mem_mapsLeft.1 hm with ⟨⟨x, hx, -, hj⟩ | ⟨i, hi, hb⟩, -⟩ | ⟨k, i', y, hk, hy, hj', -⟩
      · exact hwait x hx hj
      · exact hbound i hi hb
      · exact hwait y (List.mem_of_mem_filter (List.mem_of_getElem? hy)) hj'

end

end Sys2Proof.Machine
end

section
/-! Setup entries, read, applied, answered and felt by other blocks (R26, R52, R165 to R170, R177, R188). -/

namespace Sys2Proof.Machine

/-! ### What follows a stored window value (R26, R52, R177) -/

section
variable {s : State} {w : Windows}

/-- The state with an entry taken and a window table stored. -/
def State.withWindows (s : State) (w : Windows) : State := s.takeEntry.withPath { s.path with windows := w }

theorem notice_waits (h : s.notices.reader ≠ .idle ∨ s.notices.produced = s.notices.consumed ∨ w.noticeBase = 0) :
    (s.withWindows w).windowMoved .noticeBase = s.withWindows w := by
  have hbusy : s.notices.begin w = (s.notices, []) := begin_of_busy (by tauto)
  exact congrArg (s.withWindows w).noticesDo hbusy

theorem notice_begins (hidle : s.notices.reader = .idle) (hwaits : s.notices.produced ≠ s.notices.consumed)
    (hbase : w.noticeBase ≠ 0) : (s.withWindows w).windowMoved .noticeBase =
      (s.takeEntry.withNotices { s.notices with
          reader := .record, number := s.notices.consumed, consumed := s.notices.consumed + 1
          outstanding := 1 }).withPath { s.path with
        windows := w, recordQ := s.path.recordQ ++ [noticeRead w.noticeBase s.notices.consumed] } :=
  (congrArg (s.withWindows w).noticesDo (begin_of_idle hidle hwaits hbase)).trans (emit_record _ _ _)

theorem seats_moved {p : WindowParam} (hp : p = .seatBase ∨ p = .seatSize) :
    (s.withWindows w).windowMoved p = (s.withWindows w).seatsDo (s.seats.mapsLeft (s.withWindows w) w) := by
  rcases hp with rfl | rfl <;> rfl

theorem seatsDo_windows (t : State) (q : Seats × List Out) : (t.seatsDo q).path.windows = t.path.windows := by
  rw [seatsDo_eq, emit_path]
  rfl

theorem withWindows_frame : Frame [.port, .intakes, .setup, .seats, .seatFields, .mail] s (s.withWindows w) := by
  intro b hb
  by_cases hqueues : b = .classQueues
  · subst hqueues
    exact ⟨rfl, rfl, rfl, rfl⟩
  · have hframe : Frame [.port, .classQueues, .intakes, .setup, .seats, .seatFields, .mail] s (s.withWindows w) :=
      ((takeEntry_frame s).mono (by simp)).trans ((frame_withPath _ _).mono (by simp))
    exact hframe b (by simp_all)

end

/-! ### The entries -/

section
variable {s : State} {e : Entry}

/-- A window value stored: what the Seat Tally Unit, the notice reader and the changed mark make of it. -/
theorem windowBaseWrite_effects {p : WindowParam} {w : Windows} {x : BitVec 32} {o : Outcome} (he : s.entry = some e)
    (hrow : e.row = .window p) (hx : x = p.clamp (s.masked e)) (hw : w = s.path.windows.setParam p x) (hpasses : w.passes = true)
    (ho : o = if x.toNat = (s.masked e).toNat then .applied else .clamped) :
    (p = .showBase → exec .windowBaseWrite s = .next (commit s ((s.withWindows w).result e.index x o))) ∧
    (p = .statusBase → exec .windowBaseWrite s = .next (commit s
      (((s.withWindows w).withEvents { s.events with changed := true }).result e.index x o))) ∧
    (p = .noticeBase →
      (s.notices.reader ≠ .idle ∨ s.notices.produced = s.notices.consumed ∨ w.noticeBase = 0 →
        exec .windowBaseWrite s = .next (commit s ((s.withWindows w).result e.index x o))) ∧
      (s.notices.reader = .idle → s.notices.produced ≠ s.notices.consumed → w.noticeBase ≠ 0 →
        exec .windowBaseWrite s = .next (commit s
          (((s.takeEntry.withNotices { s.notices with
              reader := .record, number := s.notices.consumed, consumed := s.notices.consumed + 1
              outstanding := 1 }).withPath { s.path with
            windows := w, recordQ := s.path.recordQ ++ [noticeRead w.noticeBase s.notices.consumed] }).result e.index x o)))) ∧
    (p = .seatBase ∨ p = .seatSize → ∃ u : State,
      exec .windowBaseWrite s = .next (commit s (u.result e.index x o)) ∧
      u.path.windows = w ∧ u.intakes = s.takeEntry.intakes ∧ u.setup = s.takeEntry.setup ∧
      Frame [.port, .intakes, .setup, .seats, .seatFields, .mail] s u ∧ (SeatsOk s → MapsLeave s u w)) := by
  subst ho
  refine ⟨?_, ?_, ?_, fun hp => ?_⟩
  · rintro rfl
    exact congrArg (goOn s) (windowBaseWrite_stored he hrow hx hw hpasses rfl rfl)
  · rintro rfl
    exact congrArg (goOn s) (windowBaseWrite_stored he hrow hx hw hpasses rfl rfl)
  · rintro rfl
    exact ⟨fun hwaits => congrArg (goOn s) (windowBaseWrite_stored he hrow hx hw hpasses (notice_waits hwaits) rfl),
      fun hidle hdue hbase =>
        congrArg (goOn s) (windowBaseWrite_stored he hrow hx hw hpasses (notice_begins hidle hdue hbase) rfl)⟩
  · have hwindows := seatsDo_windows (s.withWindows w) (s.seats.mapsLeft (s.withWindows w) w)
    exact ⟨_, congrArg (goOn s) (windowBaseWrite_stored he hrow hx hw hpasses (seats_moved hp) hwindows), hwindows,
      emit_intakes _ _, emit_setup _ _,
      withWindows_frame.trans ((frame_withSeats _ _).emit ((mapsLeft_sends _ _ _).mono (by simp)) (by simp)),
      mapsLeave_of_seatsOk rfl rfl⟩

/-- The word that an index with a value of its own reads as (R169). -/
theorem readEntry_words (he : s.entry = some e) :
    (Index.of e.index = .unused → exec .readEntry s = .next (commit s (s.takeEntry.result e.index 0 .noSuch))) ∧
    (∀ v, (Index.of e.index = .lobbyClock ∧ v = BitVec.ofNat 32
          (s.tracker.seconds + 2 ^ 30 * bit s.tracker.held + 2 ^ 31 * bit s.tracker.run)) ∨
        (Index.of e.index = .setupBase ∧
          v = BitVec.ofNat 32 (s.path.windows.setupBase.toNat + s.path.windows.strap.toNat)) ∨
        (∃ sc f, Index.of e.index = .info sc f ∧ v = BitVec.ofNat 32 ((s.slotOf sc).info f)) →
      exec .readEntry s = .next (commit s (s.takeEntry.result e.index v .readOnly))) := by
  have hread {v : BitVec 32} {o : Outcome} {i : Index} (hi : Index.of e.index = i) (halways : i.readsAlways = true)
      (hv : s.reportedWord i = v) (ho : i.readOutcome = o) :
      exec .readEntry s = .next (commit s (s.takeEntry.result e.index v o)) := by
    have hrun := readEntry_word he (row_of_readsAlways (hi ▸ halways)) hi hv
    rw [ho] at hrun
    exact congrArg (goOn s) hrun
  refine ⟨fun hi => hread hi rfl rfl rfl, ?_⟩
  rintro v (⟨hi, hv⟩ | ⟨hi, hv⟩ | ⟨sc, f, hi, hv⟩)
  · exact hread hi rfl hv.symm rfl
  · exact hread hi rfl hv.symm rfl
  · exact hread hi rfl hv.symm rfl

/-- A mask of 0 reads a word that a write could reach (R166). -/
theorem readEntry_masked (he : s.entry = some e) (hmask : e.mask = 0) {v : BitVec 32} {i : Index} (hi : Index.of e.index = i)
    (hv : s.reportedWord i = v) (ho : i.readOutcome = .applied) :
    exec .readEntry s = .next (commit s (s.takeEntry.result e.index v .applied)) := by
  have hrun := readEntry_word he (row_of_mask hmask) hi hv
  rw [ho] at hrun
  exact congrArg (goOn s) hrun

end

/-- Settles O58. -/
theorem setupEntriesAreAnswered : Obligations.SetupEntriesAreAnswered := by
  refine ⟨fun s b rest hhead hwaiting hopen haddr => ?_, fun s b rest e hhead hwaiting hopen haddr => ?_,
    fun s e v applied outcome he hv happlied houtcome => ?_, fun u index v o => ?_, fun s x rest hresp => ?_⟩
  · obtain ⟨hlow, hhigh⟩ := latch_index s.setup b
    exact ⟨_, _, congrArg (goOn s) (indexBeat_run hhead hwaiting hopen haddr), hlow, hhigh, rfl⟩
  · have hbeat := dataBeat_eq hhead hwaiting hopen haddr
    have hentry := entry_of_dataBeat hbeat
    refine ⟨fun hnone => ?_, fun hsome he => ?_⟩
    · rw [if_pos hnone] at hentry
      have hrun := readEntry_of_empty hbeat hentry
      rw [popSetup_eq hhead] at hrun
      exact ⟨hentry, congrArg (goOn s) hrun⟩
    · rw [if_neg hsome, he, Option.some.injEq] at hentry
      obtain ⟨hunused, hreads⟩ := readEntry_words he
      refine ⟨by rw [hentry]; rfl, fun j hj i hi => by rw [hentry]; exact entryOf_bits _ _ hj hi, takeEntry_of_cons hhead,
        hunused, fun v hvalue => hreads v ?_, fun p hp hmask => readEntry_masked he hmask hp (reportedWord_simple s p) rfl,
        fun v hmask hvalue => ?_⟩
      · refine hvalue.imp_right (Or.imp_right ?_)
        rintro ⟨sc, f, hi, rfl⟩
        exact ⟨sc, f, hi, by cases f <;> rfl⟩
      · rcases hvalue with ⟨hi, rfl⟩ | ⟨hi, rfl⟩ | ⟨hi, rfl⟩ | ⟨hi, rfl⟩ | ⟨hi, rfl⟩ | ⟨ch, hi, rfl⟩ | ⟨ch, hi, rfl⟩ |
          ⟨n, f, hi, rfl⟩ | ⟨sc, no, x, hi, rfl, rfl⟩ | ⟨sc, no, x, hi, rfl, rfl⟩ | ⟨hcommand, rfl⟩
        · exact readEntry_masked he hmask hi (by simp [State.reportedWord, State.storedWord, Windows.param]) rfl
        · exact readEntry_masked he hmask hi (by simp [State.reportedWord, State.storedWord, Windows.param]) rfl
        · exact readEntry_masked he hmask hi rfl rfl
        · exact readEntry_masked he hmask hi (by simp [State.reportedWord, State.storedWord, Windows.param]) rfl
        · exact readEntry_masked he hmask hi (by simp [State.reportedWord, State.storedWord, Windows.param]) rfl
        · exact readEntry_masked he hmask hi (by simp [State.reportedWord, State.storedWord]) rfl
        · exact readEntry_masked he hmask hi rfl rfl
        · exact readEntry_masked he hmask hi rfl rfl
        · exact readEntry_masked he hmask hi rfl rfl
        · exact readEntry_masked he hmask hi rfl rfl
        · rcases hcommand with hcommand | ⟨ch, hcommand⟩
          · simp only [List.mem_cons, List.not_mem_nil, or_false] at hcommand
            rcases hcommand with hi | hi | hi | hi | hi | hi | hi <;> exact readEntry_masked he hmask hi rfl rfl
          · simp only [List.mem_cons, List.not_mem_nil, or_false] at hcommand
            rcases hcommand with hi | hi | hi <;> exact readEntry_masked he hmask hi rfl rfl
  · refine ⟨fun p x hrow hx => ?_, fun n f x r hrow hr hx => ?_, fun hrow => congrArg (goOn s) (parameterEntry_control he hrow),
      fun p w x hrow hx hw => ?_⟩
    · rw [hv] at hx ⊢
      refine ⟨masked_eq (index_of_plain hrow).1 happlied, ?_⟩
      rw [houtcome, hv]
      refine (congrArg (goOn s) (parameterEntry_plain he hrow hx)).trans ?_
      cases p <;> rfl
    · rw [hv] at hx ⊢
      refine ⟨?_, ?_⟩
      · rw [masked_eq (index_of_plainRing hrow).1 happlied, ← hr]
        rfl
      · rw [houtcome, hv]
        refine (congrArg (goOn s) (parameterEntry_ring he hrow hr hx)).trans ?_
        cases f <;> rfl
    · rw [hv, ← windowClamp_eq] at hx
      have htable : w = s.path.windows.setParam p x := by
        rw [hw]
        cases p <;> rfl
      rw [houtcome, hv]
      refine ⟨masked_eq (index_of_window hrow) happlied, fun hfails => ?_, ?_⟩
      · exact congrArg (goOn s) (windowBaseWrite_refused he hrow (hx ▸ htable) hfails)
      · have heffects (hpasses : w.passes = true) := windowBaseWrite_effects he hrow hx htable hpasses rfl
        exact ⟨fun hpasses => (heffects hpasses).1, fun hpasses => (heffects hpasses).2.1,
          fun hpasses => (heffects hpasses).2.2.1, fun hpasses => (heffects hpasses).2.2.2⟩
  · refine ⟨fun hroom => ?_, fun hfull => result_of_full index v o hfull⟩
    obtain ⟨hindex, hcode, hseq, hvalue⟩ :=
      resultBeat_fields { index := index, value := v, outcome := o, seq := u.setup.seq + 1 }
    exact ⟨_, result_of_room index v o hroom, hindex, hcode, hseq, hvalue⟩
  · exact ⟨fun hnone => congrArg (goOn s) (resultWriteDone_none hresp hnone),
      fun r hheld hfour => congrArg (goOn s) (resultWriteDone_held hresp hheld hfour)⟩

end Sys2Proof.Machine
end

section
/-! Events counted and acknowledged, and the interrupt line (R173 to R176). -/

namespace Sys2Proof.Machine

/-! ### Kinds and groups -/

/-- A kind is found at its place. -/
theorem allKinds_index (k : EventKind) : allKinds[k.index.val]? = some k := by
  cases k <;> rfl

theorem index_injective {j k : EventKind} (h : j.index = k.index) : j = k := by
  have hj := allKinds_index j
  rw [h, allKinds_index k] at hj
  exact (Option.some.inj hj).symm

theorem mem_allKinds (k : EventKind) : k ∈ allKinds := List.mem_of_getElem? (allKinds_index k)

/-- Counters set to 0 for the kinds that pass a test. -/
theorem foldl_clear (p : EventKind → Bool) (l : List EventKind) (t : Table 26 Nat) (j : EventKind) :
    (l.foldl (fun t k => if p k then t.set k.index 0 else t) t).get j.index =
      if j ∈ l ∧ p j = true then 0 else t.get j.index := by
  induction l generalizing t with
  | nil => simp
  | cons k l ih =>
    rw [List.foldl_cons, ih]
    by_cases hj : j = k
    · subst hj
      by_cases hp : p j = true
      · simp [hp]
      · simp [hp]
    · have hne : k.index ≠ j.index := fun h => hj (index_injective h).symm
      by_cases hp : p k = true
      · simp [hj, hp, hne]
      · simp [hj, hp]

/-! ### Acknowledgements (R176) -/

theorem ack_fields (arg : BitVec 32) (v : Events) :
    v.ack arg = { v with pending := (v.ack arg).pending, counters := (v.ack arg).counters } := by
  unfold Events.ack Events.clearCounters
  dsimp only
  split <;> rfl

theorem ack_pending (arg : BitVec 32) (v : Events) {g : Nat} (hg : g < 7) :
    (v.ack arg).pending.getLsbD g = (v.pending.getLsbD g && !arg.getLsbD g) := by
  have hpending : (v.ack arg).pending = v.pending &&& ~~~ arg.extractLsb' 0 7 := by
    unfold Events.ack Events.clearCounters
    dsimp only
    split <;> rfl
  rw [hpending, BitVec.getLsbD_and, BitVec.getLsbD_not, BitVec.getLsbD_extractLsb']
  simp [hg]

theorem ack_counter (arg : BitVec 32) (v : Events) (k : EventKind) : (v.ack arg).counters.get k.index =
    if arg.getLsbD 8 = true ∧ arg.getLsbD k.group.bit.val = true then 0 else v.counters.get k.index := by
  have hgroup : (arg.extractLsb' 0 7).getLsbD k.group.bit.val = arg.getLsbD k.group.bit.val := by
    rw [BitVec.getLsbD_extractLsb', Nat.zero_add, decide_eq_true k.group.bit.isLt, Bool.true_and]
  unfold Events.ack
  dsimp only
  by_cases h8 : arg.getLsbD 8 = true
  · rw [if_pos h8]
    unfold Events.clearCounters
    dsimp only
    rw [foldl_clear fun k => (arg.extractLsb' 0 7).getLsbD k.group.bit.val, hgroup]
    exact if_congr (by simp [mem_allKinds, h8]) rfl rfl
  · rw [if_neg h8, if_neg fun h => h8 h.1]

theorem eventAck_run {s : State} {e : Entry} (he : s.entry = some e) (hrow : e.row = .eventAck) :
    eventAck s = (s.takeEntry.withEvents (s.events.ack e.argument)).result e.index e.argument .applied := by
  simp only [eventAck, he, hrow]

/-! ### Events taken (R173) -/

theorem count_pending (k : EventKind) (v : Events) {g : Nat} (hg : g < 7) :
    (v.count k).pending.getLsbD g = (v.pending.getLsbD g || decide (g = k.group.bit.val)) := by
  unfold Events.count
  dsimp only
  rw [BitVec.getLsbD_or, BitVec.getLsbD_shiftLeft, BitVec.getLsbD_one]
  congr 1
  rw [Bool.eq_iff_iff]
  simp [hg]
  omega

theorem count_counter (k j : EventKind) (v : Events) : (v.count k).counters.get j.index =
    if j = k then min (v.counters.get j.index + 1) 65535 else v.counters.get j.index := by
  unfold Events.count
  dsimp only
  by_cases h : j = k
  · subst h
    rw [Table.get_modify_self, if_pos rfl]
    rfl
  · rw [Table.get_modify_of_ne _ fun heq => h (index_injective heq).symm, if_neg h]

theorem eventReport_run {s : State} {k : EventKind} {rest : List EventKind} (h : s.mail.events = k :: rest) :
    eventReport s = (s.withMail { s.mail with events := rest }).withEvents (s.events.count k) := by
  simp only [eventReport, h]

/-! ### The line (R175) -/

theorem lineActive_iff (x : State) : x.lineActive = true ↔
    ∃ g < 7, x.events.pending.getLsbD g = true ∧ x.params.eventEnable.getLsbD g = true := by
  unfold State.lineActive
  rw [decide_eq_true_eq]
  constructor
  · intro hne
    by_contra hnone
    push Not at hnone
    refine hne (BitVec.eq_of_getLsbD_eq fun g hg => ?_)
    rw [BitVec.getLsbD_and, show (0 : BitVec 7).getLsbD g = false from BitVec.getLsbD_zero, Bool.and_eq_false_imp]
    intro hp
    simpa using hnone g hg hp
  · rintro ⟨g, -, hp, hm⟩ hzero
    have hbit := congrArg (fun y : BitVec 7 => y.getLsbD g) hzero
    rw [show (0 : BitVec 7).getLsbD g = false from BitVec.getLsbD_zero, BitVec.getLsbD_and, hp, hm] at hbit
    exact absurd hbit (by decide)

theorem lineHigh_eq (x : State) : x.lineHigh = if x.params.polarity then x.lineActive else !x.lineActive := by
  unfold State.lineHigh
  cases x.params.polarity <;> cases x.lineActive <;> rfl

/-! ### The enable mask and the polarity (R174, R175) -/

/-- The enable mask as stored: MEMORY is always enabled (R174). -/
def enableMask (v : BitVec 32) : BitVec 7 := BitVec.ofNat 7 v.toNat ||| 0x40#7

theorem enableMask_bits (v : BitVec 32) :
    (enableMask v).getLsbD 6 = true ∧ ∀ g < 6, (enableMask v).getLsbD g = v.getLsbD g := by
  unfold enableMask
  refine ⟨by rw [BitVec.getLsbD_or]; simp, fun g hg => ?_⟩
  have hmask : ∀ g < 6, (0x40#7).getLsbD g = false := by decide
  rw [BitVec.getLsbD_or, hmask g hg, Bool.or_false, BitVec.getLsbD_ofNat]
  simp [show g < 7 by omega, BitVec.getLsbD]

section
variable {s : State} {e : Entry}

theorem eventEnable_run (he : s.entry = some e) (hrow : e.row = .eventEnable) : eventEnableWrite s =
    (s.takeEntry.withParams { s.params with eventEnable := enableMask (s.masked e) }).result e.index
      ((enableMask (s.masked e)).setWidth 32) (if (enableMask (s.masked e)).setWidth 32 = s.masked e then .applied else .clamped) := by
  have hindex : Index.of e.index = .simple .eventEnable := index_of_simpleRow hrow
  have hset : s.params.setSimple .eventEnable (s.params.clampSimple .eventEnable (s.masked e).toNat) =
      { s.params with eventEnable := enableMask (s.masked e) } := by
    simp only [Params.setSimple, Params.clampSimple, BitVec.ofNat_toNat, BitVec.setWidth_eq]
    rfl
  have hsame : (enableMask (s.masked e)).toNat = (s.masked e).toNat ↔ (enableMask (s.masked e)).setWidth 32 = s.masked e := by
    rw [← BitVec.toNat_inj, BitVec.toNat_setWidth, Nat.mod_eq_of_lt (by have := (enableMask (s.masked e)).isLt; omega)]
  unfold eventEnableWrite
  simp only [he, hrow]
  rw [storeSimple_eq, takeEntry_params, hset, paramResult_simple hindex (x := (enableMask (s.masked e)).toNat) rfl hset.symm,
    if_neg (by decide), if_congr hsame rfl rfl, BitVec.ofNat_toNat]

theorem polarity_run (he : s.entry = some e) (hrow : e.row = .polarity) : interruptPolarityWrite s =
    (s.takeEntry.withParams { s.params with polarity := decide (s.masked e ≠ 0) }).result e.index
      (if s.masked e = 0 then 0 else 1) (if (s.masked e).toNat ≤ 1 then .applied else .clamped) := by
  have hindex : Index.of e.index = .simple .polarity := index_of_simpleRow hrow
  have hzero : s.masked e = 0 ↔ (s.masked e).toNat = 0 := by
    rw [← BitVec.toNat_inj]
    rfl
  have hset : s.params.setSimple .polarity (min 1 (s.masked e).toNat) =
      { s.params with polarity := decide (s.masked e ≠ 0) } := by
    have hone : min 1 (s.masked e).toNat = 1 ↔ s.masked e ≠ 0 := by
      rw [ne_eq, hzero]
      omega
    simp only [Params.setSimple, hone]
  have hvalue : (BitVec.ofNat 32 (min 1 (s.masked e).toNat)) = if s.masked e = 0 then 0 else 1 := by
    by_cases h : s.masked e = 0
    · rw [if_pos h, hzero.1 h]
      rfl
    · rw [if_neg h, show min 1 (s.masked e).toNat = 1 by have := mt hzero.2 h; omega]
      rfl
  have hsame : min 1 (s.masked e).toNat = (s.masked e).toNat ↔ (s.masked e).toNat ≤ 1 := by omega
  unfold interruptPolarityWrite
  simp only [he, hrow]
  rw [storeSimple_eq, takeEntry_params,
    show s.params.clampSimple .polarity (s.masked e).toNat = min 1 (s.masked e).toNat from rfl, hset,
    paramResult_simple hindex (x := min 1 (s.masked e).toNat) (p := s.params) rfl hset.symm, if_neg (by decide),
    if_congr hsame rfl rfl, hvalue]

end

/-- Settles O59. -/
theorem acknowledgementsClearTheNamedGroups : Obligations.AcknowledgementsClearTheNamedGroups := by
  refine ⟨fun s e he hrow => ?_, fun s k rest hmsg => ?_, fun s e v he hv => ?_⟩
  · refine ⟨_, congrArg (goOn s) (eventAck_run he hrow), ack_fields _ _, fun g hg => ack_pending _ _ hg,
      ack_counter _ _, fun x hevents hparams => ⟨?_, ?_⟩⟩
    · rw [lineActive_iff, hevents, hparams]
    · rw [lineHigh_eq, hparams]
  · exact ⟨_, congrArg (goOn s) (eventReport_run hmsg), rfl, fun g hg => count_pending _ _ hg, fun j => count_counter _ _ _⟩
  · subst hv
    obtain ⟨hmemory, hothers⟩ := enableMask_bits (s.masked e)
    exact ⟨fun hrow => ⟨_, congrArg (goOn s) (eventEnable_run he hrow), hmemory, hothers⟩,
      fun hrow => congrArg (goOn s) (polarity_run he hrow)⟩

end Sys2Proof.Machine
end

section
/-! Bytes at their offsets in a block (R189). -/

namespace Sys2Proof.Machine

/-- Some bytes stand at an offset of a block. -/
def StandsAt (b : List Byte) (at_ : Nat) (bs : List Byte) : Prop := (b.drop at_).take bs.length = bs

theorem standsAt_self (b : List Byte) : StandsAt b 0 b := by
  unfold StandsAt
  rw [List.drop_zero, List.take_length]

theorem standsAt_append {b : List Byte} {at_ : Nat} {x y : List Byte} (h : StandsAt b at_ (x ++ y)) :
    StandsAt b at_ x ∧ StandsAt b (at_ + x.length) y := by
  unfold StandsAt at h
  rw [List.length_append, List.take_add, List.drop_drop] at h
  have hlength := congrArg List.length h
  rw [List.length_append, List.length_append, List.length_take, List.length_take, List.length_drop, List.length_drop] at hlength
  exact List.append_inj h (by rw [List.length_take, List.length_drop]; omega)

/-- The members of a list written one after another, each in n bytes. -/
theorem standsAt_flatMap {α : Type} {b : List Byte} {at_ n : Nat} {f : α → List Byte} (hf : ∀ x, (f x).length = n) {l : List α}
    (h : StandsAt b at_ (l.flatMap f)) {k : Nat} {a : α} (hk : l[k]? = some a) : StandsAt b (at_ + n * k) (f a) := by
  induction l generalizing at_ k with
  | nil => simp at hk
  | cons x l ih =>
    rw [List.flatMap_cons] at h
    obtain ⟨hx, hl⟩ := standsAt_append h
    cases k with
    | zero =>
      obtain rfl : x = a := by simpa using hk
      simpa using hx
    | succ k =>
      rw [hf x] at hl
      have hstands := ih hl (k := k) (by simpa using hk)
      rwa [Nat.add_assoc, Nat.add_comm n, ← Nat.mul_succ] at hstands

theorem byteAt_of_standsAt {b : List Byte} {at_ : Nat} {bs : List Byte} (h : StandsAt b at_ bs) {i : Nat} (hi : i < bs.length) :
    byteAt b (at_ + i) = byteAt bs i := by
  unfold byteAt
  rw [← h, List.getD_eq_getElem?_getD, List.getD_eq_getElem?_getD, List.getElem?_take_of_lt hi, List.getElem?_drop]

/-- Bytes filled with zeros. -/
theorem standsAt_padTo {b : List Byte} {at_ n : Nat} {bs : List Byte} (h : StandsAt b at_ (padTo n bs)) :
    StandsAt b at_ bs ∧ ∀ i, bs.length ≤ i → i < n → byteAt b (at_ + i) = 0 := by
  obtain ⟨hbs, hzeros⟩ := standsAt_append h
  refine ⟨hbs, fun i hlo hhi => ?_⟩
  have hbyte := byteAt_of_standsAt hzeros (i := i - bs.length) (by rw [List.length_replicate]; omega)
  rw [show at_ + bs.length + (i - bs.length) = at_ + i by omega] at hbyte
  rw [hbyte]
  unfold byteAt
  rw [List.getD_eq_getElem?_getD, List.getElem?_replicate]
  split <;> rfl

theorem length_padTo {n : Nat} {bs : List Byte} (h : bs.length ≤ n) : (padTo n bs).length = n := by
  unfold padTo
  rw [List.length_append, List.length_replicate]
  omega

theorem length_flatMap_const {α : Type} {n : Nat} {f : α → List Byte} (hf : ∀ x, (f x).length = n) (l : List α) :
    (l.flatMap f).length = l.length * n := by
  induction l with
  | nil => simp
  | cons x l ih => rw [List.flatMap_cons, List.length_append, hf, ih, List.length_cons]; ring

/-! ### Numbers in bytes -/

theorem byteAt_leBytes {k v i : Nat} (hi : i < k) : byteAt (leBytes k v) i = v / 256 ^ i % 256 := by
  unfold byteAt leBytes
  rw [List.getD_eq_getElem?_getD, List.getElem?_map, List.getElem?_range hi]
  exact BitVec.toNat_ofNat _ _

section
variable {b : List Byte} {at_ v : Nat}

theorem byteAt_of_leBytes {k i : Nat} (h : StandsAt b at_ (leBytes k v)) (hi : i < k) : byteAt b (at_ + i) = v / 256 ^ i % 256 := by
  rw [byteAt_of_standsAt h (by rwa [length_leBytes]), byteAt_leBytes hi]

theorem byte_of_leBytes {k : Nat} (h : StandsAt b at_ (leBytes (k + 1) v)) : byteAt b at_ = v % 256 := by
  have hbyte := byteAt_of_leBytes h (i := 0) (by omega)
  rwa [pow_zero, Nat.div_one] at hbyte

theorem le16At_of_leBytes {k : Nat} (h : StandsAt b at_ (leBytes (k + 2) v)) : le16At b at_ = v % 65536 := by
  unfold le16At
  rw [byte_of_leBytes h, byteAt_of_leBytes h (by omega)]
  omega

theorem le32At_of_leBytes {k : Nat} (h : StandsAt b at_ (leBytes (k + 4) v)) : le32At b at_ = v % 4294967296 := by
  unfold le32At le16At
  have hlast : byteAt b (at_ + 2 + 1) = v / 256 ^ 3 % 256 := byteAt_of_leBytes h (i := 3) (by omega)
  rw [byte_of_leBytes h, byteAt_of_leBytes h (by omega), byteAt_of_leBytes h (by omega), hlast]
  omega

end

end Sys2Proof.Machine
end

section
/-! What the status block holds, area by area (R179, R189). -/

namespace Sys2Proof.Machine

theorem standsAt_append_iff {b : List Byte} {at_ : Nat} {x y : List Byte} :
    StandsAt b at_ (x ++ y) ↔ StandsAt b at_ x ∧ StandsAt b (at_ + x.length) y := by
  refine ⟨standsAt_append, fun ⟨hx, hy⟩ => ?_⟩
  unfold StandsAt at *
  rw [List.length_append, List.take_add, List.drop_drop, hx, hy]

theorem list_get {n : Nat} {α : Type} (t : Table n α) (i : Fin n) : t.list[i.val]? = some (t.get i) :=
  List.getElem?_eq_getElem (t.len.symm ▸ i.isLt)

theorem allFin_get {n : Nat} (i : Fin n) : (allFin n)[i.val]? = some i := by
  unfold allFin
  rw [List.getElem?_eq_getElem (by rw [List.length_finRange]; exact i.isLt)]
  simp

theorem length_table_flatMap {n k : Nat} {α : Type} {f : α → List Byte} (hf : ∀ x, (f x).length = k) (t : Table n α) :
    (t.list.flatMap f).length = n * k := by
  rw [length_flatMap_const hf, t.len]

theorem length_allFin_flatMap {n k : Nat} {f : Fin n → List Byte} (hf : ∀ x, (f x).length = k) :
    ((allFin n).flatMap f).length = n * k := by
  rw [length_flatMap_const hf, allFin, List.length_finRange]

theorem bit_mod (b : Bool) : bit b % 256 = if b then 1 else 0 := by
  cases b <;> rfl

theorem toNat_mod {w n : Nat} (x : BitVec w) (h : 2 ^ w ≤ n) : x.toNat % n = x.toNat :=
  Nat.mod_eq_of_lt (lt_of_lt_of_le x.isLt h)

/-! ### Lengths -/

theorem length_noticeMirror (m : Notice) : m.mirror.length = 16 := by
  simp [Notice.mirror]

theorem length_emptyNotice : emptyNotice.length = 16 := length_padTo (by decide)

theorem length_channelMirror (c : Channel) : c.mirror.length = 32 := length_padTo (by simp)

theorem length_slotMirror (m : ModSlot) : m.mirror.length = 16 := length_padTo (by simp)

theorem length_screenMirror (s : State) (sc : Fin 32) : (s.screenMirror sc).length = 2 := length_leBytes _ _

theorem length_queryMirror (q : QueryResult) : q.mirror.length = 16 := by
  simp [QueryResult.mirror]

theorem length_showMirror (s : State) (i : Fin 192) : (s.showMirror i).length = 8 := by
  simp [State.showMirror]

theorem length_ringMirror (s : State) (n : Fin 4) : (s.ringMirror n).length = 160 := by
  unfold State.ringMirror
  dsimp only
  rw [List.length_append, List.length_append, length_padTo (by simp), length_table_flatMap length_slotMirror,
    length_padTo (by rw [length_allFin_flatMap fun k => length_screenMirror s (ringScreen n k)]; decide)]

theorem length_eventArea (s : State) : s.eventArea.length = 64 := by
  unfold State.eventArea
  rw [List.length_append, length_padTo (by simp), length_padTo (by rw [length_table_flatMap (length_leBytes 2)]; decide)]

theorem length_clockArea (s : State) : s.clockArea.length = 8 := length_padTo (by simp)

theorem length_pathArea (s : State) : s.pathArea.length = 24 := by
  simp [State.pathArea]

theorem length_seatArea (s : State) : s.seatArea.length = 8 := length_padTo (by simp)

/-- A notice mirror position (R189). -/
def State.noticeAt (s : State) (i : Nat) : List Byte :=
  match s.notices.list[i]? with
  | some n => n.mirror
  | none => emptyNotice

theorem length_noticeAt (s : State) (i : Nat) : (s.noticeAt i).length = 16 := by
  unfold State.noticeAt
  split
  · exact length_noticeMirror _
  · exact length_emptyNotice

theorem noticeArea_eq (s : State) : s.noticeArea =
    padTo 0x90 (leBytes 2 s.notices.produced.toNat ++ leBytes 2 s.notices.consumed.toNat ++
      leBytes 1 (bit s.notices.alertLine.level + 2 * bit s.notices.hushLine.level)) ++
    (List.range 16).flatMap s.noticeAt := rfl

theorem length_noticeArea (s : State) : s.noticeArea.length = 400 := by
  rw [noticeArea_eq, List.length_append, length_padTo (by simp), length_flatMap_const (length_noticeAt s), List.length_range]

theorem length_channelArea (s : State) : s.channelArea.length = 256 := length_table_flatMap length_channelMirror _

theorem length_ringArea (s : State) : s.ringArea.length = 640 := length_allFin_flatMap (length_ringMirror s)

theorem length_queryArea (s : State) : s.queryArea.length = 128 :=
  length_padTo (by rw [length_table_flatMap fun r => length_queryMirror (Ring.result r)]; decide)

theorem length_showArea (s : State) : s.showArea.length = 2552 :=
  length_padTo (by rw [length_allFin_flatMap (length_showMirror s)]; decide)

theorem length_mirror (s : State) : s.mirror.length = 4080 := by
  simp only [State.mirror, List.length_append, length_eventArea, length_clockArea, length_pathArea, length_seatArea,
    length_noticeArea, length_channelArea, length_ringArea, length_queryArea, length_showArea]

theorem length_generationBytes (g : BitVec 32) : (generationBytes g).length = 8 := length_leBytes _ _

theorem length_statusBlock (s : State) (g : BitVec 32) : (s.statusBlock g).length = 4096 := by
  simp only [State.statusBlock, List.length_append, length_generationBytes, length_mirror]

/-! ### Where each area stands -/

/-- Each area of the block at its offset (R189). -/
structure AreasStand (s : State) (g : BitVec 32) (b : List Byte) : Prop where
  lead : StandsAt b 0 (generationBytes g)
  mirror : StandsAt b 8 s.mirror
  events : StandsAt b 0x08 s.eventArea
  clock : StandsAt b 0x48 s.clockArea
  path : StandsAt b 0x50 s.pathArea
  seats : StandsAt b 0x68 s.seatArea
  notices : StandsAt b 0x70 s.noticeArea
  channels : StandsAt b 0x200 s.channelArea
  rings : StandsAt b 0x300 s.ringArea
  queries : StandsAt b 0x580 s.queryArea
  shows : StandsAt b 0x600 s.showArea
  trail : StandsAt b 4088 (generationBytes g)

theorem areasStand (s : State) (g : BitVec 32) : AreasStand s g (s.statusBlock g) := by
  have hblock := standsAt_self (s.statusBlock g)
  generalize hb : s.statusBlock g = b at hblock
  have hparts : StandsAt b 0 (generationBytes g ++ s.mirror ++ generationBytes g) := by
    rw [← hb] at hblock ⊢
    exact hblock
  rw [standsAt_append_iff, standsAt_append_iff, List.length_append, length_generationBytes, length_mirror] at hparts
  obtain ⟨⟨hlead, hmirror⟩, htrail⟩ := hparts
  have hareas := hmirror
  unfold State.mirror at hareas
  simp only [standsAt_append_iff, List.length_append, length_eventArea, length_clockArea, length_pathArea, length_seatArea,
    length_noticeArea, length_channelArea, length_ringArea, length_queryArea, Nat.reduceAdd, and_assoc] at hareas
  obtain ⟨hevents, hclock, hpath, hseats, hnotices, hchannels, hrings, hqueries, hshows⟩ := hareas
  exact ⟨hlead, hmirror, hevents, hclock, hpath, hseats, hnotices, hchannels, hrings, hqueries, hshows, htrail⟩

/-! ### The areas -/

section
variable {s : State} {b : List Byte}

theorem eventArea_holds (h : StandsAt b 0x08 s.eventArea) :
    (byteAt b 0x08 = s.events.pending.toNat ∧ byteAt b 0x09 = s.params.eventEnable.toNat ∧
      byteAt b 0x0A = (if s.lineActive then 1 else 0) ∧ byteAt b 0x0B = 0 ∧ le16At b 0x0C = s.events.errors % 65536 ∧
      ∀ k : EventKind, le16At b (0x10 + 2 * k.index.val) = s.events.counters.get k.index % 65536) ∧
    ∀ i, (14 ≤ i ∧ i < 16) ∨ (68 ≤ i ∧ i < 72) → byteAt b i = 0 := by
  obtain ⟨hhead, hcounters⟩ := standsAt_append h
  rw [length_padTo (by simp)] at hcounters
  obtain ⟨hhead, hgap⟩ := standsAt_padTo hhead
  obtain ⟨hcounters, hrest⟩ := standsAt_padTo hcounters
  rw [length_table_flatMap (length_leBytes 2)] at hrest
  simp only [standsAt_append_iff, List.length_append, length_leBytes, Nat.reduceAdd, and_assoc] at hhead hgap
  obtain ⟨hpending, henable, hline, herrors⟩ := hhead
  refine ⟨⟨(byte_of_leBytes hpending).trans (toNat_mod _ (by decide)), (byte_of_leBytes henable).trans (toNat_mod _ (by decide)),
    (byte_of_leBytes hline).trans (bit_mod _), ?_, le16At_of_leBytes herrors, fun k => ?_⟩, ?_⟩
  · refine (byteAt_of_leBytes hline (i := 1) (by decide)).trans ?_
    cases s.lineActive <;> rfl
  · exact le16At_of_leBytes (k := 0) (standsAt_flatMap (length_leBytes 2) hcounters (list_get _ _))
  · rintro i (⟨hlo, hhi⟩ | ⟨hlo, hhi⟩)
    · have hzero := hgap (i - 8) (by omega) (by omega)
      rwa [show 8 + (i - 8) = i by omega] at hzero
    · have hzero := hrest (i - 16) (by omega) (by omega)
      rwa [show 8 + 8 + (i - 16) = i by omega] at hzero

theorem clockArea_holds (h : StandsAt b 0x48 s.clockArea) :
    (le32At b 0x48 = s.tracker.seconds % 4294967296 ∧
      byteAt b 0x4C = (if s.tracker.run then 1 else 0) + (if s.tracker.held then 2 else 0)) ∧
    ∀ i, 77 ≤ i ∧ i < 80 → byteAt b i = 0 := by
  obtain ⟨hbytes, hrest⟩ := standsAt_padTo h
  simp only [standsAt_append_iff, List.length_append, length_leBytes, Nat.reduceAdd] at hbytes hrest
  obtain ⟨hseconds, hflags⟩ := hbytes
  refine ⟨⟨le32At_of_leBytes (k := 0) hseconds, (byte_of_leBytes hflags).trans ?_⟩, fun i ⟨hlo, hhi⟩ => ?_⟩
  · cases s.tracker.run <;> cases s.tracker.held <;> rfl
  · have hzero := hrest (i - 72) (by omega) (by omega)
    rwa [show 72 + (i - 72) = i by omega] at hzero

theorem pathArea_holds (h : StandsAt b 0x50 s.pathArea) :
    (byteAt b 0x50 = s.path.windows.strap.toNat ∧ le16At b 0x52 = s.path.windows.seatUnits % 65536 ∧
      le32At b 0x54 = s.path.windows.setupBase.toNat ∧ le32At b 0x58 = s.path.windows.showBase.toNat ∧
      le32At b 0x5C = s.path.windows.seatBase.toNat ∧ le32At b 0x60 = s.path.windows.noticeBase.toNat ∧
      le32At b 0x64 = s.path.windows.statusBase.toNat) ∧ byteAt b 81 = 0 := by
  simp only [State.pathArea, standsAt_append_iff, List.length_append, length_leBytes, Nat.reduceAdd, and_assoc] at h
  obtain ⟨hstrap, hunits, hsetup, hshow, hseat, hnotice, hstatus⟩ := h
  have hword (a : Addr) : a.toNat % 4294967296 = a.toNat := toNat_mod a (by decide)
  refine ⟨⟨(byte_of_leBytes hstrap).trans (toNat_mod _ (by decide)), le16At_of_leBytes (k := 0) hunits,
    (le32At_of_leBytes (k := 0) hsetup).trans (hword _), (le32At_of_leBytes (k := 0) hshow).trans (hword _),
    (le32At_of_leBytes (k := 0) hseat).trans (hword _), (le32At_of_leBytes (k := 0) hnotice).trans (hword _),
    (le32At_of_leBytes (k := 0) hstatus).trans (hword _)⟩, ?_⟩
  refine (byteAt_of_leBytes hstrap (i := 1) (by decide)).trans ?_
  have := s.path.windows.strap.isLt
  omega

theorem seatArea_holds (h : StandsAt b 0x68 s.seatArea) :
    le16At b 0x68 = s.seats.shortCount % 65536 ∧ ∀ i, 106 ≤ i ∧ i < 112 → byteAt b i = 0 := by
  obtain ⟨hcount, hrest⟩ := standsAt_padTo h
  rw [length_leBytes] at hrest
  refine ⟨le16At_of_leBytes (k := 0) hcount, fun i ⟨hlo, hhi⟩ => ?_⟩
  have hzero := hrest (i - 104) (by omega) (by omega)
  rwa [show 104 + (i - 104) = i by omega] at hzero

theorem noticeMirror_holds {at_ : Nat} {m : Notice} (h : StandsAt b at_ m.mirror) :
    byteAt b at_ = m.ident.desk % 256 ∧ byteAt b (at_ + 1) = m.kind.code ∧
      byteAt b (at_ + 2) = m.priority % 256 ∧ byteAt b (at_ + 3) = m.template.code ∧ le16At b (at_ + 4) = m.ident.id % 65536 ∧
      le16At b (at_ + 6) = m.show_ % 65536 ∧ le32At b (at_ + 8) = m.mask.toNat ∧
      le16At b (at_ + 12) = (m.expiry.getD 0xFFFF) % 65536 ∧ byteAt b (at_ + 14) = m.dwell % 256 ∧
      byteAt b (at_ + 15) = m.applied % 256 := by
  simp only [Notice.mirror, standsAt_append_iff, List.length_append, length_leBytes, Nat.reduceAdd, and_assoc] at h
  obtain ⟨hdesk, hkind, hpriority, htemplate, hid, hshow, hmask, hexpiry, hdwell, happlied⟩ := h
  refine ⟨byte_of_leBytes hdesk, (byte_of_leBytes hkind).trans ?_, byte_of_leBytes hpriority,
    (byte_of_leBytes htemplate).trans ?_, le16At_of_leBytes (k := 0) hid, le16At_of_leBytes (k := 0) hshow,
    (le32At_of_leBytes (k := 0) hmask).trans (toNat_mod _ (by decide)), le16At_of_leBytes (k := 0) hexpiry,
    byte_of_leBytes hdwell, byte_of_leBytes happlied⟩
  · cases m.kind <;> rfl
  · cases m.template <;> rfl

theorem noticeArea_holds (h : StandsAt b 0x70 s.noticeArea) :
    (le16At b 0x70 = s.notices.produced.toNat ∧ le16At b 0x72 = s.notices.consumed.toNat ∧
      byteAt b 0x74 = (if s.notices.alertLine.level then 1 else 0) + (if s.notices.hushLine.level then 2 else 0)) ∧
    (∀ (i : Nat) (at_ : Nat), i < 16 → at_ = 0x100 + 16 * i →
      (s.notices.list[i]? = none → (b.drop at_).take 16 = 0 :: 0xFF :: List.replicate 14 0) ∧
      ∀ m, s.notices.list[i]? = some m → StandsAt b at_ m.mirror) ∧
    ∀ i, 117 ≤ i ∧ i < 256 → byteAt b i = 0 := by
  rw [noticeArea_eq] at h
  obtain ⟨hhead, hlist⟩ := standsAt_append h
  rw [length_padTo (by simp)] at hlist
  obtain ⟨hhead, hgap⟩ := standsAt_padTo hhead
  simp only [standsAt_append_iff, List.length_append, length_leBytes, Nat.reduceAdd, and_assoc] at hhead hgap
  obtain ⟨hproduced, hconsumed, hlines⟩ := hhead
  refine ⟨⟨(le16At_of_leBytes (k := 0) hproduced).trans (toNat_mod _ (by decide)),
    (le16At_of_leBytes (k := 0) hconsumed).trans (toNat_mod _ (by decide)), (byte_of_leBytes hlines).trans ?_⟩,
    fun i at_ hi hat => ?_, fun i ⟨hlo, hhi⟩ => ?_⟩
  · cases s.notices.alertLine.level <;> cases s.notices.hushLine.level <;> rfl
  · have hposition := standsAt_flatMap (length_noticeAt s) hlist (List.getElem?_range hi)
    rw [show 112 + 144 + 16 * i = at_ by omega] at hposition
    unfold State.noticeAt at hposition
    refine ⟨fun hnone => ?_, fun m hm => ?_⟩
    · rw [hnone] at hposition
      exact hposition
    · rw [hm] at hposition
      exact hposition
  · have hzero := hgap (i - 112) (by omega) (by omega)
    rwa [show 112 + (i - 112) = i by omega] at hzero

theorem rankCode_mod (r : Rank) : r.code % 256 = r.code := by
  cases r <;> rfl

theorem channelMirror_holds {at_ : Nat} {c : Channel} (h : StandsAt b at_ c.mirror) :
    byteAt b at_ = c.state.code ∧ byteAt b (at_ + 1) = c.current.code ∧ byteAt b (at_ + 2) = c.next.code ∧
      byteAt b (at_ + 3) = c.skips % 256 ∧ byteAt b (at_ + 4) = (if c.cut = none then 0 else 1) ∧
      byteAt b (at_ + 5) = c.shownKind.code ∧ le16At b (at_ + 6) = c.serial.toNat ∧
      le32At b (at_ + 8) = c.current.addr.toNat ∧ le32At b (at_ + 12) = c.next.addr.toNat ∧
      le16At b (at_ + 16) = c.position % 65536 ∧ byteAt b (at_ + 18) = c.repeatsLeft % 256 ∧
      le16At b (at_ + 20) = c.late % 65536 := by
  obtain ⟨h, -⟩ := standsAt_padTo h
  simp only [standsAt_append_iff, List.length_append, length_leBytes, Nat.reduceAdd, and_assoc] at h
  obtain ⟨hstate, hcurrent, hnext, hskips, hcut, hkind, hserial, haddr, hnextAddr, hposition, hrepeats, hlate⟩ := h
  refine ⟨(byte_of_leBytes hstate).trans ?_, (byte_of_leBytes hcurrent).trans (rankCode_mod _),
    (byte_of_leBytes hnext).trans (rankCode_mod _), byte_of_leBytes hskips, (byte_of_leBytes hcut).trans ?_,
    (byte_of_leBytes hkind).trans ?_, (le16At_of_leBytes (k := 0) hserial).trans (toNat_mod _ (by decide)),
    (le32At_of_leBytes (k := 0) haddr).trans (toNat_mod _ (by decide)),
    (le32At_of_leBytes (k := 0) hnextAddr).trans (toNat_mod _ (by decide)), le16At_of_leBytes (k := 0) hposition,
    byte_of_leBytes hrepeats, le16At_of_leBytes (k := 0) hlate⟩
  · cases c.state <;> rfl
  · cases c.cut <;> rfl
  · cases c.shownKind <;> rfl

theorem slotMirror_holds {at_ : Nat} {m : ModSlot} (h : StandsAt b at_ m.mirror) :
    byteAt b at_ = m.state.code ∧ byteAt b (at_ + 1) = m.type.toNat ∧ le16At b (at_ + 2) = m.regions % 65536 ∧
      le16At b (at_ + 4) = m.maxFrame % 65536 ∧ le16At b (at_ + 6) = m.firmware.toNat ∧ byteAt b (at_ + 8) = m.missed % 256 ∧
      le16At b (at_ + 10) = m.frameSkips % 65536 := by
  obtain ⟨h, -⟩ := standsAt_padTo h
  simp only [standsAt_append_iff, List.length_append, length_leBytes, Nat.reduceAdd, and_assoc] at h
  obtain ⟨hstate, htype, hregions, hframe, hfirmware, hmissed, hskips⟩ := h
  refine ⟨(byte_of_leBytes hstate).trans ?_, (byte_of_leBytes htype).trans (toNat_mod _ (by decide)),
    le16At_of_leBytes (k := 0) hregions, le16At_of_leBytes (k := 0) hframe,
    (le16At_of_leBytes (k := 0) hfirmware).trans (toNat_mod _ (by decide)), byte_of_leBytes hmissed,
    le16At_of_leBytes (k := 0) hskips⟩
  cases m.state <;> rfl

theorem queryMirror_holds {at_ : Nat} {q : QueryResult} (h : StandsAt b at_ q.mirror) :
    byteAt b at_ = q.outcome.code ∧ byteAt b (at_ + 1) = (if q.isSet then 1 else 0) ∧ byteAt b (at_ + 2) = q.screen % 256 ∧
      byteAt b (at_ + 3) = q.item.toNat ∧ le32At b (at_ + 4) = q.value.toNat ∧ le32At b (at_ + 8) = q.answer.toNat ∧
      le16At b (at_ + 12) = q.trains % 65536 ∧ le16At b (at_ + 14) = q.count.toNat := by
  simp only [QueryResult.mirror, standsAt_append_iff, List.length_append, length_leBytes, Nat.reduceAdd, and_assoc] at h
  obtain ⟨houtcome, hset, hscreen, hitem, hvalue, hanswer, htrains, hcount⟩ := h
  refine ⟨(byte_of_leBytes houtcome).trans ?_, (byte_of_leBytes hset).trans (bit_mod _), byte_of_leBytes hscreen,
    (byte_of_leBytes hitem).trans (toNat_mod _ (by decide)), (le32At_of_leBytes (k := 0) hvalue).trans (toNat_mod _ (by decide)),
    (le32At_of_leBytes (k := 0) hanswer).trans (toNat_mod _ (by decide)), le16At_of_leBytes (k := 0) htrains,
    (le16At_of_leBytes (k := 0) hcount).trans (toNat_mod _ (by decide))⟩
  cases q.outcome <;> rfl

theorem showMirror_holds {at_ : Nat} {i : Fin 192} (h : StandsAt b at_ (s.showMirror i)) {e : ShowEntry} {g : Figure}
    (he : s.tracker.entries.get i = e) (hg : s.showFigure i = g) :
    byteAt b at_ = e.state.code ∧ byteAt b (at_ + 1) = e.reason.code ∧
      byteAt b (at_ + 2) = e.generation.toNat ∧ byteAt b (at_ + 3) = g.band.code ∧ le16At b (at_ + 4) = g.shown % 65536 ∧
      byteAt b (at_ + 6) = (if g.plus then 1 else 0) ∧ byteAt b (at_ + 7) = e.seatStatus.code := by
  simp only [State.showMirror, he, hg, standsAt_append_iff, List.length_append, length_leBytes, Nat.reduceAdd, and_assoc] at h
  obtain ⟨hstate, hreason, hgeneration, hband, hshown, hplus, hstatus⟩ := h
  refine ⟨(byte_of_leBytes hstate).trans ?_, (byte_of_leBytes hreason).trans ?_,
    (byte_of_leBytes hgeneration).trans (toNat_mod _ (by decide)), (byte_of_leBytes hband).trans ?_,
    le16At_of_leBytes (k := 0) hshown, (byte_of_leBytes hplus).trans (bit_mod _), (byte_of_leBytes hstatus).trans ?_⟩
  · cases e.state <;> rfl
  · cases e.reason <;> rfl
  · cases g.band <;> rfl
  · cases e.seatStatus <;> rfl

theorem screenMirror_holds {at_ : Nat} {sc : Fin 32} (h : StandsAt b at_ (s.screenMirror sc)) {fit : Fin 4 → Nat}
    (hfit : ∀ p, fit p = (s.comp.panes.get (paneIx sc p)).fitness.code) :
    le16At b at_ = fit 0 + 4 * fit 1 + 16 * fit 2 + 64 * fit 3 +
      if (s.comp.screens.get sc).underAlert then 256 else 0 := by
  have hle (p : Fin 4) : fit p ≤ 2 := by
    rw [hfit]
    cases (s.comp.panes.get (paneIx sc p)).fitness <;> decide
  have hbit : 256 * bit (s.comp.screens.get sc).underAlert = if (s.comp.screens.get sc).underAlert then 256 else 0 := by
    cases (s.comp.screens.get sc).underAlert <;> rfl
  refine (le16At_of_leBytes (k := 0) h).trans ?_
  simp only [← hfit, hbit]
  refine Nat.mod_eq_of_lt ?_
  have := hle 0
  have := hle 1
  have := hle 2
  have := hle 3
  split <;> omega

theorem ringMirror_holds {at_ : Nat} {n : Fin 4} (h : StandsAt b at_ (s.ringMirror n)) {r : Ring} (hr : s.rings.get n = r) :
    byteAt b at_ = r.state.code ∧ byteAt b (at_ + 1) = r.errors % 256 ∧ le16At b (at_ + 2) = r.skipped % 65536 ∧
      byteAt b (at_ + 4) = r.last.code ∧ (∀ k : Fin 8, StandsAt b (at_ + 8 + 16 * k.val) (r.slots.get k).mirror) ∧
      ∀ k : Fin 8, StandsAt b (at_ + 136 + 2 * k.val) (s.screenMirror (ringScreen n k)) := by
  unfold State.ringMirror at h
  dsimp only at h
  rw [standsAt_append_iff, standsAt_append_iff, List.length_append, length_padTo (by simp),
    length_table_flatMap length_slotMirror, hr] at h
  obtain ⟨⟨hhead, hslots⟩, hscreens⟩ := h
  obtain ⟨hhead, -⟩ := standsAt_padTo hhead
  obtain ⟨hscreens, -⟩ := standsAt_padTo hscreens
  simp only [standsAt_append_iff, List.length_append, length_leBytes, Nat.reduceAdd, and_assoc] at hhead
  obtain ⟨hstate, herrors, hskipped, hlast⟩ := hhead
  refine ⟨(byte_of_leBytes hstate).trans ?_, byte_of_leBytes herrors, le16At_of_leBytes (k := 0) hskipped,
    (byte_of_leBytes hlast).trans ?_, fun k => standsAt_flatMap length_slotMirror hslots (list_get _ _),
    fun k => standsAt_flatMap (fun k => length_screenMirror s (ringScreen n k)) hscreens (allFin_get k)⟩
  · cases r.state <;> rfl
  · cases r.last <;> rfl

end

/-- The value at each offset of the status block (R179, R189). -/
theorem blockHolds (s : State) (g : BitVec 32) : BlockHolds s (s.statusBlock g) := by
  obtain ⟨-, -, hevents, hclock, hpath, hseats, hnotices, hchannels, hrings, hqueries, hshows, -⟩ := areasStand s g
  obtain ⟨hevents, hzeros1⟩ := eventArea_holds hevents
  obtain ⟨hclock, hzeros2⟩ := clockArea_holds hclock
  obtain ⟨⟨hstrap, hunits, hsetup, hshow, hseat, hnotice, hstatus⟩, hzeros3⟩ := pathArea_holds hpath
  obtain ⟨hshort, hzeros4⟩ := seatArea_holds hseats
  obtain ⟨hnotices, hpositions, hzeros5⟩ := noticeArea_holds hnotices
  obtain ⟨hqueries, hzeros6⟩ := standsAt_padTo hqueries
  obtain ⟨hshows, hzeros7⟩ := standsAt_padTo hshows
  rw [length_table_flatMap fun r => length_queryMirror (Ring.result r)] at hzeros6
  rw [length_allFin_flatMap (length_showMirror s)] at hzeros7
  refine ⟨hevents, hclock, ⟨hstrap, hunits, hsetup, hshow, hseat, hnotice, hstatus, hshort⟩, hnotices, fun i at_ hi hat => ?_,
    fun ch c at_ hc hat => ?_, fun n r at_ hr hat => ?_, fun i e f at_ he hf hat => ?_, fun i hi => ?_⟩
  · obtain ⟨hnone, hsome⟩ := hpositions i at_ hi hat
    exact ⟨hnone, fun m hm => noticeMirror_holds (hsome m hm)⟩
  · subst hat hc
    exact channelMirror_holds (standsAt_flatMap length_channelMirror hchannels (list_get _ ch))
  · subst hat
    obtain ⟨hstate, herrors, hskipped, hlast, hslots, hscreens⟩ :=
      ringMirror_holds (standsAt_flatMap (length_ringMirror s) hrings (allFin_get n)) hr
    refine ⟨hstate, herrors, hskipped, hlast, fun k m o hm ho => ?_, fun k fit hfit => screenMirror_holds (hscreens k) hfit,
      fun o ho => ?_⟩
    · subst ho hm
      exact slotMirror_holds (hslots k)
    · subst ho hr
      exact queryMirror_holds (standsAt_flatMap (fun r => length_queryMirror (Ring.result r)) hqueries (list_get _ n))
  · subst hat
    exact showMirror_holds (standsAt_flatMap (length_showMirror s) hshows (allFin_get i)) he hf
  · rcases hi with hi | hi | hi | rfl | hi | hi | ⟨hlo, hhi⟩ | ⟨hlo, hhi⟩
    · exact hzeros1 i (.inl hi)
    · exact hzeros1 i (.inr hi)
    · exact hzeros2 i hi
    · exact hzeros3
    · exact hzeros4 i hi
    · exact hzeros5 i hi
    · have hzero := hzeros6 (i - 1408) (by omega) (by omega)
      rwa [show 1408 + (i - 1408) = i by omega] at hzero
    · have hzero := hzeros7 (i - 1536) (by omega) (by omega)
      rwa [show 1536 + (i - 1536) = i by omega] at hzero

end Sys2Proof.Machine
end

section
/-! Writing the status block (R177, R178). -/

namespace Sys2Proof.Machine

/-- Agent writes sent, in their order. -/
theorem emit_writes (s : State) {reqs : List AgentReq} (h : ∀ r ∈ reqs, r.cls = .writeback) :
    s.emit (reqs.map .agent) = s.withPath { s.path with writebackQ := s.path.writebackQ ++ reqs } := by
  induction reqs generalizing s with
  | nil => simp [State.withPath]
  | cons r reqs ih =>
    have hsend : s.send (.agent r) = s.withPath { s.path with writebackQ := s.path.writebackQ ++ [r] } := by
      have hcls := h r List.mem_cons_self
      obtain ⟨cls, write, addr, beats, data, tag⟩ := r
      subst hcls
      rfl
    rw [List.map_cons, emit_cons, hsend, ih _ fun x hx => h x (List.mem_cons_of_mem _ hx)]
    simp [State.withPath]

/-- A write of consecutive beats of a block. -/
def blockWrite (base : Addr) (block : List Byte) (first count : Nat) (part : StatusPart) : AgentReq :=
  { cls := .writeback, write := true, addr := base + BitVec.ofNat 32 (8 * first), beats := count
    data := (List.range count).map fun j =>
      { data := beatOfBytes ((block.drop (8 * (first + j))).take 8), enables := 0xFF }
    tag := .status part }

theorem statusWrite_eq (base : Addr) (block : List Byte) (first count : Nat) (part : StatusPart) :
    statusWrite base block first count part = .agent (blockWrite base block first count part) := by
  unfold statusWrite agentWrite
  rw [List.length_map, List.length_range]
  rfl

/-- The 64 body writes (R178). -/
def bodyRequests (base : Addr) (block : List Byte) : List AgentReq :=
  (List.range 64).map fun i => blockWrite base block (1 + 8 * i) (if i = 63 then 6 else 8) .body

theorem bodyWrites_eq (base : Addr) (block : List Byte) : bodyWrites base block = (bodyRequests base block).map .agent := by
  unfold bodyWrites bodyRequests
  rw [List.map_map]
  refine List.map_congr_left fun i hi => ?_
  have hlt := List.mem_range.1 hi
  rw [statusWrite_eq, Function.comp_apply]
  refine congrArg (fun count => Out.agent (blockWrite base block (1 + 8 * i) count .body)) ?_
  unfold statusBeats
  split <;> omega

theorem beginWriteback_eq (s : State) {gen : BitVec 32} {block : List Byte} {base : Addr} (hgen : gen = s.events.generation + 1)
    (hblock : block = s.statusBlock gen) (hbase : base = s.path.windows.statusBase) : s.beginWriteback =
      (s.withEvents { s.events with
        changed := false, generation := gen, writeback := .body, snapshot := block, base := base
        outstanding := 65, failed := false }).withPath
      { s.path with writebackQ := s.path.writebackQ ++ blockWrite base block 0 1 .lead :: bodyRequests base block } := by
  subst hgen hblock hbase
  unfold State.beginWriteback
  dsimp only
  rw [statusWrite_eq, bodyWrites_eq, ← List.map_cons, emit_writes]
  · rfl
  · intro r hr
    rcases List.mem_cons.1 hr with rfl | hr
    · rfl
    · obtain ⟨i, -, rfl⟩ := List.mem_map.1 hr
      rfl

section
variable {s : State}

/-- The boundary taken. -/
theorem boundary_waits (hdue : 0 < s.time.dueEvent)
    (h : s.events.writeback ≠ .idle ∨ s.events.changed = false ∨ s.path.windows.statusBase = 0) :
    eventPeriodBoundary s = s.withTime { s.time with dueEvent := s.time.dueEvent - 1 } := by
  unfold eventPeriodBoundary
  rw [if_pos hdue]
  refine if_neg ?_
  rintro ⟨hidle, hchanged, hbase⟩
  rcases h with h | h | h
  · exact h hidle
  · exact absurd (h.symm.trans hchanged) (by decide)
  · exact hbase h

theorem boundary_writes (hdue : 0 < s.time.dueEvent) (hidle : s.events.writeback = .idle) (hchanged : s.events.changed = true)
    (hbase : s.path.windows.statusBase ≠ 0) :
    eventPeriodBoundary s = (s.withTime { s.time with dueEvent := s.time.dueEvent - 1 }).beginWriteback := by
  unfold eventPeriodBoundary
  rw [if_pos hdue]
  exact if_pos ⟨hidle, hchanged, hbase⟩

/-! ### Completions (R178) -/

theorem bodyDone_more {err : Bool} (h : 1 < s.events.outstanding) : s.bodyDone err =
    s.withEvents { s.events with outstanding := s.events.outstanding - 1, failed := s.events.failed || err } := by
  unfold State.bodyDone
  dsimp only
  rw [if_pos (by omega)]

theorem bodyDone_failed {err : Bool} (h : s.events.outstanding = 1) (hfailed : s.events.failed = true ∨ err = true) :
    s.bodyDone err = s.withEvents { s.events with outstanding := 0, failed := false, writeback := .idle, changed := true } := by
  unfold State.bodyDone
  dsimp only
  rw [if_neg (by omega), if_pos (by simpa using hfailed)]

theorem bodyDone_whole {err : Bool} (h : s.events.outstanding = 1) (hfailed : s.events.failed = false) (herr : err = false) :
    s.bodyDone err = (s.withEvents { s.events with outstanding := 1, writeback := .trail }).withPath { s.path with
      writebackQ := s.path.writebackQ ++
        [{ cls := .writeback, write := true, addr := s.events.base + 4088, beats := 1, tag := .status .trail,
           data := [{ data := beatOfBytes ((s.events.snapshot.drop 4088).take 8), enables := 0xFF }] }] } := by
  unfold State.bodyDone
  dsimp only
  rw [if_neg (by omega), if_neg (by simp [hfailed, herr])]
  rfl

theorem statusWriteDone_run {part : StatusPart} {data : List Beat} {err : Bool} {rest : List Response}
    (h : s.mail.eventResp = { tag := .status part, data := data, err := err } :: rest) :
    statusWriteDone s =
      if part = .trail then
        ((s.withMail { s.mail with eventResp := rest }).withEvents (s.events.countError err)).trailDone err
      else ((s.withMail { s.mail with eventResp := rest }).withEvents (s.events.countError err)).bodyDone err := by
  simp only [statusWriteDone, h]
  cases part <;> rfl

theorem countError_eq (err : Bool) (v : Events) :
    v.countError err = { v with errors := if err then min (v.errors + 1) 65535 else v.errors } := by
  cases err <;> rfl

end

/-- Settles O60. -/
theorem theStatusBlockIsWrittenWhole : Obligations.TheStatusBlockIsWrittenWhole := by
  refine ⟨fun s gen block request hdue hgen hblock hrequest => ?_, fun s part data err rest v u hresp hv hu => ?_⟩
  · obtain ⟨hlead, hmirror, -, -, -, -, -, -, -, -, -, htrail⟩ := areasStand s gen
    have hword : gen.toNat % 4294967296 = gen.toNat := toNat_mod gen (by decide)
    have hreq : request = blockWrite s.path.windows.statusBase block := by
      funext first count part
      exact hrequest first count part
    subst hblock
    refine ⟨length_statusBlock s gen, (le32At_of_leBytes (k := 4) hlead).trans hword,
      (le32At_of_leBytes (k := 4) htrail).trans hword, ?_, blockHolds s gen, fun hwaits => ?_, fun hidle hchanged hbase => ?_⟩
    · rw [← length_mirror s]
      exact hmirror
    · exact congrArg (goOn s) (boundary_waits hdue hwaits)
    · rw [hreq]
      refine congrArg (goOn s) ((boundary_writes hdue hidle hchanged hbase).trans ?_)
      exact beginWriteback_eq (s.withTime { s.time with dueEvent := s.time.dueEvent - 1 }) hgen rfl rfl
  · rw [← countError_eq] at hv
    have hrun := statusWriteDone_run hresp
    rw [← hv, ← hu] at hrun
    have hevents : (u v).events = v := by rw [hu]; rfl
    have hpath : (u v).path = s.path := by rw [hu]; rfl
    have hagain (x : Events) : (u v).withEvents x = u x := by rw [hu, hu]; rfl
    refine ⟨fun hpart hmore => ?_, fun hpart hlast hfailed => ?_, fun hpart hlast hfailed herr => ?_, fun hpart => ?_⟩
    · rw [if_neg hpart, bodyDone_more (by rw [hevents]; exact hmore), hevents, hagain] at hrun
      exact congrArg (goOn s) hrun
    · rw [if_neg hpart, bodyDone_failed (by rw [hevents]; exact hlast) (by rw [hevents]; exact hfailed), hevents, hagain] at hrun
      exact congrArg (goOn s) hrun
    · rw [if_neg hpart, bodyDone_whole (by rw [hevents]; exact hlast) (by rw [hevents]; exact hfailed) herr, hevents, hagain,
        hpath] at hrun
      exact congrArg (goOn s) hrun
    · rw [if_pos hpart, State.trailDone, hevents, hagain] at hrun
      exact congrArg (goOn s) hrun

end Sys2Proof.Machine
end

section
/-! What sends nothing to the Seat Tally Unit and no seats-changed note (R22, R24, R51): every operation of the Notice Unit, the Reel Player, the Composition Unit and the Ring Engines. -/

namespace Sys2Proof.Machine

/-- A message to the Seat Tally Unit, or a note of it. -/
def Out.ofSeats : Out → Bool
  | .seats _ => true
  | .seatsNote _ => true
  | _ => false

/-- Nothing sent is a message to the Seat Tally Unit or a note of it. -/
def Elsewhere (outs : List Out) : Prop := ∀ o ∈ outs, o.ofSeats = false

@[simp] theorem elsewhere_nil : Elsewhere [] := by simp [Elsewhere]

@[simp] theorem elsewhere_cons (o : Out) (outs : List Out) : Elsewhere (o :: outs) ↔ o.ofSeats = false ∧ Elsewhere outs := by
  simp [Elsewhere]

@[simp] theorem elsewhere_append (a b : List Out) : Elsewhere (a ++ b) ↔ Elsewhere a ∧ Elsewhere b := by
  simp only [Elsewhere, List.mem_append, or_imp, forall_and]

@[simp] theorem elsewhere_map {α : Type} (xs : List α) (f : α → Out) (h : ∀ x, (f x).ofSeats = false) : Elsewhere (xs.map f) := by
  intro o ho
  obtain ⟨x, -, rfl⟩ := List.mem_map.1 ho
  exact h x

theorem elsewhere_flatMap {α : Type} (xs : List α) (f : α → List Out) (h : ∀ x, Elsewhere (f x)) : Elsewhere (xs.flatMap f) := by
  intro o ho
  obtain ⟨x, -, hx⟩ := List.mem_flatMap.1 ho
  exact h x o hx

@[simp] theorem elsewhere_ite (c : Prop) [Decidable c] (a b : List Out) :
    Elsewhere (if c then a else b) ↔ if c then Elsewhere a else Elsewhere b := by
  split <;> rfl

@[simp] theorem elsewhere_andThen {σ : Type} (p : σ × List Out) (f : σ → σ × List Out) :
    Elsewhere (andThen p f).2 ↔ Elsewhere p.2 ∧ Elsewhere (f p.1).2 := elsewhere_append _ _

theorem elsewhere_forAll {σ α : Type} {f : α → σ → σ × List Out} (h : ∀ a x, Elsewhere (f a x).2) (xs : List α) (x : σ) :
    Elsewhere (forAll xs f x).2 := by
  induction xs generalizing x with
  | nil => exact elsewhere_nil
  | cons a xs ih =>
    rw [forAll_cons, elsewhere_andThen]
    exact ⟨h a x, ih _⟩

@[simp] theorem elsewhere_read (cls : AgentClass) (addr : Addr) (beats : Nat) (tag : Tag) :
    (agentRead cls addr beats tag).ofSeats = false := rfl

@[simp] theorem elsewhere_write (addr : Addr) (data : List WriteBeat) (tag : Tag) : (agentWrite addr data tag).ofSeats = false := rfl

/-! ### Notice Unit -/

@[simp] theorem bannerOuts_elsewhere (a b : Table 128 Rotation) : Elsewhere (bannerOuts a b) :=
  elsewhere_flatMap _ _ fun i => by split <;> simp [Out.ofSeats]

@[simp] theorem alertOuts_elsewhere (a b : Table 32 (Option NoticeId)) : Elsewhere (alertOuts a b) :=
  elsewhere_flatMap _ _ fun i => by split <;> simp [Out.ofSeats]

@[simp] theorem change_elsewhere (l : List Notice) (m : List (BitVec 32)) (q : Notices) : Elsewhere (q.change l m).2 := by
  simp [Notices.change, Out.ofSeats]

@[simp] theorem remove_elsewhere (p : Notice → Bool) (q : Notices) : Elsewhere (q.remove p).2 := by
  unfold Notices.remove
  split <;> simp

@[simp] theorem evictFor_elsewhere (n : Notice) (q : Notices) : Elsewhere (q.evictFor n).2 := by
  simp [Notices.evictFor, Out.ofSeats]

@[simp] theorem enter_elsewhere (n : Notice) (q : Notices) : Elsewhere (q.enter n).2 := by
  unfold Notices.enter
  repeat' split
  all_goals simp [Out.ofSeats]

@[simp] theorem enterHouse_elsewhere (q : Notices) : Elsewhere q.enterHouse.2 := by
  unfold Notices.enterHouse
  split <;> simp

@[simp] theorem substitute_elsewhere (o n : Notice) (q : Notices) : Elsewhere (q.substitute o n).2 := by
  unfold Notices.substitute
  dsimp only
  split <;> simp

@[simp] theorem takeIn_elsewhere (n : Notice) (q : Notices) : Elsewhere (q.takeIn n).2 := by
  unfold Notices.takeIn
  repeat' split
  all_goals simp

@[simp] theorem fail_elsewhere (x : NoticeId) (a : Answer) (q : Notices) : Elsewhere (q.fail x a).2 := by
  unfold Notices.fail
  rw [elsewhere_andThen]
  refine ⟨by simp [Out.ofSeats], ?_⟩
  dsimp only
  split
  · exact remove_elsewhere _ _
  · exact elsewhere_nil

@[simp] theorem writeback_elsewhere (w : Windows) (q : Notices) : Elsewhere (q.writeback w).2 := by
  unfold Notices.writeback
  split <;> simp

@[simp] theorem begin_elsewhere (w : Windows) (q : Notices) : Elsewhere (q.begin w).2 := by
  unfold Notices.begin
  split <;> simp

@[simp] theorem finish_elsewhere (w : Windows) (q : Notices) : Elsewhere (q.finish w).2 := by
  simp [Notices.finish]

@[simp] theorem produce_elsewhere (w : Windows) (v : BitVec 16) (q : Notices) : Elsewhere (q.produce w v).2 := by
  unfold Notices.produce
  dsimp only
  split <;> simp [Out.ofSeats]

@[simp] theorem discardOne_elsewhere (w : Windows) (q : Notices) : Elsewhere (q.discardOne w).2 := by
  unfold Notices.discardOne
  split <;> simp

@[simp] theorem conclude_elsewhere (w : Windows) (r : NoticeRec) (a : Option Answer) (q : Notices) :
    Elsewhere (q.conclude w r a).2 := by
  unfold Notices.conclude
  rw [elsewhere_andThen]
  refine ⟨?_, finish_elsewhere _ _⟩
  repeat' split
  all_goals simp

theorem await_elsewhere (w : Windows) (r : NoticeRec) {outs : List Out} (x : List Awaited) (q : Notices) (h : Elsewhere outs) :
    Elsewhere (q.await w r outs x).2 := by
  unfold Notices.await
  rw [elsewhere_andThen]
  exact ⟨h, by split <;> simp⟩

@[simp] theorem undelayOuts_elsewhere (n : Notice) : Elsewhere n.undelayOuts := by
  simp [Notice.undelayOuts, Out.ofSeats]

@[simp] theorem effectOuts_elsewhere (r : NoticeRec) : Elsewhere r.effectOuts := by
  unfold NoticeRec.effectOuts
  split <;> simp [Out.ofSeats]

@[simp] theorem withdraw_elsewhere (w : Windows) (m : Nat) (r : NoticeRec) (q : Notices) : Elsewhere (q.withdraw w m r).2 := by
  unfold Notices.withdraw
  repeat' split
  · simp [Out.ofSeats]
  · simp [Out.ofSeats]
  · simp [await_elsewhere]

@[simp] theorem process_elsewhere (w : Windows) (m : Nat) (r : NoticeRec) (q : Notices) : Elsewhere (q.process w m r).2 := by
  unfold Notices.process
  dsimp only
  repeat' split
  · simp
  · simp [await_elsewhere]
  · simp [await_elsewhere]
  · simp [Out.ofSeats]

@[simp] theorem answer_elsewhere (w : Windows) (a : Answer) (q : Notices) : Elsewhere (q.answer w a).2 := by
  unfold Notices.answer
  dsimp only
  repeat' split
  all_goals simp

@[simp] theorem recordDone_elsewhere (w : Windows) (m : Nat) (bs : List Byte) (err : Bool) (q : Notices) :
    Elsewhere (q.recordDone w m bs err).2 := by
  unfold Notices.recordDone
  split
  · simp
  · split
    · simp [Out.ofSeats]
    · split
      · exact elsewhere_map _ _ fun _ => by simp
      · simp

@[simp] theorem textDone_elsewhere (w : Windows) (m : Nat) (bs : List Byte) (err : Bool) (q : Notices) :
    Elsewhere (q.textDone w m bs err).2 := by
  unfold Notices.textDone
  dsimp only
  repeat' split
  all_goals simp

@[simp] theorem seatsNote_elsewhere (p : Params) (e : ShowEntry) (n : SeatsNote) (q : Notices) : Elsewhere (q.seatsNote p e n).2 := by
  unfold Notices.seatsNote
  repeat' split
  all_goals simp

@[simp] theorem dwellExpiry_elsewhere (i : Fin 128) (q : Notices) : Elsewhere (q.dwellExpiry i).2 := by
  unfold Notices.dwellExpiry
  dsimp only
  repeat' split
  all_goals simp

@[simp] theorem paneReport_elsewhere (r : BannerReport) (q : Notices) : Elsewhere (q.paneReport r).2 := by
  simp [Notices.paneReport]

/-! ### Reel Player -/

@[simp] theorem cueRead_elsewhere (ch : Fin 8) (a : Addr) (no : Nat) : (cueRead ch a no).ofSeats = false := rfl

@[simp] theorem exchange_elsewhere (ch : Fin 8) (k : ShownKind) (c : Channel) : Elsewhere (c.exchange ch k).2 := by
  simp [Channel.exchange, Out.ofSeats]

@[simp] theorem showRest_elsewhere (ch : Fin 8) (r : RestParams) (c : Channel) : Elsewhere (c.showRest ch r).2 := by
  unfold Channel.showRest Channel.blank
  split <;> simp [Out.ofSeats]

@[simp] theorem goIdle_elsewhere (ch : Fin 8) (r : RestParams) (c : Channel) : Elsewhere (c.goIdle ch r).2 := by
  simp [Channel.goIdle]

@[simp] theorem loadCurrent_elsewhere (ch : Fin 8) (r : RestParams) (a : Addr) (c : Channel) : Elsewhere (c.loadCurrent ch r a).2 := by
  unfold Channel.loadCurrent
  split
  · simp
  · simp [Out.ofSeats]

@[simp] theorem loadNext_elsewhere (ch : Fin 8) (a : Addr) (c : Channel) : Elsewhere (c.loadNext ch a).2 := by
  unfold Channel.loadNext
  split
  · simp
  · simp [Out.ofSeats]

theorem skip_elsewhere (ch : Fin 8) (r : RestParams) (q : Cue) (f : Channel → Channel × List Out) (c : Channel)
    (h : ∀ c, Elsewhere (f c).2) : Elsewhere (c.skip ch r q f).2 := by
  unfold Channel.skip
  dsimp only
  repeat' split
  all_goals simp [Out.ofSeats, h]

theorem judgeWith_elsewhere (s : State) (ch : Fin 8) (r : RestParams) {f : Channel → Channel × List Out}
    {g : Cue → Channel → Channel × List Out} (c : Channel) (h : ∀ c, Elsewhere (f c).2) (k : ∀ q c, Elsewhere (g q c).2) :
    Elsewhere (c.judgeWith s ch r f g).2 := by
  unfold Channel.judgeWith
  repeat' split
  · exact skip_elsewhere _ _ _ _ _ h
  all_goals simp [k]

@[simp] theorem beginFresh_elsewhere (q : Cue) (c : Channel) : Elsewhere (c.beginFresh q).2 := by
  simp [Channel.beginFresh]

theorem judge_elsewhere (s : State) (ch : Fin 8) (r : RestParams) {g : Cue → Channel → Channel × List Out} (c : Channel)
    (k : ∀ q c, Elsewhere (g q c).2) : Elsewhere (c.judge s ch r g).2 :=
  judgeWith_elsewhere _ _ _ _ (fun _ => judgeWith_elsewhere _ _ _ _ (fun _ => elsewhere_nil) beginFresh_elsewhere) k

@[simp] theorem badCurrent_elsewhere (s : State) (ch : Fin 8) (r : RestParams) (c : Channel) : Elsewhere (c.badCurrent s ch r).2 := by
  unfold Channel.badCurrent
  rw [elsewhere_andThen]
  refine ⟨by simp [Out.ofSeats], ?_⟩
  split
  · simp
  · simp
  · exact judge_elsewhere _ _ _ _ beginFresh_elsewhere

@[simp] theorem loadDone_elsewhere (s : State) (ch : Fin 8) (r : RestParams) (no : Nat) (bs : List Byte) (err : Bool) (c : Channel) :
    Elsewhere (c.loadDone s ch r no bs err).2 := by
  unfold Channel.loadDone
  dsimp only
  split
  · generalize (if err = true then none else cueRecord bs) = x
    cases x with
    | none => exact badCurrent_elsewhere _ _ _ _
    | some q => exact judge_elsewhere _ _ _ _ beginFresh_elsewhere
  · generalize (if err = true then none else cueRecord bs) = x
    cases x <;> simp [Out.ofSeats]
  · simp

@[simp] theorem segmentStart_elsewhere (ch : Fin 8) (q : Cue) (c : Channel) : Elsewhere (c.segmentStart ch q).2 := by
  unfold Channel.segmentStart
  dsimp only
  repeat' split
  all_goals simp

@[simp] theorem slot_elsewhere (ch : Fin 8) (q : Cue) (k : Nat) (b : Bool) (c : Channel) : Elsewhere (c.slot ch q k b).2 := by
  unfold Channel.slot Channel.showOrDrop
  rw [elsewhere_andThen, elsewhere_andThen]
  refine ⟨by split <;> simp [Out.ofSeats], ?_, by simp⟩
  split <;> simp

@[simp] theorem awaitedBoundary_elsewhere (ch : Fin 8) (q : Cue) (c : Channel) : Elsewhere (c.awaitedBoundary ch q).2 := by
  unfold Channel.awaitedBoundary
  split <;> simp

@[simp] theorem follow_elsewhere (ch : Fin 8) (a b : Bool) (q : Cue) (c : Channel) : Elsewhere (Channel.follow ch a b q c).2 := by
  unfold Channel.follow
  dsimp only
  repeat' split
  all_goals simp

@[simp] theorem segmentEnd_elsewhere (s : State) (ch : Fin 8) (r : RestParams) (b : Bool) (c : Channel) :
    Elsewhere (c.segmentEnd s ch r b).2 := by
  unfold Channel.segmentEnd
  dsimp only
  have hlast : Elsewhere
      (match ({ c with periodsLeft := 0, resume := false } : Channel).next with
        | .loading _ => (({ c with periodsLeft := 0, resume := false } : Channel).carry, [])
        | _ => ({ c with periodsLeft := 0, resume := false } : Channel).goIdle ch r).2 := by
    split <;> simp
  split
  · exact judge_elsewhere _ _ _ _ (follow_elsewhere _ _ _)
  · split
    · split
      · exact judge_elsewhere _ _ _ _ (follow_elsewhere _ _ _)
      · exact hlast
    · exact hlast

@[simp] theorem due_elsewhere (ch : Fin 8) (q : Cue) (k : Nat) (c : Channel) : Elsewhere (c.due ch q k).2 := by
  unfold Channel.due
  split <;> simp

@[simp] theorem channelBoundary_elsewhere (s : State) (ch : Fin 8) (r : RestParams) (c : Channel) : Elsewhere (c.boundary s ch r).2 := by
  unfold Channel.boundary Channel.takeCut Channel.runOut
  dsimp only
  repeat' split
  all_goals simp

@[simp] theorem push_elsewhere (ch : Fin 8) (r : RestParams) (h : Bool) (a : Addr) (c : Channel) : Elsewhere (c.push ch r h a).2 := by
  unfold Channel.push
  repeat' split
  all_goals simp [Out.ofSeats]

@[simp] theorem stop_elsewhere (ch : Fin 8) (r : RestParams) (c : Channel) : Elsewhere (c.stop ch r).2 := by
  unfold Channel.stop
  split <;> simp

@[simp] theorem restDone_elsewhere (ch : Fin 8) (no : Nat) (d : List Beat) (err : Bool) (c : Channel) :
    Elsewhere (c.restDone ch no d err).2 := by
  unfold Channel.restDone Channel.blank
  dsimp only
  repeat' split
  all_goals simp [Out.ofSeats]

@[simp] theorem reelIssue_elsewhere (q : Reel) : Elsewhere q.issueRead.2 := by
  unfold Reel.issueRead Reel.onChannel Channel.readOut
  dsimp only
  repeat' split
  all_goals simp

@[simp] theorem reelBoundary_elsewhere (s : State) (q : Reel) : Elsewhere (q.boundary s).2 :=
  elsewhere_forAll (fun ch q => by exact channelBoundary_elsewhere s ch (s.params.rest.get ch) (q.channels.get ch)) _ _

/-! ### Composition Unit -/

@[simp] theorem judgePane_elsewhere (fit : Fin 128 → Pane → Fitness) (i : Fin 128) (q : Comp) : Elsewhere (q.judge fit i).2 := by
  unfold Comp.judge
  dsimp only
  repeat' split
  all_goals simp [Out.ofSeats]

@[simp] theorem judgeSome_elsewhere (fit : Fin 128 → Pane → Fitness) (f : Fin 128 → Pane → Bool) (q : Comp) :
    Elsewhere (q.judgeSome fit f).2 :=
  elsewhere_forAll (fun i q => by split <;> simp) _ _

@[simp] theorem writePane_elsewhere (s : State) (i : Fin 128) (p : Pane) (q : Comp) : Elsewhere (q.writePane s i p).2 := by
  unfold Comp.writePane bannerReportOuts
  rw [elsewhere_andThen]
  refine ⟨judgePane_elsewhere _ _ _, ?_⟩
  dsimp only
  repeat' split
  all_goals simp [Out.ofSeats]

@[simp] theorem compReport_elsewhere (s : State) (r : ModuleReport) (q : Comp) : Elsewhere (q.report s r).2 := by
  unfold Comp.report
  dsimp only
  split
  · simp
  · rw [elsewhere_andThen]
    exact ⟨judgeSome_elsewhere _ _ _, elsewhere_nil⟩
  · simp
  · exact judgeSome_elsewhere _ _ _

/-! ### Ring Engines -/

@[simp] theorem reportOut_elsewhere (n : Fin 4) (k : Fin 8) (st : ModState) : (reportOut n k st).ofSeats = false := rfl

@[simp] theorem readyOut_elsewhere (n : Fin 4) (k : Fin 8) (m : ModSlot) : (readyOut n k m).ofSeats = false := rfl

@[simp] theorem clearSlots_elsewhere (n : Fin 4) (r : Ring) : Elsewhere (r.clearSlots n).2 :=
  elsewhere_forAll (fun k r => by split <;> simp) _ _

@[simp] theorem loseSlots_elsewhere (n : Fin 4) (r : Ring) : Elsewhere (r.loseSlots n).2 :=
  elsewhere_forAll (fun k r => by split <;> simp) _ _

@[simp] theorem endQuery_elsewhere (n : Fin 4) (o : QueryOutcome) (v : BitVec 32) (r : Ring) : Elsewhere (r.endQuery n o v).2 := by
  unfold Ring.endQuery
  split <;> simp [Out.ofSeats]

@[simp] theorem enterLocking_elsewhere (p : RingParams) (n : Fin 4) (r : Ring) : Elsewhere (r.enterLocking p n).2 := by
  simp [Ring.enterLocking]

@[simp] theorem fault_elsewhere (p : RingParams) (n : Fin 4) (r : Ring) : Elsewhere (r.fault p n).2 := by
  simp [Ring.fault, Out.ofSeats]

@[simp] theorem goOff_elsewhere (n : Fin 4) (r : Ring) : Elsewhere (r.goOff n).2 := by
  simp [Ring.goOff]

@[simp] theorem enableWrite_elsewhere (p : RingParams) (n : Fin 4) (a b : Bool) (r : Ring) : Elsewhere (r.enableWrite p n a b).2 := by
  unfold Ring.enableWrite
  repeat' split
  all_goals simp

@[simp] theorem ringRestart_elsewhere (p : RingParams) (n : Fin 4) (r : Ring) : Elsewhere (r.restart p n).2 := by
  simp [Ring.restart]

@[simp] theorem request_elsewhere (b : Bool) (k : Fin 8) (i : BitVec 4) (v : BitVec 32) (r : Ring) :
    Elsewhere (r.request b k i v).2 := by
  unfold Ring.request
  split <;> simp [Out.ofSeats]

@[simp] theorem lockExpiry_elsewhere (p : RingParams) (n : Fin 4) (r : Ring) : Elsewhere (r.lockExpiry p n).2 := by
  unfold Ring.lockExpiry
  split <;> simp

@[simp] theorem restartExpiry_elsewhere (p : RingParams) (n : Fin 4) (r : Ring) : Elsewhere (r.restartExpiry p n).2 := by
  unfold Ring.restartExpiry
  split <;> simp

@[simp] theorem ringBoundary_elsewhere (s : State) (p : RingParams) (n : Fin 4) (x : Ring × Comp) :
    Elsewhere (Ring.boundary s p n x).2 := by
  unfold Ring.boundary Ring.judgeTimeout
  dsimp only
  repeat' split
  all_goals simp

@[simp] theorem unshifted_elsewhere (s : State) (p : RingParams) (n : Fin 4) (x : Ring × Comp) :
    Elsewhere (Ring.unshifted s p n x).2 := by
  unfold Ring.unshifted
  repeat' split
  all_goals simp

@[simp] theorem handOver_elsewhere (s : State) (p : RingParams) (n : Fin 4) (cs : List ReturnedCar) (r : Ring) :
    Elsewhere (r.handOver s p n cs).2 := by
  unfold Ring.handOver
  simp only [elsewhere_andThen]
  refine ⟨⟨⟨⟨by simp [settlementOut, Out.ofSeats], ?_⟩, ?_⟩, ?_⟩, ?_⟩
  · unfold Ring.settleQuery
    repeat' split
    all_goals simp
  · apply elsewhere_forAll
    intro k r
    unfold Ring.goLive
    split <;> simp
  · apply elsewhere_forAll
    intro k r
    unfold Ring.walk
    dsimp only
    repeat' split
    · simp
    · simp
    · rw [elsewhere_andThen]
      refine ⟨by simp [reportOut, Out.ofSeats], ?_⟩
      unfold Ring.endQueryOf
      split <;> simp
  · apply elsewhere_forAll
    intro k r
    unfold Ring.rejoin
    split <;> simp

@[simp] theorem badReturn_elsewhere (s : State) (p : RingParams) (n : Fin 4) (o : TrainOutcome) (k : EventKind) (f : Flight) (r : Ring) :
    Elsewhere (r.badReturn s p n o k f).2 := by
  unfold Ring.badReturn
  simp only [elsewhere_andThen]
  refine ⟨⟨by simp [Out.ofSeats], ?_⟩, ?_⟩
  · split <;> simp
  · split <;> simp

@[simp] theorem fill_elsewhere (n : Fin 4) (cs : List ReturnedCar) (r : Ring) : Elsewhere (r.fill n cs).2 :=
  elsewhere_forAll (fun k r => by
    repeat' split
    all_goals simp) _ _

@[simp] theorem goodReturn_elsewhere (s : State) (p : RingParams) (n : Fin 4) (f : Flight) (bs : List Byte) (r : Ring) :
    Elsewhere (r.goodReturn s p n f bs).2 := by
  unfold Ring.goodReturn
  dsimp only
  split <;> simp [Out.ofSeats]

@[simp] theorem returned_elsewhere (s : State) (p : RingParams) (n : Fin 4) (bs : List Byte) (r : Ring) :
    Elsewhere (r.returned s p n bs).2 := by
  unfold Ring.returned
  repeat' split
  all_goals simp

@[simp] theorem returnExpiry_elsewhere (s : State) (p : RingParams) (n : Fin 4) (r : Ring) : Elsewhere (r.returnExpiry s p n).2 := by
  unfold Ring.returnExpiry
  repeat' split
  all_goals simp

end Sys2Proof.Machine
end

section
/-! The inboxes of seat requests and of seats-changed notes (R22, R51): only the tracker sends the one, only the Seat Tally Unit the other. -/

namespace Sys2Proof.Machine

/-- The requests to the Seat Tally Unit, and its notes to the Notice Unit. -/
def State.seatMail (s : State) : List SeatMsg × List SeatsNote := (s.mail.toSeats, s.mail.seatsToNotices)

theorem elsewhere_seats {outs : List Out} (h : Elsewhere outs) : outs.filterMap Out.seats? = [] := by
  rw [List.filterMap_eq_nil_iff]
  intro o ho
  have hno := h o ho
  cases o <;> simp_all [Out.ofSeats]

theorem elsewhere_seatsNote {outs : List Out} (h : Elsewhere outs) : outs.filterMap Out.seatsNote? = [] := by
  rw [List.filterMap_eq_nil_iff]
  intro o ho
  have hno := h o ho
  cases o <;> simp_all [Out.ofSeats]

/-- What is sent elsewhere leaves both inboxes as they are. -/
@[simp] theorem emit_seatMail {outs : List Out} (h : Elsewhere outs) (s : State) : (s.emit outs).seatMail = s.seatMail := by
  simp [State.seatMail, emit_mail, posts_eq, elsewhere_seats h, elsewhere_seatsNote h]

@[simp] theorem withMail_seatMail (s : State) {m : Mail} (h : m.toSeats = s.mail.toSeats)
    (k : m.seatsToNotices = s.mail.seatsToNotices) : (s.withMail m).seatMail = s.seatMail := by
  simp [State.seatMail, h, k]

@[simp] theorem withPath_seatMail (s : State) (x) : (s.withPath x).seatMail = s.seatMail := rfl

@[simp] theorem withIntakes_seatMail (s : State) (x) : (s.withIntakes x).seatMail = s.seatMail := rfl

@[simp] theorem withSetup_seatMail (s : State) (x) : (s.withSetup x).seatMail = s.seatMail := rfl

@[simp] theorem withParams_seatMail (s : State) (x) : (s.withParams x).seatMail = s.seatMail := rfl

@[simp] theorem withTime_seatMail (s : State) (x) : (s.withTime x).seatMail = s.seatMail := rfl

@[simp] theorem withTracker_seatMail (s : State) (x) : (s.withTracker x).seatMail = s.seatMail := rfl

@[simp] theorem withSeats_seatMail (s : State) (x) : (s.withSeats x).seatMail = s.seatMail := rfl

@[simp] theorem withNotices_seatMail (s : State) (x) : (s.withNotices x).seatMail = s.seatMail := rfl

@[simp] theorem withReel_seatMail (s : State) (x) : (s.withReel x).seatMail = s.seatMail := rfl

@[simp] theorem withComp_seatMail (s : State) (x) : (s.withComp x).seatMail = s.seatMail := rfl

@[simp] theorem withRings_seatMail (s : State) (x) : (s.withRings x).seatMail = s.seatMail := rfl

@[simp] theorem withEvents_seatMail (s : State) (x) : (s.withEvents x).seatMail = s.seatMail := rfl

@[simp] theorem takeEntry_seatMail (s : State) : s.takeEntry.seatMail = s.seatMail := rfl

@[simp] theorem popNoticeResp_seatMail (s : State) : s.popNoticeResp.seatMail = s.seatMail := rfl

@[simp] theorem popNoticeMsg_seatMail (s : State) : s.popNoticeMsg.seatMail = s.seatMail := rfl

@[simp] theorem popCompMsg_seatMail (s : State) : s.popCompMsg.seatMail = s.seatMail := rfl

@[simp] theorem popNoticeNote_seatMail (s : State) : s.popNoticeNote.seatMail = s.seatMail := rfl

@[simp] theorem popReelResp_seatMail (s : State) : s.popReelResp.seatMail = s.seatMail := rfl

@[simp] theorem result_seatMail (s : State) (i : BitVec 10) (v : BitVec 32) (o : Outcome) : (s.result i v o).seatMail = s.seatMail := by
  simp [State.seatMail]

@[simp] theorem paramResult_seatMail (s : State) (e : Entry) (v : BitVec 32) : (s.paramResult e v).seatMail = s.seatMail := by
  simp [State.paramResult]

@[simp] theorem ite_seatMail (c : Prop) [Decidable c] (s t : State) :
    (if c then s else t).seatMail = if c then s.seatMail else t.seatMail := by
  split <;> rfl

@[simp] theorem dayOpenAnswer_seatMail (s : State) (w : DayOpenWait) : (s.dayOpenAnswer w).seatMail = s.seatMail := by
  simp [State.dayOpenAnswer]

@[simp] theorem dayOpenSeats_seatMail (s : State) : s.dayOpenSeats.seatMail = s.seatMail := by
  unfold State.dayOpenSeats
  split <;> simp

@[simp] theorem dayOpenNotices_seatMail (s : State) : s.dayOpenNotices.seatMail = s.seatMail := by
  unfold State.dayOpenNotices
  split <;> simp

@[simp] theorem dayOpenComp_seatMail (s : State) : s.dayOpenComp.seatMail = s.seatMail := by
  unfold State.dayOpenComp
  split <;> simp

@[simp] theorem commit_seatMail (s t : State) : (commit s t).seatMail = t.seatMail := by
  simp [State.seatMail]

/-! ### Operations of a block that send elsewhere -/

@[simp] theorem minuteNote_elsewhere (m : Nat) (q : Notices) : Elsewhere (q.minuteNote m).2 := by
  simp [Notices.minuteNote]

@[simp] theorem showNote_elsewhere (m : Nat) (n : ShowNote) (q : Notices) : Elsewhere (q.showNote m n).2 := by
  simp [Notices.showNote]

@[simp] theorem alertOn_elsewhere (q : Notices) : Elsewhere q.alertOn.2 := by
  simp [Notices.alertOn]

@[simp] theorem alertOff_elsewhere (q : Notices) : Elsewhere q.alertOff.2 := by
  simp [Notices.alertOff]

@[simp] theorem hushChange_elsewhere (q : Notices) : Elsewhere q.hushChange.2 := by
  simp [Notices.hushChange, Out.ofSeats]

@[simp] theorem onChannel_elsewhere (q : Reel) (ch : Fin 8) (f : Channel → Channel × List Out) :
    Elsewhere (q.onChannel ch f).2 ↔ Elsewhere (f (q.channels.get ch)).2 := Iff.rfl

@[simp] theorem elsewhere_ite_snd {σ : Type} (c : Prop) [Decidable c] (a b : σ × List Out) :
    Elsewhere (if c then a else b).2 ↔ if c then Elsewhere a.2 else Elsewhere b.2 := by
  split <;> rfl

/-! ### Helpers of the commands -/

theorem moduleRequest_seatMail (s : State) (e : Entry) (b : Bool) (v : BitVec 32) : (s.moduleRequest e b v).seatMail = s.seatMail := by
  simp [State.moduleRequest]

theorem grantPassing_seatMail (s : State) (r : PassReq) (n : Nat) : (s.grantPassing r n).seatMail = s.seatMail := by
  unfold State.grantPassing
  exact emit_seatMail (elsewhere_map _ _ fun _ => rfl) _

@[simp] theorem hand_seatMail (m : Mail) (r : Response) :
    (m.hand r).toSeats = m.toSeats ∧ (m.hand r).seatsToNotices = m.seatsToNotices := by
  unfold Mail.hand
  cases r.tag <;> exact ⟨rfl, rfl⟩

theorem respond_seatMail (s : State) (g : Granted) (d : List Beat) (err : Bool) : (s.respond g d err).seatMail = s.seatMail := by
  unfold State.respond
  split
  · dsimp only
    split <;> rfl
  · rfl
  · dsimp only
    rw [withMail_seatMail _ (hand_seatMail _ _).1 (hand_seatMail _ _).2]
    split <;> simp [Out.ofSeats]

theorem issueWaiting_seatMail (s : State) : s.issueWaiting.seatMail = s.seatMail := by
  unfold State.issueWaiting State.issueResult
  split
  · dsimp only
    split <;> simp [State.resultWrite]
  · rfl

theorem bodyDone_seatMail (s : State) (err : Bool) : (s.bodyDone err).seatMail = s.seatMail := by
  unfold State.bodyDone
  dsimp only
  repeat' split
  all_goals simp [statusWrite]

/-! ### Notice Unit -/

theorem producerValueTaken_seatMail (s : State) : (producerValueTaken s).seatMail = s.seatMail := by
  unfold producerValueTaken
  repeat' split
  all_goals simp

theorem noticeRecordDone_seatMail (s : State) : (noticeRecordDone s).seatMail = s.seatMail := by
  unfold noticeRecordDone
  repeat' split
  all_goals simp

theorem noticeTextDone_seatMail (s : State) : (noticeTextDone s).seatMail = s.seatMail := by
  unfold noticeTextDone
  repeat' split
  all_goals simp

theorem effectAnswer_seatMail (s : State) : (effectAnswer s).seatMail = s.seatMail := by
  unfold effectAnswer
  repeat' split
  all_goals simp

theorem consumerWritebackDone_seatMail (s : State) : (consumerWritebackDone s).seatMail = s.seatMail := by
  unfold consumerWritebackDone
  repeat' split
  all_goals simp

theorem writebackRetryBoundary_seatMail (s : State) : (writebackRetryBoundary s).seatMail = s.seatMail := by
  unfold writebackRetryBoundary
  repeat' split
  all_goals simp

theorem minuteNoteNotice_seatMail (s : State) : (minuteNoteNotice s).seatMail = s.seatMail := by
  unfold minuteNoteNotice
  repeat' split
  all_goals simp

theorem noticeShowChangedNote_seatMail (s : State) : (noticeShowChangedNote s).seatMail = s.seatMail := by
  unfold noticeShowChangedNote
  repeat' split
  all_goals simp

theorem autoSoldOutWrite_seatMail (s : State) : (autoSoldOutWrite s).seatMail = s.seatMail := by
  unfold autoSoldOutWrite
  repeat' split
  all_goals simp

theorem noticeDayOpen_seatMail (s : State) : (noticeDayOpen s).seatMail = s.seatMail := by
  unfold noticeDayOpen
  repeat' split
  all_goals simp

theorem alertLineAsserted_seatMail (s : State) : (alertLineAsserted s).seatMail = s.seatMail := by
  unfold alertLineAsserted
  repeat' split
  all_goals simp

theorem alertLineDeasserted_seatMail (s : State) : (alertLineDeasserted s).seatMail = s.seatMail := by
  unfold alertLineDeasserted
  repeat' split
  all_goals simp

theorem hushLineChange_seatMail (s : State) : (hushLineChange s).seatMail = s.seatMail := by
  unfold hushLineChange
  repeat' split
  all_goals simp

theorem bannerDwellExpiry_seatMail (screen : Fin 32) (pane : Fin 4) (s : State) : (bannerDwellExpiry screen pane s).seatMail = s.seatMail := by
  unfold bannerDwellExpiry
  simp

theorem bannerPaneReport_seatMail (s : State) : (bannerPaneReport s).seatMail = s.seatMail := by
  unfold bannerPaneReport
  repeat' split
  all_goals simp

/-! ### Reel Player -/

theorem cuePush_seatMail (s : State) : (cuePush s).seatMail = s.seatMail := by
  unfold cuePush
  repeat' split
  all_goals simp

theorem cueCut_seatMail (s : State) : (cueCut s).seatMail = s.seatMail := by
  unfold cueCut
  repeat' split
  all_goals simp

theorem channelStop_seatMail (s : State) : (channelStop s).seatMail = s.seatMail := by
  unfold channelStop
  repeat' split
  all_goals simp

theorem cueLoadDone_seatMail (s : State) : (cueLoadDone s).seatMail = s.seatMail := by
  unfold cueLoadDone
  repeat' split
  all_goals simp

theorem frameReadIssue_seatMail (s : State) : (frameReadIssue s).seatMail = s.seatMail := by
  unfold frameReadIssue
  simp

theorem pointerReadDone_seatMail (s : State) : (pointerReadDone s).seatMail = s.seatMail := by
  unfold pointerReadDone
  repeat' split
  all_goals simp

theorem frameReadDone_seatMail (s : State) : (frameReadDone s).seatMail = s.seatMail := by
  unfold frameReadDone
  repeat' split
  all_goals simp

theorem restReadDone_seatMail (s : State) : (restReadDone s).seatMail = s.seatMail := by
  unfold restReadDone
  repeat' split
  all_goals simp

theorem reelPeriodBoundary_seatMail (s : State) : (reelPeriodBoundary s).seatMail = s.seatMail := by
  unfold reelPeriodBoundary
  repeat' split
  all_goals simp

theorem reelShowChangedNote_seatMail (s : State) : (reelShowChangedNote s).seatMail = s.seatMail := by
  unfold reelShowChangedNote
  repeat' split
  all_goals simp

theorem hushAsserted_seatMail (s : State) : (hushAsserted s).seatMail = s.seatMail := by
  unfold hushAsserted
  repeat' split
  all_goals simp

theorem hushReleased_seatMail (s : State) : (hushReleased s).seatMail = s.seatMail := by
  unfold hushReleased
  repeat' split
  all_goals simp

theorem restStillWrite_seatMail (s : State) : (restStillWrite s).seatMail = s.seatMail := by
  unfold restStillWrite
  repeat' split
  all_goals simp

/-! ### Composition Unit -/

theorem paneWrite_seatMail (s : State) : (paneWrite s).seatMail = s.seatMail := by
  unfold paneWrite
  repeat' split
  all_goals simp

theorem boardOrderNote_seatMail (s : State) : (boardOrderNote s).seatMail = s.seatMail := by
  unfold boardOrderNote
  repeat' split
  all_goals simp

theorem compositionShowChangedNote_seatMail (s : State) : (compositionShowChangedNote s).seatMail = s.seatMail := by
  unfold compositionShowChangedNote
  repeat' split
  all_goals simp

theorem compositionSeatsChangedNote_seatMail (s : State) : (compositionSeatsChangedNote s).seatMail = s.seatMail := by
  unfold compositionSeatsChangedNote
  repeat' split
  all_goals simp

theorem pageDwellExpiry_seatMail (screen : Fin 32) (pane : Fin 4) (s : State) : (pageDwellExpiry screen pane s).seatMail = s.seatMail := by
  unfold pageDwellExpiry
  simp

theorem listNote_seatMail (s : State) : (listNote s).seatMail = s.seatMail := by
  unfold listNote
  repeat' split
  all_goals simp

theorem bannerNote_seatMail (s : State) : (bannerNote s).seatMail = s.seatMail := by
  unfold bannerNote
  repeat' split
  all_goals simp

theorem alertNote_seatMail (s : State) : (alertNote s).seatMail = s.seatMail := by
  unfold alertNote
  repeat' split
  all_goals simp

theorem minuteNoteComposition_seatMail (s : State) : (minuteNoteComposition s).seatMail = s.seatMail := by
  unfold minuteNoteComposition
  repeat' split
  all_goals simp

theorem channelNote_seatMail (s : State) : (channelNote s).seatMail = s.seatMail := by
  unfold channelNote
  repeat' split
  all_goals simp

theorem moduleReport_seatMail (s : State) : (moduleReport s).seatMail = s.seatMail := by
  unfold moduleReport
  repeat' split
  all_goals simp

theorem acceptanceSettlement_seatMail (s : State) : (acceptanceSettlement s).seatMail = s.seatMail := by
  unfold acceptanceSettlement
  repeat' split
  all_goals simp

theorem compositionDayOpen_seatMail (s : State) : (compositionDayOpen s).seatMail = s.seatMail := by
  unfold compositionDayOpen
  repeat' split
  all_goals simp

/-! ### Ring Engines -/

theorem ringEnableWrite_seatMail (s : State) : (ringEnableWrite s).seatMail = s.seatMail := by
  unfold ringEnableWrite
  repeat' split
  all_goals simp

theorem lockIndication_seatMail (ring : Fin 4) (s : State) : (lockIndication ring s).seatMail = s.seatMail := by
  unfold lockIndication
  simp

theorem lockTimerExpiry_seatMail (ring : Fin 4) (s : State) : (lockTimerExpiry ring s).seatMail = s.seatMail := by
  unfold lockTimerExpiry
  simp

theorem restartTimerExpiry_seatMail (ring : Fin 4) (s : State) : (restartTimerExpiry ring s).seatMail = s.seatMail := by
  unfold restartTimerExpiry
  simp

theorem autoRestartWrite_seatMail (s : State) : (autoRestartWrite s).seatMail = s.seatMail := by
  unfold autoRestartWrite
  repeat' split
  all_goals simp

theorem ringRestart_seatMail (s : State) : (ringRestart s).seatMail = s.seatMail := by
  unfold ringRestart
  repeat' split
  all_goals simp

theorem ringUnshiftedBoundary_seatMail (ring : Fin 4) (s : State) : (ringUnshiftedBoundary ring s).seatMail = s.seatMail := by
  unfold ringUnshiftedBoundary
  repeat' split
  all_goals simp

theorem ringBoundary_seatMail (ring : Fin 4) (s : State) : (ringBoundary ring s).seatMail = s.seatMail := by
  unfold ringBoundary
  simp

theorem trainReturn_seatMail (ring : Fin 4) (bytes : List Byte) (s : State) : (trainReturn ring bytes s).seatMail = s.seatMail := by
  unfold trainReturn
  simp

theorem returnTimerExpiry_seatMail (ring : Fin 4) (s : State) : (returnTimerExpiry ring s).seatMail = s.seatMail := by
  unfold returnTimerExpiry
  simp

theorem moduleQuery_seatMail (s : State) : (moduleQuery s).seatMail = s.seatMail := by
  unfold moduleQuery
  repeat' split
  all_goals simp [moduleRequest_seatMail]

theorem moduleSet_seatMail (s : State) : (moduleSet s).seatMail = s.seatMail := by
  unfold moduleSet
  repeat' split
  all_goals simp [moduleRequest_seatMail]

/-! ### Through Path, Setup Decoder and Event Unit -/

theorem portGrant_seatMail (s : State) : (portGrant s).seatMail = s.seatMail := by
  unfold portGrant State.grantAgent
  repeat' split
  all_goals simp [grantPassing_seatMail]

theorem downstreamResponse_seatMail (data : List Beat) (err : Bool) (s : State) : (downstreamResponse data err s).seatMail = s.seatMail := by
  unfold downstreamResponse
  repeat' split
  all_goals simp [respond_seatMail]

theorem resultWriteDone_seatMail (s : State) : (resultWriteDone s).seatMail = s.seatMail := by
  unfold resultWriteDone
  split <;> simp [issueWaiting_seatMail]

theorem eventReport_seatMail (s : State) : (eventReport s).seatMail = s.seatMail := by
  unfold eventReport
  repeat' split
  all_goals simp

theorem statusWriteDone_seatMail (s : State) : (statusWriteDone s).seatMail = s.seatMail := by
  unfold statusWriteDone State.trailDone
  dsimp only
  repeat' split
  all_goals simp [bodyDone_seatMail]

end Sys2Proof.Machine
end

section
/-! What the Schedule Tracker does to the fields of its shows (R12 to R14), and the requests it sends (R22): no entry bears the id 65,535, and no map of a tracked show or of a request has more than 640 seats. -/

namespace Sys2Proof.Machine

/-! ### Fields -/

/-- The map of a show that has seats tracked has at most 640 seats (R12). -/
def ShowFields.mapFits (f : ShowFields) : Prop := f.seatsTracked = true → f.seatCount ≤ 640

/-- What validation leaves to be entered (R12). -/
def ShowFields.checked (f : ShowFields) : Prop := f.id ≠ 65535 ∧ f.mapFits

theorem checked_of_validate {t : Tracker} {w : Windows} {i : Fin 192} {f : ShowFields} {err : Bool}
    (h : t.validate w i f err = .none) : f.checked := by
  unfold Tracker.validate at h
  repeat' split at h
  all_goals cases h
  rename_i hid _ _ _ hmap _
  refine ⟨fun hno => hid (.inr hno), fun htracked => ?_⟩
  by_contra hcount
  exact hmap ⟨htracked, .inr (.inl (by omega))⟩

/-- No entry bears the id 65,535 (R12). -/
def Tracker.IdsOk (t : Tracker) : Prop := ∀ i, (t.entries.get i).fields.id ≠ 65535

/-- Every map of a tracked show fits (R12). -/
def Tracker.MapsFit (t : Tracker) : Prop := ∀ i, (t.entries.get i).fields.mapFits

/-- Fields that are those of before, or have passed validation. -/
def ShowFields.from_ (f g : ShowFields) : Prop := g = f ∨ g.checked

theorem from_refl (f : ShowFields) : f.from_ f := .inl rfl

theorem from_trans {f g h : ShowFields} (hg : f.from_ g) (hh : g.from_ h) : f.from_ h := by
  obtain rfl | hh := hh
  · exact hg
  · exact .inr hh

theorem mapFits_from {f g : ShowFields} (h : f.from_ g) (hf : f.mapFits) : g.mapFits := by
  obtain rfl | h := h
  · exact hf
  · exact h.2

theorem id_from {f g : ShowFields} (h : f.from_ g) (hf : f.id ≠ 65535) : g.id ≠ 65535 := by
  obtain rfl | h := h
  · exact hf
  · exact h.1

/-- Each entry's fields are those of before, or have passed validation. -/
def Tracker.FieldsFrom (t u : Tracker) : Prop := ∀ i, (t.entries.get i).fields.from_ (u.entries.get i).fields

theorem fieldsFrom_of_same {t u : Tracker} (h : ∀ i, (u.entries.get i).fields = (t.entries.get i).fields) : t.FieldsFrom u :=
  fun i => .inl (h i)

theorem modify_fields {T : Table 192 ShowEntry} (i j : Fin 192) {f : ShowEntry → ShowEntry} (h : ∀ e, (f e).fields = e.fields) :
    ((T.modify i f).get j).fields = (T.get j).fields := by
  by_cases hij : i = j
  · subst hij
    simp [h]
  · simp [hij]

theorem set_from {T : Table 192 ShowEntry} {i : Fin 192} (j : Fin 192) {e : ShowEntry} (h : (T.get i).fields.from_ e.fields) :
    (T.get j).fields.from_ ((T.set i e).get j).fields := by
  by_cases hij : i = j
  · subst hij
    simpa using h
  · simpa [hij] using from_refl _

/-! ### What the tracker sends -/

/-- A message that the tracker sends: no note of the Seat Tally Unit, and where P holds no map of more than 640 seats. -/
def Out.byTracker (P : Prop) : Out → Prop
  | .seats (.bind _ _ n _ _) => P → n ≤ 640
  | .seats (.remap _ _ n) => P → n ≤ 640
  | .seatsNote _ => False
  | _ => True

/-- Messages that the tracker sends. -/
def Requests (P : Prop) (outs : List Out) : Prop := ∀ o ∈ outs, o.byTracker P

@[simp] theorem requests_nil (P : Prop) : Requests P [] := by simp [Requests]

@[simp] theorem requests_cons (P : Prop) (o : Out) (outs : List Out) :
    Requests P (o :: outs) ↔ o.byTracker P ∧ Requests P outs := by
  simp [Requests]

@[simp] theorem requests_append (P : Prop) (a b : List Out) : Requests P (a ++ b) ↔ Requests P a ∧ Requests P b := by
  simp only [Requests, List.mem_append, or_imp, forall_and]

theorem requests_flatMap {α : Type} (P : Prop) (xs : List α) (f : α → List Out) (h : ∀ x, Requests P (f x)) :
    Requests P (xs.flatMap f) := by
  intro o ho
  obtain ⟨x, -, hx⟩ := List.mem_flatMap.1 ho
  exact h x o hx

theorem Requests.mono {P Q : Prop} {outs : List Out} (h : Requests P outs) (hpq : Q → P) : Requests Q outs := by
  intro o ho
  have hby := h o ho
  unfold Out.byTracker at hby ⊢
  split at hby <;> simp_all

theorem requests_of_elsewhere {outs : List Out} (h : Elsewhere outs) (P : Prop) : Requests P outs := by
  intro o ho
  have hno := h o ho
  cases o <;> simp_all [Out.ofSeats, Out.byTracker]

@[simp] theorem noteOuts_requests (P : Prop) (n : ShowNote) : Requests P (noteOuts n) := by
  simp [noteOuts, Out.byTracker]

@[simp] theorem diffNote_requests (P : Prop) (i : Fin 192) (a b : ShowEntry) : Requests P (diffNote i a b) := by
  unfold diffNote
  split <;> simp

@[simp] theorem boardOuts_requests (P : Prop) (a b : List (Fin 192)) : Requests P (boardOuts a b) := by
  unfold boardOuts
  split <;> simp [Out.byTracker]

@[simp] theorem heldOuts_requests (P : Prop) (v : Nat) : Requests P (heldOuts v) := by
  unfold heldOuts
  split <;> simp [Out.byTracker]

@[simp] theorem minuteOuts_requests (P : Prop) (m : Nat) : Requests P (minuteOuts m) := by
  simp [minuteOuts, Out.byTracker]

theorem tracked_of_wants {e : ShowEntry} (h : e.wants = true) : e.fields.seatsTracked = true := by
  simp only [ShowEntry.wants, Bool.and_eq_true] at h
  exact h.1

theorem bindOut_byTracker {P : Prop} (i : Fin 192) {e : ShowEntry} (hw : e.wants = true) (h : P → e.fields.mapFits) :
    (bindOut i e).byTracker P := fun hp => h hp (tracked_of_wants hw)

theorem seatOuts_byTracker {P : Prop} (i : Fin 192) (a : ShowEntry) {b : ShowEntry} (h : P → b.fields.mapFits) :
    Requests P (seatOuts i a b) := by
  unfold seatOuts
  split
  · rename_i hw
    split
    · rw [requests_append]
      constructor
      · split
        · exact (requests_cons ..).2 ⟨fun hp => h hp (tracked_of_wants hw), requests_nil P⟩
        · exact requests_nil P
      · split <;> simp [Out.byTracker]
    · exact (requests_cons ..).2 ⟨bindOut_byTracker i hw h, requests_nil P⟩
  · split <;> simp [Out.byTracker]

@[simp] theorem removalOuts_requests (P : Prop) (i : Fin 192) (e : ShowEntry) (st : ShowState) : Requests P (removalOuts i e st) := by
  unfold removalOuts
  split <;> simp [Out.byTracker]

/-! ### A record applied -/

@[simp] theorem evaluate_fields (c g d : Nat) (e : ShowEntry) : (e.evaluate c g d).fields = e.fields := by
  unfold ShowEntry.evaluate ShowEntry.moveTo
  split <;> rfl

@[simp] theorem leaveFetching_fields (e : ShowEntry) : e.leaveFetching.fields = e.fields := by
  unfold ShowEntry.leaveFetching
  split <;> rfl

/-- The fields are those of before or have passed validation, and the requests carry maps that fit. -/
def Applied.Sound (f : ShowFields) (a : Applied) : Prop := f.from_ a.entry.fields ∧ Requests f.mapFits a.outs

theorem publishReject_sound (i : Fin 192) (e : ShowEntry) (r : RejectReason) : (publishReject i e r).Sound e.fields := by
  refine ⟨from_refl _, (requests_cons ..).2 ⟨trivial, ?_⟩⟩
  split <;> simp

theorem publishNew_sound (x : EvalAt) (i : Fin 192) (e : ShowEntry) {f : ShowFields} (hf : f.checked) :
    (publishNew x i e f).Sound e.fields := by
  unfold publishNew
  refine ⟨.inr (by simpa using hf), ?_⟩
  dsimp only
  simp only [requests_append, noteOuts_requests, and_true]
  constructor
  · split <;> simp
  · split
    · rename_i hw
      exact (requests_cons ..).2 ⟨bindOut_byTracker i hw fun _ => by simpa using hf.2, requests_nil _⟩
    · simp

theorem publishUpdate_sound (x : EvalAt) (i : Fin 192) (e : ShowEntry) {f : ShowFields} (hf : f.checked) :
    (publishUpdate x i e f).Sound e.fields := by
  unfold publishUpdate
  refine ⟨.inr (by simpa using hf), ?_⟩
  dsimp only
  simp only [requests_append, diffNote_requests, and_true]
  exact seatOuts_byTracker i e fun _ => by simpa using hf.2

theorem applyUnlist_sound (i : Fin 192) (e : ShowEntry) : (applyUnlist i e).Sound e.fields := by
  refine ⟨from_refl _, ?_⟩
  unfold applyUnlist
  dsimp only
  split <;> simp

theorem cancelShow_requests (P : Prop) (m : Nat) (i : Fin 192) (e : ShowEntry) : Requests P (cancelShow m i e).2 := by
  unfold cancelShow
  dsimp only
  split <;> simp [Out.byTracker]

theorem applyCancel_sound (m : Nat) (i : Fin 192) (e : ShowEntry) : (applyCancel m i e).Sound e.fields := by
  unfold applyCancel
  split
  · exact ⟨from_refl _, cancelShow_requests _ m i e⟩
  · exact ⟨.inl (leaveFetching_fields e), by simp [Out.byTracker]⟩

theorem applyReinstate_sound (x : EvalAt) (i : Fin 192) (e : ShowEntry) : (applyReinstate x i e).Sound e.fields := by
  unfold applyReinstate
  split
  · refine ⟨.inl (evaluate_fields ..), ?_⟩
    dsimp only
    simp only [requests_append, diffNote_requests, and_true]
    exact seatOuts_byTracker i e fun h => by simpa using h
  · exact ⟨.inl (leaveFetching_fields e), requests_nil _⟩

theorem applyRecord_sound (t : Tracker) (w : Windows) (x : EvalAt) (i : Fin 192) (bs : List Byte) (err : Bool) :
    (t.applyRecord w x i bs err).Sound (t.entries.get i).fields := by
  unfold Tracker.applyRecord
  dsimp only
  split
  · exact publishReject_sound i _ _
  · split
    · exact ⟨.inl (leaveFetching_fields _), requests_nil _⟩
    · split
      · exact publishReject_sound i _ (t.validate w i (showFields bs) false)
      · rename_i hvalid
        have hf : (showFields bs).checked := checked_of_validate (not_ne_iff.1 hvalid)
        split
        · exact publishUpdate_sound x i _ hf
        · exact publishNew_sound x i _ hf
    · exact applyUnlist_sound i _
    · exact applyCancel_sound _ i _
    · exact applyReinstate_sound x i _

/-! ### The tracker's operations -/

/-- A tracker operation keeps the fields or validates them, and sends what the tracker sends. -/
def Tracker.Sound (t : Tracker) (p : Tracker × List Out) : Prop := t.FieldsFrom p.1 ∧ Requests t.MapsFit p.2

theorem sound_of_elsewhere {t : Tracker} {p : Tracker × List Out} (h : t.FieldsFrom p.1) (k : Elsewhere p.2) : t.Sound p :=
  ⟨h, requests_of_elsewhere k _⟩

theorem Tracker.Sound.andThen {t : Tracker} {p : Tracker × List Out} {f : Tracker → Tracker × List Out} (h : t.Sound p)
    (k : p.1.Sound (f p.1)) : t.Sound (andThen p f) := by
  obtain ⟨hfields, houts⟩ := h
  obtain ⟨kfields, kouts⟩ := k
  exact ⟨fun i => from_trans (hfields i) (kfields i),
    (requests_append ..).2 ⟨houts, kouts.mono fun ht i => mapFits_from (hfields i) (ht i)⟩⟩

/-- What follows a change of the entries that touches no field. -/
theorem Tracker.Sound.of_fields {t u : Tracker} {p : Tracker × List Out} (h : u.Sound p)
    (hsame : ∀ i, (u.entries.get i).fields = (t.entries.get i).fields) : t.Sound p := by
  obtain ⟨hfields, houts⟩ := h
  refine ⟨fun i => hsame i ▸ hfields i, houts.mono fun ht i => ?_⟩
  rw [hsame i]
  exact ht i

theorem settle_sound {t : Tracker} {p : Tracker × List Out} (h : t.Sound p) : t.Sound (Tracker.settle p) :=
  ⟨h.1, (requests_append ..).2 ⟨h.2, boardOuts_requests _ _ _⟩⟩

theorem evaluateAll_sound (t : Tracker) (g d : Nat) : t.Sound (t.evaluateAll g d) := by
  unfold Tracker.evaluateAll
  refine settle_sound ⟨fieldsFrom_of_same fun i => ?_, requests_flatMap _ _ _ fun i => ?_⟩
  · simp
  · rw [requests_append]
    exact ⟨seatOuts_byTracker i _ fun h => by simpa using h i, diffNote_requests _ _ _ _⟩

theorem issueRecord_sound (t : Tracker) (w : Windows) (i : Fin 192) : t.Sound (t.issueRecord w i) :=
  sound_of_elsewhere (fun j => .inl (modify_fields i j fun _ => rfl)) (by simp [Tracker.issueRecord])

theorem issueTitle_sound (t : Tracker) (i : Fin 192) : t.Sound (t.issueTitle i) :=
  sound_of_elsewhere (fun j => .inl (modify_fields i j fun _ => rfl)) (by simp [Tracker.issueTitle])

@[simp] theorem enterFetching_fields (e : ShowEntry) : e.enterFetching.fields = e.fields := by
  unfold ShowEntry.enterFetching
  split <;> rfl

theorem startFetch_sound (t : Tracker) (w : Windows) (i : Fin 192) : t.Sound (t.startFetch w i) :=
  (issueRecord_sound _ w i).of_fields fun j => modify_fields i j enterFetching_fields

theorem refetch_sound (t : Tracker) (w : Windows) (i : Fin 192) : t.Sound (t.refetch w i) := by
  unfold Tracker.refetch
  split
  · dsimp only
    split
    · exact sound_of_elsewhere (fun j => .inl (modify_fields i j fun _ => rfl)) elsewhere_nil
    · exact (startFetch_sound _ w i).of_fields fun j => modify_fields i j fun _ => rfl
  · exact ⟨fun _ => from_refl _, requests_nil _⟩

theorem controlBeat_sound (t : Tracker) (w : Windows) (i : Fin 192) : t.Sound (t.controlBeat w i) := by
  unfold Tracker.controlBeat
  split
  · exact startFetch_sound t w i
  · exact sound_of_elsewhere (fun j => .inl (modify_fields i j fun _ => rfl)) elsewhere_nil

theorem afterRecord_sound (t : Tracker) (w : Windows) (i : Fin 192) (title : Bool) : t.Sound (t.afterRecord w i title) := by
  unfold Tracker.afterRecord
  split
  · exact issueTitle_sound t i
  · exact refetch_sound t w i

theorem recordDone_sound (t : Tracker) (w : Windows) (x : EvalAt) (i : Fin 192) (bs : List Byte) (err : Bool) :
    t.Sound (t.recordDone w x i bs err) := by
  unfold Tracker.recordDone
  refine Tracker.Sound.of_fields (u := { t with entries := t.entries.modify i fun e => { e with fetch := .none } }) ?_
    fun j => modify_fields i j fun _ => rfl
  refine Tracker.Sound.andThen ?_ (afterRecord_sound _ w i _)
  obtain ⟨hfields, houts⟩ := applyRecord_sound
    { t with entries := t.entries.modify i fun e => { e with fetch := .none } } w x i bs err
  exact settle_sound ⟨fun j => set_from j hfields, houts.mono fun h => h i⟩

theorem titleDone_sound (t : Tracker) (w : Windows) (i : Fin 192) (bs : List Byte) (err : Bool) : t.Sound (t.titleDone w i bs err) := by
  unfold Tracker.titleDone
  refine Tracker.Sound.andThen ⟨fun j => set_from j (from_refl _), ?_⟩ (refetch_sound _ w i)
  dsimp only
  split <;> simp

theorem changeShow_sound (t : Tracker) (i : Fin 192) {e : ShowEntry} (h : e.fields = (t.entries.get i).fields) :
    t.Sound (t.changeShow i e) := by
  unfold Tracker.changeShow
  refine settle_sound ⟨fun j => set_from j (.inl h), (requests_append ..).2 ⟨?_, diffNote_requests _ _ _ _⟩⟩
  exact seatOuts_byTracker i _ fun ht => by
    rw [h]
    exact ht i

@[simp] theorem withDelay_fields (x : EvalAt) (e : ShowEntry) (d : Nat) : (e.withDelay x d).fields = e.fields := by
  simp [ShowEntry.withDelay]

theorem sound_answered {t : Tracker} {outs : List Out} (h : Elsewhere outs) : t.Sound (t, outs) :=
  sound_of_elsewhere (fun _ => from_refl _) h

theorem Tracker.Sound.cons {t u : Tracker} {outs : List Out} (h : t.Sound (u, outs)) {o : Out} (ho : o.ofSeats = false) :
    t.Sound (u, o :: outs) :=
  ⟨h.1, (requests_append _ [o] outs).2 ⟨requests_of_elsewhere (by simpa using ho) _, h.2⟩⟩

theorem delayEffect_sound (t : Tracker) (x : EvalAt) (id m : Nat) : t.Sound (t.delayEffect x id m) := by
  unfold Tracker.delayEffect
  split
  · exact sound_answered (by simp [Out.ofSeats])
  · dsimp only
    split
    · split
      · exact sound_answered (by simp [Out.ofSeats])
      · exact (changeShow_sound t _ (withDelay_fields ..)).cons rfl
    · exact sound_answered (by simp [Out.ofSeats])

theorem undelayEffect_sound (t : Tracker) (x : EvalAt) (id m : Nat) : t.Sound (t.undelayEffect x id m) := by
  unfold Tracker.undelayEffect
  split
  · exact sound_answered (by simp [Out.ofSeats])
  · dsimp only
    split
    · exact (changeShow_sound t _ (withDelay_fields ..)).cons rfl
    · exact sound_answered (by simp [Out.ofSeats])

theorem cancelEffect_sound (t : Tracker) (id : Nat) : t.Sound (t.cancelEffect id) := by
  unfold Tracker.cancelEffect
  split
  · exact sound_answered (by simp [Out.ofSeats])
  · rename_i slot _
    dsimp only
    split
    · exact Tracker.Sound.cons (settle_sound ⟨fun j => set_from (e := (cancelShow t.minute slot (t.entries.get slot)).1) j (from_refl _),
        cancelShow_requests _ _ slot _⟩) rfl
    · exact sound_answered (by simp [Out.ofSeats])

theorem advance_sound (t : Tracker) : t.Sound t.advance := by
  refine sound_of_elsewhere (fun _ => from_refl _) ?_
  unfold Tracker.advance
  dsimp only
  split <;> simp [Out.ofSeats]

theorem boundary_sound (t : Tracker) (g d : Nat) : t.Sound (t.boundary g d) := by
  obtain ⟨hfields, houts⟩ := evaluateAll_sound { t with minuteDue := false } g d
  exact ⟨hfields, (requests_append ..).2 ⟨houts, minuteOuts_requests _ _⟩⟩

theorem clockSet_sound (t : Tracker) (g d v : Nat) : t.Sound (t.clockSet g d v) := by
  obtain ⟨hfields, houts⟩ := evaluateAll_sound (t.setClock v) g d
  refine ⟨hfields, ?_⟩
  unfold Tracker.clockSet
  simp only [requests_append, heldOuts_requests, minuteOuts_requests, and_true]
  exact houts

theorem reset_checked : ShowEntry.reset.fields.checked := by
  simp [ShowEntry.reset, ShowFields.checked, ShowFields.mapFits, ShowFields.zero]

theorem trackerDayOpen_sound (t : Tracker) (v : Nat) : t.Sound (t.dayOpen v) := by
  refine ⟨fun i => .inr ?_, ?_⟩
  · simpa [Tracker.dayOpen] using reset_checked
  · unfold Tracker.dayOpen
    simp only [requests_append, heldOuts_requests, minuteOuts_requests, boardOuts_requests, and_true]
    exact requests_flatMap _ _ _ fun i => by split <;> simp

end Sys2Proof.Machine
end

section
/-! What passes between the tracker, the Seat Tally Unit and the Notice Unit (R12, R22, R51): requests whose maps fit, and notes of shows whose id is none of the reserved ones. -/

namespace Sys2Proof.Machine

/-- No request still to be taken has a map of more than 640 seats. -/
def Mail.mapsFit (m : Mail) : Prop :=
  (∀ sh map n k e, .bind sh map n k e ∈ m.toSeats → n ≤ 640) ∧ ∀ sh map n, .remap sh map n ∈ m.toSeats → n ≤ 640

/-- No seats-changed note still to be taken bears the id 65,535. -/
def Mail.idsOk (m : Mail) : Prop := ∀ note ∈ m.seatsToNotices, note.id ≠ 65535

theorem mapsFit_of_subset {m k : Mail} (h : ∀ x ∈ k.toSeats, x ∈ m.toSeats) (hm : m.mapsFit) : k.mapsFit :=
  ⟨fun sh map n kk e hx => hm.1 sh map n kk e (h _ hx), fun sh map n hx => hm.2 sh map n (h _ hx)⟩

theorem mapsFit_posts {P : Prop} {outs : List Out} (h : Requests P outs) (hp : P) {m : Mail} (hm : m.mapsFit) :
    (m.posts outs).mapsFit := by
  have hnew : ∀ x ∈ outs.filterMap Out.seats?, (Out.seats x).byTracker P := by
    intro x hx
    obtain ⟨o, ho, hox⟩ := List.mem_filterMap.1 hx
    have hby := h o ho
    cases o <;> simp_all [Out.seats?]
  rw [posts_eq]
  constructor
  · intro sh map n k e hx
    obtain hold | hx := List.mem_append.1 hx
    · exact hm.1 sh map n k e hold
    · exact hnew _ hx hp
  · intro sh map n hx
    obtain hold | hx := List.mem_append.1 hx
    · exact hm.2 sh map n hold
    · exact hnew _ hx hp

theorem requests_seatsNote {P : Prop} {outs : List Out} (h : Requests P outs) : outs.filterMap Out.seatsNote? = [] := by
  rw [List.filterMap_eq_nil_iff]
  intro o ho
  have hby := h o ho
  cases o <;> simp_all [Out.byTracker]

/-! ### What every command but a reset keeps -/

/-- A command from s to t keeps the fields of the shows or validates them, and sends maps that fit and notes with the ids of shows. -/
def State.Traffic (s t : State) : Prop :=
  s.tracker.FieldsFrom t.tracker ∧ (s.tracker.MapsFit → s.mail.mapsFit → t.mail.mapsFit) ∧
    (s.tracker.IdsOk → s.mail.idsOk → t.mail.idsOk)

theorem Tracker.FieldsFrom.mapsFit {t u : Tracker} (h : t.FieldsFrom u) (ht : t.MapsFit) : u.MapsFit :=
  fun i => mapFits_from (h i) (ht i)

theorem Tracker.FieldsFrom.idsOk {t u : Tracker} (h : t.FieldsFrom u) (ht : t.IdsOk) : u.IdsOk :=
  fun i => id_from (h i) (ht i)

theorem Tracker.FieldsFrom.trans {t u v : Tracker} (h : t.FieldsFrom u) (k : u.FieldsFrom v) : t.FieldsFrom v :=
  fun i => from_trans (h i) (k i)

theorem traffic_refl (s : State) : s.Traffic s := ⟨fun _ => from_refl _, fun _ h => h, fun _ h => h⟩

theorem State.Traffic.trans {s t u : State} (h : s.Traffic t) (k : t.Traffic u) : s.Traffic u := by
  obtain ⟨hfields, hmaps, hids⟩ := h
  obtain ⟨kfields, kmaps, kids⟩ := k
  exact ⟨hfields.trans kfields, fun ht hm => kmaps (hfields.mapsFit ht) (hmaps ht hm),
    fun ht hm => kids (hfields.idsOk ht) (hids ht hm)⟩

theorem emit_fieldsFrom (s : State) (outs : List Out) : s.tracker.FieldsFrom (s.emit outs).tracker := by
  intro i
  obtain ⟨st, sl, h⟩ := emit_entry s outs i
  exact .inl (by rw [h])

/-- Neither inbox and no field changes. -/
theorem traffic_of_seatMail {bs : List Block} {s t : State} (h : Frame bs s t) (hentries : Block.entries ∉ bs)
    (hmail : t.seatMail = s.seatMail) : s.Traffic t := by
  have hbare : ∀ i, (t.tracker.entries.get i).bare = (s.tracker.entries.get i).bare := h .entries hentries
  have hseats : t.mail.toSeats = s.mail.toSeats := congrArg Prod.fst hmail
  have hnotes : t.mail.seatsToNotices = s.mail.seatsToNotices := congrArg Prod.snd hmail
  have hfields := fun i => congrArg ShowEntry.fields (hbare i)
  refine ⟨fieldsFrom_of_same hfields, fun _ hm => ?_, fun _ hm => ?_⟩
  · exact mapsFit_of_subset (fun x hx => hseats ▸ hx) hm
  · unfold Mail.idsOk
    rwa [hnotes]

/-- A tracker operation put in place in a state whose tracker and inboxes are those of s. -/
theorem Tracker.Sound.traffic {s u : State} {p : Tracker × List Out} (h : s.tracker.Sound p)
    (hmaps : s.mail.mapsFit → u.mail.mapsFit) (hnotes : u.mail.seatsToNotices = s.mail.seatsToNotices) :
    s.Traffic (u.trackerDo p) := by
  obtain ⟨hfields, houts⟩ := h
  refine ⟨hfields.trans (emit_fieldsFrom (u.withTracker p.1) p.2), fun ht hm => ?_, fun _ hm => ?_⟩
  · rw [trackerDo_eq, emit_mail]
    exact mapsFit_posts houts ht (hmaps hm)
  · rw [trackerDo_eq, emit_mail, posts_eq]
    simp only [Mail.idsOk, requests_seatsNote houts, List.append_nil]
    intro note hnote
    exact hm note (hnotes ▸ hnote)

/-- What writes an entry's result. -/
theorem State.Traffic.result {s t : State} (h : s.Traffic t) (i : BitVec 10) (v : BitVec 32) (o : Outcome) : s.Traffic (t.result i v o) := by
  unfold State.Traffic
  rw [result_tracker, result_mail]
  exact h

/-! ### The tracker's commands -/

theorem secondAdvance_traffic (s : State) : s.Traffic (secondAdvance s) := by
  unfold secondAdvance
  split
  · exact (advance_sound s.tracker).traffic id rfl
  · exact traffic_refl s

theorem takeOutstanding_traffic (s : State) : s.Traffic s.takeOutstanding := by
  have hon (s : State) : s.Traffic (alertLineAsserted s) :=
    traffic_of_seatMail (alertLineAsserted_frame s) (by simp) (alertLineAsserted_seatMail s)
  have hoff (s : State) : s.Traffic (alertLineDeasserted s) :=
    traffic_of_seatMail (alertLineDeasserted_frame s) (by simp) (alertLineDeasserted_seatMail s)
  have hhush (s : State) : s.Traffic (hushLineChange s) :=
    traffic_of_seatMail (hushLineChange_frame s) (by simp) (hushLineChange_seatMail s)
  exact (((secondAdvance_traffic s).trans (hon _)).trans (hoff _)).trans (hhush _)

theorem tick_fields (t : Tracker) (i : Fin 192) : t.tick.entries.get i = t.entries.get i := by
  unfold Tracker.tick
  split <;> rfl

theorem millisecondTick_traffic (a b : Bool) (s : State) : s.Traffic (millisecondTick a b s) := by
  refine (takeOutstanding_traffic s).trans ⟨fieldsFrom_of_same fun i => ?_, fun _ h => h, fun _ h => h⟩
  exact congrArg ShowEntry.fields (tick_fields _ i)

theorem minuteBoundary_traffic (s : State) : s.Traffic (minuteBoundary s) := by
  unfold minuteBoundary
  split
  · exact (boundary_sound s.tracker _ _).traffic id rfl
  · exact traffic_refl s

theorem dayOpen_traffic (s : State) : s.Traffic (dayOpen s) := by
  unfold dayOpen
  split
  · split
    · dsimp only
      refine Tracker.Sound.traffic (trackerDayOpen_sound s.tracker _) (fun hm => ?_) ?_
      · rw [emit_mail]
        exact mapsFit_posts (P := True) (by simp [Out.byTracker]) trivial hm
      · rw [emit_mail, posts_eq]
        simp
    · exact traffic_refl s
  · exact traffic_refl s

theorem clockSet_traffic (s : State) : s.Traffic (clockSet s) := by
  unfold clockSet
  split
  · split
    · exact (Tracker.Sound.traffic (u := s.takeEntry) (clockSet_sound s.tracker _ _ _) id rfl).result _ _ _
    · exact traffic_refl s
  · exact traffic_refl s

theorem controlWordBeat_traffic (s : State) : s.Traffic (controlWordBeat s) := by
  unfold controlWordBeat
  split
  · exact traffic_refl s
  · dsimp only
    split
    · exact traffic_refl s
    · exact (controlBeat_sound s.tracker _ _).traffic id rfl

theorem recordFetchDone_traffic (s : State) : s.Traffic (recordFetchDone s) := by
  unfold recordFetchDone
  split
  · dsimp only
    split
    · exact (recordDone_sound s.tracker _ _ _ _ _).traffic id rfl
    · exact traffic_refl s
  · exact traffic_refl s

theorem titleFetchDone_traffic (s : State) : s.Traffic (titleFetchDone s) := by
  unfold titleFetchDone
  split
  · dsimp only
    split
    · exact (titleDone_sound s.tracker _ _ _ _).traffic id rfl
    · exact traffic_refl s
  · exact traffic_refl s

theorem delayEffect_traffic (s : State) : s.Traffic (delayEffect s) := by
  unfold delayEffect
  split
  · exact (delayEffect_sound s.tracker _ _ _).traffic id rfl
  · exact traffic_refl s

theorem undelayEffect_traffic (s : State) : s.Traffic (undelayEffect s) := by
  unfold undelayEffect
  split
  · exact (undelayEffect_sound s.tracker _ _ _).traffic id rfl
  · exact traffic_refl s

theorem cancelEffect_traffic (s : State) : s.Traffic (cancelEffect s) := by
  unfold cancelEffect
  split
  · exact (cancelEffect_sound s.tracker _).traffic id rfl
  · exact traffic_refl s

theorem noticeSeatsChangedNote_traffic (s : State) : s.Traffic (noticeSeatsChangedNote s) := by
  unfold noticeSeatsChangedNote
  split
  · rename_i n rest hnotes
    have houts := seatsNote_elsewhere s.params (s.tracker.entries.get n.show_) n s.notices
    refine ⟨emit_fieldsFrom _ _, fun _ hm => ?_, fun _ hm => ?_⟩
    · rw [noticesDo_eq, emit_mail]
      exact mapsFit_posts (requests_of_elsewhere houts True) trivial hm
    · rw [noticesDo_eq, emit_mail, posts_eq]
      simp only [Mail.idsOk, elsewhere_seatsNote houts, List.append_nil]
      intro note hnote
      exact hm note (hnotes ▸ List.mem_cons_of_mem n hnote)
  · exact traffic_refl s

end Sys2Proof.Machine
end

section
/-! What keeps a seat slot together and its tallies true (R26, R27, R37 to R42). -/

namespace Sys2Proof.Machine

/-- A slot that fits together, its tallies true where c holds. -/
def SeatSlot.sound (c : Prop) (sl : SeatSlot) : Prop := sl.ok ∧ (c → sl.counts)

variable {c : Prop}

theorem mapBeats_le {n : Nat} (h : n ≤ 640) : mapBeats n ≤ 20 := by
  unfold mapBeats
  omega

theorem SeatSlot.ok.fill_le {sl : SeatSlot} (h : sl.ok) : sl.fill ≤ 20 := by
  obtain ⟨hfill, hissue, hbeats, hcount, -⟩ := h
  have := mapBeats_le hcount
  omega

/-- The state and the show of a slot tell alike whether it is UNBOUND (R27). -/
theorem SeatSlot.ok.unbound_iff {sl : SeatSlot} (h : sl.ok) : sl.state = .unbound ↔ sl.bound = none := by
  obtain ⟨-, -, -, -, -, hbound, -⟩ := h
  exact hbound

/-- The tallies count the data below the fill cursor, and nothing else of the slot. -/
theorem counts_congr {sl sl' : SeatSlot} (hfill : sl'.fill = sl.fill) (hcount : sl'.count = sl.count) (htallies : sl'.tallies = sl.tallies)
    (hdata : ∀ k < sl.fill, (sl'.beat k).data = (sl.beat k).data) (h : sl.counts) : sl'.counts := by
  unfold SeatSlot.counts at h ⊢
  rw [htallies, hfill, hcount, h]
  refine (List.foldl_ext _ _ _ fun t k hk => ?_)
  rw [hdata k (List.mem_range.1 hk)]

theorem counts_of_fill_zero {sl : SeatSlot} (hfill : sl.fill = 0) (htallies : sl.tallies = Tallies.zero) : sl.counts := by
  unfold SeatSlot.counts
  rw [hfill, htallies]
  rfl

/-! ### Slots bound and freed -/

theorem sound_unbind (sl : SeatSlot) : sl.unbind.sound c :=
  ⟨by simp [SeatSlot.ok, SeatSlot.unbind, SeatSlot.reset, mapBeats, Figure.none], fun _ => counts_of_fill_zero rfl rfl⟩

theorem sound_startSweep {sl : SeatSlot} (hbeats : sl.beats = mapBeats sl.count) (hcount : sl.count ≤ 640) (hbound : sl.bound ≠ none) :
    sl.startSweep.sound c :=
  ⟨by simp [SeatSlot.ok, SeatSlot.startSweep, hbeats, hcount, hbound, Figure.none], fun _ => counts_of_fill_zero rfl rfl⟩

theorem sound_taken (sl : SeatSlot) {w : WaitEntry} (h : w.count ≤ 640) : (sl.taken w).sound c :=
  ⟨by simp [SeatSlot.ok, SeatSlot.taken, h, mapBeats], fun _ => counts_of_fill_zero rfl rfl⟩

/-! ### Holdback and figure -/

theorem sound_holdback {sl : SeatSlot} (h : sl.sound c) (k : Nat) : ({ sl with holdback := k } : SeatSlot).sound c := h

theorem sound_computed {sl : SeatSlot} (h : sl.sound c) (hstate : sl.state = .counting) (s : State) (b : Band) :
    (sl.computed s b).sound c := by
  obtain ⟨⟨hfill, hissue, hbeats, hcount, hretries, hbound, hfull, -⟩, hcounts⟩ := h
  refine ⟨⟨hfill, hissue, hbeats, hcount, hretries, hbound, hfull, ?_⟩, hcounts⟩
  simp [SeatSlot.computed, hstate]

theorem sound_counting {sl : SeatSlot} (h : sl.sound c) (hstate : sl.state = .sweeping) (hfull : sl.fill = sl.beats) :
    ({ sl with state := .counting } : SeatSlot).sound c := by
  obtain ⟨⟨hfill, hissue, hbeats, hcount, hretries, hbound, -, -⟩, hcounts⟩ := h
  refine ⟨⟨hfill, hissue, hbeats, hcount, hretries, ?_, fun _ => hfull, by simp⟩, hcounts⟩
  have hsome : sl.bound ≠ none := fun hnone => by simp [hstate] at hbound; exact hbound hnone
  simpa using hsome

/-! ### The shadow -/

/-- A change of the shadow that keeps the data below the fill cursor. -/
theorem sound_shadow {sl : SeatSlot} (h : sl.sound c) (x : Table 20 SeatBeat)
    (hdata : c → ∀ k < sl.fill, (({ sl with shadow := x } : SeatSlot).beat k).data = (sl.beat k).data) :
    ({ sl with shadow := x } : SeatSlot).sound c :=
  ⟨h.1, fun hc => counts_congr (sl := sl) rfl rfl rfl (hdata hc) (h.2 hc)⟩

/-- Flags of beats changed, from any beat on. -/
theorem changeBeats_data {f : SeatBeat → SeatBeat} (hf : ∀ b, (f b).data = b.data) (first : Nat) (sl : SeatSlot) (count k : Nat) :
    ((sl.changeBeats f first count).beat k).data = (sl.beat k).data := by
  induction count with
  | zero => rfl
  | succ n ih =>
    rw [changeBeats_succ]
    by_cases h : Fin.ofNat 20 (first + n) = Fin.ofNat 20 k
    · have hbeat (x : SeatSlot) : x.beat (first + n) = x.beat k := by unfold SeatSlot.beat; rw [h]
      rw [← hbeat, beat_setBeat_self, hf, hbeat, ih]
    · rw [← ih]
      simp only [SeatSlot.setBeat, SeatSlot.beat, Table.get_set_of_ne _ h]

theorem sound_changeBeats {sl : SeatSlot} (h : sl.sound c) {f : SeatBeat → SeatBeat} (hf : ∀ b, (f b).data = b.data) (first count : Nat) :
    (sl.changeBeats f first count).sound c := by
  have hshadow := changeBeats_shadow f first count sl
  rw [hshadow]
  refine sound_shadow h _ fun _ k _ => ?_
  rw [← hshadow]
  exact changeBeats_data hf first sl count k

theorem sound_burst {sl : SeatSlot} (h : sl.sound c) :
    ({ sl.markReading sl.issue (min 8 (sl.beats - sl.issue)) with issue := sl.issue + min 8 (sl.beats - sl.issue) } : SeatSlot).sound c := by
  rw [markReading_eq, changeBeats_shadow]
  obtain ⟨hok, hcounts⟩ := sound_changeBeats h (f := fun b => { b with reading := true }) (fun _ => rfl) sl.issue
    (min 8 (sl.beats - sl.issue))
  obtain ⟨⟨hfill, hissue, hbeats, hcount, hretries, hbound, hfull, hfigure⟩, -⟩ := h
  refine ⟨⟨?_, ?_, hbeats, hcount, hretries, hbound, hfull, hfigure⟩, fun hc => ?_⟩
  · show sl.fill ≤ sl.issue + min 8 (sl.beats - sl.issue)
    omega
  · show sl.issue + min 8 (sl.beats - sl.issue) ≤ sl.beats
    omega
  · have hc := hcounts hc
    rw [changeBeats_shadow] at hc
    exact hc

theorem sound_retry {sl : SeatSlot} (h : sl.sound c) (hretries : sl.retries + 1 < 3) (first count : Nat) :
    (({ sl with retries := sl.retries + 1 } : SeatSlot).changeBeats (fun b => { b with reread := false }) first count).sound c := by
  refine sound_changeBeats ?_ (f := fun b => { b with reread := false }) (fun _ => rfl) first count
  obtain ⟨⟨hfill, hissue, hbeats, hcount, -, hbound, hfull, hfigure⟩, hcounts⟩ := h
  exact ⟨⟨hfill, hissue, hbeats, hcount, by show sl.retries + 1 ≤ 2; omega, hbound, hfull, hfigure⟩, hcounts⟩

/-- A beat at or above the fill cursor changed. -/
theorem sound_setBeat {sl : SeatSlot} (h : sl.sound c) {k : Nat} (b : SeatBeat) (hk : sl.fill ≤ k) (hlt : k < 20) :
    (sl.setBeat k b).sound c := by
  refine sound_shadow h _ fun _ m hm => ?_
  have hfill := h.1.fill_le
  exact congrArg SeatBeat.data (beat_setBeat_of_ne sl b hlt (by omega) (by omega))

theorem sound_written {sl : SeatSlot} (h : sl.sound c) (b : IntakeBeat) {k : Nat} (hk : k < sl.fill) : (sl.written b k).sound c := by
  have hfill := h.1.fill_le
  refine ⟨h.1, fun hc => counts_of_write (k := k) hk hfill rfl rfl rfl ?_ (fun m hm hne => ?_) (h.2 hc)⟩
  · exact congrArg SeatBeat.data (beat_setBeat_self _ _ _)
  · exact beat_setBeat_of_ne _ _ (by omega) hm hne

/-! ### Responses -/

theorem sound_takeBeats {sl : SeatSlot} (h : sl.sound c) {first : Nat} {data : List Beat}
    (hfirst : c → sl.fill ≤ first ∧ first + data.length ≤ 20) : (sl.takeBeats first data).sound c := by
  have hshadow := slotTakeBeats_shadow first data sl
  rw [hshadow]
  refine sound_shadow h _ fun hc k hk => ?_
  obtain ⟨hle, hlen⟩ := hfirst hc
  have hfill := h.1.fill_le
  rw [← hshadow, beat_slotTakeBeats sl hlen (by omega), if_neg (by omega)]

/-- A beat that is held is counted as the fill cursor passes it. -/
theorem sound_fill {sl : SeatSlot} (h : sl.sound c) (hlt : sl.fill < sl.issue) :
    ({ sl with tallies := sl.tallies.countBeat sl.count sl.fill (sl.beat sl.fill).data, fill := sl.fill + 1 } : SeatSlot).sound c := by
  obtain ⟨⟨hfill, hissue, hbeats, hcount, hretries, hbound, hfull, hfigure⟩, hcounts⟩ := h
  refine ⟨⟨hlt, hissue, hbeats, hcount, hretries, hbound, fun hstate => ?_, hfigure⟩, fun hc => ?_⟩
  · have := hfull hstate
    omega
  · have hold := hcounts hc
    unfold SeatSlot.counts at hold ⊢
    rw [List.range_succ, List.foldl_append, List.foldl_cons, List.foldl_nil]
    exact congrArg (fun t : Tallies => t.countBeat sl.count sl.fill (sl.beat sl.fill).data) hold

theorem sound_advanceFill (n : Nat) {sl : SeatSlot} (h : sl.sound c) : (sl.advanceFill n).sound c := by
  induction n generalizing sl with
  | zero => exact h
  | succ n ih =>
    unfold SeatSlot.advanceFill
    split
    · rename_i hheld
      exact ih (sound_fill h hheld.1)
    · exact h

theorem advanceFill_bound (n : Nat) (sl : SeatSlot) : (sl.advanceFill n).bound = sl.bound := by
  induction n generalizing sl with
  | zero => rfl
  | succ n ih =>
    unfold SeatSlot.advanceFill
    split
    · exact ih _
    · rfl

theorem filled_bound (sl : SeatSlot) (first : Nat) (data : List Beat) : (sl.filled first data).bound = sl.bound := by
  unfold SeatSlot.filled
  rw [advanceFill_bound, slotTakeBeats_shadow]

theorem sound_filled {sl : SeatSlot} (h : sl.sound c) {first : Nat} {data : List Beat}
    (hfirst : c → sl.fill ≤ first ∧ first + data.length ≤ 20) : (sl.filled first data).sound c :=
  sound_advanceFill 20 (sound_takeBeats h hfirst)

end Sys2Proof.Machine
end

section
/-! What the Seat Tally Unit sends (R22, R51): no request, and notes whose ids are those of entries. -/

namespace Sys2Proof.Machine

/-- A message that the Seat Tally Unit sends: no request to itself, and where P holds no note of the id 65,535. -/
def Out.bySeats (P : Prop) : Out → Prop
  | .seats _ => False
  | .seatsNote n => P → n.id ≠ 65535
  | _ => True

/-- Messages that the Seat Tally Unit sends. -/
def SeatOuts (P : Prop) (outs : List Out) : Prop := ∀ o ∈ outs, o.bySeats P

@[simp] theorem seatOuts_nil (P : Prop) : SeatOuts P [] := by simp [SeatOuts]

@[simp] theorem seatOuts_cons (P : Prop) (o : Out) (outs : List Out) : SeatOuts P (o :: outs) ↔ o.bySeats P ∧ SeatOuts P outs := by
  simp [SeatOuts]

@[simp] theorem seatOuts_append (P : Prop) (a b : List Out) : SeatOuts P (a ++ b) ↔ SeatOuts P a ∧ SeatOuts P b := by
  simp only [SeatOuts, List.mem_append, or_imp, forall_and]

@[simp] theorem seatOuts_andThen {σ : Type} (P : Prop) (p : σ × List Out) (f : σ → σ × List Out) :
    SeatOuts P (andThen p f).2 ↔ SeatOuts P p.2 ∧ SeatOuts P (f p.1).2 := seatOuts_append _ _ _

theorem seatOuts_forAll {σ α : Type} {P : Prop} {f : α → σ → σ × List Out} (h : ∀ a x, SeatOuts P (f a x).2) (xs : List α) (x : σ) :
    SeatOuts P (forAll xs f x).2 := by
  induction xs generalizing x with
  | nil => exact seatOuts_nil P
  | cons a xs ih =>
    rw [forAll_cons, seatOuts_andThen]
    exact ⟨h a x, ih _⟩

theorem id_ne_of_fields {e : ShowEntry} (h : e.fields.id ≠ 65535) : e.id ≠ 65535 := by
  unfold ShowEntry.id
  split
  all_goals simp [h]

variable (s : State)

@[simp] theorem slotNoteOuts_seatOuts (sl : SeatSlot) (f : Figure) (st : SeatStatus) :
    SeatOuts s.tracker.IdsOk (sl.noteOuts s f st) := by
  unfold SeatSlot.noteOuts figureOuts
  split
  · rename_i sh _
    split
    · exact seatOuts_nil _
    · refine (seatOuts_cons _ _ _).2 ⟨fun hids => id_ne_of_fields (hids sh), ?_⟩
      split <;> simp [Out.bySeats]
  · exact seatOuts_nil _

@[simp] theorem statusOuts_seatOuts (P : Prop) (sl : SeatSlot) (st : SeatStatus) (i : Option (Fin 64)) : SeatOuts P (sl.statusOuts st i) := by
  unfold SeatSlot.statusOuts
  split <;> simp [Out.bySeats]

@[simp] theorem statusAlone_seatOuts (P : Prop) (sl : SeatSlot) (st : SeatStatus) : SeatOuts P (sl.statusAlone st) := by
  unfold SeatSlot.statusAlone
  split <;> simp [Out.bySeats]

@[simp] theorem compute_seatOuts (i : Fin 64) (b : Band) (q : Seats) : SeatOuts s.tracker.IdsOk (q.compute s i b).2 :=
  slotNoteOuts_seatOuts s _ _ _

@[simp] theorem bindSlot_seatOuts (P : Prop) (i : Fin 64) (w : WaitEntry) (q : Seats) : SeatOuts P (q.bindSlot i w).2 := by
  simp [Seats.bindSlot, Out.bySeats]

@[simp] theorem place_seatOuts (P : Prop) (w : WaitEntry) (q : Seats) : SeatOuts P (q.place w).2 := by
  unfold Seats.place
  split <;> simp [Out.bySeats]

@[simp] theorem offer_seatOuts (P : Prop) (q : Seats) : SeatOuts P q.offer.2 := by
  unfold Seats.offer
  repeat' split
  all_goals simp

@[simp] theorem restart_seatOuts (i : Fin 64) (sl : SeatSlot) (q : Seats) : SeatOuts s.tracker.IdsOk (q.restart s i sl).2 := by
  simp [Seats.restart]

@[simp] theorem remap_seatOuts (sh : Fin 192) (map : Addr) (n : Nat) (q : Seats) : SeatOuts s.tracker.IdsOk (q.remap s sh map n).2 := by
  unfold Seats.remap
  repeat' split
  all_goals simp

@[simp] theorem setHoldback_seatOuts (sh : Fin 192) (k : Nat) (q : Seats) : SeatOuts s.tracker.IdsOk (q.setHoldback s sh k).2 := by
  unfold Seats.setHoldback
  dsimp only
  repeat' split
  all_goals simp

@[simp] theorem bind_seatOuts (w : WaitEntry) (q : Seats) : SeatOuts s.tracker.IdsOk (q.bind s w).2 := by
  unfold Seats.bind
  split <;> simp

@[simp] theorem free_seatOuts (i : Fin 64) (q : Seats) : SeatOuts s.tracker.IdsOk (q.free s i).2 := by
  simp [Seats.free]

@[simp] theorem release_seatOuts (sh : Fin 192) (q : Seats) : SeatOuts s.tracker.IdsOk (q.release s sh).2 := by
  unfold Seats.release
  repeat' split
  all_goals simp [Out.bySeats]

@[simp] theorem mapsLeft_seatOuts (w : Windows) (q : Seats) : SeatOuts s.tracker.IdsOk (q.mapsLeft s w).2 := by
  unfold Seats.mapsLeft
  rw [seatOuts_andThen]
  constructor
  · intro o ho
    obtain ⟨x, -, rfl⟩ := List.mem_map.1 ho
    trivial
  · refine seatOuts_forAll (fun i q => ?_) _ _
    dsimp only
    split <;> simp

@[simp] theorem issueRead_seatOuts (P : Prop) (q : Seats) : SeatOuts P q.issueRead.2 := by
  unfold Seats.issueRead SeatSlot.readOut
  dsimp only
  repeat' split
  all_goals simp [agentRead, Out.bySeats]

@[simp] theorem complete_seatOuts (i : Fin 64) (q : Seats) : SeatOuts s.tracker.IdsOk (q.complete s i).2 := by
  unfold Seats.complete
  dsimp only
  split <;> simp

@[simp] theorem readDone_seatOuts (i : Fin 64) (b : BitVec 8) (first n : Nat) (data : List Beat) (err : Bool) (q : Seats) :
    SeatOuts s.tracker.IdsOk (q.readDone s i b first n data err).2 := by
  unfold Seats.readDone Seats.sweepError
  dsimp only
  repeat' split
  all_goals simp

@[simp] theorem applyBeat_seatOuts (i : Fin 64) (b : IntakeBeat) (q : Seats) : SeatOuts s.tracker.IdsOk (q.applyBeat s i b).2 := by
  unfold Seats.applyBeat
  dsimp only
  repeat' split
  all_goals simp

@[simp] theorem recompute_seatOuts (q : Seats) : SeatOuts s.tracker.IdsOk (q.recompute s).2 :=
  seatOuts_forAll (fun i q => by dsimp only; split <;> simp) _ _

@[simp] theorem writeError_seatOuts (beats : List Addr) (q : Seats) : SeatOuts s.tracker.IdsOk (q.writeError s beats).2 :=
  seatOuts_forAll (fun i q => by dsimp only; split <;> simp) _ _

/-! ### The inboxes after them -/

theorem seatOuts_seats {P : Prop} {outs : List Out} (h : SeatOuts P outs) : outs.filterMap Out.seats? = [] := by
  rw [List.filterMap_eq_nil_iff]
  intro o ho
  have hby := h o ho
  cases o <;> simp_all [Out.bySeats]

theorem idsOk_posts {P : Prop} {outs : List Out} (h : SeatOuts P outs) (hp : P) {m : Mail} (hm : m.idsOk) : (m.posts outs).idsOk := by
  rw [posts_eq]
  intro n hn
  obtain hold | hnew := List.mem_append.1 hn
  · exact hm n hold
  · obtain ⟨o, ho, hon⟩ := List.mem_filterMap.1 hnew
    have hby := h o ho
    cases o <;> simp_all [Out.bySeats]

/-- An operation of the Seat Tally Unit put in place, its tracker that of s. -/
theorem traffic_of_seatOuts {s u : State} {p : Seats × List Out} (htracker : u.tracker = s.tracker)
    (h : SeatOuts s.tracker.IdsOk p.2) (hmaps : s.mail.mapsFit → u.mail.mapsFit)
    (hnotes : u.mail.seatsToNotices = s.mail.seatsToNotices) : s.Traffic (u.seatsDo p) := by
  refine ⟨?_, fun _ hm => ?_, fun ht hm => ?_⟩
  · rw [← htracker]
    exact emit_fieldsFrom (u.withSeats p.1) p.2
  · rw [seatsDo_eq, emit_mail, posts_eq]
    refine mapsFit_of_subset (fun x hx => ?_) (hmaps hm)
    simpa [seatOuts_seats h] using hx
  · rw [seatsDo_eq, emit_mail]
    exact idsOk_posts h ht fun n hn => hm n (hnotes ▸ hn)

theorem popSeatMsg_mapsFit {s : State} (h : s.mail.mapsFit) : s.popSeatMsg.mail.mapsFit :=
  mapsFit_of_subset (fun _ hx => List.mem_of_mem_tail hx) h

/-! ### The unit's commands -/

theorem bind_traffic : s.Traffic (bind s) := by
  unfold bind
  split
  · exact traffic_of_seatOuts rfl (by simp) popSeatMsg_mapsFit rfl
  · exact traffic_refl s

theorem release_traffic : s.Traffic (release s) := by
  unfold release
  split
  · exact traffic_of_seatOuts rfl (by simp) popSeatMsg_mapsFit rfl
  · exact traffic_refl s

theorem remap_traffic : s.Traffic (remap s) := by
  unfold remap
  split
  · exact traffic_of_seatOuts rfl (by simp) popSeatMsg_mapsFit rfl
  · exact traffic_refl s

theorem holdback_traffic : s.Traffic (holdback s) := by
  unfold holdback
  split
  · exact traffic_of_seatOuts rfl (by simp) popSeatMsg_mapsFit rfl
  · exact traffic_refl s

theorem popSeatMsg_traffic : s.Traffic s.popSeatMsg := ⟨fun _ => from_refl _, fun _ h => popSeatMsg_mapsFit h, fun _ h => h⟩

theorem seatDayOpen_traffic : s.Traffic (seatDayOpen s) := by
  unfold seatDayOpen
  split
  · exact (popSeatMsg_traffic s).trans (traffic_of_seatMail (bs := [.seats, .setup, .classQueues])
      (((frame_withSeats _ _).mono (by simp)).trans ((dayOpenSeats_frame _).mono (by simp))) (by simp) (by simp))
  · exact traffic_refl s

theorem seatShowChangedNote_traffic : s.Traffic (seatShowChangedNote s) := by
  unfold seatShowChangedNote
  split
  · split
    · exact popSeatMsg_traffic s
    · exact popSeatMsg_traffic s
  · exact traffic_refl s

theorem sweepReadIssue_traffic : s.Traffic (sweepReadIssue s) :=
  traffic_of_seatOuts rfl (by simp) id rfl

theorem sweepReadDone_traffic : s.Traffic (sweepReadDone s) := by
  unfold sweepReadDone
  split
  · exact traffic_of_seatOuts rfl (by simp) id rfl
  · exact traffic_refl s

theorem seatBeat_traffic : s.Traffic (seatBeat s) := by
  unfold seatBeat
  split
  · dsimp only
    split
    · exact traffic_of_seatOuts rfl (by simp) id rfl
    · exact traffic_refl s
  · exact traffic_refl s

theorem seatWriteError_traffic : s.Traffic (seatWriteError s) := by
  unfold seatWriteError
  split
  · split
    · exact traffic_refl s
    · exact traffic_of_seatOuts rfl (by simp) id rfl
  · exact traffic_refl s

variable {s} in
theorem traffic_of_same {t : State} (htracker : t.tracker = s.tracker) (hmail : t.mail = s.mail) : s.Traffic t := by
  unfold State.Traffic
  rw [htracker, hmail]
  exact traffic_refl s

theorem recompute_traffic : s.Traffic (s.seatsDo (s.seats.recompute s)) := traffic_of_seatOuts rfl (by simp) id rfl

theorem policyWrite_traffic : s.Traffic (policyWrite s) := by
  unfold policyWrite
  split
  · split
    · rename_i e _ _ p _
      dsimp only
      rw [paramResult_eq]
      refine State.Traffic.result (State.Traffic.trans ?_ (recompute_traffic (s.takeEntry.storeSimple p (s.masked e)))) _ _ _
      exact traffic_of_same (by simp) (by simp)
    · exact traffic_refl s
  · exact traffic_refl s

theorem windowMoved_traffic (p : WindowParam) : s.Traffic (s.windowMoved p) := by
  unfold State.windowMoved
  cases p with
  | seatBase => exact traffic_of_seatOuts rfl (by simp) id rfl
  | seatSize => exact traffic_of_seatOuts rfl (by simp) id rfl
  | noticeBase => exact traffic_of_seatMail (windowMoved_frame s .noticeBase) (by simp) (by simp)
  | showBase => exact traffic_refl s
  | statusBase => exact traffic_of_same rfl rfl

theorem windowBaseWrite_traffic : s.Traffic (windowBaseWrite s) := by
  unfold windowBaseWrite
  split
  · split
    · dsimp only
      split
      · rw [paramResult_eq]
        refine State.Traffic.result (State.Traffic.trans ?_ (windowMoved_traffic _ _)) _ _ _
        exact traffic_of_same (by simp) (by simp)
      · have hframe : Frame [.intakes, .setup, .mail] s (s.takeEntry.emit [.event .setupRefused]) :=
          (takeEntry_frame s).emit (by simp [Out.block])
        exact (traffic_of_seatMail hframe (by simp) (by simp [Out.ofSeats])).result _ _ _
    · exact traffic_refl s
  · exact traffic_refl s

end Sys2Proof.Machine
end

section
/-! What keeps the Seat Tally Unit together (R27, R30 to R40): each operation of the unit. -/

namespace Sys2Proof.Machine

/-- The Seat Tally Unit fits together, its tallies true where c holds (R27, R30, R34, R36, R42). -/
structure Seats.Ok (c : Prop) (q : Seats) : Prop where
  slots : ∀ i, (q.slots.get i).sound c
  apart : ∀ i j sh, (q.slots.get i).bound = some sh → (q.slots.get j).bound = some sh → i = j
  neither : ∀ i, ∀ w ∈ q.waiting, (q.slots.get i).bound ≠ some w.show_
  sorted : q.waiting.Pairwise fun a b => waitBefore a b = true ∧ a.show_ ≠ b.show_
  full : q.Full
  inFlight : q.inFlight ≤ 4
  shortCount : q.shortCount ≤ 65535
  waits : ∀ w ∈ q.waiting, w.count ≤ 640

theorem seatsOk_iff (s : State) : SeatsOk s ↔ s.seats.Ok False ∧ s.mail.mapsFit ∧ s.tracker.MapsFit := by
  constructor
  · rintro ⟨hslots, hapart, hneither, hsorted, hfull, hinFlight, hshort, hwaits, hbinds, hremaps, hfields⟩
    exact ⟨⟨fun i => ⟨hslots i, False.elim⟩, hapart, hneither, hsorted, hfull, hinFlight, hshort, hwaits⟩, ⟨hbinds, hremaps⟩, hfields⟩
  · rintro ⟨⟨hslots, hapart, hneither, hsorted, hfull, hinFlight, hshort, hwaits⟩, ⟨hbinds, hremaps⟩, hfields⟩
    exact ⟨fun i => (hslots i).1, hapart, hneither, hsorted, hfull, hinFlight, hshort, hwaits, hbinds, hremaps, hfields⟩

variable {c : Prop} {q : Seats}

theorem Seats.Ok.counts (h : q.Ok False) (hc : ∀ i, (q.slots.get i).counts) : q.Ok True :=
  { h with slots := fun i => ⟨(h.slots i).1, fun _ => hc i⟩ }

/-! ### One slot changed -/

/-- Every slot keeps its show, and the wait list stands. -/
theorem Seats.Ok.of_bounds (h : q.Ok c) {r : Seats} (hslots : ∀ i, (r.slots.get i).sound c)
    (hbound : ∀ i, (r.slots.get i).bound = (q.slots.get i).bound) (hwaiting : r.waiting = q.waiting) (hinFlight : r.inFlight ≤ 4)
    (hshort : r.shortCount ≤ 65535) : r.Ok c where
  slots := hslots
  apart := by simpa only [hbound] using h.apart
  neither := by simpa only [hbound, hwaiting] using h.neither
  sorted := hwaiting ▸ h.sorted
  full := fun hne i => by
    have hold := h.full (hwaiting ▸ hne) i
    rwa [ne_eq, (hslots i).1.unbound_iff, hbound, ← (h.slots i).1.unbound_iff]
  inFlight := hinFlight
  shortCount := hshort
  waits := hwaiting ▸ h.waits

theorem Seats.Ok.of_set (h : q.Ok c) {i : Fin 64} {sl : SeatSlot} (hsl : sl.sound c) (hbound : sl.bound = (q.slots.get i).bound) {r : Seats}
    (hslots : r.slots = q.slots.set i sl) (hwaiting : r.waiting = q.waiting) (hinFlight : r.inFlight ≤ 4)
    (hshort : r.shortCount ≤ 65535) : r.Ok c := by
  refine h.of_bounds (fun j => ?_) (fun j => ?_) hwaiting hinFlight hshort
  · rw [hslots]
    by_cases hij : i = j
    · subst hij
      simpa using hsl
    · simpa [hij] using h.slots j
  · rw [hslots]
    by_cases hij : i = j
    · subst hij
      simpa using hbound
    · simp [hij]

/-- Only the number of reads in flight and the reissues change. -/
theorem Seats.Ok.of_reads (h : q.Ok c) {n : Nat} (hn : n ≤ 4) (x : List Reissue) :
    ({ q with inFlight := n, reissues := x } : Seats).Ok c := { h with inFlight := hn }

theorem Seats.Ok.landed (h : q.Ok c) : ({ q with inFlight := q.inFlight - 1 } : Seats).Ok c :=
  h.of_reads (by have := h.inFlight; omega) q.reissues

/-! ### Availability (R45, R50) -/

theorem Seats.Ok.compute (h : q.Ok c) (s : State) {i : Fin 64} (hstate : (q.slots.get i).state = .counting) (b : Band) :
    (q.compute s i b).1.Ok c := by
  rw [compute_eq rfl]
  refine h.of_set (sound_computed (h.slots i) hstate s b) rfl rfl rfl h.inFlight ?_
  dsimp only
  have := h.shortCount
  split <;> omega

theorem Seats.Ok.recompute (h : q.Ok c) (s : State) : (q.recompute s).1.Ok c := by
  refine forAll_keeps (P := Seats.Ok c) (fun i q hq => ?_) (allFin 64) h
  dsimp only
  split
  · rename_i hstate
    exact hq.compute s hstate _
  · exact hq

/-! ### Restarts (R33, R35, R160) -/

theorem Seats.Ok.restart (h : q.Ok c) (s : State) {i : Fin 64} {sl : SeatSlot} (hbound : sl.bound = (q.slots.get i).bound)
    (hsome : sl.bound ≠ none) (hbeats : sl.beats = mapBeats sl.count) (hcount : sl.count ≤ 640) : (q.restart s i sl).1.Ok c :=
  h.of_set (sound_startSweep hbeats hcount hsome) hbound rfl rfl h.inFlight h.shortCount

theorem bound_of_holds {sl : SeatSlot} (h : sl.sound c) {a : Addr} (ha : sl.holds a = true) : sl.bound ≠ none := by
  obtain ⟨hactive, -⟩ := (holds_iff sl a).1 ha
  rwa [ne_eq, ← h.1.unbound_iff]

theorem Seats.Ok.writeError (h : q.Ok c) (s : State) (beats : List Addr) : (q.writeError s beats).1.Ok c := by
  refine forAll_keeps (P := Seats.Ok c) (fun i q hq => ?_) (allFin 64) h
  dsimp only
  split
  · rename_i hany
    obtain ⟨a, -, ha⟩ := List.any_eq_true.1 hany
    have hok := (hq.slots i).1
    obtain ⟨-, -, hbeats, hcount, -⟩ := hok
    exact hq.restart s rfl (bound_of_holds (hq.slots i) ha) hbeats hcount
  · exact hq

/-! ### The wait list (R30 to R34) -/

/-- Waiting shows changed in place, their places kept. -/
theorem Seats.Ok.mapWaiting (h : q.Ok c) {f : WaitEntry → WaitEntry} (hshow : ∀ w, (f w).show_ = w.show_)
    (heff : ∀ w, (f w).effStart = w.effStart) (hcount : ∀ w, w.count ≤ 640 → (f w).count ≤ 640) (sh : Fin 192) :
    (q.mapWaiting sh f).Ok c := by
  have hshow' : ∀ w, (if w.show_ = sh then f w else w).show_ = w.show_ := fun w => by split <;> simp [hshow]
  have heff' : ∀ w, (if w.show_ = sh then f w else w).effStart = w.effStart := fun w => by split <;> simp [heff]
  refine { h with neither := fun i w hw => ?_, sorted := ?_, full := fun hne => h.full ?_, waits := fun w hw => ?_ }
  · obtain ⟨x, hx, rfl⟩ := List.mem_map.1 hw
    rw [hshow']
    exact h.neither i x hx
  · refine List.pairwise_map.2 (h.sorted.imp fun {a b} hab => ?_)
    unfold waitBefore at hab ⊢
    simpa only [hshow', heff'] using hab
  · intro hnil
    exact hne (by rw [Seats.mapWaiting, hnil]; rfl)
  · obtain ⟨x, hx, rfl⟩ := List.mem_map.1 hw
    split
    · exact hcount x (h.waits x hx)
    · exact h.waits x hx

/-- Some waiting shows leave the list. -/
theorem Seats.Ok.filter (h : q.Ok c) (p : WaitEntry → Bool) : ({ q with waiting := q.waiting.filter p } : Seats).Ok c :=
  { h with
    neither := fun i w hw => h.neither i w (List.mem_of_mem_filter hw)
    sorted := h.sorted.filter p
    full := fun hne => h.full fun hnil => hne (by simp [hnil])
    waits := fun w hw => h.waits w (List.mem_of_mem_filter hw) }

/-- A show that is neither bound nor waiting joins the list while no slot is UNBOUND. -/
theorem Seats.Ok.join (h : q.Ok c) {w : WaitEntry} (hfull : ∀ i, (q.slots.get i).state ≠ .unbound)
    (hbound : ∀ i, (q.slots.get i).bound ≠ some w.show_) (hwaiting : ∀ x ∈ q.waiting, x.show_ ≠ w.show_) (hcount : w.count ≤ 640) :
    ({ q with waiting := insertBy waitBefore w q.waiting } : Seats).Ok c := by
  have hmem (x : WaitEntry) : x ∈ insertBy waitBefore w q.waiting ↔ x = w ∨ x ∈ q.waiting :=
    (insertBy_perm waitBefore w q.waiting).mem_iff.trans List.mem_cons
  refine { h with neither := fun i x hx => ?_, sorted := ?_, full := fun _ => hfull, waits := fun x hx => ?_ }
  · obtain rfl | hx := (hmem x).1 hx
    · exact hbound i
    · exact h.neither i x hx
  · refine (insertBy_sorted waitBefore_total waitBefore_trans w (h.sorted.imp fun {a b} hab => hab.1)).and ?_
    refine ((insertBy_perm waitBefore w q.waiting).pairwise_iff fun {a b} hab => Ne.symm hab).2 ?_
    exact List.pairwise_cons.2 ⟨fun x hx => (hwaiting x hx).symm, h.sorted.imp fun {a b} hab => hab.2⟩
  · obtain rfl | hx := (hmem x).1 hx
    · exact hcount
    · exact h.waits x hx

theorem Seats.Ok.replace (h : q.Ok c) (s : State) (sh : Fin 192) : (q.replace s sh).Ok c := by
  unfold Seats.replace
  split
  · rename_i w hfind
    have hw : w ∈ q.waiting := List.mem_of_find?_eq_some hfind
    have hsh : w.show_ = sh := by simpa using List.find?_some hfind
    have hne : q.waiting ≠ [] := List.ne_nil_of_mem hw
    refine (h.filter fun x => decide (x.show_ ≠ sh)).join (h.full hne) (fun i => h.neither i w hw) (fun x hx => ?_) (h.waits w hw)
    have := (List.mem_filter.1 hx).2
    rw [hsh]
    simpa using this
  · exact h

/-! ### Slots bound and freed (R30 to R32, R40) -/

/-- Where no show waits, an UNBOUND slot may be bound to a show that holds no slot. -/
theorem Seats.Ok.bindSlot (h : q.Ok c) (hnil : q.waiting = []) {i : Fin 64} {w : WaitEntry}
    (hbound : ∀ j, j ≠ i → (q.slots.get j).bound ≠ some w.show_) (hcount : w.count ≤ 640) : (q.bindSlot i w).1.Ok c := by
  have hget (j : Fin 64) : ((q.bindSlot i w).1.slots.get j).bound = if i = j then some w.show_ else (q.slots.get j).bound := by
    rw [bindSlot_eq]
    by_cases hij : i = j
    · subst hij
      simp [Seats.rebind, SeatSlot.taken]
    · simp [Seats.rebind, hij]
  refine ⟨fun j => ?_, fun j k sh hj hk => ?_, fun j x hx => ?_, ?_, fun hne => ?_, h.inFlight, h.shortCount, fun x hx => ?_⟩
  · rw [bindSlot_eq]
    by_cases hij : i = j
    · subst hij
      simpa [Seats.rebind] using sound_taken _ hcount
    · simpa [Seats.rebind, hij] using h.slots j
  · rw [hget] at hj hk
    split at hj
    · rename_i hij
      split at hk
      · rename_i hik
        exact hij.symm.trans hik
      · rename_i hik
        exact absurd (hk.trans hj.symm) (hbound k (Ne.symm hik))
    · rename_i hij
      split at hk
      · exact absurd (hj.trans hk.symm) (hbound j (Ne.symm hij))
      · exact h.apart j k sh hj hk
  · exact absurd hx (by simp [bindSlot_eq, Seats.rebind, hnil])
  · simp [bindSlot_eq, Seats.rebind, hnil]
  · exact absurd hnil (by simpa [bindSlot_eq, Seats.rebind] using hne)
  · exact absurd hx (by simp [bindSlot_eq, Seats.rebind, hnil])

theorem freeSlot_of_none (h : q.freeSlot = none) (i : Fin 64) : (q.slots.get i).state ≠ .unbound := by
  simpa using find_allFin_eq_none.1 h i

theorem freeSlot_of_some {i : Fin 64} (h : q.freeSlot = some i) : (q.slots.get i).state = .unbound := by
  simpa using (of_find_allFin h).1

theorem waiting_of_unbound (h : q.Ok c) {i : Fin 64} (hi : (q.slots.get i).state = .unbound) : q.waiting = [] := by
  by_contra hne
  exact h.full hne i hi

theorem Seats.Ok.place (h : q.Ok c) {w : WaitEntry} (hbound : ∀ i, (q.slots.get i).bound ≠ some w.show_)
    (hwaiting : ∀ x ∈ q.waiting, x.show_ ≠ w.show_) (hcount : w.count ≤ 640) : (q.place w).1.Ok c := by
  cases hfree : q.freeSlot with
  | some i =>
    rw [place_of_free hfree]
    exact h.bindSlot (waiting_of_unbound h (freeSlot_of_some hfree)) (fun j _ => hbound j) hcount
  | none =>
    rw [place_of_full hfree]
    exact h.join (freeSlot_of_none hfree) hbound hwaiting hcount

/-- A slot freed while no show waits. -/
theorem Seats.Ok.unbind (h : q.Ok c) (hnil : q.waiting = []) (i : Fin 64) : (q.rebind i (q.slots.get i).unbind).Ok c := by
  have hget (j : Fin 64) : ((q.rebind i (q.slots.get i).unbind).slots.get j).bound = if i = j then none else (q.slots.get j).bound := by
    by_cases hij : i = j
    · subst hij
      simp [Seats.rebind, SeatSlot.unbind, SeatSlot.reset]
    · simp [Seats.rebind, hij]
  refine ⟨fun j => ?_, fun j k sh hj hk => ?_, fun j x hx => ?_, ?_, fun hne => absurd hnil hne, h.inFlight, h.shortCount, fun x hx => ?_⟩
  · by_cases hij : i = j
    · subst hij
      simpa [Seats.rebind] using sound_unbind _
    · simpa [Seats.rebind, hij] using h.slots j
  · rw [hget] at hj hk
    split at hj
    · cases hj
    · split at hk
      · cases hk
      · exact h.apart j k sh hj hk
  · exact absurd hx (by simp [Seats.rebind, hnil])
  · simp [Seats.rebind, hnil]
  · exact absurd hx (by simp [Seats.rebind, hnil])

/-- A freed slot taken by the first waiting show. -/
theorem Seats.Ok.pass (h : q.Ok c) {w : WaitEntry} {ws : List WaitEntry} (hw : q.waiting = w :: ws) (i : Fin 64) :
    (q.passOn i).Ok c := by
  have hwaits := h.waits
  have hneither := h.neither
  have hsorted := h.sorted
  rw [hw] at hwaits hneither hsorted
  obtain ⟨hfirst, hsorted⟩ := List.pairwise_cons.1 hsorted
  have hwaiting : (q.passOn i).waiting = ws := by simp [Seats.passOn, hw]
  have hslot (j : Fin 64) : (q.passOn i).slots.get j = if i = j then (q.slots.get i).unbind.taken w else q.slots.get j := by
    by_cases hij : i = j
    · subst hij
      simp [Seats.passOn, SeatSlot.passedOn, hw]
    · simp [Seats.passOn, hij]
  have hget (j : Fin 64) : ((q.passOn i).slots.get j).bound = if i = j then some w.show_ else (q.slots.get j).bound := by
    rw [hslot]
    split <;> rfl
  refine ⟨fun j => ?_, fun j k sh hj hk => ?_, fun j x hx => ?_, ?_, Seats.Full.passOn h.full i, h.inFlight, h.shortCount, fun x hx => ?_⟩
  · rw [hslot]
    split
    · exact sound_taken _ (hwaits w List.mem_cons_self)
    · exact h.slots j
  · have hfree (j : Fin 64) : (q.slots.get j).bound ≠ some w.show_ := hneither j w List.mem_cons_self
    rw [hget] at hj hk
    split at hj
    · rename_i hij
      split at hk
      · rename_i hik
        exact hij.symm.trans hik
      · exact absurd (hk.trans hj.symm) (hfree k)
    · split at hk
      · exact absurd (hj.trans hk.symm) (hfree j)
      · exact h.apart j k sh hj hk
  · rw [hwaiting] at hx
    rw [hget]
    split
    · intro heq
      exact (hfirst x hx).2 (Option.some.inj heq)
    · exact hneither j x (List.mem_cons_of_mem w hx)
  · rw [hwaiting]
    exact hsorted
  · rw [hwaiting] at hx
    exact hwaits x (List.mem_cons_of_mem w hx)

theorem Seats.Ok.free (h : q.Ok c) (s : State) (i : Fin 64) : (q.free s i).1.Ok c := by
  cases hw : q.waiting with
  | nil =>
    rw [free_of_nil hw]
    exact h.unbind hw i
  | cons w ws =>
    rw [free_of_full s i h.full]
    exact h.pass hw i

/-! ### Requests (R30 to R34) -/

theorem slotOf_of_none (h : q.Ok c) {sh : Fin 192} (hnone : q.slotOf sh = none) (i : Fin 64) : (q.slots.get i).bound ≠ some sh := by
  intro hbound
  have hno := find_allFin_eq_none.1 hnone i
  have hactive : (q.slots.get i).state ≠ .unbound := by
    rw [ne_eq, (h.slots i).1.unbound_iff, hbound]
    simp
  simp [SeatSlot.active, hactive, hbound] at hno

theorem slotOf_of_some {sh : Fin 192} {i : Fin 64} (h : q.slotOf sh = some i) : (q.slots.get i).bound = some sh := by
  have hi := (of_find_allFin h).1
  simp only [Bool.and_eq_true, decide_eq_true_eq] at hi
  exact hi.2

theorem isWaiting_of_false {sh : Fin 192} (h : ¬ q.isWaiting sh = true) : ∀ w ∈ q.waiting, w.show_ ≠ sh :=
  fun w hw hsh => h ((isWaiting_iff q sh).2 ⟨w, hw, hsh⟩)

theorem Seats.Ok.remap (h : q.Ok c) (s : State) (sh : Fin 192) (map : Addr) {n : Nat} (hn : n ≤ 640) : (q.remap s sh map n).1.Ok c := by
  unfold Seats.remap
  split
  · rename_i i hslot
    refine h.restart s rfl ?_ rfl hn
    rw [slotOf_of_some hslot]
    simp
  · rename_i hnone
    split
    · exact h.mapWaiting (f := fun w => { w with map := map, count := n }) (fun _ => rfl) (fun _ => rfl) (fun _ _ => hn) sh
    · rename_i hwait
      exact h.place (slotOf_of_none h hnone) (isWaiting_of_false hwait) hn

theorem Seats.Ok.setHoldback (h : q.Ok c) (s : State) (sh : Fin 192) (k : Nat) : (q.setHoldback s sh k).1.Ok c := by
  unfold Seats.setHoldback
  split
  · rename_i i _
    have hset : ({ q with slots := q.slots.set i { q.slots.get i with holdback := k } } : Seats).Ok c :=
      h.of_set (sl := { q.slots.get i with holdback := k }) (sound_holdback (h.slots i) k) rfl rfl rfl h.inFlight h.shortCount
    dsimp only
    split
    · rename_i hstate
      exact hset.compute s (by simpa using hstate) _
    · exact hset
  · exact h.mapWaiting (f := fun w => { w with holdback := k }) (fun _ => rfl) (fun _ => rfl) (fun _ hcount => hcount) sh

theorem Seats.Ok.bind (h : q.Ok c) (s : State) {w : WaitEntry} (hw : w.count ≤ 640) : (q.bind s w).1.Ok c := by
  unfold Seats.bind
  split
  · exact (h.remap s _ _ hw).setHoldback s _ _
  · rename_i hno
    simp only [Bool.or_eq_true, not_or, Option.isSome_iff_ne_none, not_not] at hno
    obtain ⟨hslot, hwait⟩ := hno
    exact h.place (slotOf_of_none h hslot) (isWaiting_of_false hwait) hw

theorem Seats.Ok.release (h : q.Ok c) (s : State) (sh : Fin 192) : (q.release s sh).1.Ok c := by
  unfold Seats.release
  split
  · exact h.free s _
  · split
    · exact h.filter _
    · exact h

theorem Seats.Ok.dayOpen (h : q.Ok c) : q.dayOpen.Ok c where
  slots := fun i => by simpa [Seats.dayOpen] using sound_unbind _
  apart := fun i j sh hi => by simp [Seats.dayOpen, SeatSlot.unbind, SeatSlot.reset] at hi
  neither := fun i w hw => absurd hw (by simp [Seats.dayOpen])
  sorted := by simp [Seats.dayOpen]
  full := fun hne => absurd rfl hne
  inFlight := h.inFlight
  shortCount := h.shortCount
  waits := fun w hw => absurd hw (by simp [Seats.dayOpen])

theorem Seats.Ok.mapsLeft (h : q.Ok c) (s : State) (w : Windows) : (q.mapsLeft s w).1.Ok c := by
  have hwaiting := h.filter fun x => w.holdsMap x.map x.count
  unfold Seats.mapsLeft andThen
  generalize allFin 64 = slots
  refine forAll_keeps (P := Seats.Ok c) (fun i q hq => ?_) slots hwaiting
  dsimp only
  split
  · exact hq.free s i
  · exact hq

/-! ### Sweeps and write beats (R36 to R44) -/

theorem Seats.Ok.issueRead (h : q.Ok c) : q.issueRead.1.Ok c := by
  unfold Seats.issueRead
  split
  · exact h
  · rename_i hroom
    split
    · exact h.of_reads (by omega) _
    · split
      · exact h.of_set (sound_burst (h.slots _)) (by rw [markReading_eq, changeBeats_shadow]) rfl rfl (by dsimp only; omega) h.shortCount
      · exact h

theorem Seats.Ok.complete (h : q.Ok c) (s : State) (i : Fin 64) : (q.complete s i).1.Ok c := by
  unfold Seats.complete
  dsimp only
  split
  · rename_i hdone
    obtain ⟨hstate, hfull⟩ := hdone
    have hset : ({ q with slots := q.slots.set i { q.slots.get i with state := .counting } } : Seats).Ok c :=
      h.of_set (sound_counting (h.slots i) hstate hfull) rfl rfl rfl h.inFlight h.shortCount
    exact hset.compute s (by simp) _
  · exact h

theorem Seats.Ok.sweepError (h : q.Ok c) (s : State) (i : Fin 64) (first n : Nat) : (q.sweepError s i first n).1.Ok c := by
  unfold Seats.sweepError
  dsimp only
  split
  · rename_i hretries
    refine h.of_set (i := i) (sound_retry (h.slots i) hretries first n) ?_ rfl rfl h.inFlight h.shortCount
    rw [changeBeats_shadow]
  · exact h.free s i

/-- A response's beats change the shadow of its slot, and reissues. -/
theorem takeBeats_slots (q : Seats) (i : Fin 64) (first : Nat) (data : List Beat) :
    ∃ x, q.takeBeats i first data = { q with slots := q.slots.set i ((q.slots.get i).takeBeats first data), reissues := x } := by
  induction data using List.reverseRecOn with
  | nil => exact ⟨q.reissues, by simp [Seats.takeBeats, SeatSlot.takeBeats]⟩
  | append_singleton data d ih =>
    obtain ⟨x, hx⟩ := ih
    rw [takeBeats_concat, hx, takeBeat_eq (Table.get_set_self _ _ _), set_set_self, slotTakeBeats_concat]
    exact ⟨_, rfl⟩

theorem Seats.Ok.readDone (h : q.Ok c) (s : State) {i : Fin 64} {b : BitVec 8} {first n : Nat} {data : List Beat} {err : Bool}
    (hfirst : c → (q.slots.get i).binding = b → (q.slots.get i).fill ≤ first ∧ first + data.length ≤ 20) :
    (q.readDone s i b first n data err).1.Ok c := by
  unfold Seats.readDone
  dsimp only
  split
  · exact h.landed
  · rename_i hbinding
    split
    · exact h.landed.sweepError s i first n
    · refine Seats.Ok.complete ?_ s i
      obtain ⟨x, hx⟩ := takeBeats_slots { q with inFlight := q.inFlight - 1 } i first data
      rw [hx]
      refine h.landed.of_set (i := i) (sl := (q.slots.get i).filled first data)
        (sound_filled (h.slots i) fun hc => hfirst hc (not_ne_iff.1 hbinding)) (filled_bound _ _ _) ?_ rfl h.landed.inFlight h.shortCount
      simp only [modify_eq_set, Table.get_set_self, set_set_self]
      rfl

theorem lt_of_holds {sl : SeatSlot} (h : sl.sound c) {a : Addr} (ha : sl.holds a = true) : (a.toNat - sl.map.toNat) / 8 < 20 := by
  obtain ⟨-, hle, hlt⟩ := (holds_iff sl a).1 ha
  obtain ⟨-, -, hbeats, hcount, -⟩ := h.1
  have := mapBeats_le hcount
  omega

theorem Seats.Ok.applyBeat (h : q.Ok c) (s : State) {i : Fin 64} {b : IntakeBeat} (hi : (q.slots.get i).holds b.addr = true) :
    (q.applyBeat s i b).1.Ok c := by
  have hlt := lt_of_holds (h.slots i) hi
  obtain ⟨k, hk⟩ : ∃ k, k = (b.addr.toNat - (q.slots.get i).map.toNat) / 8 := ⟨_, rfl⟩
  rw [← hk] at hlt
  rcases Nat.lt_or_ge k (q.slots.get i).fill with hfill | hfill
  · have hset : ({ q with slots := q.slots.set i ((q.slots.get i).written b k) } : Seats).Ok c :=
      h.of_set (sound_written (h.slots i) b hfill) rfl rfl rfl h.inFlight h.shortCount
    rw [applyBeat_counted rfl hk hfill]
    split
    · rename_i hchanged
      exact hset.compute s (by simpa [SeatSlot.written, SeatSlot.setBeat] using hchanged.2) _
    · exact hset
  · rcases Nat.lt_or_ge k (q.slots.get i).issue with hissue | hissue
    · rw [applyBeat_held rfl hk hfill hissue]
      exact h.of_set (sound_setBeat (h.slots i) _ hfill hlt) rfl rfl rfl h.inFlight h.shortCount
    · rw [applyBeat_beyond rfl hk hfill hissue]
      exact h

theorem holds_of_slotAt {i : Fin 64} {a : Addr} (h : q.slotAt a = some i) : (q.slots.get i).holds a = true := (of_find_allFin h).1

end Sys2Proof.Machine
end

section
/-! The Seat Tally Unit and its inboxes under every step (R22, R27, R30 to R44, R51). -/

namespace Sys2Proof.Machine

variable {c : Prop}

/-! ### What passes between the units -/

theorem State.Traffic.commit {s t : State} (h : s.Traffic t) (u : State) : s.Traffic (commit u t) := by
  unfold State.Traffic
  rw [commit_tracker, commit_mail]
  exact h

theorem traffic_of_goOn {s u t : State} (h : goOn s u = .next t) (k : s.Traffic u) : s.Traffic t := by
  rw [next_of_goOn h]
  exact k.commit s

/-- A command that may write no entry and sends nothing to either inbox. -/
theorem traffic_of_mail {i : Instr} {s u t : State} (h : exec i s = .next t) (hentries : Block.entries ∉ mayChange i)
    (hu : u.seatMail = s.seatMail) (hgoOn : exec i s = goOn s u := by rfl) : s.Traffic t := by
  have hnext : goOn s u = .next t := hgoOn ▸ h
  refine traffic_of_seatMail (exec_frame h) hentries ?_
  rw [next_of_goOn hnext, commit_seatMail, hu]

/-- Every command but a reset sends maps that fit and notes with the ids of entries. -/
theorem exec_traffic {i : Instr} {s t : State} (h : exec i s = .next t) (hpin : ∀ strap, i ≠ .pinReset strap) (hsoft : i ≠ .softReset) :
    s.Traffic t := by
  by_cases hm : Block.mail ∈ mayChange i ∨ Block.entries ∈ mayChange i
  · cases i with
    | pinReset strap => exact absurd rfl (hpin strap)
    | softReset => exact absurd rfl hsoft
    | millisecondTick a b => exact traffic_of_goOn h (millisecondTick_traffic a b s)
    | secondAdvance => exact traffic_of_goOn h (secondAdvance_traffic s)
    | minuteBoundary => exact traffic_of_goOn h (minuteBoundary_traffic s)
    | dayOpen => exact traffic_of_goOn h (dayOpen_traffic s)
    | clockSet => exact traffic_of_goOn h (clockSet_traffic s)
    | controlWordBeat => exact traffic_of_goOn h (controlWordBeat_traffic s)
    | recordFetchDone => exact traffic_of_goOn h (recordFetchDone_traffic s)
    | titleFetchDone => exact traffic_of_goOn h (titleFetchDone_traffic s)
    | delayEffect => exact traffic_of_goOn h (delayEffect_traffic s)
    | undelayEffect => exact traffic_of_goOn h (undelayEffect_traffic s)
    | cancelEffect => exact traffic_of_goOn h (cancelEffect_traffic s)
    | bind => exact traffic_of_goOn h (bind_traffic s)
    | release => exact traffic_of_goOn h (release_traffic s)
    | remap => exact traffic_of_goOn h (remap_traffic s)
    | holdback => exact traffic_of_goOn h (holdback_traffic s)
    | seatDayOpen => exact traffic_of_goOn h (seatDayOpen_traffic s)
    | seatShowChangedNote => exact traffic_of_goOn h (seatShowChangedNote_traffic s)
    | sweepReadIssue => exact traffic_of_goOn h (sweepReadIssue_traffic s)
    | sweepReadDone => exact traffic_of_goOn h (sweepReadDone_traffic s)
    | seatBeat => exact traffic_of_goOn h (seatBeat_traffic s)
    | policyWrite => exact traffic_of_goOn h (policyWrite_traffic s)
    | seatWriteError => exact traffic_of_goOn h (seatWriteError_traffic s)
    | producerValueTaken => exact traffic_of_mail h (by simp [mayChange]) (producerValueTaken_seatMail s)
    | noticeRecordDone => exact traffic_of_mail h (by simp [mayChange]) (noticeRecordDone_seatMail s)
    | noticeTextDone => exact traffic_of_mail h (by simp [mayChange]) (noticeTextDone_seatMail s)
    | effectAnswer => exact traffic_of_mail h (by simp [mayChange]) (effectAnswer_seatMail s)
    | consumerWritebackDone => exact traffic_of_mail h (by simp [mayChange]) (consumerWritebackDone_seatMail s)
    | writebackRetryBoundary => exact traffic_of_mail h (by simp [mayChange]) (writebackRetryBoundary_seatMail s)
    | minuteNoteNotice => exact traffic_of_mail h (by simp [mayChange]) (minuteNoteNotice_seatMail s)
    | noticeShowChangedNote => exact traffic_of_mail h (by simp [mayChange]) (noticeShowChangedNote_seatMail s)
    | noticeSeatsChangedNote => exact traffic_of_goOn h (noticeSeatsChangedNote_traffic s)
    | autoSoldOutWrite => exact traffic_of_mail h (by simp [mayChange]) (autoSoldOutWrite_seatMail s)
    | noticeDayOpen => exact traffic_of_mail h (by simp [mayChange]) (noticeDayOpen_seatMail s)
    | alertLineAsserted => exact traffic_of_mail h (by simp [mayChange]) (alertLineAsserted_seatMail s)
    | alertLineDeasserted => exact traffic_of_mail h (by simp [mayChange]) (alertLineDeasserted_seatMail s)
    | hushLineChange => exact traffic_of_mail h (by simp [mayChange]) (hushLineChange_seatMail s)
    | bannerDwellExpiry sc pn => exact traffic_of_mail h (by simp [mayChange]) (bannerDwellExpiry_seatMail sc pn s)
    | bannerPaneReport => exact traffic_of_mail h (by simp [mayChange]) (bannerPaneReport_seatMail s)
    | cuePush => exact traffic_of_mail h (by simp [mayChange]) (cuePush_seatMail s)
    | cueCut => exact traffic_of_mail h (by simp [mayChange]) (cueCut_seatMail s)
    | channelStop => exact traffic_of_mail h (by simp [mayChange]) (channelStop_seatMail s)
    | cueLoadDone => exact traffic_of_mail h (by simp [mayChange]) (cueLoadDone_seatMail s)
    | frameReadIssue => exact traffic_of_mail h (by simp [mayChange]) (frameReadIssue_seatMail s)
    | pointerReadDone => exact traffic_of_mail h (by simp [mayChange]) (pointerReadDone_seatMail s)
    | frameReadDone => exact traffic_of_mail h (by simp [mayChange]) (frameReadDone_seatMail s)
    | restReadDone => exact traffic_of_mail h (by simp [mayChange]) (restReadDone_seatMail s)
    | reelPeriodBoundary => exact traffic_of_mail h (by simp [mayChange]) (reelPeriodBoundary_seatMail s)
    | reelShowChangedNote => exact traffic_of_mail h (by simp [mayChange]) (reelShowChangedNote_seatMail s)
    | hushAsserted => exact traffic_of_mail h (by simp [mayChange]) (hushAsserted_seatMail s)
    | hushReleased => exact traffic_of_mail h (by simp [mayChange]) (hushReleased_seatMail s)
    | restStillWrite => exact traffic_of_mail h (by simp [mayChange]) (restStillWrite_seatMail s)
    | paneWrite => exact traffic_of_mail h (by simp [mayChange]) (paneWrite_seatMail s)
    | boardOrderNote => exact traffic_of_mail h (by simp [mayChange]) (boardOrderNote_seatMail s)
    | compositionShowChangedNote => exact traffic_of_mail h (by simp [mayChange]) (compositionShowChangedNote_seatMail s)
    | compositionSeatsChangedNote => exact traffic_of_mail h (by simp [mayChange]) (compositionSeatsChangedNote_seatMail s)
    | listNote => exact traffic_of_mail h (by simp [mayChange]) (listNote_seatMail s)
    | bannerNote => exact traffic_of_mail h (by simp [mayChange]) (bannerNote_seatMail s)
    | alertNote => exact traffic_of_mail h (by simp [mayChange]) (alertNote_seatMail s)
    | minuteNoteComposition => exact traffic_of_mail h (by simp [mayChange]) (minuteNoteComposition_seatMail s)
    | channelNote => exact traffic_of_mail h (by simp [mayChange]) (channelNote_seatMail s)
    | moduleReport => exact traffic_of_mail h (by simp [mayChange]) (moduleReport_seatMail s)
    | acceptanceSettlement => exact traffic_of_mail h (by simp [mayChange]) (acceptanceSettlement_seatMail s)
    | compositionDayOpen => exact traffic_of_mail h (by simp [mayChange]) (compositionDayOpen_seatMail s)
    | ringEnableWrite => exact traffic_of_mail h (by simp [mayChange]) (ringEnableWrite_seatMail s)
    | lockIndication n => exact traffic_of_mail h (by simp [mayChange]) (lockIndication_seatMail n s)
    | lockTimerExpiry n => exact traffic_of_mail h (by simp [mayChange]) (lockTimerExpiry_seatMail n s)
    | restartTimerExpiry n => exact traffic_of_mail h (by simp [mayChange]) (restartTimerExpiry_seatMail n s)
    | autoRestartWrite => exact traffic_of_mail h (by simp [mayChange]) (autoRestartWrite_seatMail s)
    | ringRestart => exact traffic_of_mail h (by simp [mayChange]) (ringRestart_seatMail s)
    | ringUnshiftedBoundary n => exact traffic_of_mail h (by simp [mayChange]) (ringUnshiftedBoundary_seatMail n s)
    | ringBoundary n => exact traffic_of_mail h (by simp [mayChange]) (ringBoundary_seatMail n s)
    | trainReturn n bytes => exact traffic_of_mail h (by simp [mayChange]) (trainReturn_seatMail n bytes s)
    | returnTimerExpiry n => exact traffic_of_mail h (by simp [mayChange]) (returnTimerExpiry_seatMail n s)
    | moduleQuery => exact traffic_of_mail h (by simp [mayChange]) (moduleQuery_seatMail s)
    | moduleSet => exact traffic_of_mail h (by simp [mayChange]) (moduleSet_seatMail s)
    | portGrant => exact traffic_of_mail h (by simp [mayChange]) (portGrant_seatMail s)
    | downstreamResponse data err => exact traffic_of_mail h (by simp [mayChange]) (downstreamResponse_seatMail data err s)
    | windowBaseWrite => exact traffic_of_goOn h (windowBaseWrite_traffic s)
    | resultWriteDone => exact traffic_of_mail h (by simp [mayChange]) (resultWriteDone_seatMail s)
    | eventReport => exact traffic_of_mail h (by simp [mayChange]) (eventReport_seatMail s)
    | statusWriteDone => exact traffic_of_mail h (by simp [mayChange]) (statusWriteDone_seatMail s)
    | _ => simp [mayChange] at hm
  · rw [not_or] at hm
    obtain ⟨hmail, hentries⟩ := hm
    have hsame : t.mail = s.mail := exec_frame h .mail hmail
    exact traffic_of_seatMail (exec_frame h) hentries (by simp only [State.seatMail, hsame])

/-! ### The unit's commands -/

/-- A SWEEP response taken under its slot's binding number covers no beat already counted (notes/assumptions/36.md). -/
def State.Timely (s : State) : Prop :=
  ∀ i first n data err rest,
    s.mail.seatResp = { tag := .sweep i (s.seats.slots.get i).binding first n, data := data, err := err } :: rest →
    (s.seats.slots.get i).fill ≤ first ∧ first + data.length ≤ 20

variable {s : State}

theorem bind_seats (h : s.seats.Ok c) (hm : s.mail.mapsFit) : (bind s).seats.Ok c := by
  unfold bind
  split
  · rename_i sh map n k e _ hmsg
    rw [seatsDo_eq, emit_seats, State.withSeats_seats]
    exact h.bind s (hm.1 sh map n k e (by rw [hmsg]; exact List.mem_cons_self))
  · exact h

theorem release_seats (h : s.seats.Ok c) : (release s).seats.Ok c := by
  unfold release
  split
  · rw [seatsDo_eq, emit_seats, State.withSeats_seats]
    exact h.release s _
  · exact h

theorem remap_seats (h : s.seats.Ok c) (hm : s.mail.mapsFit) : (remap s).seats.Ok c := by
  unfold remap
  split
  · rename_i sh map n _ hmsg
    rw [seatsDo_eq, emit_seats, State.withSeats_seats]
    exact h.remap s sh map (hm.2 sh map n (by rw [hmsg]; exact List.mem_cons_self))
  · exact h

theorem holdback_seats (h : s.seats.Ok c) : (holdback s).seats.Ok c := by
  unfold holdback
  split
  · rw [seatsDo_eq, emit_seats, State.withSeats_seats]
    exact h.setHoldback s _ _
  · exact h

theorem dayOpenSeats_seats (t : State) : t.dayOpenSeats.seats = t.seats :=
  dayOpenSeats_frame t .seats (by simp)

theorem seatDayOpen_seats (h : s.seats.Ok c) : (seatDayOpen s).seats.Ok c := by
  unfold seatDayOpen
  split
  · rw [dayOpenSeats_seats]
    exact h.dayOpen
  · exact h

theorem seatShowChangedNote_seats (h : s.seats.Ok c) : (seatShowChangedNote s).seats.Ok c := by
  unfold seatShowChangedNote
  split
  · split
    · exact h.replace s _
    · exact h
  · exact h

theorem sweepReadIssue_seats (h : s.seats.Ok c) : (sweepReadIssue s).seats.Ok c := by
  unfold sweepReadIssue
  rw [seatsDo_eq, emit_seats, State.withSeats_seats]
  exact h.issueRead

theorem sweepReadDone_seats (h : s.seats.Ok c) (ht : c → s.Timely) : (sweepReadDone s).seats.Ok c := by
  unfold sweepReadDone
  split
  · rename_i i b first n data err rest hresp
    rw [seatsDo_eq, emit_seats, State.withSeats_seats]
    refine h.readDone s fun hc hb => ht hc i first n data err rest ?_
    rw [hb]
    exact hresp
  · exact h

theorem seatBeat_seats (h : s.seats.Ok c) : (seatBeat s).seats.Ok c := by
  unfold seatBeat
  split
  · dsimp only
    split
    · rename_i hslot
      rw [seatsDo_eq, emit_seats, State.withSeats_seats]
      exact h.applyBeat s (holds_of_slotAt hslot)
    · exact h
  · exact h

theorem seatWriteError_seats (h : s.seats.Ok c) : (seatWriteError s).seats.Ok c := by
  unfold seatWriteError
  split
  · split
    · exact h
    · rw [seatsDo_eq, emit_seats, State.withSeats_seats]
      exact h.writeError s _
  · exact h

theorem recomputed_seats (h : s.seats.Ok c) : (s.seatsDo (s.seats.recompute s)).seats.Ok c := by
  rw [seatsDo_eq, emit_seats, State.withSeats_seats]
  exact h.recompute s

theorem policyWrite_seats (h : s.seats.Ok c) : (policyWrite s).seats.Ok c := by
  unfold policyWrite
  split
  · split
    · rename_i e _ _ p _
      dsimp only
      rw [paramResult_eq, result_seats]
      refine recomputed_seats ?_
      have hsame : (s.takeEntry.storeSimple p (s.masked e)).seats = s.seats := by simp
      rwa [hsame]
    · exact h
  · exact h

theorem windowMoved_seats (h : s.seats.Ok c) (p : WindowParam) : (s.windowMoved p).seats.Ok c := by
  unfold State.windowMoved
  cases p with
  | seatBase =>
    rw [seatsDo_eq, emit_seats, State.withSeats_seats]
    exact h.mapsLeft s _
  | seatSize =>
    rw [seatsDo_eq, emit_seats, State.withSeats_seats]
    exact h.mapsLeft s _
  | noticeBase =>
    rw [noticesDo_eq, emit_seats]
    exact h
  | showBase => exact h
  | statusBase => exact h

theorem windowBaseWrite_seats (h : s.seats.Ok c) : (windowBaseWrite s).seats.Ok c := by
  unfold windowBaseWrite
  split
  · split
    · dsimp only
      split
      · rw [paramResult_eq, result_seats]
        refine windowMoved_seats ?_ _
        exact h
      · rw [result_seats, emit_seats]
        exact h
    · exact h
  · exact h

/-- Every command but a reset keeps the unit together, and with timely responses its tallies true. -/
theorem exec_seats {i : Instr} {t : State} (h : exec i s = .next t) (hpin : ∀ strap, i ≠ .pinReset strap) (hsoft : i ≠ .softReset)
    (hs : s.seats.Ok c) (hm : s.mail.mapsFit) (ht : c → s.Timely) : t.seats.Ok c := by
  by_cases hmay : Block.seats ∈ mayChange i
  · cases i with
    | pinReset strap => exact absurd rfl (hpin strap)
    | softReset => exact absurd rfl hsoft
    | bind => rw [next_of_goOn h, commit_seats]; exact bind_seats hs hm
    | release => rw [next_of_goOn h, commit_seats]; exact release_seats hs
    | remap => rw [next_of_goOn h, commit_seats]; exact remap_seats hs hm
    | holdback => rw [next_of_goOn h, commit_seats]; exact holdback_seats hs
    | seatDayOpen => rw [next_of_goOn h, commit_seats]; exact seatDayOpen_seats hs
    | seatShowChangedNote => rw [next_of_goOn h, commit_seats]; exact seatShowChangedNote_seats hs
    | sweepReadIssue => rw [next_of_goOn h, commit_seats]; exact sweepReadIssue_seats hs
    | sweepReadDone => rw [next_of_goOn h, commit_seats]; exact sweepReadDone_seats hs ht
    | seatBeat => rw [next_of_goOn h, commit_seats]; exact seatBeat_seats hs
    | policyWrite => rw [next_of_goOn h, commit_seats]; exact policyWrite_seats hs
    | seatWriteError => rw [next_of_goOn h, commit_seats]; exact seatWriteError_seats hs
    | windowBaseWrite => rw [next_of_goOn h, commit_seats]; exact windowBaseWrite_seats hs
    | _ => simp [mayChange] at hmay
  · have hsame : t.seats = s.seats := exec_frame h .seats hmay
    rwa [hsame]

/-! ### Resets -/

/-- What a reset leaves in the tracker, in the Seat Tally Unit and in the Notice Unit, and in the inboxes between them. -/
structure State.Fresh (t : State) : Prop where
  tracker : t.tracker = Tracker.reset
  seats : t.seats = Seats.reset
  notices : t.notices = Notices.reset
  toSeats : t.mail.toSeats = []
  toNotices : t.mail.seatsToNotices = []

theorem pinReset_fresh (strap : BitVec 3) (s : State) : (pinReset strap s).Fresh := ⟨rfl, rfl, rfl, rfl, rfl⟩

theorem softReset_fresh (h : softReset s ≠ s) : (softReset s).Fresh := by
  unfold softReset at h ⊢
  split
  · split
    · exact ⟨result_tracker .., result_seats .., result_notices .., by rw [result_mail]; rfl, by rw [result_mail]; rfl⟩
    · simp_all
  · simp_all

theorem State.Fresh.commit {t : State} (h : t.Fresh) (u : State) : (commit u t).Fresh := by
  obtain ⟨htracker, hseats, hnotices, hto, hfrom⟩ := h
  exact ⟨by rwa [commit_tracker], by rwa [commit_seats], by rwa [commit_notices], by rwa [commit_mail], by rwa [commit_mail]⟩

/-- A command leaves the units as after a reset, or is none that resets. -/
theorem exec_fresh_or {i : Instr} {t : State} (h : exec i s = .next t) :
    t.Fresh ∨ t = s ∨ (∀ strap, i ≠ .pinReset strap) ∧ i ≠ .softReset := by
  cases i with
  | pinReset strap =>
    simp only [exec, execPinReset, Host.Outcome.next.injEq] at h
    exact .inl (h ▸ pinReset_fresh strap s)
  | softReset =>
    rw [next_of_goOn h]
    by_cases hsame : softReset s = s
    · exact .inr (.inl (by rw [hsame, commit_self]))
    · exact .inl ((softReset_fresh hsame).commit s)
  | _ => exact .inr (.inr ⟨by simp, by simp⟩)

theorem State.Fresh.seatsOk {t : State} (h : t.Fresh) : SeatsOk t := by
  obtain ⟨htracker, hseats, -, hto, -⟩ := h
  have hreset := seatsOk_reset
  unfold SeatsOk at hreset ⊢
  rw [htracker, hseats, hto]
  exact hreset

theorem State.Fresh.talliesOk {t : State} (h : t.Fresh) : TalliesOk t := by
  obtain ⟨-, hseats, -, -, -⟩ := h
  have hreset := talliesOk_reset
  unfold TalliesOk at hreset ⊢
  rw [hseats]
  exact hreset

/-- Every command keeps the unit together. -/
theorem exec_seatsOk {i : Instr} {t : State} (h : exec i s = .next t) (hs : SeatsOk s) : SeatsOk t := by
  obtain hfresh | rfl | ⟨hpin, hsoft⟩ := exec_fresh_or h
  · exact hfresh.seatsOk
  · exact hs
  · obtain ⟨hseats, hmaps, hfields⟩ := (seatsOk_iff s).1 hs
    obtain ⟨kfields, kmaps, -⟩ := exec_traffic h hpin hsoft
    exact (seatsOk_iff t).2 ⟨exec_seats h hpin hsoft hseats hmaps False.elim, kmaps hfields hmaps, kfields.mapsFit hfields⟩

/-- Every command keeps the tallies true, with timely responses. -/
theorem exec_talliesOk {i : Instr} {t : State} (h : exec i s = .next t) (hs : SeatsOk s) (hc : TalliesOk s) (ht : s.Timely) :
    TalliesOk t := by
  obtain hfresh | rfl | ⟨hpin, hsoft⟩ := exec_fresh_or h
  · exact hfresh.talliesOk
  · exact hc
  · obtain ⟨hseats, hmaps, -⟩ := (seatsOk_iff s).1 hs
    have hok := exec_seats h hpin hsoft (hseats.counts hc) hmaps fun _ => ht
    exact fun j => (hok.slots j).2 trivial

end Sys2Proof.Machine
end

section
/-! What keeps the notice list in order and free of doubles (R59, R60, R66 to R70, R72), and the reader's notice apart from the listed ones. -/

namespace Sys2Proof.Machine

/-! ### The list -/

/-- At most 16 notices in falling priority, no two of one identity, the house alert only while the alert line is asserted (R59, R72). -/
structure Listed (level : Bool) (l : List Notice) : Prop where
  short : l.length ≤ 16
  falling : l.Pairwise fun a b => b.priority ≤ a.priority
  apart : l.Pairwise fun a b => a.ident ≠ b.ident
  house : level = false → ∀ n ∈ l, n.ident ≠ houseId

variable {level : Bool} {l : List Notice} {n : Notice}

theorem Listed.sublist (h : Listed level l) {k : List Notice} (hk : k.Sublist l) : Listed level k where
  short := hk.length_le.trans h.short
  falling := h.falling.sublist hk
  apart := h.apart.sublist hk
  house := fun hlevel n hn => h.house hlevel n (hk.subset hn)

theorem placeNotice_perm (n : Notice) (l : List Notice) : (placeNotice n l).Perm (n :: l) := insertBy_perm _ n l

theorem mem_placeNotice {x : Notice} : x ∈ placeNotice n l ↔ x = n ∨ x ∈ l :=
  (placeNotice_perm n l).mem_iff.trans List.mem_cons

theorem placeNotice_falling (n : Notice) (h : l.Pairwise fun a b => b.priority ≤ a.priority) :
    (placeNotice n l).Pairwise fun a b => b.priority ≤ a.priority := by
  induction l with
  | nil => exact List.pairwise_singleton _ _
  | cons y ys ih =>
    obtain ⟨hy, hys⟩ := List.pairwise_cons.1 h
    unfold placeNotice insertBy
    split
    · rename_i hlt
      rw [decide_eq_true_iff] at hlt
      refine List.pairwise_cons.2 ⟨fun z hz => ?_, h⟩
      obtain rfl | hz := List.mem_cons.1 hz
      · exact hlt.le
      · exact (hy z hz).trans hlt.le
    · rename_i hge
      rw [decide_eq_true_iff] at hge
      refine List.pairwise_cons.2 ⟨fun z hz => ?_, ih hys⟩
      obtain rfl | hz := mem_placeNotice.1 hz
      · exact not_lt.1 hge
      · exact hy z hz

/-- A notice of a new identity is placed where there is room. -/
theorem Listed.place (h : Listed level l) (hroom : l.length < 16) (hnew : ∀ x ∈ l, x.ident ≠ n.ident)
    (hhouse : level = false → n.ident ≠ houseId) : Listed level (placeNotice n l) where
  short := by
    rw [(placeNotice_perm n l).length_eq, List.length_cons]
    omega
  falling := placeNotice_falling n h.falling
  apart := by
    refine ((placeNotice_perm n l).pairwise_iff fun {a b} hab => Ne.symm hab).2 ?_
    exact List.pairwise_cons.2 ⟨fun x hx => (hnew x hx).symm, h.apart⟩
  house := fun hlevel x hx => by
    obtain rfl | hx := mem_placeNotice.1 hx
    · exact hhouse hlevel
    · exact h.house hlevel x hx

/-- Expiries changed. -/
theorem Listed.map (h : Listed level l) {f : Notice → Notice} (hident : ∀ n, (f n).ident = n.ident)
    (hpriority : ∀ n, (f n).priority = n.priority) : Listed level (l.map f) where
  short := by
    rw [List.length_map]
    exact h.short
  falling := List.pairwise_map.2 (by simpa only [hpriority] using h.falling)
  apart := List.pairwise_map.2 (by simpa only [hident] using h.apart)
  house := fun hlevel n hn => by
    obtain ⟨x, hx, rfl⟩ := List.mem_map.1 hn
    rw [hident]
    exact h.house hlevel x hx

/-- The list while the line is asserted asks nothing of the house alert. -/
theorem Listed.assert (h : Listed level l) : Listed true l := { h with house := fun hlevel => by cases hlevel }

theorem Listed.deassert (h : Listed level l) (hhouse : ∀ n ∈ l, n.ident ≠ houseId) : Listed false l :=
  { h with house := fun _ => hhouse }

/-! ### Operations on the list -/

/-- What the list's operations leave as it is. -/
def Notices.unread (q : Notices) : Reader × List Awaited × Option NoticeRec × Bool × Debouncer :=
  (q.reader, q.awaiting, q.record, q.replacing, q.alertLine)

variable {q : Notices}

@[simp] theorem change_unread (l : List Notice) (m : List (BitVec 32)) (q : Notices) : (q.change l m).1.unread = q.unread := rfl

@[simp] theorem change_list (l : List Notice) (m : List (BitVec 32)) (q : Notices) : (q.change l m).1.list = l := rfl

@[simp] theorem remove_unread (p : Notice → Bool) (q : Notices) : (q.remove p).1.unread = q.unread := by
  unfold Notices.remove
  split <;> rfl

theorem remove_list (p : Notice → Bool) (q : Notices) : (q.remove p).1.list = q.list.filter fun n => !p n := by
  unfold Notices.remove
  split
  · rfl
  · rename_i hnone
    refine (List.filter_eq_self.2 fun n hn => ?_).symm
    simp only [List.any_eq_true, not_exists, not_and] at hnone
    simpa using hnone n hn

@[simp] theorem evictFor_unread (n : Notice) (q : Notices) : (q.evictFor n).1.unread = q.unread := rfl

@[simp] theorem evictFor_list (n : Notice) (q : Notices) : (q.evictFor n).1.list = placeNotice n q.list.dropLast := rfl

@[simp] theorem enter_unread (n : Notice) (q : Notices) : (q.enter n).1.unread = q.unread := by
  unfold Notices.enter
  repeat' split
  all_goals rfl

@[simp] theorem enterHouse_unread (q : Notices) : q.enterHouse.1.unread = q.unread := by
  unfold Notices.enterHouse
  split <;> rfl

@[simp] theorem substitute_unread (o n : Notice) (q : Notices) : (q.substitute o n).1.unread = q.unread := by
  unfold Notices.substitute
  dsimp only
  split <;> rfl

@[simp] theorem takeIn_unread (n : Notice) (q : Notices) : (q.takeIn n).1.unread = q.unread := by
  unfold Notices.takeIn
  repeat' split
  all_goals simp

/-- A notice that takes the place of the last on a full list. -/
theorem Listed.evict (h : Listed level l) (hfull : 16 ≤ l.length) (hnew : ∀ x ∈ l, x.ident ≠ n.ident)
    (hhouse : level = false → n.ident ≠ houseId) : Listed level (placeNotice n l.dropLast) := by
  have hshort := h.short
  refine (h.sublist (List.dropLast_sublist l)).place ?_ (fun x hx => hnew x (List.mem_of_mem_dropLast hx)) hhouse
  rw [List.length_dropLast]
  omega

theorem enter_listed (h : Listed level q.list) (hnew : ∀ x ∈ q.list, x.ident ≠ n.ident) (hhouse : level = false → n.ident ≠ houseId) :
    Listed level (q.enter n).1.list := by
  unfold Notices.enter
  split
  · exact h
  · split
    · rename_i hroom
      exact h.place hroom hnew hhouse
    · rename_i hfull
      split
      · exact h.evict (not_lt.1 hfull) hnew hhouse
      · exact h

theorem mem_enter {x : Notice} (h : x ∈ (q.enter n).1.list) : x = n ∨ x ∈ q.list := by
  unfold Notices.enter at h
  split at h
  · exact .inr h
  · split at h
    · exact mem_placeNotice.1 h
    · split at h
      · exact (mem_placeNotice.1 h).imp_right List.mem_of_mem_dropLast
      · exact .inr h

theorem enterHouse_listed (h : Listed level q.list) (hnew : ∀ x ∈ q.list, x.ident ≠ houseId) : Listed true q.enterHouse.1.list := by
  unfold Notices.enterHouse
  split
  · rename_i hroom
    exact h.assert.place hroom hnew fun hlevel => by cases hlevel
  · rename_i hfull
    exact h.assert.evict (not_lt.1 hfull) hnew fun hlevel => by cases hlevel

theorem mem_enterHouse {x : Notice} (h : x ∈ q.enterHouse.1.list) : x = houseAlert ∨ x ∈ q.list := by
  unfold Notices.enterHouse at h
  split at h
  · exact mem_placeNotice.1 h
  · exact (mem_placeNotice.1 h).imp_right List.mem_of_mem_dropLast

theorem find_mem {x : NoticeId} {o : Notice} (h : q.find x = some o) : o ∈ q.list ∧ o.ident = x :=
  ⟨List.mem_of_find?_eq_some h, by simpa using List.find?_some h⟩

theorem substitute_listed (h : Listed level q.list) {o : Notice} (ho : o ∈ q.list) (hident : o.ident = n.ident)
    (hhouse : level = false → n.ident ≠ houseId) : Listed level (q.substitute o n).1.list := by
  have hrest := h.sublist (k := q.list.filter fun x => decide (x.ident ≠ n.ident)) List.filter_sublist
  have hlt : (q.list.filter fun x => decide (x.ident ≠ n.ident)).length < q.list.length :=
    List.length_filter_lt_length_iff_exists.2 ⟨o, ho, by simp [hident]⟩
  have hshort := h.short
  unfold Notices.substitute
  dsimp only
  split
  · exact hrest
  · exact hrest.place (by omega) (fun x hx => by simpa using (List.mem_filter.1 hx).2) hhouse

theorem takeIn_listed_of (h : Listed level q.list) (hnew : q.replacing = false → ∀ x ∈ q.list, x.ident ≠ n.ident)
    (hhouse : n.ident ≠ houseId) : Listed level (q.takeIn n).1.list := by
  unfold Notices.takeIn
  split
  · split
    · rename_i o hfind
      obtain ⟨ho, hident⟩ := find_mem hfind
      exact substitute_listed h ho hident fun _ => hhouse
    · rename_i hfind
      refine enter_listed h ((find_isNone_iff q n.ident).1 (by rw [hfind]; rfl)) fun _ => hhouse
  · rename_i hrep
    exact enter_listed h (hnew (by simpa using hrep)) fun _ => hhouse

theorem fail_listed_of (h : Listed level q.list) (x : NoticeId) (a : Answer) : Listed level (q.fail x a).1.list := by
  unfold Notices.fail andThen
  dsimp only
  split
  · rw [remove_list]
    exact h.sublist List.filter_sublist
  · exact h

/-! ### The unit -/

/-- The list in order, answers awaited in EFFECT alone, and the notice in processing from a desk, and not listed unless it replaces one while answers are awaited (R57 to R59, R62, R66). -/
structure Notices.Ok (q : Notices) : Prop where
  listed : Listed q.alertLine.level q.list
  awaits : q.awaiting ≠ [] → q.reader = .effect
  desk : ∀ r, q.record = some r → r.kind ≠ .withdraw → r.ident.desk ≠ 0
  unlisted : ∀ r, q.record = some r → r.kind ≠ .withdraw → q.awaiting ≠ [] → q.replacing = false → ∀ n ∈ q.list, n.ident ≠ r.ident

theorem noticesOk_iff (s : State) : NoticesOk s ↔ s.notices.Ok ∧ s.mail.idsOk ∧ s.tracker.IdsOk := by
  constructor
  · rintro ⟨hshort, hfalling, hapart, hhouse, hawaits, hrecord, hnotes, hids⟩
    exact ⟨⟨⟨hshort, hfalling, hapart, hhouse⟩, hawaits, fun r hr hk => (hrecord r hr hk).1, fun r hr hk => (hrecord r hr hk).2⟩,
      hnotes, hids⟩
  · rintro ⟨⟨⟨hshort, hfalling, hapart, hhouse⟩, hawaits, hdesk, hunlisted⟩, hnotes, hids⟩
    exact ⟨hshort, hfalling, hapart, hhouse, hawaits, fun r hr hk => ⟨hdesk r hr hk, hunlisted r hr hk⟩, hnotes, hids⟩

/-- Only the list changes, and what enters it comes from no desk. -/
theorem Notices.Ok.of_list (h : q.Ok) {p : Notices} (hunread : p.unread = q.unread) (hlist : Listed q.alertLine.level p.list)
    (hnew : ∀ n ∈ p.list, n.ident.desk = 0 ∨ ∃ x ∈ q.list, x.ident = n.ident) : p.Ok := by
  simp only [Notices.unread, Prod.mk.injEq] at hunread
  obtain ⟨hreader, hawaiting, hrecord, hreplacing, hline⟩ := hunread
  refine ⟨hline ▸ hlist, by rw [hawaiting, hreader]; exact h.awaits, by rw [hrecord]; exact h.desk, ?_⟩
  rw [hrecord, hawaiting, hreplacing]
  intro r hr hk hwaits hrep n hn
  obtain hdesk | ⟨x, hx, hident⟩ := hnew n hn
  · intro heq
    exact h.desk r hr hk (heq ▸ hdesk)
  · rw [← hident]
    exact h.unlisted r hr hk hwaits hrep x hx

theorem Notices.Ok.remove (h : q.Ok) (p : Notice → Bool) : (q.remove p).1.Ok := by
  refine h.of_list (remove_unread p q) ?_ fun n hn => ?_
  · rw [remove_list]
    exact h.listed.sublist List.filter_sublist
  · rw [remove_list] at hn
    exact .inr ⟨n, List.mem_of_mem_filter hn, rfl⟩

theorem Notices.Ok.minuteNote (h : q.Ok) (m : Nat) : (q.minuteNote m).1.Ok :=
  Notices.Ok.remove (q := { q with lastMinute := m }) ⟨h.listed, h.awaits, h.desk, h.unlisted⟩ _

theorem Notices.Ok.showNote (h : q.Ok) (eff : Nat) (note : ShowNote) : (q.showNote eff note).1.Ok := by
  unfold Notices.showNote
  refine Notices.Ok.remove ?_ _
  refine h.of_list rfl (h.listed.map (fun n => ?_) fun n => ?_) fun n hn => ?_
  · split <;> rfl
  · split <;> rfl
  · obtain ⟨x, hx, rfl⟩ := List.mem_map.1 hn
    refine .inr ⟨x, hx, ?_⟩
    split <;> rfl

/-- An automatic notice enters: it comes from no desk, and is not the house alert (R70, R72). -/
theorem Notices.Ok.seatsNote (h : q.Ok) (p : Params) (e : ShowEntry) {note : SeatsNote} (hid : note.id ≠ 65535) :
    (q.seatsNote p e note).1.Ok := by
  unfold Notices.seatsNote
  split
  · split
    · rename_i hauto
      obtain ⟨-, -, hnone, -⟩ := hauto
      refine h.of_list (enter_unread _ q) (enter_listed h.listed ((find_isNone_iff q _).1 hnone) fun _ heq => hid ?_) fun n hn => ?_
      · exact congrArg NoticeId.id heq
      · obtain rfl | hn := mem_enter hn
        · exact .inl rfl
        · exact .inr ⟨n, hn, rfl⟩
    · exact h
  · split
    · exact h.remove _
    · exact h

theorem Notices.Ok.alertOn (h : q.Ok) (hlevel : q.alertLine.level = false) : q.alertOn.1.Ok := by
  have hflip : ({ q with alertLine := q.alertLine.flip } : Notices).Ok :=
    ⟨by simpa [Debouncer.flip, hlevel] using h.listed.assert, h.awaits, h.desk, h.unlisted⟩
  refine hflip.of_list (enterHouse_unread _) ?_ fun n hn => ?_
  · have hup : q.alertLine.flip.level = true := by simp [Debouncer.flip, hlevel]
    show Listed q.alertLine.flip.level _
    rw [hup]
    exact enterHouse_listed (q := { q with alertLine := q.alertLine.flip }) h.listed (h.listed.house hlevel)
  · obtain rfl | hn := mem_enterHouse hn
    · exact .inl rfl
    · exact .inr ⟨n, hn, rfl⟩

theorem Notices.Ok.alertOff (h : q.Ok) (hlevel : q.alertLine.level = true) : q.alertOff.1.Ok := by
  have hlist : q.alertOff.1.list = q.list.filter fun n => !decide (n.ident = houseId) := remove_list _ _
  have hunread : q.alertOff.1.unread = ({ q with alertLine := q.alertLine.flip } : Notices).unread := remove_unread _ _
  simp only [Notices.unread, Prod.mk.injEq] at hunread
  obtain ⟨hreader, hawaiting, hrecord, hreplacing, hline⟩ := hunread
  refine ⟨?_, by rw [hawaiting, hreader]; exact h.awaits, by rw [hrecord]; exact h.desk, ?_⟩
  · have hdown : q.alertLine.flip.level = false := by simp [Debouncer.flip, hlevel]
    rw [hline, hdown, hlist]
    exact (h.listed.sublist List.filter_sublist).deassert fun n hn => by simpa using (List.mem_filter.1 hn).2
  · rw [hrecord, hawaiting, hreplacing, hlist]
    exact fun r hr hk hwaits hrep n hn => h.unlisted r hr hk hwaits hrep n (List.mem_of_mem_filter hn)

theorem Notices.Ok.hushChange (h : q.Ok) : q.hushChange.1.Ok := ⟨h.listed, h.awaits, h.desk, h.unlisted⟩

/-- Rotations are no part of what is kept. -/
theorem Notices.Ok.rotated (h : q.Ok) (x : Table 128 Rotation) : ({ q with rotations := x } : Notices).Ok :=
  ⟨h.listed, h.awaits, h.desk, h.unlisted⟩

theorem Notices.Ok.dwellExpiry (h : q.Ok) (i : Fin 128) : (q.dwellExpiry i).1.Ok := by
  unfold Notices.dwellExpiry
  dsimp only
  split
  · split
    · exact h.rotated _
    · exact h
  · exact h

theorem Notices.Ok.paneReport (h : q.Ok) (r : BannerReport) : (q.paneReport r).1.Ok := h.rotated _

theorem sample_level (k : Nat) (raw : Bool) (d : Debouncer) : (d.sample k raw).level = d.level := by
  unfold Debouncer.sample
  split <;> rfl

theorem Notices.Ok.tick (h : q.Ok) (k : Nat) (a b : Bool) : (q.tick k a b).Ok :=
  ⟨by
    show Listed (q.alertLine.sample k a).level q.list
    rw [sample_level]
    exact h.listed, h.awaits, h.desk, h.unlisted⟩

end Sys2Proof.Machine
end

section
/-! The ring reader keeps the notice list in order (R52 to R66): records read, texts read, answers awaited, notices entered. -/

namespace Sys2Proof.Machine

variable {q : Notices} {w : Windows} {r : NoticeRec}

/-! ### The reader between notices -/

theorem toIdle_ok (h : Listed q.alertLine.level q.list) : q.toIdle.Ok where
  listed := h
  awaits := fun hne => absurd rfl hne
  desk := fun r hr => by cases hr
  unlisted := fun r hr => by cases hr

theorem Notices.Ok.begin (h : q.Ok) (w : Windows) : (q.begin w).1.Ok := by
  unfold Notices.begin
  split
  · rename_i hidle
    refine ⟨h.listed, fun hne => ?_, h.desk, h.unlisted⟩
    have hbusy := h.awaits hne
    rw [hidle.1] at hbusy
    cases hbusy
  · exact h

@[simp] theorem writeback_unread (w : Windows) (q : Notices) : (q.writeback w).1.unread = q.unread := by
  unfold Notices.writeback
  split <;> rfl

@[simp] theorem writeback_list (w : Windows) (q : Notices) : (q.writeback w).1.list = q.list := by
  unfold Notices.writeback
  split <;> rfl

theorem line_of_unread {p q : Notices} (h : p.unread = q.unread) : p.alertLine = q.alertLine := by
  simp only [Notices.unread, Prod.mk.injEq] at h
  obtain ⟨-, -, -, -, hline⟩ := h
  exact hline

theorem Notices.Ok.writeback (h : q.Ok) (w : Windows) : (q.writeback w).1.Ok :=
  h.of_list (writeback_unread w q) (writeback_list w q ▸ h.listed) fun n hn => .inr ⟨n, writeback_list w q ▸ hn, rfl⟩

/-- Processing ends in a reader with no notice. -/
theorem finish_ok (h : Listed q.alertLine.level q.list) (w : Windows) : (q.finish w).1.Ok := by
  refine Notices.Ok.begin (toIdle_ok ?_) w
  rwa [line_of_unread (writeback_unread w q), writeback_list]

theorem Notices.Ok.overrun (h : q.Ok) (w : Windows) (v : BitVec 16) : (q.overrun w v).Ok :=
  ⟨h.listed, fun hne => by
    show q.reader.abandoned = .effect
    rw [h.awaits hne]
    rfl, h.desk, h.unlisted⟩

theorem Notices.Ok.produce (h : q.Ok) (w : Windows) (v : BitVec 16) : (q.produce w v).1.Ok := by
  rcases Nat.lt_or_ge 64 (v - q.consumed).toNat with hmany | hfew
  · rw [produce_of_many hmany]
    exact (h.overrun w v).begin w
  · rw [produce_of_few hfew]
    exact Notices.Ok.begin (q := { q with produced := v }) ⟨h.listed, h.awaits, h.desk, h.unlisted⟩ w

theorem Notices.Ok.discardOne (h : q.Ok) (w : Windows) : (q.discardOne w).1.Ok := by
  unfold Notices.discardOne
  split
  · exact (toIdle_ok h.listed).begin w
  · exact ⟨h.listed, h.awaits, h.desk, h.unlisted⟩

/-! ### A notice in processing -/

/-- The list in order, and a record that is no WITHDRAW from a desk, and not listed unless it replaces (R57 to R59, R66). -/
structure Notices.Apart (r : NoticeRec) (q : Notices) : Prop where
  listed : Listed q.alertLine.level q.list
  desk : r.kind ≠ .withdraw → r.ident.desk ≠ 0
  unlisted : r.kind ≠ .withdraw → q.replacing = false → ∀ n ∈ q.list, n.ident ≠ r.ident

theorem concluded_unread (r : NoticeRec) (a : Option Answer) (q : Notices) : (q.concluded r a).1.unread = q.unread := by
  unfold Notices.concluded Notices.fail andThen
  dsimp only
  repeat' split
  all_goals simp

theorem concluded_listed (h : q.Apart r) (a : Option Answer) : Listed q.alertLine.level (q.concluded r a).1.list := by
  unfold Notices.concluded
  split
  · exact h.listed
  · rename_i hkind
    have hhouse : r.ident ≠ houseId := fun heq => h.desk hkind (by rw [heq]; rfl)
    have hin (text : List Byte) (k : Nat) : Listed q.alertLine.level (q.takeIn (r.notice text k)).1.list :=
      takeIn_listed_of h.listed (h.unlisted hkind) hhouse
    dsimp only
    split
    · exact hin _ _
    · exact hin _ _
    · exact fail_listed_of h.listed _ _

theorem conclude_ok (h : q.Apart r) (w : Windows) (a : Option Answer) : (q.conclude w r a).1.Ok := by
  rw [conclude_eq]
  refine finish_ok ?_ w
  rw [line_of_unread (concluded_unread r a q)]
  exact concluded_listed h a

theorem await_ok (h : q.Apart r) (hrecord : q.record = some r) (w : Windows) (outs : List Out) (x : List Awaited) :
    (q.await w r outs x).1.Ok := by
  unfold Notices.await andThen
  dsimp only
  split
  · exact conclude_ok h w none
  · refine ⟨h.listed, fun _ => rfl, fun r' hr => ?_, fun r' hr hk _ => ?_⟩
    · obtain rfl : r = r' := Option.some.inj (hrecord.symm.trans hr)
      exact h.desk
    · obtain rfl : r = r' := Option.some.inj (hrecord.symm.trans hr)
      exact h.unlisted hk

theorem withdraw_ok (h : Listed q.alertLine.level q.list) (hkind : r.kind = .withdraw) (hrecord : q.record = some r) (w : Windows)
    (m : Nat) : (q.withdraw w m r).1.Ok := by
  unfold Notices.withdraw
  split
  · exact finish_ok h w
  · split
    · exact finish_ok h w
    · have hunread := remove_unread (fun x => decide (x.ident = r.ident)) q
      refine await_ok ⟨?_, fun hno => absurd hkind hno, fun hno => absurd hkind hno⟩ ?_ w _ _
      · rw [line_of_unread hunread, remove_list]
        exact h.sublist List.filter_sublist
      · rw [← hrecord]
        exact congrArg (fun x => x.2.2.1) hunread

theorem process_ok (h : Listed q.alertLine.level q.list) (hdesk : r.kind ≠ .withdraw → r.ident.desk ≠ 0) (w : Windows) (m : Nat) :
    (q.process w m r).1.Ok := by
  by_cases hkind : r.kind = .withdraw
  · rw [process_withdraw hkind]
    exact withdraw_ok (q := { q with record := some r }) h hkind rfl w m
  · cases hfind : q.find r.ident with
    | none =>
      have hnew := (find_isNone_iff q r.ident).1 (by rw [hfind]; rfl)
      rw [process_unlisted hkind hnew]
      exact await_ok (q := { q with record := some r, replacing := false }) ⟨h, hdesk, fun _ _ => hnew⟩ rfl w _ _
    | some n =>
      have hproc : q.process w m r = if keyMatches m n r.key then
          ({ q with record := some r, replacing := true } : Notices).await w r (n.undelayOuts ++ r.effectOuts)
            (n.undelayAwaited ++ r.effectAwaited)
          else andThen ({ q with record := some r }, [.event .keyMismatch]) (Notices.finish w) := by
        have hfind' : ({ q with record := some r } : Notices).find r.ident = some n := hfind
        unfold Notices.process
        cases hk : r.kind with
        | withdraw => exact absurd hk hkind
        | _ => simp only [hfind']
      rw [hproc]
      split
      · exact await_ok (q := { q with record := some r, replacing := true }) ⟨h, hdesk, fun _ hrep => by cases hrep⟩ rfl w _ _
      · exact finish_ok (q := { q with record := some r }) h w

/-! ### Responses and answers -/

theorem desk_of_noticeRecord {bs : List Byte} (h : noticeRecord bs = some r) (hkind : r.kind ≠ .withdraw) : r.ident.desk ≠ 0 := by
  unfold noticeRecord at h
  split at h
  · cases h
  · dsimp only at h
    split at h
    · rename_i hpass
      cases h
      intro hdesk
      dsimp only at hkind hdesk
      simp [noticePasses, hkind, hdesk] at hpass
    · cases h

theorem Notices.Ok.recordDone (h : q.Ok) (hreader : q.reader = .record) (w : Windows) (m : Nat) (bs : List Byte) (err : Bool) :
    (q.recordDone w m bs err).1.Ok := by
  have hnone : q.awaiting = [] := by
    by_contra hne
    have hbusy := h.awaits hne
    rw [hreader] at hbusy
    cases hbusy
  unfold Notices.recordDone
  split
  · exact finish_ok h.listed w
  · split
    · exact finish_ok h.listed w
    · rename_i r hrec
      split
      · refine ⟨h.listed, fun hne => absurd hnone hne, fun r' hr hk => ?_, fun r' _ _ hne => absurd hnone hne⟩
        obtain rfl : r = r' := Option.some.inj hr
        exact desk_of_noticeRecord hrec hk
      · exact process_ok (q := { q with outstanding := 0, textBytes := [] }) h.listed (desk_of_noticeRecord hrec) w m

theorem Notices.Ok.textDone (h : q.Ok) (w : Windows) (m : Nat) (bs : List Byte) (err : Bool) : (q.textDone w m bs err).1.Ok := by
  unfold Notices.textDone
  dsimp only
  split
  · split
    · exact finish_ok (by exact h.listed) w
    · split
      · rename_i r hrec
        exact process_ok (by exact h.listed) (h.desk r hrec) w m
      · exact finish_ok (by exact h.listed) w
  · exact ⟨h.listed, h.awaits, h.desk, h.unlisted⟩

theorem Notices.Ok.answer (h : q.Ok) (w : Windows) (a : Answer) : (q.answer w a).1.Ok := by
  unfold Notices.answer
  split
  · rename_i r x rest hrec hwait
    have hne : q.awaiting ≠ [] := by simp [hwait]
    have hapart : ({ q with awaiting := rest } : Notices).Apart r :=
      ⟨h.listed, h.desk r hrec, fun hk => h.unlisted r hrec hk hne⟩
    dsimp only
    split
    · exact ⟨h.listed, fun _ => h.awaits hne, h.desk, fun r hr hk _ => h.unlisted r hr hk hne⟩
    · split
      · exact conclude_ok hapart w none
      · exact conclude_ok hapart w (some a)
  · exact h

end Sys2Proof.Machine
end

section
/-! The notice list, the Seat Tally Unit and its tallies under every step (R27, R30, R34, R36, R37, R42, R59). -/

namespace Sys2Proof.Machine

variable {s : State}

/-! ### The Notice Unit's commands -/

theorem noticesDo_ok {u : State} {p : Notices × List Out} (h : p.1.Ok) : (u.noticesDo p).notices.Ok := by
  rw [noticesDo_eq, emit_notices, State.withNotices_notices]
  exact h

theorem producerValueTaken_ok (h : s.notices.Ok) : (producerValueTaken s).notices.Ok := by
  unfold producerValueTaken
  split
  · exact noticesDo_ok (h.produce _ _)
  · exact h

theorem noticeRecordDone_ok (h : s.notices.Ok) : (noticeRecordDone s).notices.Ok := by
  unfold noticeRecordDone
  split
  · split
    · rename_i hreader
      exact noticesDo_ok (h.recordDone hreader _ _ _ _)
    · exact noticesDo_ok (h.discardOne _)
    · exact h
  · exact h

theorem noticeTextDone_ok (h : s.notices.Ok) : (noticeTextDone s).notices.Ok := by
  unfold noticeTextDone
  split
  · split
    · exact noticesDo_ok (h.textDone _ _ _ _)
    · exact noticesDo_ok (h.discardOne _)
    · exact h
  · exact h

theorem effectAnswer_ok (h : s.notices.Ok) : (effectAnswer s).notices.Ok := by
  unfold effectAnswer
  split
  · exact noticesDo_ok (h.answer _ _)
  · exact h

theorem consumerWritebackDone_ok (h : s.notices.Ok) : (consumerWritebackDone s).notices.Ok := by
  unfold consumerWritebackDone
  split
  · split
    · exact ⟨h.listed, h.awaits, h.desk, h.unlisted⟩
    · exact h
  · exact h

theorem writebackRetryBoundary_ok (h : s.notices.Ok) : (writebackRetryBoundary s).notices.Ok := by
  unfold writebackRetryBoundary
  split
  · dsimp only
    split
    · exact noticesDo_ok (h.writeback _)
    · exact h
  · exact h

theorem minuteNoteNotice_ok (h : s.notices.Ok) : (minuteNoteNotice s).notices.Ok := by
  unfold minuteNoteNotice
  split
  · exact noticesDo_ok (h.minuteNote _)
  · exact h

theorem noticeShowChangedNote_ok (h : s.notices.Ok) : (noticeShowChangedNote s).notices.Ok := by
  unfold noticeShowChangedNote
  split
  · exact noticesDo_ok (h.showNote _ _)
  · exact h

theorem noticeSeatsChangedNote_ok (h : s.notices.Ok) (hm : s.mail.idsOk) : (noticeSeatsChangedNote s).notices.Ok := by
  unfold noticeSeatsChangedNote
  split
  · rename_i n rest hnotes
    exact noticesDo_ok (h.seatsNote _ _ (hm n (by rw [hnotes]; exact List.mem_cons_self)))
  · exact h

theorem autoSoldOutWrite_ok (h : s.notices.Ok) : (autoSoldOutWrite s).notices.Ok := by
  unfold autoSoldOutWrite
  split
  · split
    · rename_i e _ _ _
      have hsame : (s.takeEntry.storeSimple .autoSoldOut (s.masked e)).notices = s.notices := by simp
      dsimp only
      rw [paramResult_eq, result_notices]
      split
      · exact noticesDo_ok (Notices.Ok.remove (by rwa [hsame]) _)
      · rwa [hsame]
    · exact h
  · exact h

theorem dayOpenNotices_notices (t : State) : t.dayOpenNotices.notices = t.notices :=
  dayOpenNotices_frame t .notices (by simp)

theorem noticeDayOpen_ok (h : s.notices.Ok) : (noticeDayOpen s).notices.Ok := by
  unfold noticeDayOpen
  split
  · rw [dayOpenNotices_notices]
    exact noticesDo_ok (h.remove _)
  · exact h

theorem alertLineAsserted_ok (h : s.notices.Ok) : (alertLineAsserted s).notices.Ok := by
  unfold alertLineAsserted
  split
  · rename_i hdue
    simp only [Bool.and_eq_true, Bool.not_eq_true'] at hdue
    exact noticesDo_ok (h.alertOn hdue.2)
  · exact h

theorem alertLineDeasserted_ok (h : s.notices.Ok) : (alertLineDeasserted s).notices.Ok := by
  unfold alertLineDeasserted
  split
  · rename_i hdue
    rw [Bool.and_eq_true] at hdue
    exact noticesDo_ok (h.alertOff hdue.2)
  · exact h

theorem hushLineChange_ok (h : s.notices.Ok) : (hushLineChange s).notices.Ok := by
  unfold hushLineChange
  split
  · exact noticesDo_ok h.hushChange
  · exact h

theorem bannerDwellExpiry_ok (sc : Fin 32) (p : Fin 4) (h : s.notices.Ok) : (bannerDwellExpiry sc p s).notices.Ok :=
  noticesDo_ok (h.dwellExpiry _)

theorem bannerPaneReport_ok (h : s.notices.Ok) : (bannerPaneReport s).notices.Ok := by
  unfold bannerPaneReport
  split
  · exact noticesDo_ok (h.paneReport _)
  · exact h

theorem secondAdvance_notices (s : State) : (secondAdvance s).notices = s.notices := secondAdvance_frame s .notices (by simp)

theorem millisecondTick_ok (a b : Bool) (h : s.notices.Ok) : (millisecondTick a b s).notices.Ok := by
  have hsecond : (secondAdvance s).notices.Ok := by rwa [secondAdvance_notices]
  exact (hushLineChange_ok (alertLineDeasserted_ok (alertLineAsserted_ok hsecond))).tick _ a b

theorem windowMoved_ok (h : s.notices.Ok) (p : WindowParam) : (s.windowMoved p).notices.Ok := by
  unfold State.windowMoved
  cases p with
  | noticeBase => exact noticesDo_ok (h.begin _)
  | seatBase =>
    rw [seatsDo_eq, emit_notices, State.withSeats_notices]
    exact h
  | seatSize =>
    rw [seatsDo_eq, emit_notices, State.withSeats_notices]
    exact h
  | showBase => exact h
  | statusBase => exact h

theorem windowBaseWrite_ok (h : s.notices.Ok) : (windowBaseWrite s).notices.Ok := by
  unfold windowBaseWrite
  split
  · split
    · dsimp only
      split
      · rw [paramResult_eq, result_notices]
        exact windowMoved_ok (by exact h) _
      · rw [result_notices, emit_notices]
        exact h
    · exact h
  · exact h

/-- Every command but a reset keeps the notice list in order. -/
theorem exec_notices {i : Instr} {t : State} (h : exec i s = .next t) (hpin : ∀ strap, i ≠ .pinReset strap) (hsoft : i ≠ .softReset)
    (hs : s.notices.Ok) (hm : s.mail.idsOk) : t.notices.Ok := by
  by_cases hmay : Block.notices ∈ mayChange i
  · cases i with
    | pinReset strap => exact absurd rfl (hpin strap)
    | softReset => exact absurd rfl hsoft
    | millisecondTick a b => rw [next_of_goOn h, commit_notices]; exact millisecondTick_ok a b hs
    | producerValueTaken => rw [next_of_goOn h, commit_notices]; exact producerValueTaken_ok hs
    | noticeRecordDone => rw [next_of_goOn h, commit_notices]; exact noticeRecordDone_ok hs
    | noticeTextDone => rw [next_of_goOn h, commit_notices]; exact noticeTextDone_ok hs
    | effectAnswer => rw [next_of_goOn h, commit_notices]; exact effectAnswer_ok hs
    | consumerWritebackDone => rw [next_of_goOn h, commit_notices]; exact consumerWritebackDone_ok hs
    | writebackRetryBoundary => rw [next_of_goOn h, commit_notices]; exact writebackRetryBoundary_ok hs
    | minuteNoteNotice => rw [next_of_goOn h, commit_notices]; exact minuteNoteNotice_ok hs
    | noticeShowChangedNote => rw [next_of_goOn h, commit_notices]; exact noticeShowChangedNote_ok hs
    | noticeSeatsChangedNote => rw [next_of_goOn h, commit_notices]; exact noticeSeatsChangedNote_ok hs hm
    | autoSoldOutWrite => rw [next_of_goOn h, commit_notices]; exact autoSoldOutWrite_ok hs
    | noticeDayOpen => rw [next_of_goOn h, commit_notices]; exact noticeDayOpen_ok hs
    | alertLineAsserted => rw [next_of_goOn h, commit_notices]; exact alertLineAsserted_ok hs
    | alertLineDeasserted => rw [next_of_goOn h, commit_notices]; exact alertLineDeasserted_ok hs
    | hushLineChange => rw [next_of_goOn h, commit_notices]; exact hushLineChange_ok hs
    | bannerDwellExpiry sc p => rw [next_of_goOn h, commit_notices]; exact bannerDwellExpiry_ok sc p hs
    | bannerPaneReport => rw [next_of_goOn h, commit_notices]; exact bannerPaneReport_ok hs
    | windowBaseWrite => rw [next_of_goOn h, commit_notices]; exact windowBaseWrite_ok hs
    | _ => simp [mayChange] at hmay
  · have hsame : t.notices = s.notices := exec_frame h .notices hmay
    rwa [hsame]

theorem State.Fresh.noticesOk {t : State} (h : t.Fresh) : NoticesOk t := by
  obtain ⟨htracker, -, hnotices, -, hfrom⟩ := h
  have hreset := noticesOk_reset
  unfold NoticesOk at hreset ⊢
  rw [htracker, hnotices, hfrom]
  exact hreset

/-- Every command keeps the notice list in order. -/
theorem exec_noticesOk {i : Instr} {t : State} (h : exec i s = .next t) (hs : NoticesOk s) : NoticesOk t := by
  obtain hfresh | rfl | ⟨hpin, hsoft⟩ := exec_fresh_or h
  · exact hfresh.noticesOk
  · exact hs
  · obtain ⟨hnotices, hnotes, hids⟩ := (noticesOk_iff s).1 hs
    obtain ⟨kfields, -, kids⟩ := exec_traffic h hpin hsoft
    exact (noticesOk_iff t).2 ⟨exec_notices h hpin hsoft hnotices hnotes, kids hids hnotes, kfields.idsOk hids⟩

/-! ### Every step -/

/-- Settles O9: a request carries the map of a checked show and a note the id of one, so that the units keep what they are kept by. -/
theorem everyStepKeepsTheNoticeList : Obligations.EveryStepKeepsTheNoticeList := by
  unfold Obligations.EveryStepKeepsTheNoticeList
  intro s t h
  refine ⟨step_keeps (P := NoticesOk) (fun _ _ hp => hp) (fun _ _ _ hc => exec_noticesOk hc) h,
    step_keeps (P := SeatsOk) (fun _ _ hp => hp) (fun _ _ _ hc => exec_seatsOk hc) h, fun hs hc ht => ?_⟩
  obtain rfl | ⟨c, rest, -, hexec⟩ := step_cases h
  · exact hc
  · exact exec_talliesOk hexec hs hc ht

end Sys2Proof.Machine
end
